-- ==== Sys2Proof/Word.lean ====
section
/-!
DEFINITION. The words the module works on.
-/
namespace Sys2Proof

/-- A 32-bit register word. -/
abbrev Word := BitVec 32
/-- A byte of memory. -/
abbrev Byte := BitVec 8
/-- A 64-bit value: a time stamp, a UID, a counter. -/
abbrev Word64 := BitVec 64

end Sys2Proof
end

