-- ==== Sys2Proof/Syntax.lean ====
section
/-!
DEFINITION. The commands of the block: one constructor per row of spec/opcode_table.json, with the row's operands.
-/
namespace Sys2Proof

/-- The time of an edge at a capture pin (R40). -/
structure PinTime where
  /-- When it came, in ns of a counter that runs on (R31). -/
  ns : BitVec 64
  /-- How long the pin keeps its new level, in ns, at least what is seen before FILT accepts the edge. -/
  width : BitVec 32
deriving DecidableEq, Repr

/-- An edge at a capture pin (R40). -/
structure PinEdge where
  /-- It falls. -/
  falling : Bool
  /-- Its time. -/
  t : PinTime
deriving DecidableEq, Repr

/-- The 64-bit register pairs read by R16 whose low read has no row of its own. -/
inductive Pair where
  /-- TB_NOW (R19). -/
  | now
  /-- TB_FRAME (R24). -/
  | frame
  /-- TB_CMPn (R48). -/
  | cmp (n : Fin 8)
  /-- TB_CMP(2m)_COUNT with TB_CMP(2m+1)_COUNT while LINK is 1 (R55). -/
  | cmpCount (m : Fin 4)
  /-- AL_SCH_BLOCK (R214). -/
  | block
  /-- CHn_CYC (R282). -/
  | cyc (c : Fin 20)
  /-- FSW_ROOT_UID (R395). -/
  | rootUid
  /-- FPn_NB_UID (R397). -/
  | nbUid (p : Fin 4)
  /-- MEM_ERR_ADDR (R504). -/
  | memErr
  /-- PWR_ALARM (R522). -/
  | alarm
deriving DecidableEq, Repr

/-- A frame of the fabric (R368): header fields and payload. -/
structure Frame where
  /-- Traffic class. -/
  tc : BitVec 2
  /-- KIND. -/
  kind : BitVec 4
  /-- Source-routed. -/
  srcrt : Bool
  /-- Broadcast. -/
  bcast : Bool
  /-- Bits 7:0 of the sender's boot generation. -/
  sgen : BitVec 8
  /-- Destination address. -/
  dst : BitVec 12
  /-- Sender's address. -/
  src : BitVec 12
  /-- The sender has no address. -/
  noaddr : Bool
  /-- Hops taken, also the route position. -/
  hop : BitVec 12
  /-- Payload; LEN is its length. -/
  payload : List (BitVec 8)
deriving DecidableEq, Repr

/-- What a self-test of one target found (R526, R528). -/
structure TestRes where
  /-- Every pattern was in order, as the fixed signature shows. -/
  good : Bool
  /-- A request cut the test short. -/
  cut : Bool
  /-- The signature. -/
  sig : BitVec 32
  /-- Patterns applied, where it was cut short. -/
  count : BitVec 32
deriving DecidableEq, Repr

/-- An instruction of the debug port (R36, R547). -/
inductive DebugInstr where
  /-- IDCODE. -/
  | idcode
  /-- BYPASS. -/
  | bypass
  /-- A global debug halt. -/
  | halt
  /-- The release of a global debug halt. -/
  | release
  /-- Any other instruction. -/
  | other
deriving DecidableEq, Repr


/-- How a request for a power state or a reset reaches the module (R514, R518). -/
inductive ReqPath where
  /-- A host write of PWR_REQ or PWR_RST_REQ. -/
  | reg (v : BitVec 32)
  /-- A MGMT descriptor fetched from a ring. -/
  | ring (n : Fin 16) (d : BitVec 512)
  /-- A management frame that arrived on a port; 4 = its port is down, or it is the module's own. -/
  | frame (p : Fin 5)
deriving DecidableEq, Repr

/-- How a read of the exchange region reaches the module (R307, R389). -/
inductive ReadPath where
  /-- A PCIe read of BAR2: offset and length. -/
  | bar2 (off : BitVec 20) (len : BitVec 13)
  /-- A management frame. -/
  | frame (p : Fin 5)
deriving DecidableEq, Repr

/-- How a write of the exchange region reaches the module (R307, R389). -/
inductive WritePath where
  /-- A PCIe write of BAR2: offset and bytes. -/
  | bar2 (off : BitVec 20) (data : List (BitVec 8))
  /-- A management frame. -/
  | frame (p : Fin 5)
deriving DecidableEq, Repr

/-- One command of the block: one constructor per row of the table. -/
inductive Instr where
  /-- REGISTER_WRITE (R15): A write to a register that has no row of its own sets, clears or ignores its fields by their access codes. -/
  | registerWrite (off : BitVec 24) (be : BitVec 4) (v : BitVec 32)
  /-- READ_CLEAR (R15): A read of an RC register returns its value and then clears it. -/
  | readClear (off : BitVec 24)
  /-- SHADOW_LOW_READ (R16): A read of the low half of a 64-bit register pair returns it and latches the high half into the pair's shadow. -/
  | shadowLowRead (p : Pair)
  /-- TB_SET_COMMIT (R32): A write to TB_SET_HI commits a forward set of the counter, or is refused with SET_REFUSED. -/
  | tbSetCommit (hi : BitVec 32)
  /-- TB_FS_WRITE (R25): A write that changes TB_CTRL.FS retunes the audio PLL while rendering is stopped, or sets FS_BUSY. -/
  | tbFsWrite (v : BitVec 32)
  /-- AUDIO_PLL_LOCK (R25): The audio PLL locks again after a retune; AUDIO_LOCK becomes 1 and an AUDIO_PLL lock record is written. -/
  | audioPllLock
  /-- TB_REF_WRITE (R33): A write of TB_CTRL.REF selects the servo reference, or is refused with REF_REFUSED. -/
  | tbRefWrite (v : BitVec 32)
  /-- REACQUIRE (R30): A write of REACQUIRE moves the servo to ACQUIRE or restarts its count of in-range measurements, by servo state. -/
  | reacquire (v : BitVec 32)
  /-- TB_RATE_WRITE (R26): A write to TB_RATE in MANUAL mode sets the rate correction, clamped to ±200 ppm. -/
  | tbRateWrite (v : BitVec 32)
  /-- HELD_RELEASE (R28): Reference time reaches the held counter, and the servo leaves HELD for ACQUIRE. -/
  | heldRelease
  /-- WCLK_CAPTURE (R42): A selected edge on WCLK_INn is stamped into its capture register, setting VALID or counting an overrun. -/
  | wclkCapture (n : Fin 2) (falling : Bool) (t : PinTime)
  /-- WCLK_PRESENT (R35): 64 consecutive in-spacing edges make a word-clock input present, and a servo in FREE on it enters ACQUIRE. -/
  | wclkPresent (n : Fin 2)
  /-- WCLK_LOSS (R35): No selected edge for 8 periods clears PRESENT, sets WCLKn_LOSS and moves a servo using it to HOLDOVER or FREE. -/
  | wclkLoss (n : Fin 2)
  /-- WCAP_LOW_READ (R42): A read of TB_WCAPn_LO returns the capture, latches its high half and clears VALID. -/
  | wcapLowRead (n : Fin 2) (cap : Option PinEdge)
  /-- TRIG_CAPTURE (R45): An edge on TRIGn pushes a stamp into its 8-deep queue, or is dropped with OVF when the queue is full. -/
  | trigCapture (n : Fin 8) (falling : Bool) (t : PinTime)
  /-- TRIG_POP (R45): A read of TB_TRIGn_LO pops the queue head and latches its high half. -/
  | trigPop (n : Fin 8) (push : Option PinEdge)
  /-- COMPARE_COMMIT (R49): A write to TB_CMPn_HI commits the compare value, which is tested at once for match, MISSED or ARMED. -/
  | compareCommit (n : Fin 8) (hi : BitVec 32)
  /-- COMPARE_ENABLE (R50): A write that changes ENABLE from 0 to 1 counts as a commit of the live compare value. -/
  | compareEnable (n : Fin 8) (v : BitVec 32)
  /-- FORCE (R54): A write of FORCE = 1 loads LEVEL into the compare pin latch and ends any pulse. -/
  | force (n : Fin 8) (v : BitVec 32)
  /-- COMPARE_MATCH (R51): The counter crosses a compare value; the channel sets MATCH, acts on its pin, counts and re-arms if periodic. -/
  | compareMatch (n : Fin 8)
  /-- PULSE_END (R54): A compare pulse's width elapses and the pin latch returns to 0. -/
  | pulseEnd (n : Fin 8)
  /-- XT32_FAIL (R38): No XT32 edge for 2 ms sets XT32_FAIL and clears XT32_OK. -/
  | xt32Fail
  /-- RENDER_BOUNDARY (R199): At a render boundary the scheduler and allocator fix the tier, apply commands, decide casts, publish the voice table and start the block. -/
  | renderBoundary
  /-- BLOCK_DEADLINE (R204): A block still rendering at its deadline is counted late and BLOCK_LATE or BUS_LATE is reported. -/
  | blockDeadline
  /-- BLOCK_RENDER_COMPLETE (R196): Every voice core and cluster E have finished the block, and its stream frames are sent. -/
  | blockRenderComplete
  /-- MIX_BLOCK_START (R206): Cluster E begins the block's mix work once every BDONE it waits for has arrived. -/
  | mixBlockStart
  /-- PLAY_START (R205): A block's frames are due at the outputs and are played, or replaced by a hold-fade if not completed. -/
  | playStart
  /-- SCHED_RUN (R211): A write of RUN = 1 while STOPPED moves the scheduler to WAITING. -/
  | schedRun (v : BitVec 32)
  /-- SCHED_START (R211): Once AUDIO_LOCK is 1 the scheduler picks its first block and becomes RUNNING. -/
  | schedStart
  /-- SCHED_STOP (R212): A write of RUN = 0 stops a WAITING scheduler at once, or moves a RUNNING one to STOPPING with ALL_OFF. -/
  | schedStop (v : BitVec 32)
  /-- SCHED_STOPPED (R212): The last rendered block has played; outputs fade and STATE becomes STOPPED. -/
  | schedStopped
  /-- ALL_OFF (R163): A write of ALL_OFF chokes every resident, parked and spilled voice at the next boundary. -/
  | allOff (v : BitVec 32)
  /-- RELEASE_LIMIT_EXPIRY (R178): A voice still releasing at release time plus RELEASE_LIMIT starts its release-end ramp. -/
  | releaseLimitExpiry (e : Fin 256)
  /-- CLIP_REPORT (R236): Every 100 ms a destination with clamped samples writes a CLIP record with the count. -/
  | clipReport
  /-- SUMMARY_RECORD_TIMER (R359): Once per second a summarising source writes its record with the count since the previous one. -/
  | summaryRecordTimer
  /-- NOP (R258): The core does nothing for one cycle. -/
  | nop (c : Fin 20) (z : BitVec 26)
  /-- ADD (R259): Gd := Ga + Gb. -/
  | add (c : Fin 20) (d : Fin 32) (a : Fin 32) (b : Fin 32)
  /-- SUB (R259): Gd := Ga − Gb. -/
  | sub (c : Fin 20) (d : Fin 32) (a : Fin 32) (b : Fin 32)
  /-- AND (R259): Bitwise AND of Ga and Gb into Gd. -/
  | and (c : Fin 20) (d : Fin 32) (a : Fin 32) (b : Fin 32)
  /-- OR (R259): Bitwise OR of Ga and Gb into Gd. -/
  | or (c : Fin 20) (d : Fin 32) (a : Fin 32) (b : Fin 32)
  /-- XOR (R259): Bitwise XOR of Ga and Gb into Gd. -/
  | xor (c : Fin 20) (d : Fin 32) (a : Fin 32) (b : Fin 32)
  /-- SHL (R259): Shift Ga left by Gb[4:0]. -/
  | shl (c : Fin 20) (d : Fin 32) (a : Fin 32) (b : Fin 32)
  /-- SHR (R259): Shift Ga logically right by Gb[4:0]. -/
  | shr (c : Fin 20) (d : Fin 32) (a : Fin 32) (b : Fin 32)
  /-- SAR (R259): Shift Ga arithmetically right by Gb[4:0]. -/
  | sar (c : Fin 20) (d : Fin 32) (a : Fin 32) (b : Fin 32)
  /-- SHLI (R259): Shift Ga left by the b field. -/
  | shli (c : Fin 20) (d : Fin 32) (a : Fin 32) (b : Fin 32)
  /-- SHRI (R259): Shift Ga logically right by the b field. -/
  | shri (c : Fin 20) (d : Fin 32) (a : Fin 32) (b : Fin 32)
  /-- SARI (R259): Shift Ga arithmetically right by the b field. -/
  | sari (c : Fin 20) (d : Fin 32) (a : Fin 32) (b : Fin 32)
  /-- MIN (R259): Signed minimum of Ga and Gb. -/
  | min (c : Fin 20) (d : Fin 32) (a : Fin 32) (b : Fin 32)
  /-- MAX (R259): Signed maximum of Ga and Gb. -/
  | max (c : Fin 20) (d : Fin 32) (a : Fin 32) (b : Fin 32)
  /-- SLT (R259): Gd := 1 if Ga < Gb signed, else 0. -/
  | slt (c : Fin 20) (d : Fin 32) (a : Fin 32) (b : Fin 32)
  /-- SLTU (R259): Gd := 1 if Ga < Gb unsigned, else 0. -/
  | sltu (c : Fin 20) (d : Fin 32) (a : Fin 32) (b : Fin 32)
  /-- SEQ (R259): Gd := 1 if Ga = Gb, else 0. -/
  | seq (c : Fin 20) (d : Fin 32) (a : Fin 32) (b : Fin 32)
  /-- MUL (R259): Gd := low 32 bits of Ga × Gb. -/
  | mul (c : Fin 20) (d : Fin 32) (a : Fin 32) (b : Fin 32)
  /-- MVAG (R259): Gd := an A register. -/
  | mvag (c : Fin 20) (d : Fin 32) (a : Fin 32) (b : Fin 32)
  /-- MVGA (R259): An A register := Ga. -/
  | mvga (c : Fin 20) (d : Fin 32) (a : Fin 32) (b : Fin 32)
  /-- CLZ (R259): Gd := leading zeros of Ga. -/
  | clz (c : Fin 20) (d : Fin 32) (a : Fin 32) (b : Fin 32)
  /-- ADDI (R258): Gd := Ga + sign-extended immediate. -/
  | addi (c : Fin 20) (d : Fin 32) (a : Fin 32) (imm : BitVec 16)
  /-- ANDI (R258): Gd := Ga AND zero-extended immediate. -/
  | andi (c : Fin 20) (d : Fin 32) (a : Fin 32) (imm : BitVec 16)
  /-- ORI (R258): Gd := Ga OR zero-extended immediate. -/
  | ori (c : Fin 20) (d : Fin 32) (a : Fin 32) (imm : BitVec 16)
  /-- XORI (R258): Gd := Ga XOR zero-extended immediate. -/
  | xori (c : Fin 20) (d : Fin 32) (a : Fin 32) (imm : BitVec 16)
  /-- MOVI (R258): Gd := sign-extended immediate. -/
  | movi (c : Fin 20) (d : Fin 32) (a : Fin 32) (imm : BitVec 16)
  /-- MOVIH (R258): Gd[31:16] := immediate, low half kept. -/
  | movih (c : Fin 20) (d : Fin 32) (a : Fin 32) (imm : BitVec 16)
  /-- LD (R262): Load a 32-bit word into Gg by the addressing mode. -/
  | ld (c : Fin 20) (g : Fin 32) (ai : Fin 8) (mode : Fin 4) (circ : Fin 2) (slot : Fin 8) (imm : BitVec 12)
  /-- ST (R262): Store Gg as a 32-bit word by the addressing mode. -/
  | st (c : Fin 20) (g : Fin 32) (ai : Fin 8) (mode : Fin 4) (circ : Fin 2) (slot : Fin 8) (imm : BitVec 12)
  /-- LDP (R262): Load 64 bits into an even–odd G pair. -/
  | ldp (c : Fin 20) (g : Fin 32) (ai : Fin 8) (mode : Fin 4) (circ : Fin 2) (slot : Fin 8) (imm : BitVec 12)
  /-- STP (R262): Store an even–odd G pair as 64 bits. -/
  | stp (c : Fin 20) (g : Fin 32) (ai : Fin 8) (mode : Fin 4) (circ : Fin 2) (slot : Fin 8) (imm : BitVec 12)
  /-- LDA (R262): Load an A register from memory. -/
  | lda (c : Fin 20) (g : Fin 32) (ai : Fin 8) (mode : Fin 4) (circ : Fin 2) (slot : Fin 8) (imm : BitVec 12)
  /-- STA (R262): Store an A register to memory. -/
  | sta (c : Fin 20) (g : Fin 32) (ai : Fin 8) (mode : Fin 4) (circ : Fin 2) (slot : Fin 8) (imm : BitVec 12)
  /-- ADDA (R258): Add a sign-extended immediate to an A register. -/
  | adda (c : Fin 20) (d : Fin 32) (a : Fin 32) (imm : BitVec 16)
  /-- FADD (R260): binary32 addition. -/
  | fadd (c : Fin 20) (d : Fin 32) (a : Fin 32) (b : Fin 32)
  /-- FSUB (R260): binary32 subtraction. -/
  | fsub (c : Fin 20) (d : Fin 32) (a : Fin 32) (b : Fin 32)
  /-- FMUL (R260): binary32 multiplication. -/
  | fmul (c : Fin 20) (d : Fin 32) (a : Fin 32) (b : Fin 32)
  /-- FMIN (R260): binary32 minimum; a NaN yields the other operand. -/
  | fmin (c : Fin 20) (d : Fin 32) (a : Fin 32) (b : Fin 32)
  /-- FMAX (R260): binary32 maximum; a NaN yields the other operand. -/
  | fmax (c : Fin 20) (d : Fin 32) (a : Fin 32) (b : Fin 32)
  /-- FABS (R260): Absolute value by sign operation. -/
  | fabs (c : Fin 20) (d : Fin 32) (a : Fin 32) (b : Fin 32)
  /-- FNEG (R260): Negation by sign operation. -/
  | fneg (c : Fin 20) (d : Fin 32) (a : Fin 32) (b : Fin 32)
  /-- FSLT (R260): Gd := 1 if Ga < Gb as binary32. -/
  | fslt (c : Fin 20) (d : Fin 32) (a : Fin 32) (b : Fin 32)
  /-- FSEQ (R260): Gd := 1 if Ga = Gb as binary32. -/
  | fseq (c : Fin 20) (d : Fin 32) (a : Fin 32) (b : Fin 32)
  /-- FTOI (R260): binary32 to saturating signed integer. -/
  | ftoi (c : Fin 20) (d : Fin 32) (a : Fin 32) (b : Fin 32)
  /-- ITOF (R260): Signed integer to binary32. -/
  | itof (c : Fin 20) (d : Fin 32) (a : Fin 32) (b : Fin 32)
  /-- FTOQ (R260): binary32 to saturating Q1.31. -/
  | ftoq (c : Fin 20) (d : Fin 32) (a : Fin 32) (b : Fin 32)
  /-- QTOF (R260): Q1.31 to binary32. -/
  | qtof (c : Fin 20) (d : Fin 32) (a : Fin 32) (b : Fin 32)
  /-- FFLOOR (R260): floor(Ga). -/
  | ffloor (c : Fin 20) (d : Fin 32) (a : Fin 32) (b : Fin 32)
  /-- FFRAC (R260): Ga − floor(Ga). -/
  | ffrac (c : Fin 20) (d : Fin 32) (a : Fin 32) (b : Fin 32)
  /-- QADD (R260): Saturating Q1.31 addition. -/
  | qadd (c : Fin 20) (d : Fin 32) (a : Fin 32) (b : Fin 32)
  /-- QSUB (R260): Saturating Q1.31 subtraction. -/
  | qsub (c : Fin 20) (d : Fin 32) (a : Fin 32) (b : Fin 32)
  /-- QMUL (R260): Saturating Q1.31 product, ties upward. -/
  | qmul (c : Fin 20) (d : Fin 32) (a : Fin 32) (b : Fin 32)
  /-- FRCP (R260): Reciprocal of Ga within 1 ulp. -/
  | frcp (c : Fin 20) (d : Fin 32) (a : Fin 32) (b : Fin 32)
  /-- FRSQ (R260): Reciprocal square root of Ga within 1 ulp. -/
  | frsq (c : Fin 20) (d : Fin 32) (a : Fin 32) (b : Fin 32)
  /-- FEXP2 (R260): 2 to the power Ga within 2 ulp. -/
  | fexp2 (c : Fin 20) (d : Fin 32) (a : Fin 32) (b : Fin 32)
  /-- FLOG2 (R260): log2(Ga) within 2 ulp. -/
  | flog2 (c : Fin 20) (d : Fin 32) (a : Fin 32) (b : Fin 32)
  /-- FSIN2P (R260): sin(2π × Ga). -/
  | fsin2p (c : Fin 20) (d : Fin 32) (a : Fin 32) (b : Fin 32)
  /-- FTANP (R260): tan(π × Ga) for Ga in 0 to 0.49, else INV. -/
  | ftanp (c : Fin 20) (d : Fin 32) (a : Fin 32) (b : Fin 32)
  /-- FMA (R258): Gd := Gc + Ga × Gb with a single rounding. -/
  | fma (c : Fin 20) (d : Fin 32) (a : Fin 32) (b : Fin 32) (e : Fin 32) (z : BitVec 6)
  /-- FMS (R258): Gd := Gc − Ga × Gb with a single rounding. -/
  | fms (c : Fin 20) (d : Fin 32) (a : Fin 32) (b : Fin 32) (e : Fin 32) (z : BitVec 6)
  /-- MAC (R261): ACCk.re += Gx × Gy. -/
  | mac (c : Fin 20) (k : Fin 4) (x : Fin 32) (y : Fin 32) (z : BitVec 8)
  /-- MSU (R261): ACCk.re −= Gx × Gy. -/
  | msu (c : Fin 20) (k : Fin 4) (x : Fin 32) (y : Fin 32) (z : BitVec 8)
  /-- CMAC (R261): ACCk += X × Y complex. -/
  | cmac (c : Fin 20) (k : Fin 4) (x : Fin 32) (y : Fin 32) (z : BitVec 8)
  /-- CMSU (R261): ACCk −= X × Y complex. -/
  | cmsu (c : Fin 20) (k : Fin 4) (x : Fin 32) (y : Fin 32) (z : BitVec 8)
  /-- CMUL (R261): ACCk := X × Y complex. -/
  | cmul (c : Fin 20) (k : Fin 4) (x : Fin 32) (y : Fin 32) (z : BitVec 8)
  /-- CMACJ (R261): ACCk += X × conj(Y). -/
  | cmacj (c : Fin 20) (k : Fin 4) (x : Fin 32) (y : Fin 32) (z : BitVec 8)
  /-- CLRA (R261): ACCk := 0. -/
  | clra (c : Fin 20) (k : Fin 4) (x : Fin 32) (y : Fin 32) (z : BitVec 8)
  /-- MVGACC (R261): ACCk := (Gx, Gy). -/
  | mvgacc (c : Fin 20) (k : Fin 4) (x : Fin 32) (y : Fin 32) (z : BitVec 8)
  /-- MULA (R261): ACCk.re := Gx × Gy, ACCk.im := 0. -/
  | mula (c : Fin 20) (k : Fin 4) (x : Fin 32) (y : Fin 32) (z : BitVec 8)
  /-- MVA (R255): Move one accumulator part to Gd with a shift. -/
  | mva (c : Fin 20) (d : Fin 32) (k : Fin 4) (part : Fin 2) (sh : BitVec 4) (z : BitVec 14)
  /-- MVAC (R255): Move both accumulator parts to a G pair with a shift. -/
  | mvac (c : Fin 20) (d : Fin 32) (k : Fin 4) (part : Fin 2) (sh : BitVec 4) (z : BitVec 14)
  /-- TAP (R268): Real filter tap: accumulate h × d, move the datum one place older, step both pointers. -/
  | tap (c : Fin 20) (k : Fin 4) (ai : Fin 8) (aj : Fin 8) (dir : Fin 2) (z : BitVec 17)
  /-- CTAP (R268): Complex filter tap on 8-byte elements. -/
  | ctap (c : Fin 20) (k : Fin 4) (ai : Fin 8) (aj : Fin 8) (dir : Fin 2) (z : BitVec 17)
  /-- B (R269): Conditional branch after the delay slot. -/
  | b (c : Fin 20) (cond : Fin 16) (z : Fin 2) (a : Fin 32) (ofs : BitVec 16)
  /-- JMP (R269): Jump to Ga after the delay slot. -/
  | jmp (c : Fin 20) (d : Fin 32) (a : Fin 32) (b : Fin 32) (f : BitVec 11)
  /-- CALL (R258): G31 := PC + 8 and branch after the delay slot. -/
  | call (c : Fin 20) (cond : Fin 16) (z : Fin 2) (a : Fin 32) (ofs : BitVec 16)
  /-- LOOP (R270): Start a zero-overhead hardware loop of a level. -/
  | loop (c : Fin 20) (level : Fin 2) (len : BitVec 10) (src : Fin 2) (cnt : BitVec 14)
  /-- SWB (R251): Make bank 0 to 2 current for the next instruction. -/
  | swb (c : Fin 20) (r : Fin 32) (u : Fin 32) (n : Fin 64) (v : Fin 32) (m : Fin 32)
  /-- MVS (R250): Gd := a system register, with the read side effects of BLK and SIGSRC. -/
  | mvs (c : Fin 20) (r : Fin 32) (u : Fin 32) (n : Fin 64) (v : Fin 32) (m : Fin 32)
  /-- MVT (R250): A system register := Ga from the next cycle. -/
  | mvt (c : Fin 20) (r : Fin 32) (u : Fin 32) (n : Fin 64) (v : Fin 32) (m : Fin 32)
  /-- BDONE (R281): A write of BDONE marks the core's share of block j complete, ordered after its stores. -/
  | bdone (c : Fin 20) (r : Fin 32) (u : Fin 32) (v : Fin 32) (m : Fin 32)
  /-- RETI (R274): Return from the handler to EPC in EBANK and set GIE. -/
  | reti (c : Fin 20) (z : BitVec 26)
  /-- WAIT (R275): Stop issue until an enabled line is pending. -/
  | wait (c : Fin 20) (z : BitVec 26)
  /-- WAIT_RELEASE (R275): An enabled line becomes pending during WAIT; issue continues or the line is accepted. -/
  | waitRelease (c : Fin 20)
  /-- SIGNAL (R276): Set this core's bit in the target core's SIGSRC and raise its line 4. -/
  | signal (c : Fin 20) (r : Fin 32) (u : Fin 32) (n : Fin 64) (v : Fin 32) (m : Fin 32)
  /-- SETM (R256): Set MODE in the current bank and clear its accumulators. -/
  | setm (c : Fin 20) (r : Fin 32) (u : Fin 32) (n : Fin 64) (v : Fin 32) (m : Fin 32)
  /-- BRK (R277): Raise the BREAK fault, or halt the core with the debug port open and BRK_EN set. -/
  | brk (c : Fin 20) (z : BitVec 26)
  /-- INTERRUPT_ENTRY (R272): A pending enabled line with GIE = 1 is accepted and the handler starts in B3. -/
  | interruptEntry (c : Fin 20)
  /-- TIMER_EXPIRY (R250): TMR reaches 0, raises line 3 and reloads TMRLD. -/
  | timerExpiry (c : Fin 20)
  /-- CORE_HALT (R283): A write of HALT = 1 halts the core at the next permitted issue boundary. -/
  | coreHalt (c : Fin 20) (v : BitVec 32)
  /-- CORE_RESUME (R280): A write of HALT = 0 resumes a halted core, whose voices resume from stored state. -/
  | coreResume (c : Fin 20) (v : BitVec 32)
  /-- CORE_STEP (R283): A write of STEP while HALTED issues one instruction with its delay slot. -/
  | coreStep (c : Fin 20) (v : BitVec 32)
  /-- DEBUG_DATA_READ (R284): A read of CHn_DBG_DATA returns the addressed item when permitted, else 0. -/
  | debugDataRead (c : Fin 20)
  /-- DEBUG_DATA_WRITE (R284): A write of CHn_DBG_DATA stores the addressed item when permitted, else sets DBG_DENIED. -/
  | debugDataWrite (c : Fin 20) (v : BitVec 32)
  /-- CORE_DMA_GO (R496): A store to a core DMA port's GO starts a transfer, or ends at once with ERROR. -/
  | coreDmaGo (c : Fin 20)
  /-- CORE_DMA_DONE (R496): A core DMA transfer ends, sets DONE or ERROR and raises DMA_DONE. -/
  | coreDmaDone (c : Fin 20)
  /-- CORE_DMA_STATUS_READ (R496): A load of the DMA port STATUS returns it and clears DONE, ERROR, cause and DMA_DONE. -/
  | coreDmaStatusRead (c : Fin 20)
  /-- DOORBELL (R315): A write of HI_DBn sets the ring's tail, or is ignored with BAD_DOORBELL. -/
  | doorbell (n : Fin 16) (v : BitVec 32) (via : Option (BitVec 12))
  /-- RING_ENABLE (R313): A write of ENABLE = 1 moves a ring to CHECKING and resets HEAD and TAIL. -/
  | ringEnable (n : Fin 16) (v : BitVec 32)
  /-- RING_DISABLE (R313): A write of ENABLE = 0 moves a ring to DISABLED and increments GEN. -/
  | ringDisable (n : Fin 16) (v : BitVec 32)
  /-- RING_CHECK (R313): The ring header is read and checked, and the ring goes RUNNING at a negotiated version or REFUSED. -/
  | ringCheck (n : Fin 16) (hdr : Option (BitVec 512))
  /-- DESCRIPTOR_FETCH (R316): The command processor fetches descriptors from a served ring and accepts them. -/
  | descriptorFetch (d : BitVec 512) (host : List (BitVec 8))
  /-- FETCH_ERROR (R344): A descriptor read errors or gets no completion in 50 ms; the ring goes to ERROR. -/
  | fetchError
  /-- IMMEDIATE_HOLD_END (R320): The counter reaches an immediate command's EXEC_TIME and the held ring proceeds. -/
  | immediateHoldEnd (n : Fin 16)
  /-- CAST (R324): A CAST descriptor is queued to start a voice in a group at its time. -/
  | cast (n : Fin 16) (d : BitVec 512)
  /-- RELEASE (R325): A RELEASE descriptor is queued to release addressed voices. -/
  | release (n : Fin 16) (d : BitVec 512)
  /-- CHOKE (R325): A CHOKE descriptor is queued to ramp addressed voices out. -/
  | choke (n : Fin 16) (d : BitVec 512)
  /-- SET_PARAM (R326): A SET_PARAM sets parameter pairs in voices, the group patch or the mix section at its time. -/
  | setParam (n : Fin 16) (d : BitVec 512)
  /-- RAMP_PARAM (R327): A RAMP_PARAM runs a parameter linearly to a target over a duration. -/
  | rampParam (n : Fin 16) (d : BitVec 512)
  /-- SET_GROUP (R328): A SET_GROUP applies a group's configuration words and controls. -/
  | setGroup (n : Fin 16) (d : BitVec 512)
  /-- LOAD_MAQUETTE (R292): A LOAD_MAQUETTE copies an image into the program store for checking and placement. -/
  | loadMaquette (n : Fin 16) (d : BitVec 512) (host : List (BitVec 8))
  /-- MAQUETTE_CHECK_DONE (R294): A maquette's checks and placement end; the program is ready or the load is refused. -/
  | maquetteCheckDone
  /-- UNLOAD_MAQUETTE (R293): An UNLOAD_MAQUETTE unbinds a slot at its boundary, optionally choking its voices. -/
  | unloadMaquette (n : Fin 16) (d : BitVec 512)
  /-- MIGRATE_SEND (R414): MIGRATE mode 0 sends a voice to another node by the migration protocol. -/
  | migrateSend (n : Fin 16) (d : BitVec 512)
  /-- PARK (R181): MIGRATE mode 1 ramps a voice out into a parked entry. -/
  | park (n : Fin 16) (d : BitVec 512)
  /-- RESUME (R183): MIGRATE mode 2 resumes a parked voice into a slot. -/
  | resume (n : Fin 16) (d : BitVec 512)
  /-- SPILL_ESTABLISH (R424): SPILL_CFG establish sends ESTABLISH to a partner to open a partnership. -/
  | spillEstablish (n : Fin 16) (d : BitVec 512)
  /-- SPILL_DISSOLVE (R331): SPILL_CFG dissolve ends a partnership, choking its spilled voices. -/
  | spillDissolve (n : Fin 16) (d : BitVec 512)
  /-- STREAM_MAP (R233): A STREAM_MAP writes a route-map entry at its frame, displacing older entries on the same destination. -/
  | streamMap (n : Fin 16) (d : BitVec 512)
  /-- OUT_SET (R333): An OUT_SET stores direct output values at its frame. -/
  | outSet (n : Fin 16) (d : BitVec 512)
  /-- SERIAL_TX (R334): A SERIAL_TX is queued on its UART port, holding the ring when the queue is full. -/
  | serialTx (n : Fin 16) (d : BitVec 512) (host : List (BitVec 8))
  /-- SERIAL_TX_START (R334): A queued SERIAL_TX is checked and starts at the later of EXEC_TIME and the previous end. -/
  | serialTxStart (u : Fin 4)
  /-- SERIAL_TX_DONE (R334): The last stop bit is sent and the SERIAL_TX completes OK or LATE. -/
  | serialTxDone (u : Fin 4)
  /-- DE_HOLD_EXPIRY (R465): DE_HOLD µs after the last stop bit with no further transmission, Un_DE falls. -/
  | deHoldExpiry (u : Fin 4)
  /-- MEM_DMA (R336): A MEM_DMA starts a transfer between host memory, DRAM, SRAM and the exchange region. -/
  | memDma (n : Fin 16) (d : BitVec 512)
  /-- MEM_DMA_DONE (R336): A MEM_DMA finishes its last write, or stops on an error, and completes. -/
  | memDmaDone (k : BitVec 16) (host : List (BitVec 8)) (err : Option (BitVec 32))
  /-- FABRIC_SEND (R337): A FABRIC_SEND sends one user frame to a node. -/
  | fabricSend (n : Fin 16) (d : BitVec 512) (host : List (BitVec 8))
  /-- FENCE (R339): A FENCE holds its ring until earlier descriptors have completed. -/
  | fence (n : Fin 16) (d : BitVec 512)
  /-- FENCE_RELEASE (R339): Every descriptor a FENCE waits on has completed; the FENCE completes OK. -/
  | fenceRelease (n : Fin 16)
  /-- POWER_STATE_REQUEST (R514): A power-state request by PWR_REQ, MGMT 0x01 or management frame is accepted or refused. -/
  | powerStateRequest (path : ReqPath)
  /-- FULL_RESET_REQUEST (R518): A reset request of kind 1 starts a full reset 100 µs after its completion or reply. -/
  | fullResetRequest (path : ReqPath)
  /-- CLUSTER_RESET_REQUEST (R518): A reset request of kind 2 resets the clusters in its mask. -/
  | clusterResetRequest (path : ReqPath)
  /-- TRANSIT_WAKE_REQUEST (R518): Management OP 5 kind 4 wakes a module from TRANSIT. -/
  | transitWakeRequest (p : Fin 5)
  /-- CLUSTER_RETURN (R518): A reset cluster is back in service and the cluster reset completes OK. -/
  | clusterReturn (k : Fin 5)
  /-- SHUTDOWN (R534): MGMT 0x03 profile 1 starts the SHUTDOWN self-test profile. -/
  | shutdown (n : Fin 16) (d : BitVec 512)
  /-- SHUTDOWN_COMPLETE (R534): The SHUTDOWN profile writes its record and completes with its verdict. -/
  | shutdownComplete (res : List TestRes) (rows : List (BitVec 15))
  /-- PERIODIC_ENABLE (R540): MGMT 0x03 profile 3 sets PER_EN. -/
  | periodicEnable (n : Fin 16) (d : BitVec 512)
  /-- PERIODIC_DISABLE (R540): MGMT 0x03 profile 4 clears PER_EN and cuts a running slice short. -/
  | periodicDisable (n : Fin 16) (d : BitVec 512)
  /-- ROLLING_UPDATE (R571): MGMT 0x04 checks a firmware image and starts a rolling update. -/
  | rollingUpdate (n : Fin 16) (d : BitVec 512) (host : List (BitVec 8))
  /-- UPDATE_FLASH_WRITTEN (R571): The new image is written and read back in the inactive slot, and cluster draining begins. -/
  | updateFlashWritten (good : Bool)
  /-- DRAIN_TIMEOUT (R572): DRAIN_MAX after a bench request, voices still on the cluster are choked. -/
  | drainTimeout
  /-- CLUSTER_RELOAD_DONE (R572): A drained cluster is reloaded and returned, or a failure rolls the update back. -/
  | clusterReloadDone (good : Bool)
  /-- CHALLENGE (R551): CHALLENGE draws a fresh nonce valid for 60 s. -/
  | challenge (by_ : Option (Fin 16 × BitVec 512))
  /-- SIGNED (R551): SIGNED checks a signed response and opens a service session or counts a failure. -/
  | signed (by_ : Option (Fin 16 × BitVec 512)) (host : List (BitVec 8))
  /-- PASSWORD (R551): PASSWORD checks a password and opens a limited service session or counts a failure. -/
  | password (by_ : Option (Fin 16 × BitVec 512)) (host : List (BitVec 8))
  /-- CLOSE (R552): CLOSE ends an open service session with its closing actions. -/
  | close (by_ : Option (Fin 16 × BitVec 512))
  /-- ADVANCE (R548): ADVANCE blows the next state fuse, or refuses. -/
  | advance (arg : BitVec 3)
  /-- PROGRAM_KEY (R555): PROGRAM_KEY fuses a key-slot, service-key or password hash into an empty field. -/
  | programKey (arg : BitVec 3)
  /-- REVOKE_KEY (R555): REVOKE_KEY blows a slot's revoke bit. -/
  | revokeKey (arg : BitVec 3)
  /-- SESSION_EXPIRY (R552): A service session's 8 hours elapse and the closing actions run. -/
  | sessionExpiry
  /-- NONCE_EXPIRY (R551): A challenge nonce becomes invalid 60 s after it was drawn. -/
  | nonceExpiry
  /-- LOCKOUT_END (R553): A service lockout period ends. -/
  | lockoutEnd
  /-- FLR (R342): A function-level reset disables host-memory rings and queues and discards their undecided commands. -/
  | flr
  /-- PERST_N_ASSERT (R343): PERST_N asserted acts as an FLR and resets the PCIe core. -/
  | perstNAssert
  /-- PERST_N_RELEASE (R343): PERST_N released lets the link train again. -/
  | perstNRelease
  /-- PCIE_BME_CHANGE (R308): A Bus Master Enable or D-state change holds or resumes host-memory fetches, queue writes and DMA. -/
  | pcieBmeChange (bme d3hot : Bool)
  /-- PCIE_LINK_CHANGE (R345): The PCIe link comes up, goes down or changes speed or width, and a record is written. -/
  | pcieLinkChange (up : Bool) (speed width : BitVec 2)
  /-- EQ_ENABLE (R349): A write of ENABLE = 1 starts an event queue at index 0 and phase 1, or sets RANGE. -/
  | eqEnable (n : Fin 8) (v : BitVec 32)
  /-- EQ_DISABLE (R352): A write of ENABLE = 0 disables a queue and discards its held records. -/
  | eqDisable (n : Fin 8) (v : BitVec 32)
  /-- EQ_CONS_WRITE (R350): A write of CONS frees queue positions, or is ignored with BAD_CONS. -/
  | eqConsWrite (n : Fin 8) (v : BitVec 32) (via : Option (BitVec 12))
  /-- EQ_DRAIN (R351): Space returns to a WAITING queue and held records are written in arrival order. -/
  | eqDrain (n : Fin 8)
  /-- MODERATION_TIMEOUT (R354): MOD_TIME after the first unsignalled record, the queue sends its MSI-X message or notification. -/
  | moderationTimeout (n : Fin 8)
  /-- PORT_ENABLE (R363): A write of port EN = 1 moves a port from DISABLED to DETECT. -/
  | portEnable (p : Fin 4) (v : BitVec 32)
  /-- PORT_DISABLE (R363): A write of port EN = 0 moves a port to DISABLED from any state. -/
  | portDisable (p : Fin 4) (v : BitVec 32)
  /-- RETRAIN (R398): A write of RETRAIN moves an UP port to DETECT. -/
  | retrain (p : Fin 4) (v : BitVec 32)
  /-- SIGNAL_DETECTED (R363): Transitions for 10 µs move a port from DETECT to ALIGN. -/
  | signalDetected (p : Fin 4)
  /-- COMMA_ALIGNED (R363): 128 consecutive valid symbols move a port to EQUALISE. -/
  | commaAligned (p : Fin 4)
  /-- EQUALISATION_DONE (R363): Equaliser adaptation completes and the port enters HELLO. -/
  | equalisationDone (p : Fin 4) (step : Fin 16)
  /-- TRAIN_FAIL (R363): A port not UP within 20 ms of leaving DETECT returns to DETECT. -/
  | trainFail (p : Fin 4)
  /-- LOSS_OF_SIGNAL (R362): No transitions for 1 µs take the link down. -/
  | lossOfSignal (p : Fin 4)
  /-- CODE_ERROR_LIMIT (R362): 16 code errors within 1 ms take the link down for retraining. -/
  | codeErrorLimit (p : Fin 4) (n : BitVec 16)
  /-- HELLO_RECEIVED (R365): A received hello updates the neighbour, negotiates the version and refreshes the root vector and roles. -/
  | helloReceived (p : Fin 4)
  /-- HELLO_SEND (R367): An UP port sends its periodic or change-driven hello. -/
  | helloSend (p : Fin 4)
  /-- HELLO_TIMEOUT (R367): No hello for HELLO_MISS ms sets HELLO_TIMEOUT and retrains the port. -/
  | helloTimeout (p : Fin 4)
  /-- ROOT_CANDIDATE_OFFER (R374): After HELLO_MISS ms with no usable vector, the module offers its own candidate vector. -/
  | rootCandidateOffer
  /-- FRAME_ARRIVAL (R382): A frame header arrives and is checked, forwarded by route or delivered locally. -/
  | frameArrival (p : Fin 4) (f : Frame) (hcrc crc aborted : Bool)
  /-- FRAME_TRANSMIT (R383): A waiting frame leaves on its output port once the port is idle and credits suffice. -/
  | frameTransmit (p : Fin 4)
  /-- CREDIT_RECEIVED (R386): A CREDIT set updates the sender's available units for a class. -/
  | creditReceived (p : Fin 4) (c : Fin 4) (n : BitVec 16)
  /-- CREDIT_SEND (R386): The receiver sends its freed-unit count for a class. -/
  | creditSend (p : Fin 4) (c : Fin 4)
  /-- CREDIT_TIMEOUT (R388): A class waiting 10 ms with no CREDIT retrains the port and discards waiting frames. -/
  | creditTimeout (p : Fin 4) (c : Fin 4)
  /-- TOPO_RECEIVED (R376): A TOPO frame flushes learned entries to FLOOD and schedules an ANNOUNCE. -/
  | topoReceived (p : Fin 5)
  /-- ANNOUNCE_SEND (R378): A module with an address sends its ANNOUNCE. -/
  | announceSend
  /-- ANNOUNCE_RECEIVED (R380): An ANNOUNCE updates the forwarding entry and reports arrivals, reboots and address conflicts. -/
  | announceReceived (p : Fin 5)
  /-- NODE_TIMEOUT (R380): No announcement from an address for 350 ms sets its entry to NONE and reports it lost. -/
  | nodeTimeout (a : BitVec 12)
  /-- FLOOD_EXPIRY (R382): A FLOOD entry not learned again within 350 ms becomes NONE. -/
  | floodExpiry (a : BitVec 12)
  /-- ADDR_REQUEST_SEND (R379): A module without an address sends an ADDR request to the root. -/
  | addrRequestSend
  /-- ADDR_REQUEST_RECEIVED (R379): The root chooses an address and broadcasts an ADDR grant. -/
  | addrRequestReceived (p : Fin 5)
  /-- ADDR_GRANT_RECEIVED (R379): The module named in a grant takes the address. -/
  | addrGrantReceived (p : Fin 5)
  /-- ADDR_FAIL (R379): No grant within 1 s sets ADDR_FAIL. -/
  | addrFail
  /-- BINDING_TABLE_READY (R379): A new root begins answering address requests after 300 ms. -/
  | bindingTableReady
  /-- BINDING_EXPIRY (R379): A binding is dropped 10 s after its module is lost. -/
  | bindingExpiry (a : BitVec 12)
  /-- MGMT_REGISTER_READ (R389): A management frame reads BAR0 registers and replies. -/
  | mgmtRegisterRead (p : Fin 5)
  /-- MGMT_REGISTER_WRITE (R390): A management frame writes BAR0 registers, or is refused, and replies. -/
  | mgmtRegisterWrite (p : Fin 5)
  /-- EXCHANGE_READ (R389): A management frame reads the exchange region and replies. -/
  | exchangeRead (path : ReadPath)
  /-- EXCHANGE_WRITE (R389): A management frame writes the exchange region and replies. -/
  | exchangeWrite (path : WritePath)
  /-- MAILBOX_GO (R391): A write of GO sends a mailbox's management request. -/
  | mailboxGo (m : Fin 4) (v : BitVec 32)
  /-- MGMT_REPLY_RECEIVED (R391): A reply with a matching TAG fills the mailbox buffer and sets DONE. -/
  | mgmtReplyReceived (p : Fin 5)
  /-- MAILBOX_TIMEOUT (R391): A mailbox with no reply within REQ_TMO goes to NODE_LOST. -/
  | mailboxTimeout (m : Fin 4)
  /-- USER_FRAME_RECEIVED (R392): A user frame is placed in the user receive ring, or dropped when it is full. -/
  | userFrameReceived (p : Fin 5)
  /-- NOTIFY_RECEIVED (R393): A NOTIFY frame is placed in the user receive ring. -/
  | notifyReceived (p : Fin 5)
  /-- FORWARDING_ENTRY_WRITE (R396): A write of FSW_FWDa fixes a STATIC direction or clears it to NONE. -/
  | forwardingEntryWrite (a : BitVec 12) (v : BitVec 32)
  /-- BYPASS_RAISE (R394): After its conditions hold for 10 ms, BYPASS_EN rises. -/
  | bypassRaise
  /-- BYPASS_DROP (R394): A failing condition drops BYPASS_EN within 1 µs. -/
  | bypassDrop
  /-- SYNC_SEND (R402): A DOWNSTREAM port sends a SYNC mark and its follow-up. -/
  | syncSend (p : Fin 4) (t : BitVec 80)
  /-- DREQ_SEND (R402): The UPSTREAM port sends a delay-request mark stamped t3. -/
  | dreqSend (p : Fin 4) (t : BitVec 80)
  /-- SYNC_MARK_RECEIVED (R400): A SYNC mark is stamped on arrival as t2. -/
  | syncMarkReceived (p : Fin 4) (q : BitVec 16) (t : BitVec 80)
  /-- DREQ_MARK_RECEIVED (R402): A delay-request mark is stamped and answered by a DRESP frame. -/
  | dreqMarkReceived (p : Fin 4) (q : BitVec 16) (t : BitVec 80)
  /-- SYNC_FOLLOW_UP (R402): A SYNC follow-up gives t1, and the offset is computed and fed to the servo. -/
  | syncFollowUp (p : Fin 5)
  /-- DRESP_RECEIVED (R402): A DRESP gives t4 and updates the link delay estimate. -/
  | drespReceived (p : Fin 5)
  /-- TS_MISSING (R403): A mark or frame without its partner within 100 µs is discarded and TS_MISSING set. -/
  | tsMissing (p : Fin 4)
  /-- FABRIC_REFERENCE_LOSS (R403): No complete SYNC pair for 8 ms loses the fabric reference and the servo enters HOLDOVER. -/
  | fabricReferenceLoss
  /-- STEP_FRAME_RECEIVED (R405): A STEP announcement is relayed downstream and its step scheduled. -/
  | stepFrameReceived (p : Fin 5)
  /-- STEP_APPLY (R405): The counter reaches the announced step time and steps forward by the announced amount. -/
  | stepApply
  /-- STREAM_TX_WRITE (R407): A write of FPn_STXs configures or enables a transmit stream, or is refused. -/
  | streamTxWrite (n : Fin 4) (k : Fin 8) (v : BitVec 32)
  /-- STREAM_RX_WRITE (R407): A write of FPn_SRXs configures or enables a receive stream, or is refused. -/
  | streamRxWrite (n : Fin 4) (k : Fin 8) (v : BitVec 32)
  /-- STREAM_FRAME_RECEIVED (R411): A stream frame is delivered to a matching receive stream, or reported lost or late. -/
  | streamFrameReceived (p : Fin 5)
  /-- SPILL_RETURN_RECEIVED (R425): A spill return stream frame is mixed into this module's buses at its stamp. -/
  | spillReturnReceived (p : Fin 5)
  /-- OFFER_RECEIVED (R415): Both OFFER parts arrive and await the destination's decision boundary. -/
  | offerReceived (p : Fin 5)
  /-- ACCEPT_RECEIVED (R416): An ACCEPT reaches the source, which sends COMMIT if before the overlap boundary. -/
  | acceptReceived (p : Fin 5)
  /-- REFUSE_RECEIVED (R419): A REFUSE fails the MIGRATE with its cause, leaving the voice at the source. -/
  | refuseReceived (p : Fin 5)
  /-- COMMIT_RECEIVED (R416): A COMMIT reaches the destination, which answers COMMIT_ACK if before its boundary. -/
  | commitReceived (p : Fin 5)
  /-- COMMIT_ACK_RECEIVED (R416): A COMMIT_ACK reaches the source and is held for the outcome boundary. -/
  | commitAckReceived (p : Fin 5)
  /-- ABORT_RECEIVED (R419): An ABORT releases the destination's reservation or ramps out its committed voice. -/
  | abortReceived (p : Fin 5)
  /-- MIGRATE_CMD_RECEIVED (R418): Forwarded commands are applied to the migrating voice's other copy. -/
  | migrateCmdReceived (p : Fin 5)
  /-- MIGRATION_TIMEOUT (R419): No answer within REQ_TMO fails the MIGRATE with NODE_LOST. -/
  | migrationTimeout (dest : Bool) (peer : BitVec 12) (session : BitVec 16)
  /-- ESTABLISH_RECEIVED (R424): A partner answers ESTABLISH with EST_ACCEPT or EST_REFUSE. -/
  | establishReceived (p : Fin 5)
  /-- EST_ACCEPT_RECEIVED (R424): The partnership becomes active and SPILL_CFG completes OK. -/
  | estAcceptReceived (p : Fin 5)
  /-- EST_REFUSE_RECEIVED (R424): SPILL_CFG completes REFUSED with the partner's DETAIL. -/
  | estRefuseReceived (p : Fin 5)
  /-- DISSOLVE_RECEIVED (R424): A DISSOLVE ends the partnership, choking its voices and freeing its lane. -/
  | dissolveReceived (p : Fin 5)
  /-- SPILL_CAST_RECEIVED (R186): The partner decides a shifted spilled cast into SPILL_GROUP and answers it. -/
  | spillCastReceived (p : Fin 5)
  /-- CAST_ANSWER_RECEIVED (R188): A spilled cast completes SPILLED with the partner's handle or SPILL_REFUSED. -/
  | castAnswerReceived (p : Fin 5)
  /-- SPILL_CMD_RECEIVED (R424): The partner applies a forwarded command to a spilled voice. -/
  | spillCmdReceived (p : Fin 5)
  /-- SPILL_END_RECEIVED (R424): The partner reports a spilled voice ended, stolen or lost, and its record is freed. -/
  | spillEndReceived (p : Fin 5)
  /-- SPILL_TIMEOUT (R188): A spill request unanswered within REQ_TMO completes NODE_LOST. -/
  | spillTimeout (pid : Fin 8) (num : Option (BitVec 8))
  /-- CHANNEL_ENABLE (R437): A write of EN = 1 starts an output channel's enable sequence once calibrated. -/
  | channelEnable (n : Fin 16) (v : BitVec 32)
  /-- CHANNEL_DISABLE (R438): A write of EN = 0 ramps a driven channel to 0 V and clamps it. -/
  | channelDisable (n : Fin 16) (v : BitVec 32)
  /-- SPAN_WRITE (R445): A SPAN write starts the range-change sequence, applies at once, or is held. -/
  | spanWrite (n : Fin 16) (v : BitVec 32)
  /-- CAL (R436): A write of CAL = 1 recalibrates a channel in OFF. -/
  | cal (n : Fin 16) (v : BitVec 32)
  /-- CALIBRATION_DONE (R436): A channel's calibration completes and CAL_DONE is set. -/
  | calibrationDone (n : Fin 16)
  /-- PAIR_WRITE (R447): A write of PAIR joins or splits a balanced pair, or is refused. -/
  | pairWrite (n : Fin 16) (v : BitVec 32)
  /-- CLRCODE_WRITE (R441): A write of CLRCODE moves an unfed or clearing channel to the new clear code. -/
  | clrcodeWrite (n : Fin 16) (v : BitVec 32)
  /-- SWCLR_WRITE (R441): A write of AO_SWCLR puts channels into or out of clear. -/
  | swclrWrite (v : BitVec 32)
  /-- OUT_CLR_N_ASSERT (R442): A filtered assertion of OUT_CLR_N moves responding channels to their clear codes. -/
  | outClrNAssert
  /-- OUT_CLR_N_RELEASE (R442): A filtered release of OUT_CLR_N returns channels to their signals. -/
  | outClrNRelease
  /-- CLEAR_HELD (R443): OUT_CLR_N held 1 s sets CLEAR_HELD and writes one record. -/
  | clearHeld
  /-- SLEW_RAMP_COMPLETE (R437): A slew-limited ramp reaches its target and the channel enters RUN, CLEAR or OFF. -/
  | slewRampComplete (n : Fin 16)
  /-- RANGE_SETTLED (R445): Gain switching and settling at 0 V end, and the ramp to the new target starts. -/
  | rangeSettled (n : Fin 16)
  /-- FEED_CHANGE (R439): A channel becomes fed or unfed and joins the new code by a ramp. -/
  | feedChange (n : Fin 16)
  /-- WINDOW_LEAVE (R451): COUNT consecutive readings outside the window report the channel and apply WIN_ACT. -/
  | windowLeave (n : Fin 16) (reading : BitVec 16)
  /-- WINDOW_RETURN (R451): COUNT consecutive readings inside the window set IN_WIN again. -/
  | windowReturn (n : Fin 16) (reading : BitVec 16)
  /-- REF_WINDOW_LEAVE (R453): A reference reading outside its window is reported and may stop trust or fault the rails. -/
  | refWindowLeave (r : Fin 8) (reading : BitVec 16)
  /-- REF_WINDOW_RETURN (R453): Four readings back in window restore a reference and re-enable channels after a rail fault. -/
  | refWindowReturn (r : Fin 8) (reading : BitVec 16)
  /-- UART_CHARACTER_RECEIVED (R462): A character completes at its stop bit and enters the receive FIFO with its flags. -/
  | uartCharacterReceived (u : Fin 4) (d : BitVec 8) (fe pe : Bool)
  /-- BREAK_RECEIVED (R466): A break places a marker in the FIFO in MODE 0, or starts DMX handling in MODE 1. -/
  | breakReceived (u : Fin 4) (short : Bool)
  /-- LINE_STUCK (R467): Un_RX low for STUCK_TIME raises LINE_STUCK and silences the receiver. -/
  | lineStuck (u : Fin 4)
  /-- LINE_RELEASED (R467): A stuck line high for 2 bit times returns the receiver to idle. -/
  | lineReleased (u : Fin 4)
  /-- RXD_POP (R464): A read of UARTn_RXD pops the receive FIFO head. -/
  | rxdPop (u : Fin 4)
  /-- UART_DISABLE (R335): A write of EN = 0 stops transmission and refuses every queued SERIAL_TX. -/
  | uartDisable (u : Fin 4) (v : BitVec 32)
  /-- DMX_BREAK_DETECTED (R469): A valid break and MAB start a DMX packet, completing any packet in progress. -/
  | dmxBreakDetected (u : Fin 4)
  /-- DMX_PACKET_COMPLETE (R469): A start-code-0 packet completes and its slots become visible and drive the control map. -/
  | dmxPacketComplete (u : Fin 4)
  /-- DMX_LOSS (R470): No DMX packet for 1.25 s sets DMX_LOSS. -/
  | dmxLoss (u : Fin 4)
  /-- MIDI_MESSAGE_RECEIVED (R471): A complete MIDI channel message is parsed and drives the control map and auto-cast. -/
  | midiMessageReceived (u : Fin 4)
  /-- CONTROL_MAP_COMMIT (R473): A write of UART_CMc_CFG commits a control-map entry at the next boundary. -/
  | controlMapCommit (c : Fin 1024) (v : BitVec 32)
  /-- TDM_ENABLE (R477): A write of TDM EN = 1 starts a port, or is refused. -/
  | tdmEnable (n : Fin 2) (v : BitVec 32)
  /-- TDM_LOCK (R478): 64 consecutive in-range FS edges lock a slave port. -/
  | tdmLock (n : Fin 2)
  /-- TDM_SLIP (R478): Drift beyond ±0.5 frame repeats or drops a frame and sets SLIP. -/
  | tdmSlip (n : Fin 2)
  /-- TDM_CLOCK_LOST (R478): Eight frame times without FS set CLK_LOST and hold-fade the inputs. -/
  | tdmClockLost (n : Fin 2)
  /-- GPIO_SET (R483): A write of GPIO_SET sets GPIO_OUT bits. -/
  | gpioSet (v : BitVec 24)
  /-- GPIO_CLR (R483): A write of GPIO_CLR clears GPIO_OUT bits. -/
  | gpioClr (v : BitVec 24)
  /-- GPIO_FUNC_WRITE (R54): A write of GPIO_FUNC hands pins between GPIO and compare pin latches. -/
  | gpioFuncWrite (v : BitVec 32)
  /-- BANK_POWER_WRITE (R491): A write of PWR moves an SRAM bank between ON, RETAIN and OFF, or is refused. -/
  | bankPowerWrite (b : Fin 48) (v : BitVec 32)
  /-- BANK_POWER_UP_DONE (R491): A powered-up bank is zeroed with valid check bits and reaches ON or RETAIN. -/
  | bankPowerUpDone (b : Fin 48)
  /-- WINDOW_DESCRIPTOR_WRITE (R494): A descriptor field write is checked and held pending, or refused with WIN_REFUSED. -/
  | windowDescriptorWrite (w : Fin 64) (r : Fin 4) (v : BitVec 32)
  /-- REGION_TEST_RESTORE (R497): March C− completes or is cut short; the region is restored and the result reported. -/
  | regionTestRestore (fails : BitVec 4) (sig : BitVec 32)
  /-- SCRUB_LATE (R503): A scrub pass not done within SCRUB_PERIOD sets SCRUB_LATE. -/
  | scrubLate
  /-- VIN_LOW (R506): VIN falling below 4.4 V sets VIN_LOW. -/
  | vinLow (mv : BitVec 16)
  /-- BROWN_OUT (R506): VIN below 4.0 V for 10 µs switches off PD1 to PD16. -/
  | brownOut (mv : BitVec 16)
  /-- VIN_RECOVERED (R506): VIN back in range after a brown-out or overvoltage starts a boot. -/
  | vinRecovered (mv : BitVec 16)
  /-- PLINTH_LOSS (R506): VIN below 3.0 V for 1 ms loses the plinth. -/
  | plinthLoss
  /-- POWER_ON_RESET (R518): VIN rising past 4.4 V with the plinth lost resets everything. -/
  | powerOnReset (mv : BitVec 16)
  /-- VIN_HIGH (R506): VIN above 50 V sets VIN_HIGH. -/
  | vinHigh (mv : BitVec 16)
  /-- OVERVOLTAGE_CUTOFF (R506): VIN above 54 V for 10 µs switches off PD1 to PD16. -/
  | overvoltageCutoff (mv : BitVec 16)
  /-- RAIL_OUT_OF_WINDOW (R507): An internal rail out of window for 10 µs sets RAIL_FAULT and resets with cause RAIL. -/
  | railOutOfWindow (r : Fin 11) (mv : BitVec 32)
  /-- VAUX_OVERCURRENT (R508): VAUX33 above 400 mA switches off and sets VAUX_OC. -/
  | vauxOvercurrent (mv : BitVec 32)
  /-- VAUX_RETRY (R508): Every 100 ms an overcurrent VAUX33 is switched on again. -/
  | vauxRetry
  /-- THERMAL_WARN_CROSS (R509): TJ crosses TH_WARN or 5 °C below it; THERM_N and a record follow. -/
  | thermalWarnCross (t : BitVec 16)
  /-- THERMAL_SHUTDOWN (R509): TJ at 125 °C sends the module to SLEEP at once. -/
  | thermalShutdown (t : BitVec 16)
  /-- THERMAL_RESTART (R509): TJ below 95 °C with AUTO_RESTART wakes the module. -/
  | thermalRestart (t : BitVec 16)
  /-- DOMAIN_ENABLE_WRITE (R510): A write of PWR_DOM_EN switches domains, or leaves an enable at 1 with DOM_REFUSED. -/
  | domainEnableWrite (v : BitVec 32)
  /-- PLL_UNLOCK (R512): A PLL unlocks, stalling its domains and setting PLL_UNLOCK. -/
  | pllUnlock (p : Fin 6)
  /-- PLL_RELOCK (R512): An unlocked PLL locks again and its domains resume. -/
  | pllRelock (p : Fin 6)
  /-- REFERENCE_LOSS (R512): No reference edge for 2 µs stops fast clocks, puts the counter in COARSE and clamps outputs. -/
  | referenceLoss
  /-- REFERENCE_RETURN (R512): The reference returns and the module takes a full reset with cause REF_LOST. -/
  | referenceReturn
  /-- NAP_ENTRY_RAMPS_DONE (R516): Output ramps end; clamps engage, SRAM retains, DRAM self-refreshes and PLLs stop. -/
  | napEntryRampsDone
  /-- WAKE_PIN_RISE (R515): A WAKE rising edge, held 5 ms in SHIP, wakes the module. -/
  | wakePinRise (held : Bool)
  /-- ALARM_COMMIT (R515): A write of PWR_ALARM_HI commits the wake alarm, firing at once if passed. -/
  | alarmCommit (v : BitVec 32)
  /-- ALARM_REACHED (R515): The counter reaches PWR_ALARM and wakes an enabled module. -/
  | alarmReached
  /-- PCIE_WAKE_ACCESS (R515): A BAR access or PERST_N release wakes a module from NAP. -/
  | pcieWakeAccess
  /-- UART_WAKE_EDGE (R515): A falling edge on an enabled Un_RX wakes a module from NAP. -/
  | uartWakeEdge (u : Fin 4)
  /-- RESET_N_ASSERT (R518): RESET_N low for more than 1 µs starts and holds a full reset. -/
  | resetNAssert
  /-- RESET_N_RELEASE (R518): RESET_N released ends the held reset and the module boots. -/
  | resetNRelease
  /-- WATCHDOG_EXPIRY (R518): An unfed MC watchdog for 500 ms writes the crash record and fully resets. -/
  | watchdogExpiry (pc : BitVec 32) (stack : List (BitVec 32))
  /-- BOOT (R564): The MC starts, chooses and verifies firmware, trains DRAM and runs STARTUP. -/
  | boot (bootsel : BitVec 2)
  /-- BOOT_READY (R564): STARTUP ends, cores are returned and READY becomes 1. -/
  | bootReady (res : List TestRes) (rows : List (BitVec 15))
  /-- BOOT_GO (R567): A write of GO makes the MC verify a host-loaded image in BAR2. -/
  | bootGo
  /-- CONFIRM (R563): A write of CONFIRM confirms a trial boot. -/
  | confirm
  /-- CONFIRM_TIMEOUT (R563): CONFIRM_TIME after READY with no reset confirms the trial boot. -/
  | confirmTimeout
  /-- REVERT (R563): A write of REVERT selects the other valid slot for the next full reset. -/
  | revert
  /-- IMAGE_REQUEST_RECEIVED (R569): A serving module answers an image REQUEST with DATA frames and DONE, or REFUSE. -/
  | imageRequestReceived (p : Fin 5)
  /-- IMAGE_DATA_RECEIVED (R568): An image DATA frame is written into the exchange region at its offset. -/
  | imageDataReceived (p : Fin 5)
  /-- IMAGE_DONE_RECEIVED (R568): At DONE the booting module verifies the received image. -/
  | imageDoneReceived (p : Fin 5)
  /-- IMAGE_REFUSE_RECEIVED (R568): A REFUSE makes the booting module try the next UP port. -/
  | imageRefuseReceived (p : Fin 5)
  /-- IMAGE_GAP_TIMEOUT (R568): 100 ms with no image frame makes the booting module restart on the next port. -/
  | imageGapTimeout
  /-- IMAGE_RETRY_PAUSE_END (R568): After the 1 s pause past the last port, the booting module begins again. -/
  | imageRetryPauseEnd
  /-- SLICE_START (R535): At a PERIOD multiple a PERIODIC slice starts the next class's test. -/
  | sliceStart
  /-- SLICE_BUDGET_END (R536): BUDGET µs after its start a slice ends, cutting short a running test. -/
  | sliceBudgetEnd
  /-- TEST_COMPLETE (R528): A test ends with PASS, FAIL or INCOMPLETE, reported and held by its verdict. -/
  | testComplete (good : Bool) (sig : BitVec 32)
  /-- BENCH_WAIT_EXPIRY (R537): A core bench not granted in BENCH_WAIT is withdrawn and reported INCOMPLETE. -/
  | benchWaitExpiry
  /-- RAW_TEST_GO (R530): A write of GO to ST_RAW_CTRL runs one test on a UNIT where permitted, else sets DENIED. -/
  | rawTestGo (v : BitVec 32)
  /-- DEBUG_PORT_INSTRUCTION (R36): An instruction through the Tamlum debug port or JTAG TAP executes, including a global debug halt that stops the fast clocks and puts the counter in COARSE, and its release. -/
  | debugPortInstruction (x : DebugInstr)
  /-- CUR_LIMIT (R449): An output's load current passes ±20 mA, so the stage limits at 25 to 32 mA and sets CUR_LIMIT, or falls back and the live CUR_LIMIT status clears. -/
  | curLimit (n : Fin 16) (on : Bool)
  /-- VIN_WITHIN_RANGE (R506): VIN returns within 4.5 to 48 V after VIN_LOW or VIN_HIGH without a brown-out or cut-off, and a SUPPLY record with reason 4 is written. -/
  | vinWithinRange (mv : BitVec 16)
  /-- PCIE_ERROR (R345): The PCIe endpoint detects a correctable or uncorrectable error; it is counted, and an uncorrectable error writes a PCIE record on source 12. -/
  | pcieError (correctable : Bool) (aer : BitVec 32)
  /-- TDM_INPUT_BLOCK_READY (R271): A TDM port has taken a block of input frames; the STREAM line is raised on cluster E, or the frames are counted as input overruns when cluster E is not in service. -/
  | tdmInputBlockReady (n : Fin 2) (k : BitVec 40) (frames : List (List (BitVec 24)))
  /-- UART_RX_SUMMARY (R485): 100 ms after a UART_RX framing or overrun record, errors counted since then are reported in one record with the count. -/
  | uartRxSummary (u : Fin 4) (overrun : Bool)
  /-- UPDATE_BENCH_TIMEOUT (R575): A rolling-update bench not granted within DRAIN_MAX + 1 s is a cluster failure, and the update is rolled back and completes REFUSED with DETAIL 3. -/
  | updateBenchTimeout
deriving DecidableEq, Repr

end Sys2Proof
end

