-- ==== Sys2Proof/Decode.lean ====
section
/-!
DEFINITION. The command a word spells. The table gives none of its rows any bits (every row's list of fields is empty): the
commands of this block are register accesses, descriptors, frames and events, and no word is one of them.
-/
namespace Sys2Proof

/-- The command whose `nbits` bits are `w`: none, as no row has bits. -/
def decodeTableWord (_nbits _w : Nat) : Option Instr := none

end Sys2Proof
end

