-- ==== Sys2Proof/Config.lean ====
section
/-!
DEFINITION. The free values: what the spec leaves open. Each is a constant with no body, so no proof can see it.
-/
namespace Sys2Proof.Config

/-- An open 32-bit word, by the counter `State.fresh`. (Log: 5 DESIGN CHOICE.) -/
opaque freeWord : Nat → BitVec 32
/-- An open number. (Log: 5 DESIGN CHOICE.) -/
opaque freeNat : Nat → Nat
/-- An open choice of yes or no. (Log: 5 DESIGN CHOICE.) -/
opaque freeBool : Nat → Bool

/-- The binary32 value the armature computes for sin(2 pi x), where its error bound admits it (R63, R74, R139).
(Log: 6 DESIGN CHOICE.) -/
opaque fSin2Pi : BitVec 32 → BitVec 32
/-- The same for tan(pi x) (R106). (Log: 6 DESIGN CHOICE.) -/
opaque fTanPi : BitVec 32 → BitVec 32
/-- The same for tanh (R108, R114). (Log: 6 DESIGN CHOICE.) -/
opaque fTanh : BitVec 32 → BitVec 32
/-- The same for 2^x (R59, R105, R131). (Log: 6 DESIGN CHOICE.) -/
opaque fExp2 : BitVec 32 → BitVec 32
/-- The same for log2 (R78). (Log: 6 DESIGN CHOICE.) -/
opaque fLog2 : BitVec 32 → BitVec 32
/-- The same for e^x (R133, R146). (Log: 6 DESIGN CHOICE.) -/
opaque fExp : BitVec 32 → BitVec 32
/-- The same for 10^(x/20), the gain of a level in dB (R92). (Log: 6 DESIGN CHOICE.) -/
opaque fDb : BitVec 32 → BitVec 32
/-- The band-limited step s at phase index i of 256 a sample (R65). (Log: 7 DESIGN CHOICE.) -/
opaque bandStep : Nat → BitVec 32
/-- Tap i of resampling stage 1 up to its middle, tap 28 (R103). (Log: 7 DESIGN CHOICE.) -/
opaque firHalf1 : Nat → BitVec 32
/-- Tap i of resampling stage 2 up to its middle, tap 8 (R103). (Log: 7 DESIGN CHOICE.) -/
opaque firHalf2 : Nat → BitVec 32
/-- The windowed sinc of the interpolator with n taps, k/512 point from its middle (R84). (Log: 7 DESIGN CHOICE.) -/
opaque sincAt : Nat → Nat → BitVec 32
/-- One step of the pink-noise filter: its state and a white sample give the new state and its output (R90).
(Log: 8 DESIGN CHOICE.) -/
opaque pinkStep : List (BitVec 32) → BitVec 32 → List (BitVec 32) × BitVec 32
/-- The 64-bit start phase PHASE_MODE random draws from R for an oscillator (R93). (Log: 9 DESIGN CHOICE.) -/
opaque randomPhase : BitVec 32 → Nat → BitVec 64

/-- UNIT of an FX_FAULT record of a bus channel's equaliser (0) or compressor (1), which R359 does not give: bus, which.
(Log: 174 DESIGN CHOICE.) -/
opaque chainUnit : Nat → Nat → BitVec 8
/-- What an effect program's RENDER leaves in its output buffer: UID, instance, channel, frame (R298).
(Log: 10 DESIGN CHOICE.) -/
opaque effectOut : Nat → Nat → Nat → Nat → BitVec 32
/-- What a stage's RENDER leaves in its output buffer: UID, instance, frame, input (R298). (Log: 10 DESIGN CHOICE.) -/
opaque stageOut : Nat → Nat → Nat → BitVec 32 → BitVec 32
/-- What a voice maquette's RENDER adds into the partial sums: UID, a number for the call, bus, frame in the block (R298).
(Log: 10 DESIGN CHOICE.) -/
opaque voiceOut : Nat → Nat → Nat → Nat → BitVec 32
/-- The bus each return channel of a served partnership carries: node, partnership, channel (R186). (Log: 11 DESIGN CHOICE.) -/
opaque laneBus : Nat → Nat → Nat → Nat

/-- What the core computes for the functions of R260 with only an error bound: FUNC and operand. (Log: 12 DESIGN CHOICE.) -/
opaque coreFn : Nat → BitVec 32 → BitVec 32
/-- Which of two zeros of different sign FMIN and FMAX answer (R260). (Log: 13 DEDUCED.) -/
opaque zeroPick : Bool

/-- Slot 0's public key in ROM, 64 bytes (R546). (Log: 15 DESIGN CHOICE.) -/
opaque romKey : List (BitVec 8)
/-- ARM_REV of the baseline armature in ROM (R561). (Log: 15 DESIGN CHOICE.) -/
opaque romArmRev : BitVec 32

end Sys2Proof.Config
end

