-- ==== Sys2Proof/Machine/Tbl.lean ====
section
/-!
DEFINITION. Sparse tables in one canonical form: keys strictly rising, and no entry equal to what an unlisted key
reads as. Memory is a table of bytes; the register fields are a table of numbers.
-/
namespace Sys2Proof.Machine

/-- A sparse table: (key, value) pairs. -/
abbrev Tbl (α : Type) := List (Nat × α)

/-- The value at a key; `d` is what an unlisted key reads as. -/
def Tbl.get {α : Type} (d : α) : Tbl α → Nat → α
  | [], _ => d
  | (k', v) :: t, k => if k' = k then v else Tbl.get d t k

/-- Remove a key. -/
def Tbl.erase {α : Type} : Tbl α → Nat → Tbl α
  | [], _ => []
  | (k', v) :: t, k => if k' = k then Tbl.erase t k else (k', v) :: Tbl.erase t k

/-- Insert a key before the first greater one. -/
def Tbl.insert {α : Type} : Tbl α → Nat → α → Tbl α
  | [], k, v => [(k, v)]
  | (k', v') :: t, k, v => if k < k' then (k, v) :: (k', v') :: t else (k', v') :: Tbl.insert t k v

/-- Write a key: an entry equal to the unlisted value is removed, so equal tables are equal data. -/
def Tbl.put {α : Type} [DecidableEq α] (d : α) (t : Tbl α) (k : Nat) (v : α) : Tbl α :=
  if v = d then t.erase k else (t.erase k).insert k v

/-- Keys strictly rise from `lo` on and no value is `d`. -/
def Tbl.wfFrom {α : Type} [DecidableEq α] (d : α) : Nat → Tbl α → Bool
  | _, [] => true
  | lo, (k, v) :: t => decide (lo ≤ k) && decide (v ≠ d) && Tbl.wfFrom d (k + 1) t

/-- The canonical form. -/
def Tbl.wf {α : Type} [DecidableEq α] (d : α) (t : Tbl α) : Bool := Tbl.wfFrom d 0 t

/-- Remove every key a predicate names. -/
def Tbl.drop {α : Type} (p : Nat → Bool) (t : Tbl α) : Tbl α := t.filter (fun e => !p e.1)

/-- Memory: bytes by address. Unlisted bytes read 0 (assumption 3). -/
abbrev Memory := Tbl (BitVec 8)

/-- The canonical form of memory. (Log: 3 DESIGN CHOICE.) -/
abbrev Memory.wf (m : Memory) : Bool := Tbl.wf (0 : BitVec 8) m

/-- One byte of memory. (Log: 3 DESIGN CHOICE.) -/
def Memory.byte (m : Memory) (a : Nat) : BitVec 8 := Tbl.get 0 m a
/-- Write one byte. (Log: 3 DESIGN CHOICE.) -/
def Memory.setByte (m : Memory) (a : Nat) (b : BitVec 8) : Memory := Tbl.put 0 m a b

/-- `n` bytes from an address up, as a list. -/
def Memory.bytes (m : Memory) (a : Nat) : Nat → List (BitVec 8)
  | 0 => []
  | n + 1 => m.byte a :: m.bytes (a + 1) n

/-- Write a list of bytes from an address up. -/
def Memory.setBytes (m : Memory) (a : Nat) : List (BitVec 8) → Memory
  | [] => m
  | b :: bs => (m.setByte a b).setBytes (a + 1) bs

/-- The number a list of bytes spells, least significant byte first (R1). -/
def leNat : List (BitVec 8) → Nat
  | [] => 0
  | b :: bs => b.toNat + 256 * leNat bs

/-- The `n` bytes of a number, least significant byte first (R1). -/
def leBytes : Nat → Nat → List (BitVec 8)
  | 0, _ => []
  | n + 1, v => BitVec.ofNat 8 v :: leBytes n (v / 256)

/-- The little-endian number in `n` bytes at an address. -/
def Memory.nat (m : Memory) (a n : Nat) : Nat := leNat (m.bytes a n)
/-- Write the `n` low bytes of a number, little-endian. -/
def Memory.setNat (m : Memory) (a n v : Nat) : Memory := m.setBytes a (leBytes n v)
/-- Set `n` bytes from an address to 0. -/
def Memory.clear (m : Memory) (a n : Nat) : Memory := Tbl.drop (fun k => decide (a ≤ k ∧ k < a + n)) m

/-- The bits `hi .. lo` of a number. -/
def bits (v lo w : Nat) : Nat := (v / 2 ^ lo) % 2 ^ w
/-- One bit of a number. -/
def bit (v i : Nat) : Bool := (v / 2 ^ i) % 2 == 1
/-- 1 or 0. -/
def b2n (b : Bool) : Nat := if b then 1 else 0
/-- A `w`-bit number read as two's complement. -/
def toS (w v : Nat) : Int := if 2 ^ (w - 1) ≤ v % 2 ^ w then ((v % 2 ^ w : Nat) : Int) - (2 ^ w : Nat) else ((v % 2 ^ w : Nat) : Int)
/-- The `w`-bit two's complement of an integer. -/
def ofS (w : Nat) (i : Int) : Nat := (i % ((2 ^ w : Nat) : Int)).toNat
/-- An integer held to the range of a `w`-bit two's complement number. -/
def satS (w : Nat) (i : Int) : Int :=
  if i < -((2 ^ (w - 1) : Nat) : Int) then -((2 ^ (w - 1) : Nat) : Int)
  else if ((2 ^ (w - 1) : Nat) : Int) ≤ i then ((2 ^ (w - 1) : Nat) : Int) - 1 else i

end Sys2Proof.Machine
end

