-- ==== Sys2Proof/Machine/Float.lean ====
section
/-!
DEFINITION. Binary32 arithmetic by R253: rounding to nearest with ties to even, subnormals flushed to zero of their
sign, one NaN. Every operation answers its value and the flags it raises.
-/
namespace Sys2Proof.Machine

/-- A binary32 value as its 32 bits. -/
abbrev F32 := BitVec 32

/-- Flags of R250: INV, OVF, UNF. -/
structure FFlags where
  /-- Invalid operation. -/
  inv : Bool
  /-- Overflow. -/
  ovf : Bool
  /-- A result was flushed. -/
  unf : Bool
deriving DecidableEq, Repr

/-- No flag. -/
def noFlags : FFlags := ⟨false, false, false⟩
/-- The NaN every invalid operation returns (R253). -/
def fNaN : F32 := 0x7FC00000
/-- +1.0. -/
def fOne : F32 := 0x3F800000
/-- 0.5. -/
def fHalf : F32 := 0x3F000000
/-- 2.0. -/
def fTwo : F32 := 0x40000000

/-- Sign bit. -/
def fSign (x : F32) : Bool := x.toNat / 2 ^ 31 == 1
/-- Biased exponent. -/
def fExpo (x : F32) : Nat := x.toNat / 2 ^ 23 % 256
/-- Fraction bits. -/
def fFrac (x : F32) : Nat := x.toNat % 2 ^ 23
/-- Is it a NaN? -/
def fIsNaN (x : F32) : Bool := fExpo x == 255 && fFrac x != 0
/-- Is it an infinity? -/
def fIsInf (x : F32) : Bool := fExpo x == 255 && fFrac x == 0
/-- Neither infinity nor NaN. -/
def fFinite (x : F32) : Bool := fExpo x != 255
/-- Zero, subnormals included (R253 replaces them). -/
def fIsZero (x : F32) : Bool := fExpo x == 0

/-- A finite value as mantissa m and exponent e: m x 2^e. -/
def fMant (x : F32) : Int :=
  let m : Int := if fExpo x = 0 then 0 else ((2 ^ 23 + fFrac x : Nat) : Int)
  if fSign x then -m else m
/-- The exponent that goes with `fMant`. -/
def fE (x : F32) : Int := (fExpo x : Int) - 150

/-- Zero of a sign. -/
def fZero (neg : Bool) : F32 := if neg then 0x80000000 else 0
/-- Infinity of a sign. -/
def fInf (neg : Bool) : F32 := if neg then 0xFF800000 else 0x7F800000
/-- Change the sign bit. -/
def fNegate (x : F32) : F32 := x ^^^ 0x80000000
/-- Clear the sign bit. -/
def fAbsol (x : F32) : F32 := x &&& 0x7FFFFFFF

/-- Shift right with rounding to nearest, ties to even. -/
def shiftRne (m k : Nat) : Nat :=
  let q := m / 2 ^ k
  let r := m % 2 ^ k
  if k = 0 then m
  else if 2 ^ (k - 1) < r ∨ (r = 2 ^ (k - 1) ∧ q % 2 = 1) then q + 1 else q

/-- Round m x 2^e to binary32; a zero takes the sign given. (Log: 140 DEDUCED.) -/
def fRound (neg : Bool) (m : Nat) (e : Int) : F32 × FFlags :=
  if m = 0 then (fZero neg, noFlags)
  else
    let l := m.log2
    let (q, e') : Nat × Int :=
      if l ≤ 23 then (m * 2 ^ (23 - l), e - ((23 - l : Nat) : Int))
      else
        let q := shiftRne m (l - 23)
        if q = 2 ^ 24 then (2 ^ 23, e + ((l - 22 : Nat) : Int)) else (q, e + ((l - 23 : Nat) : Int))
    let b := e' + 150
    if 255 ≤ b then (fInf neg, ⟨false, true, false⟩)
    else if b ≤ 0 then (fZero neg, ⟨false, false, true⟩)
    else (BitVec.ofNat 32 ((if neg then 2 ^ 31 else 0) + b.toNat * 2 ^ 23 + (q - 2 ^ 23)), noFlags)

/-- Round an integer mantissa; a zero is +0. (Log: 140 DEDUCED.) -/
def fRoundI (m e : Int) : F32 × FFlags := fRound (decide (m < 0)) m.natAbs e

/-- An invalid result. -/
def fInvalid : F32 × FFlags := (fNaN, ⟨true, false, false⟩)

/-- Exact sum of m1 x 2^e1 and m2 x 2^e2, rounded; `negz` is the sign of an exact zero. -/
def fSum (m1 e1 m2 e2 : Int) (negz : Bool) : F32 × FFlags :=
  let e := min e1 e2
  let m := m1 * 2 ^ (e1 - e).toNat + m2 * 2 ^ (e2 - e).toNat
  if m = 0 then (fZero negz, noFlags) else fRoundI m e

/-- a + b. -/
def fAddF (a b : F32) : F32 × FFlags :=
  if fIsNaN a || fIsNaN b then fInvalid
  else if fIsInf a then (if fIsInf b && fSign a != fSign b then fInvalid else (a, noFlags))
  else if fIsInf b then (b, noFlags)
  else fSum (fMant a) (fE a) (fMant b) (fE b) (fSign a && fSign b)

/-- a x b. -/
def fMulF (a b : F32) : F32 × FFlags :=
  let neg := fSign a != fSign b
  if fIsNaN a || fIsNaN b then fInvalid
  else if fIsInf a || fIsInf b then (if fIsZero a || fIsZero b then fInvalid else (fInf neg, noFlags))
  else fRound neg ((fMant a).natAbs * (fMant b).natAbs) (fE a + fE b)

/-- a x b + c with one rounding. -/
def fFmaF (a b c : F32) : F32 × FFlags :=
  let neg := fSign a != fSign b
  if fIsNaN a || fIsNaN b || fIsNaN c then fInvalid
  else if fIsInf a || fIsInf b then
    if fIsZero a || fIsZero b then fInvalid
    else if fIsInf c && fSign c != neg then fInvalid else (fInf neg, noFlags)
  else if fIsInf c then (c, noFlags)
  else fSum (fMant a * fMant b) (fE a + fE b) (fMant c) (fE c) (neg && fSign c)

/-- a / b. -/
def fDivF (a b : F32) : F32 × FFlags :=
  let neg := fSign a != fSign b
  if fIsNaN a || fIsNaN b then fInvalid
  else if fIsInf a then (if fIsInf b then fInvalid else (fInf neg, noFlags))
  else if fIsInf b then (fZero neg, noFlags)
  else if fIsZero b then (if fIsZero a then fInvalid else (fInf neg, noFlags))
  else
    let n := (fMant a).natAbs * 2 ^ 32
    let d := (fMant b).natAbs
    fRound neg (2 * (n / d) + (if n % d = 0 then 0 else 1)) (fE a - fE b - 33)

/-- Largest r with r x r ≤ n, by bits from `k` down. -/
def natSqrt (n : Nat) : Nat → Nat → Nat
  | 0, r => r
  | k + 1, r => let r' := r + 2 ^ k; natSqrt n k (if r' * r' ≤ n then r' else r)

/-- The square root. -/
def fSqrtF (a : F32) : F32 × FFlags :=
  if fIsNaN a then fInvalid
  else if fIsZero a then (fZero (fSign a), noFlags)
  else if fSign a then fInvalid
  else if fIsInf a then (a, noFlags)
  else
    let odd := (fE a) % 2 = 1
    let m := (fMant a).natAbs * (if odd then 2 ^ 41 else 2 ^ 40)
    let e := if odd then fE a - 41 else fE a - 40
    let r := natSqrt m 34 0
    fRound false (2 * r + (if r * r = m then 0 else 1)) (e / 2 - 1)

/-- a + b, value only. (Log: 26 DEDUCED.) -/
def fAdd (a b : F32) : F32 := (fAddF a b).1
/-- a - b. (Log: 26 DEDUCED.) -/
def fSub (a b : F32) : F32 := (fAddF a (fNegate b)).1
/-- a x b. (Log: 26 DEDUCED.) -/
def fMul (a b : F32) : F32 := (fMulF a b).1
/-- a / b. (Log: 26 DEDUCED.) -/
def fDiv (a b : F32) : F32 := (fDivF a b).1
/-- The square root. -/
def fSqrt (a : F32) : F32 := (fSqrtF a).1

/-- The value n / d rounded. -/
def fRat (n : Int) (d : Nat) : F32 :=
  if d = 0 then fNaN
  else
    let k := 40 + d.log2
    let q := n.natAbs * 2 ^ k
    (fRound (decide (n < 0)) (2 * (q / d) + (if q % d = 0 then 0 else 1)) (-(k : Int) - 1)).1

/-- An integer rounded. -/
def fInt (n : Int) : F32 := (fRoundI n 0).1

/-- floor of a finite value x 2^k; 0 for infinities and NaN. -/
def fFloorScaled (x : F32) (k : Int) : Int :=
  if !fFinite x then 0
  else
    let e := fE x + k
    if 0 ≤ e then fMant x * 2 ^ e.toNat else fMant x / 2 ^ (-e).toNat

/-- floor. -/
def fFloorI (x : F32) : Int := fFloorScaled x 0
/-- A finite value x 2^k rounded to the nearest integer, halves upward. -/
def fNearScaled (x : F32) (k : Int) : Int := (fFloorScaled x (k + 1) + 1) / 2

/-- a < b for non-NaN values; zeros are equal whatever their sign. -/
def fLt (a b : F32) : Bool :=
  if fIsNaN a || fIsNaN b then false
  else
    let key (x : F32) : Int :=
      if fIsZero x then 0 else (if fSign x then -((x.toNat % 2 ^ 31 : Nat) : Int) else ((x.toNat % 2 ^ 31 : Nat) : Int))
    decide (key a < key b)
/-- a ≤ b. -/
def fLe (a b : F32) : Bool := !fIsNaN a && !fIsNaN b && !fLt b a
/-- a = b as numbers. -/
def fEq (a b : F32) : Bool := fLe a b && fLe b a
/-- The larger. -/
def fMaxV (a b : F32) : F32 := if fLt a b then b else a
/-- The smaller. -/
def fMinV (a b : F32) : F32 := if fLt b a then b else a
/-- Held to lo .. hi. -/
def fClamp (lo hi x : F32) : F32 := if fLt x lo then lo else if fLt hi x then hi else x

end Sys2Proof.Machine
end

