-- ==== Sys2Proof/Machine/Elem.lean ====
section
/-!
DEFINITION. Elementary functions: the exact value to some 80 bits in integers, and beside it the binary32 value that the
hardware computes, an open value held to the error bound of R63 and R260.
-/
namespace Sys2Proof.Machine

/-- A number m x 2^e. -/
structure Approx where
  /-- m. -/
  m : Int
  /-- e. -/
  e : Int
deriving DecidableEq, Repr

/-- Numbers in units of 2^-96. -/
abbrev Fix := Int

/-- 1 in units of 2^-96. -/
def fixOne : Fix := 2 ^ 96
/-- Product of two. -/
def fixMul (a b : Fix) : Fix := a * b / fixOne
/-- A binary32 value in those units, rounded down. -/
def fixOf (x : F32) : Fix := fFloorScaled x 96

/-- Alternating or plain odd series: the sum of (±1)^i x^(2i+1) / (2i+1) over `n` terms from i, `p` being the power at i. -/
def oddSeries (alt : Bool) (x2 : Fix) : Nat → Nat → Fix → Fix
  | 0, _, _ => 0
  | n + 1, i, p => p / (2 * i + 1 : Nat) + oddSeries alt x2 n (i + 1) (if alt then -(fixMul p x2) else fixMul p x2)

/-- π = 16 arctan 1/5 - 4 arctan 1/239. -/
def fixPi : Fix :=
  let arctan (k : Nat) : Fix := oddSeries true (fixOne / (k * k : Nat)) 24 0 (fixOne / k)
  16 * arctan 5 - 4 * arctan 239

/-- ln of a value from 1 to 2, by ln x = 2 artanh ((x - 1) / (x + 1)). -/
def fixLn (x : Fix) : Fix :=
  let z := (x - fixOne) * fixOne / (x + fixOne)
  2 * oddSeries false (fixMul z z) 34 0 z
/-- ln 2. -/
def fixLn2 : Fix := fixLn (2 * fixOne)
/-- log2 10. -/
def fixLog10 : Fix := 3 * fixOne + fixLn (fixOne + fixOne / 4) * fixOne / fixLn2

/-- The exponential series from term `i`, whose value is `p`. -/
def expSeries (x : Fix) : Nat → Nat → Fix → Fix
  | 0, _, _ => 0
  | n + 1, i, p => p + expSeries x n (i + 1) (fixMul p x / (i + 1 : Nat))

/-- 2^y. -/
def exp2Of (y : Fix) : Approx := ⟨expSeries (fixMul (y % fixOne) fixLn2) 30 0 fixOne, y / fixOne - 96⟩

/-- The sine series from term `i`, whose value is `p`; `x2` is minus the square. -/
def sinSeries (x2 : Fix) : Nat → Nat → Fix → Fix
  | 0, _, _ => 0
  | n + 1, i, p => p + sinSeries x2 n (i + 1) (fixMul p x2 / ((2 * i + 2) * (2 * i + 3) : Nat))

/-- sin(2πf) for f from 0 to 1/4. -/
def sinQuarter (f : Fix) : Fix :=
  let x := fixMul (2 * fixPi) f
  sinSeries (-(fixMul x x)) 20 0 x

/-- sin(2πx). -/
def sinOf (x : Fix) : Fix :=
  let f := x % fixOne
  let h := f % (fixOne / 2)
  let v := sinQuarter (min h (fixOne / 2 - h))
  if f < fixOne / 2 then v else -v

/-- A value of that magnitude rounded to binary32. -/
def Approx.round (a : Approx) : F32 := (fRoundI a.m a.e).1

/-- A binary32 value in units of 2^e, rounded down. -/
def inUnits (x : F32) (e : Int) : Int := fFloorScaled x (-e)

/-- The hardware's value `c` where it lies within `b` units of the exact value, which stands in those units; else the
exact value rounded: so what the hardware computes is open, and its error bound holds. (Log: 6 DESIGN CHOICE.) -/
def Approx.held (a : Approx) (b : Int) (c : F32) : F32 :=
  if fFinite c && fExpo c != 0 && decide ((inUnits c a.e - a.m).natAbs + 1 < b) then c else a.round

/-- One unit in the last place of binary32 at the exact value, in its own units. -/
def Approx.ulp (a : Approx) : Int := 2 ^ (a.m.natAbs.log2 - 23)

/-- sin(2πx), error below 2^-23; `c` is the hardware's value (R63, R260). -/
def sin2PiOf (x c : F32) : F32 :=
  let a : Approx := ⟨sinOf (fixOf x), -96⟩
  if a.m = 0 then fZero (fSign x) else a.held (2 ^ 73) c

/-- tan(πx) for 0 to 0.49, relative error below 2^-23 (R260). -/
def tanPiOf (x c : F32) : F32 :=
  if fIsZero x then 0
  else
    let h := fixOf x / 2
    let a : Approx := if fExpo x < 95 then ⟨fMant x * fixPi, fE x - 96⟩
      else ⟨sinOf h * fixOne / sinOf (h + fixOne / 4), -96⟩
    a.held (a.m / 2 ^ 23) c

/-- 2^x within 2 ulp (R260), for a finite x. -/
def exp2Val (x c : F32) : F32 := let a := exp2Of (fixOf x); a.held (2 * a.ulp) c

/-- log2 x within 2 ulp (R260), for a finite x above 0. -/
def log2Val (x c : F32) : F32 :=
  let y := ((fExpo x : Int) - 127) * fixOne + fixLn ((2 ^ 23 + fFrac x : Nat) * 2 ^ 73) * fixOne / fixLn2
  if fFrac x = 0 then fInt ((fExpo x : Int) - 127) else let a : Approx := ⟨y, -96⟩; a.held (2 * a.ulp) c

/-! ### What the armature computes -/

/-- sin(2πx) as the armature computes it, held to the bound of R63 (R63, R74, R114, R117, R139). (Log: 6 DESIGN CHOICE.) -/
def fSin2Pi (x : F32) : F32 := if !fFinite x then fNaN else sin2PiOf x (Config.fSin2Pi x)

/-- tan(πx) from 0 to 0.49, held to the bound of R260 (R106, R108). (Log: 6 DESIGN CHOICE.) -/
def fTanPi (x : F32) : F32 := if !fFinite x ∨ fSign x then fNaN else tanPiOf x (Config.fTanPi x)

/-- 2^y for y in units of 2^-96, within 2 ulp of `c`'s choosing; overflow and underflow by R253. -/
def powOf (y : Fix) (c : F32) : F32 :=
  if 128 * fixOne ≤ y then fInf false
  else if y < -126 * fixOne then 0
  else let a := exp2Of y; a.held (2 * a.ulp) c

/-- 2^x within the bound of R260 (R59, R81, R105, R131). (Log: 6 DESIGN CHOICE.) -/
def fExp2 (x : F32) : F32 :=
  if fIsNaN x then fNaN else if fIsInf x then (if fSign x then 0 else x)
  else if fIsZero x then fOne
  else if 134 < fExpo x then (if fSign x then 0 else fInf false) else powOf (fixOf x) (Config.fExp2 x)

/-- log2 x within the bound of R260 (R78, R224). (Log: 6 DESIGN CHOICE.) -/
def fLog2 (x : F32) : F32 :=
  if fIsNaN x then fNaN else if fIsZero x then fInf true else if fSign x then fNaN
  else if fIsInf x then x else log2Val x (Config.fLog2 x)

/-- e^x (R133, R146). (Log: 6 DESIGN CHOICE.) -/
def fExp (x : F32) : F32 :=
  if fIsNaN x then fNaN else if fIsInf x then (if fSign x then 0 else x)
  else if fIsZero x then fOne
  else if 134 < fExpo x then (if fSign x then 0 else fInf false)
  else powOf (fixOf x * fixOne / fixLn2) (Config.fExp x)

/-- 10^(x/20), exactly 1 at 0 dB (R92). (Log: 6 DESIGN CHOICE.) -/
def fDb (x : F32) : F32 :=
  if fIsNaN x then fNaN else if fIsInf x then (if fSign x then 0 else x)
  else if fIsZero x then fOne
  else if 138 < fExpo x then (if fSign x then 0 else fInf false)
  else powOf (fixMul (fixOf x) fixLog10 / 20) (Config.fDb x)

/-- tanh x (R108, R114). (Log: 6 DESIGN CHOICE.) -/
def fTanh (x : F32) : F32 :=
  if fIsNaN x then fNaN
  else if fIsZero x then x
  else if 132 < fExpo x then (if fSign x then 0xBF800000 else fOne)
  else
    let a : Approx :=
      if fExpo x < 97 then ⟨fMant x * 2 ^ 80, fE x - 80⟩
      else
        let p := exp2Of (2 * (fAbsol x |> fixOf) * fixOne / fixLn2)
        let w := p.m * 2 ^ (p.e + 96).toNat
        let t := (w - fixOne) * fixOne / (w + fixOne)
        ⟨if fSign x then -t else t, -96⟩
    a.held (2 * a.ulp) (Config.fTanh x)

end Sys2Proof.Machine
end

