-- ==== Sys2Proof/Machine/Crypto.lean ====
section
/-!
DEFINITION. SHA-256 (FIPS 180-4) and ECDSA P-256 verification (FIPS 186-4), which R288 and R551 name.
-/
namespace Sys2Proof.Machine

/-! ### SHA-256 -/

/-- The k-th root of `x` rounded down, its low `n` bits found from the top and put below `r`. -/
def rootBits (k x : Nat) : Nat → Nat → Nat
  | 0, r => r
  | n + 1, r => rootBits k x n (if (r + 2 ^ n) ^ k ≤ x then r + 2 ^ n else r)

/-- The first 32 bits of the fraction of the k-th root of `p`. -/
def rootFrac (k p : Nat) : BitVec 32 := BitVec.ofNat 32 (rootBits k (p * 2 ^ (32 * k)) 40 0)

/-- The primes below 312, of which there are 64: 18 x 18 is above 312. -/
def shaPrimes : List Nat :=
  (List.range 312).filter (fun p => decide (2 ≤ p) && (List.range 18).all (fun d => decide (d < 2 ∨ p ≤ d ∨ p % d ≠ 0)))

/-- The 64 round constants: of the cube roots of the first 64 primes. -/
def shaK : List (BitVec 32) := shaPrimes.map (rootFrac 3)

/-- The initial hash value: of the square roots of the first 8 primes. -/
def shaInit : List (BitVec 32) := (shaPrimes.take 8).map (rootFrac 2)

/-- The number a list of bytes spells, most significant byte first. -/
def beNat : List (BitVec 8) → Nat := fun l => l.foldl (fun n b => 256 * n + b.toNat) 0

/-- The exclusive or of a word's rotations to the right. -/
def rotSum (l : List Nat) (x : BitVec 32) : BitVec 32 := l.foldl (fun y n => y ^^^ x.rotateRight n) 0

/-- Extend the message schedule, held newest first, to 64 words. -/
def shaSched : Nat → List (BitVec 32) → List (BitVec 32)
  | 0, w => w
  | n + 1, w =>
    let ago (i : Nat) : BitVec 32 := w.getD (i - 1) 0
    let part (i r1 r2 sh : Nat) : BitVec 32 := rotSum [r1, r2] (ago i) ^^^ (ago i >>> sh)
    shaSched n (([ago 7, part 15 7 18 3, ago 16].foldl (fun x y => x + y) (part 2 17 19 10)) :: w)

/-- One round on the eight working words. -/
def shaRound (h : List (BitVec 32)) (kw : BitVec 32) : List (BitVec 32) :=
  let x (i : Nat) : BitVec 32 := h.getD i 0
  let choice := (x 4 &&& x 5) ||| (~~~(x 4) &&& x 6)
  let most := (x 0 &&& (x 1 ||| x 2)) ||| (x 1 &&& x 2)
  let add := x 7 + kw + choice + rotSum [25, 11, 6] (x 4)
  let out := h.take 7
  (add + most + rotSum [22, 13, 2] (x 0)) :: (out.take 3 ++ (x 3 + add) :: out.drop 4)

/-- One 64-byte block. -/
def shaBlock (h : List (BitVec 32)) (blk : List (BitVec 8)) : List (BitVec 32) :=
  let w := (List.range 16).map (fun i => BitVec.ofNat 32 (beNat ((blk.drop (4 * i)).take 4)))
  let w := (shaSched 48 w.reverse).reverse
  let h' := ((shaK.zip w).map (fun x => x.1 + x.2)).foldl shaRound h
  (h.zip h').map (fun x => x.1 + x.2)

/-- Block after block. -/
def shaBlocks : Nat → List (BitVec 32) → List (BitVec 8) → List (BitVec 32)
  | 0, h, _ => h
  | n + 1, h, m => shaBlocks n (shaBlock h (m.take 64)) (m.drop 64)

/-- SHA-256 of a message, 32 bytes. -/
def sha256 (m : List (BitVec 8)) : List (BitVec 8) :=
  let l := m.length
  let p := m ++ [0x80] ++ List.replicate ((119 - l % 64) % 64) 0 ++ (leBytes 8 (8 * l)).reverse
  (shaBlocks (p.length / 64) shaInit p).flatMap (fun w => (leBytes 4 w.toNat).reverse)

/-! ### ECDSA over P-256 -/

/-- The field's prime. -/
def p256 : Nat := 2 ^ 256 - 2 ^ 224 + 2 ^ 192 + 2 ^ 96 - 1
/-- The order of the base point. -/
def n256 : Nat := 0xffffffff00000000ffffffffffffffffbce6faada7179e84f3b9cac2fc632551
/-- The curve's b. -/
def b256 : Nat := 0x5ac635d8aa3a93e7b3ebbd55769886bc651d06b0cc53b0f63bce3c3e27d2604b
/-- The base point. -/
def g256 : Nat × Nat :=
  (0x6b17d1f2e12c4247f8bce6e563a440f277037d812deb33a0f4a13945d898c296,
   0x4fe342e2fe1a7f9b8ee7eb4a7c0f9e162bce33576b315ececbb6406837bf51f5)

/-- b^e modulo m over the low `k` bits of e. -/
def powMod (b e m : Nat) : Nat → Nat
  | 0 => 1
  | k + 1 => let r := powMod (b * b % m) (e / 2) m k; if e % 2 = 1 then b * r % m else r
/-- The inverse modulo a prime. -/
def invMod (a m : Nat) : Nat := powMod (a % m) (m - 2) m 256
/-- Difference modulo the field's prime. -/
def subP (a b : Nat) : Nat := (a + p256 - b % p256) % p256

/-- Sum of two points; none is the point at infinity. -/
def addPt : Option (Nat × Nat) → Option (Nat × Nat) → Option (Nat × Nat)
  | none, q => q
  | p, none => p
  | some (x1, y1), some (x2, y2) =>
    if x1 = x2 ∧ (y1 + y2) % p256 = 0 then none
    else
      let l := if x1 = x2 then (3 * x1 * x1 + p256 - 3) % p256 * invMod (2 * y1) p256 % p256
        else subP y2 y1 * invMod (subP x2 x1) p256 % p256
      let x3 := subP (l * l) (x1 + x2)
      some (x3, subP (l * subP x1 x3) y1)

/-- k times a point, over the low `n` bits of k. -/
def mulPt (p : Option (Nat × Nat)) (k : Nat) : Nat → Option (Nat × Nat)
  | 0 => none
  | n + 1 => let r := mulPt (addPt p p) (k / 2) n; if k % 2 = 1 then addPt p r else r

/-- Does the signature r, s of a digest verify against the public key X, Y? -/
def ecdsaOk (x y digest r s : Nat) : Bool :=
  decide (x < p256 ∧ y < p256) && (y * y % p256 == (x * x * x + (p256 - 3) * x + b256) % p256)
    && decide (1 ≤ r ∧ r < n256 ∧ 1 ≤ s ∧ s < n256) &&
  (let w := invMod s n256
   match addPt (mulPt (some g256) (digest * w % n256) 256) (mulPt (some (x, y)) (r * w % n256) 256) with
   | some (px, _) => px % n256 == r
   | none => false)

/-- Verify: a key of 64 bytes X, Y and a signature of 64 bytes r, s, each coordinate little-endian, over a message (R288,
R545, R551). -/
def sigOk (key msg sig : List (BitVec 8)) : Bool :=
  key.length == 64 && sig.length == 64 &&
    ecdsaOk (leNat (key.take 32)) (leNat (key.drop 32)) (beNat (sha256 msg)) (leNat (sig.take 32)) (leNat (sig.drop 32))

/-! ### CRC-32 -/

/-- Eight shifts of the CRC-32 register: the IEEE 802.3 polynomial, least significant bit first. (Log: 86 PRESUMED.) -/
def crcBits : Nat → BitVec 32 → BitVec 32
  | 0, c => c
  | n + 1, c => crcBits n (if c.getLsbD 0 then (c >>> 1) ^^^ 0xEDB88320 else c >>> 1)

/-- CRC-32 of bytes (R368, R531, R533, R562). (Log: 86 PRESUMED.) -/
def crc32 (l : List (BitVec 8)) : Nat :=
  (~~~ (l.foldl (fun c b => crcBits 8 (c ^^^ b.setWidth 32)) (0xFFFFFFFF : BitVec 32))).toNat

end Sys2Proof.Machine
end

