-- ==== Sys2Proof/Machine/Fld.lean ====
section
/-!
DEFINITION. The shape of a register field: where it stands and how it is read and written (R14, R15).
-/
namespace Sys2Proof.Machine

/-- Access codes of R15. -/
inductive Acc where
  /-- Read and written. -/
  | rw
  /-- Read only: writes ignored. -/
  | ro
  /-- Reads the flag; writing 1 clears it. -/
  | w1c
  /-- Writing 1 sets bits. -/
  | w1s
  /-- Write only: reads 0. -/
  | wo
  /-- A read returns the value and clears it. -/
  | rc
deriving DecidableEq, Repr

/-- One field of one 32-bit register. -/
structure Fld where
  /-- Offset of the register in BAR0. -/
  off : Nat
  /-- Lowest bit. -/
  lsb : Nat
  /-- Width in bits. -/
  w : Nat
  /-- Access code. -/
  acc : Acc
  /-- Reset value. -/
  reset : Nat
deriving DecidableEq, Repr

/-- The key of a field in the register table. -/
def Fld.key (f : Fld) : Nat := 32 * f.off + f.lsb

/-- The fields of element `n` of an array of registers at base, stride, count, where the offset lies in it. -/
def Reg.fam (off base stride count : Nat) (g : Nat → List Fld) : List Fld :=
  if base ≤ off ∧ off < base + stride * count then g ((off - base) / stride) else []

end Sys2Proof.Machine
end

