-- ==== Sys2Proof/Machine/Regs.lean ====
section
/-!
DEFINITION. Every register field of the spec's register tables: its offset in BAR0, its place in the word, its
access code (R15) and its reset value. The comment behind a line names the rule whose table gives it.
A field whose reset value the spec calls "Fused", "Boot" or "From flash" carries the value the assumption log names.
-/
namespace Sys2Proof.Machine.Reg

def ID_PART : Fld := ⟨0x0, 0, 32, .ro, 0x5A000256⟩ -- R3
def ID_REV : Fld := ⟨0x4, 0, 32, .ro, 0xA0⟩ -- R3
def ID_GRADE : Fld := ⟨0x8, 0, 1, .ro, 0x0⟩ -- R3
def ID_UID_LO : Fld := ⟨0x10, 0, 32, .ro, 0x0⟩ -- R3
def ID_UID_HI : Fld := ⟨0x14, 0, 32, .ro, 0x0⟩ -- R3
def ID_IFVER_RING_MIN : Fld := ⟨0x18, 0, 4, .ro, 0x1⟩ -- R4
def ID_IFVER_RING_MAX : Fld := ⟨0x18, 4, 4, .ro, 0x3⟩ -- R4
def ID_IFVER_FAB_MIN : Fld := ⟨0x18, 8, 4, .ro, 0x1⟩ -- R4
def ID_IFVER_FAB_MAX : Fld := ⟨0x18, 12, 4, .ro, 0x2⟩ -- R4
def ID_IFVER_CTX_MIN : Fld := ⟨0x18, 16, 4, .ro, 0x2⟩ -- R4
def ID_IFVER_CTX_MAX : Fld := ⟨0x18, 20, 4, .ro, 0x3⟩ -- R4
def ID_IFVER_MAQ_MIN : Fld := ⟨0x18, 24, 4, .ro, 0x2⟩ -- R4
def ID_IFVER_MAQ_MAX : Fld := ⟨0x18, 28, 4, .ro, 0x2⟩ -- R4
def TB_NOW_LO : Fld := ⟨0x60000, 0, 32, .ro, 0x0⟩ -- R20
def TB_NOW_HI : Fld := ⟨0x60004, 0, 32, .ro, 0x0⟩ -- R20
def TB_NOW_FRAC : Fld := ⟨0x60008, 0, 16, .ro, 0x0⟩ -- R20
def TB_CTRL_REF : Fld := ⟨0x6000C, 0, 2, .rw, 0x0⟩ -- R21
def TB_CTRL_MANUAL : Fld := ⟨0x6000C, 2, 1, .rw, 0x0⟩ -- R21
def TB_CTRL_BW : Fld := ⟨0x6000C, 3, 2, .rw, 0x1⟩ -- R21
def TB_CTRL_REACQUIRE : Fld := ⟨0x6000C, 5, 1, .wo, 0x0⟩ -- R21
def TB_CTRL_FS : Fld := ⟨0x6000C, 8, 3, .rw, 0x3⟩ -- R21
def TB_STAT_SERVO : Fld := ⟨0x60010, 0, 3, .ro, 0x1⟩ -- R22
def TB_STAT_ROOT : Fld := ⟨0x60010, 3, 1, .ro, 0x0⟩ -- R22
def TB_STAT_AUDIO_LOCK : Fld := ⟨0x60010, 4, 1, .ro, 0x0⟩ -- R22
def TB_STAT_AUDIO_HOLD : Fld := ⟨0x60010, 5, 1, .ro, 0x0⟩ -- R22
def TB_STAT_XT32_OK : Fld := ⟨0x60010, 6, 1, .ro, 0x0⟩ -- R22
def TB_FLAGS_STEPPED : Fld := ⟨0x60014, 0, 1, .w1c, 0x0⟩ -- R22
def TB_FLAGS_OFFSET_ALARM : Fld := ⟨0x60014, 1, 1, .w1c, 0x0⟩ -- R22
def TB_FLAGS_RATE_CLAMP : Fld := ⟨0x60014, 2, 1, .w1c, 0x0⟩ -- R22
def TB_FLAGS_WCLK0_LOSS : Fld := ⟨0x60014, 3, 1, .w1c, 0x0⟩ -- R22
def TB_FLAGS_WCLK1_LOSS : Fld := ⟨0x60014, 4, 1, .w1c, 0x0⟩ -- R22
def TB_FLAGS_SET_REFUSED : Fld := ⟨0x60014, 5, 1, .w1c, 0x0⟩ -- R22
def TB_FLAGS_FS_BUSY : Fld := ⟨0x60014, 6, 1, .w1c, 0x0⟩ -- R22
def TB_FLAGS_REF_REFUSED : Fld := ⟨0x60014, 7, 1, .w1c, 0x0⟩ -- R22
def TB_FLAGS_XT32_FAIL : Fld := ⟨0x60014, 8, 1, .w1c, 0x0⟩ -- R22
def TB_FLAGS_RESYNC : Fld := ⟨0x60014, 9, 1, .w1c, 0x0⟩ -- R22
def TB_RATE : Fld := ⟨0x60018, 0, 32, .rw, 0x0⟩ -- R20
def TB_OFFSET : Fld := ⟨0x6001C, 0, 32, .ro, 0x0⟩ -- R20
def TB_SET_LO : Fld := ⟨0x60020, 0, 32, .wo, 0x0⟩ -- R20
def TB_SET_HI : Fld := ⟨0x60024, 0, 32, .wo, 0x0⟩ -- R20
def TB_WCLK_OFS : Fld := ⟨0x60028, 0, 32, .rw, 0x0⟩ -- R20
def TB_FRAME_LO : Fld := ⟨0x60030, 0, 32, .ro, 0x0⟩ -- R20
def TB_FRAME_HI : Fld := ⟨0x60034, 0, 32, .ro, 0x0⟩ -- R20
def TB_WCAP_LO (n : Nat) : Fld := ⟨0x60040 + 0x10 * n, 0, 32, .ro, 0x0⟩ -- R20
def TB_WCAP_HI (n : Nat) : Fld := ⟨0x60044 + 0x10 * n, 0, 32, .ro, 0x0⟩ -- R20
def TB_WCAP_CFG_EDGE (n : Nat) : Fld := ⟨0x60048 + 0x10 * n, 0, 2, .rw, 0x0⟩ -- R40
def TB_WCAP_CFG_EVT_EN (n : Nat) : Fld := ⟨0x60048 + 0x10 * n, 2, 1, .rw, 0x0⟩ -- R40
def TB_WCAP_CFG_FILT (n : Nat) : Fld := ⟨0x60048 + 0x10 * n, 4, 3, .rw, 0x0⟩ -- R40
def TB_WCAP_STAT_VALID (n : Nat) : Fld := ⟨0x6004C + 0x10 * n, 0, 1, .ro, 0x0⟩ -- R41
def TB_WCAP_STAT_OVR (n : Nat) : Fld := ⟨0x6004C + 0x10 * n, 1, 1, .w1c, 0x0⟩ -- R41
def TB_WCAP_STAT_PRESENT (n : Nat) : Fld := ⟨0x6004C + 0x10 * n, 2, 1, .ro, 0x0⟩ -- R41
def TB_WCAP_STAT_OVR_CNT (n : Nat) : Fld := ⟨0x6004C + 0x10 * n, 8, 8, .ro, 0x0⟩ -- R41
def TB_TRIG_LO (n : Nat) : Fld := ⟨0x60100 + 0x10 * n, 0, 32, .ro, 0x0⟩ -- R20
def TB_TRIG_HI (n : Nat) : Fld := ⟨0x60104 + 0x10 * n, 0, 32, .ro, 0x0⟩ -- R20
def TB_TRIG_CFG_EDGE (n : Nat) : Fld := ⟨0x60108 + 0x10 * n, 0, 2, .rw, 0x0⟩ -- R40
def TB_TRIG_CFG_EVT_EN (n : Nat) : Fld := ⟨0x60108 + 0x10 * n, 2, 1, .rw, 0x0⟩ -- R40
def TB_TRIG_CFG_FILT (n : Nat) : Fld := ⟨0x60108 + 0x10 * n, 4, 3, .rw, 0x0⟩ -- R40
def TB_TRIG_STAT_COUNT (n : Nat) : Fld := ⟨0x6010C + 0x10 * n, 0, 4, .ro, 0x0⟩ -- R44
def TB_TRIG_STAT_OVF (n : Nat) : Fld := ⟨0x6010C + 0x10 * n, 4, 1, .w1c, 0x0⟩ -- R44
def TB_TRIG_STAT_DROP_CNT (n : Nat) : Fld := ⟨0x6010C + 0x10 * n, 8, 8, .ro, 0x0⟩ -- R44
def TB_CMP_LO (n : Nat) : Fld := ⟨0x60200 + 0x20 * n, 0, 32, .rw, 0x0⟩ -- R20
def TB_CMP_HI (n : Nat) : Fld := ⟨0x60204 + 0x20 * n, 0, 32, .rw, 0x0⟩ -- R20
def TB_CMP_CFG_ENABLE (n : Nat) : Fld := ⟨0x60208 + 0x20 * n, 0, 1, .rw, 0x0⟩ -- R47
def TB_CMP_CFG_ACTION (n : Nat) : Fld := ⟨0x60208 + 0x20 * n, 1, 3, .rw, 0x0⟩ -- R47
def TB_CMP_CFG_EVT_EN (n : Nat) : Fld := ⟨0x60208 + 0x20 * n, 4, 1, .rw, 0x0⟩ -- R47
def TB_CMP_CFG_PERIODIC (n : Nat) : Fld := ⟨0x60208 + 0x20 * n, 5, 1, .rw, 0x0⟩ -- R47
def TB_CMP_CFG_LINK (n : Nat) : Fld := ⟨0x60208 + 0x20 * n, 6, 1, .rw, 0x0⟩ -- R47
def TB_CMP_CFG_LEVEL (n : Nat) : Fld := ⟨0x60208 + 0x20 * n, 7, 1, .rw, 0x0⟩ -- R47
def TB_CMP_CFG_FORCE (n : Nat) : Fld := ⟨0x60208 + 0x20 * n, 8, 1, .wo, 0x0⟩ -- R47
def TB_CMP_STAT_MATCH (n : Nat) : Fld := ⟨0x6020C + 0x20 * n, 0, 1, .w1c, 0x0⟩ -- R47
def TB_CMP_STAT_MISSED (n : Nat) : Fld := ⟨0x6020C + 0x20 * n, 1, 1, .w1c, 0x0⟩ -- R47
def TB_CMP_STAT_STEPPED (n : Nat) : Fld := ⟨0x6020C + 0x20 * n, 2, 1, .w1c, 0x0⟩ -- R47
def TB_CMP_STAT_ARMED (n : Nat) : Fld := ⟨0x6020C + 0x20 * n, 3, 1, .ro, 0x0⟩ -- R47
def TB_CMP_STAT_PIN (n : Nat) : Fld := ⟨0x6020C + 0x20 * n, 4, 1, .ro, 0x0⟩ -- R47
def TB_CMP_PERIOD (n : Nat) : Fld := ⟨0x60210 + 0x20 * n, 0, 32, .rw, 0x0⟩ -- R20
def TB_CMP_WIDTH (n : Nat) : Fld := ⟨0x60214 + 0x20 * n, 0, 24, .rw, 0x64⟩ -- R20
def TB_CMP_COUNT (n : Nat) : Fld := ⟨0x60218 + 0x20 * n, 0, 32, .ro, 0x0⟩ -- R20
def AL_NODE_X : Fld := ⟨0xB0F00, 0, 32, .rw, 0x0⟩ -- R144
def AL_NODE_Y : Fld := ⟨0xB0F04, 0, 32, .rw, 0x0⟩ -- R144
def AL_NODE_Z : Fld := ⟨0xB0F08, 0, 32, .rw, 0x0⟩ -- R144
def AL_CTRL_CAST_EN : Fld := ⟨0xB0000, 0, 1, .rw, 0x1⟩ -- R163
def AL_CTRL_ALL_OFF : Fld := ⟨0xB0000, 1, 1, .wo, 0x0⟩ -- R163
def AL_STAT_USED : Fld := ⟨0xB0004, 0, 9, .ro, 0x0⟩ -- R163
def AL_STAT_PARKED : Fld := ⟨0xB0004, 16, 7, .ro, 0x0⟩ -- R163
def AL_STAT_TAILS : Fld := ⟨0xB0004, 24, 7, .ro, 0x0⟩ -- R163
def AL_CAP_CAPACITY : Fld := ⟨0xB0008, 0, 9, .ro, 0x100⟩ -- R163
def AL_CAP_AVAIL : Fld := ⟨0xB0008, 16, 16, .ro, 0xFFFF⟩ -- R163
def AL_CNT_CAST : Fld := ⟨0xB0010, 0, 32, .rc, 0x0⟩ -- R162
def AL_CNT_STEAL : Fld := ⟨0xB0014, 0, 32, .rc, 0x0⟩ -- R162
def AL_CNT_REFUSED : Fld := ⟨0xB0018, 0, 32, .rc, 0x0⟩ -- R162
def AL_CNT_SPILL : Fld := ⟨0xB001C, 0, 32, .rc, 0x0⟩ -- R162
def AL_CNT_TAILCUT : Fld := ⟨0xB0020, 0, 32, .rc, 0x0⟩ -- R162
def AL_CNT_LATE : Fld := ⟨0xB0024, 0, 32, .rc, 0x0⟩ -- R162
def AL_CNT_STALE : Fld := ⟨0xB0028, 0, 32, .rc, 0x0⟩ -- R162
def AL_GRP_CFG0 (n : Nat) : Fld := ⟨0xB0400 + 0x10 * n, 0, 32, .ro, 0x148100⟩ -- R162
def AL_GRP_CFG1 (n : Nat) : Fld := ⟨0xB0404 + 0x10 * n, 0, 32, .ro, 0x300000⟩ -- R162
def AL_GRP_CNT_COUNT (n : Nat) : Fld := ⟨0xB0408 + 0x10 * n, 0, 9, .ro, 0x0⟩ -- R163
def AL_GRP_CNT_SPILLED (n : Nat) : Fld := ⟨0xB0408 + 0x10 * n, 16, 9, .ro, 0x0⟩ -- R163
def AL_VOICE_STATE (n : Nat) : Fld := ⟨0xB1000 + 0x4 * n, 0, 4, .ro, 0x0⟩ -- R164
def AL_VOICE_GROUP (n : Nat) : Fld := ⟨0xB1000 + 0x4 * n, 4, 6, .ro, 0x0⟩ -- R164
def AL_VOICE_VPRI (n : Nat) : Fld := ⟨0xB1000 + 0x4 * n, 10, 3, .ro, 0x0⟩ -- R164
def AL_VOICE_HELD (n : Nat) : Fld := ⟨0xB1000 + 0x4 * n, 13, 1, .ro, 0x0⟩ -- R164
def AL_VOICE_RETRIG_PEND (n : Nat) : Fld := ⟨0xB1000 + 0x4 * n, 14, 1, .ro, 0x0⟩ -- R164
def AL_VOICE_GEN (n : Nat) : Fld := ⟨0xB1000 + 0x4 * n, 16, 16, .ro, 0x0⟩ -- R164
def AL_PARK_STATE (n : Nat) : Fld := ⟨0xB1400 + 0x4 * n, 0, 4, .ro, 0x0⟩ -- R164
def AL_PARK_GROUP (n : Nat) : Fld := ⟨0xB1400 + 0x4 * n, 4, 6, .ro, 0x0⟩ -- R164
def AL_PARK_VPRI (n : Nat) : Fld := ⟨0xB1400 + 0x4 * n, 10, 3, .ro, 0x0⟩ -- R164
def AL_PARK_HELD (n : Nat) : Fld := ⟨0xB1400 + 0x4 * n, 13, 1, .ro, 0x0⟩ -- R164
def AL_PARK_RETRIG_PEND (n : Nat) : Fld := ⟨0xB1400 + 0x4 * n, 14, 1, .ro, 0x0⟩ -- R164
def AL_PARK_GEN (n : Nat) : Fld := ⟨0xB1400 + 0x4 * n, 16, 16, .ro, 0x0⟩ -- R164
def AL_SCH_CTRL_RUN : Fld := ⟨0xB0800, 0, 1, .rw, 0x0⟩ -- R215
def AL_SCH_CTRL_BLOCK : Fld := ⟨0xB0800, 1, 2, .rw, 0x1⟩ -- R215
def AL_SCH_CTRL_SLACK : Fld := ⟨0xB0800, 3, 4, .rw, 0x2⟩ -- R215
def AL_SCH_CTRL_SHED_EN : Fld := ⟨0xB0800, 8, 1, .rw, 0x1⟩ -- R215
def AL_SCH_CTRL_SHED_BATCH : Fld := ⟨0xB0800, 16, 8, .rw, 0x10⟩ -- R215
def AL_SCH_STAT_STATE : Fld := ⟨0xB0804, 0, 2, .ro, 0x0⟩ -- R215
def AL_SCH_STAT_LEVEL : Fld := ⟨0xB0804, 2, 2, .ro, 0x0⟩ -- R215
def AL_SCH_STAT_SHED_WAIT : Fld := ⟨0xB0804, 4, 1, .ro, 0x0⟩ -- R215
def AL_SCH_FLAGS_CFG_REFUSED : Fld := ⟨0xB0808, 0, 1, .w1c, 0x0⟩ -- R215
def AL_SCH_FLAGS_QUEUE_FULL : Fld := ⟨0xB0808, 1, 1, .w1c, 0x0⟩ -- R215
def AL_SCH_FLAGS_BUS_LATE : Fld := ⟨0xB0808, 2, 1, .w1c, 0x0⟩ -- R215
def AL_SCH_FLAGS_UNDERRUN : Fld := ⟨0xB0808, 3, 1, .w1c, 0x0⟩ -- R215
def AL_SCH_FLAGS_SHED : Fld := ⟨0xB0808, 4, 1, .w1c, 0x0⟩ -- R215
def AL_SCH_FLAGS_STEP_SKIP : Fld := ⟨0xB0808, 5, 1, .w1c, 0x0⟩ -- R215
def AL_SCH_SLACK_SIGMA : Fld := ⟨0xB080C, 0, 16, .ro, 0x0⟩ -- R215
def AL_SCH_DEFICIT_MAX_DEFICIT : Fld := ⟨0xB0810, 0, 16, .rc, 0x0⟩ -- R215
def AL_SCH_QUEUE_COUNT : Fld := ⟨0xB0814, 0, 13, .ro, 0x0⟩ -- R215
def AL_SCH_BLOCK_LO : Fld := ⟨0xB0818, 0, 32, .ro, 0x0⟩ -- R214
def AL_SCH_BLOCK_HI : Fld := ⟨0xB081C, 0, 32, .ro, 0x0⟩ -- R214
def AL_SCH_CNT_LATEBLK : Fld := ⟨0xB0820, 0, 32, .rc, 0x0⟩ -- R214
def AL_SCH_CNT_UNDERRUN : Fld := ⟨0xB0824, 0, 32, .rc, 0x0⟩ -- R214
def AL_SCH_CNT_UFRAMES : Fld := ⟨0xB0828, 0, 32, .rc, 0x0⟩ -- R214
def AL_SCH_CNT_ROUGH : Fld := ⟨0xB082C, 0, 32, .rc, 0x0⟩ -- R214
def AL_SCH_CNT_SHED : Fld := ⟨0xB0830, 0, 32, .rc, 0x0⟩ -- R214
def AL_SCH_CNT_LATECMD : Fld := ⟨0xB0834, 0, 32, .rc, 0x0⟩ -- R214
def AL_SCH_CNT_SKIP : Fld := ⟨0xB0838, 0, 32, .rc, 0x0⟩ -- R214
def CH_CTRL_HALT (n : Nat) : Fld := ⟨0x200000 + 0x10000 * n, 0, 1, .rw, 0x0⟩ -- R283
def CH_CTRL_STEP (n : Nat) : Fld := ⟨0x200000 + 0x10000 * n, 1, 1, .wo, 0x0⟩ -- R283
def CH_CTRL_FAULT_ACT (n : Nat) : Fld := ⟨0x200000 + 0x10000 * n, 2, 1, .rw, 0x0⟩ -- R283
def CH_CTRL_BRK_EN (n : Nat) : Fld := ⟨0x200000 + 0x10000 * n, 3, 1, .rw, 0x0⟩ -- R283
def CH_STAT_STATE (n : Nat) : Fld := ⟨0x200004 + 0x10000 * n, 0, 3, .ro, 0x6⟩ -- R283
def CH_STAT_BANK (n : Nat) : Fld := ⟨0x200004 + 0x10000 * n, 3, 2, .ro, 0x0⟩ -- R283
def CH_STAT_IN_HANDLER (n : Nat) : Fld := ⟨0x200004 + 0x10000 * n, 5, 1, .ro, 0x0⟩ -- R283
def CH_STAT_FROZEN (n : Nat) : Fld := ⟨0x200004 + 0x10000 * n, 6, 1, .ro, 0x0⟩ -- R283
def CH_FLAGS_DBG_DENIED (n : Nat) : Fld := ⟨0x200008 + 0x10000 * n, 0, 1, .w1c, 0x0⟩ -- R283
def CH_FLAGS_WCOLL (n : Nat) : Fld := ⟨0x200008 + 0x10000 * n, 1, 1, .w1c, 0x0⟩ -- R283
def CH_FAULT_CODE (n : Nat) : Fld := ⟨0x20000C + 0x10000 * n, 0, 3, .ro, 0x0⟩ -- R283
def CH_FAULT_DOUBLE (n : Nat) : Fld := ⟨0x20000C + 0x10000 * n, 3, 1, .ro, 0x0⟩ -- R283
def CH_FAULT_BANK (n : Nat) : Fld := ⟨0x20000C + 0x10000 * n, 4, 2, .ro, 0x0⟩ -- R283
def CH_FAULT_VALID (n : Nat) : Fld := ⟨0x20000C + 0x10000 * n, 31, 1, .w1c, 0x0⟩ -- R283
def CH_FAULT_PC (n : Nat) : Fld := ⟨0x200010 + 0x10000 * n, 0, 16, .ro, 0x0⟩ -- R282
def CH_PC (n : Nat) : Fld := ⟨0x200014 + 0x10000 * n, 0, 16, .ro, 0x0⟩ -- R282
def CH_CYC_LO (n : Nat) : Fld := ⟨0x200018 + 0x10000 * n, 0, 32, .ro, 0x0⟩ -- R282
def CH_CYC_HI (n : Nat) : Fld := ⟨0x20001C + 0x10000 * n, 0, 32, .ro, 0x0⟩ -- R282
def CH_FREEZE (n : Nat) : Fld := ⟨0x200020 + 0x10000 * n, 0, 32, .rc, 0x0⟩ -- R282
def CH_ECC_CE (n : Nat) : Fld := ⟨0x200024 + 0x10000 * n, 0, 16, .rc, 0x0⟩ -- R282
def CH_ECC_UE (n : Nat) : Fld := ⟨0x200024 + 0x10000 * n, 16, 16, .rc, 0x0⟩ -- R282
def CH_WCOLL (n : Nat) : Fld := ⟨0x200028 + 0x10000 * n, 0, 32, .rc, 0x0⟩ -- R282
def CH_BRK_EN (n : Nat) (m : Nat) : Fld := ⟨0x200040 + 0x10000 * n + 0x4 * m, 0, 1, .rw, 0x0⟩ -- R282
def CH_BRK_PC (n : Nat) (m : Nat) : Fld := ⟨0x200040 + 0x10000 * n + 0x4 * m, 2, 14, .rw, 0x0⟩ -- R282
def CH_DBG_ADDR_OFFSET (n : Nat) : Fld := ⟨0x200050 + 0x10000 * n, 0, 18, .rw, 0x0⟩ -- R283
def CH_DBG_ADDR_BANK (n : Nat) : Fld := ⟨0x200050 + 0x10000 * n, 26, 2, .rw, 0x0⟩ -- R283
def CH_DBG_ADDR_SPACE (n : Nat) : Fld := ⟨0x200050 + 0x10000 * n, 28, 4, .rw, 0x0⟩ -- R283
def CH_DBG_DATA (n : Nat) : Fld := ⟨0x200054 + 0x10000 * n, 0, 32, .rw, 0x0⟩ -- R282
def HI_CTRL_CP_EN : Fld := ⟨0x10000, 0, 1, .rw, 0x1⟩ -- R310
def HI_STAT_LINK_UP : Fld := ⟨0x10004, 0, 1, .ro, 0x0⟩ -- R310
def HI_STAT_SPEED : Fld := ⟨0x10004, 1, 2, .ro, 0x0⟩ -- R310
def HI_STAT_WIDTH : Fld := ⟨0x10004, 3, 2, .ro, 0x0⟩ -- R310
def HI_FLAGS_BAD_DOORBELL : Fld := ⟨0x10008, 0, 1, .w1c, 0x0⟩ -- R310
def HI_FLAGS_CFG_REFUSED : Fld := ⟨0x10008, 1, 1, .w1c, 0x0⟩ -- R310
def HI_FLAGS_FETCH_ERROR : Fld := ⟨0x10008, 2, 1, .w1c, 0x0⟩ -- R310
def HI_FLAGS_FLR_SEEN : Fld := ⟨0x10008, 3, 1, .w1c, 0x0⟩ -- R310
def HI_FLAGS_OWNER_LOST : Fld := ⟨0x10008, 4, 1, .w1c, 0x0⟩ -- R310
def HI_CNT_ACCEPT : Fld := ⟨0x10010, 0, 32, .rc, 0x0⟩ -- R309
def HI_CNT_REJECT : Fld := ⟨0x10014, 0, 32, .rc, 0x0⟩ -- R309
def HI_CNT_STALE : Fld := ⟨0x10018, 0, 32, .rc, 0x0⟩ -- R309
def HI_RING_BASE_LO (n : Nat) : Fld := ⟨0x10100 + 0x20 * n, 6, 26, .rw, 0x0⟩ -- R309
def HI_RING_BASE_HI (n : Nat) : Fld := ⟨0x10104 + 0x20 * n, 0, 32, .rw, 0x0⟩ -- R309
def HI_RING_CFG_ENABLE (n : Nat) : Fld := ⟨0x10108 + 0x20 * n, 0, 1, .rw, 0x0⟩ -- R311
def HI_RING_CFG_LOG2SIZE (n : Nat) : Fld := ⟨0x10108 + 0x20 * n, 1, 5, .rw, 0x4⟩ -- R311
def HI_RING_CFG_LOC (n : Nat) : Fld := ⟨0x10108 + 0x20 * n, 6, 1, .rw, 0x0⟩ -- R311
def HI_RING_CFG_CQ (n : Nat) : Fld := ⟨0x10108 + 0x20 * n, 7, 3, .rw, 0x0⟩ -- R311
def HI_RING_CFG_PRIO (n : Nat) : Fld := ⟨0x10108 + 0x20 * n, 10, 2, .rw, 0x0⟩ -- R311
def HI_RING_CFG_OWNER (n : Nat) : Fld := ⟨0x10108 + 0x20 * n, 20, 12, .rw, 0x0⟩ -- R311
def HI_RING_STAT_STATE (n : Nat) : Fld := ⟨0x1010C + 0x20 * n, 0, 3, .ro, 0x0⟩ -- R311
def HI_RING_STAT_VER (n : Nat) : Fld := ⟨0x1010C + 0x20 * n, 4, 3, .ro, 0x0⟩ -- R311
def HI_RING_STAT_REASON (n : Nat) : Fld := ⟨0x1010C + 0x20 * n, 8, 4, .ro, 0x0⟩ -- R311
def HI_RING_STAT_GEN (n : Nat) : Fld := ⟨0x1010C + 0x20 * n, 16, 16, .ro, 0x0⟩ -- R311
def HI_RING_HEAD (n : Nat) : Fld := ⟨0x10110 + 0x20 * n, 0, 16, .ro, 0x0⟩ -- R309
def HI_RING_TAIL (n : Nat) : Fld := ⟨0x10114 + 0x20 * n, 0, 16, .ro, 0x0⟩ -- R309
def HI_DB (n : Nat) : Fld := ⟨0x11000 + 0x4 * n, 0, 16, .wo, 0x0⟩ -- R309
def EQ_CNT_DISCARD : Fld := ⟨0x20000, 0, 32, .rc, 0x0⟩ -- R357
def EQ_Q_BASE_LO (n : Nat) : Fld := ⟨0x20100 + 0x20 * n, 6, 26, .rw, 0x0⟩ -- R357
def EQ_Q_BASE_HI (n : Nat) : Fld := ⟨0x20104 + 0x20 * n, 0, 32, .rw, 0x0⟩ -- R357
def EQ_Q_CFG_ENABLE (n : Nat) : Fld := ⟨0x20108 + 0x20 * n, 0, 1, .rw, 0x0⟩ -- R358
def EQ_Q_CFG_LOG2SIZE (n : Nat) : Fld := ⟨0x20108 + 0x20 * n, 1, 5, .rw, 0x4⟩ -- R358
def EQ_Q_CFG_LOC (n : Nat) : Fld := ⟨0x20108 + 0x20 * n, 6, 1, .rw, 0x0⟩ -- R358
def EQ_Q_CFG_VECTOR (n : Nat) : Fld := ⟨0x20108 + 0x20 * n, 8, 6, .rw, 0x0⟩ -- R358
def EQ_Q_CFG_OWNER (n : Nat) : Fld := ⟨0x20108 + 0x20 * n, 20, 12, .rw, 0x0⟩ -- R358
def EQ_Q_MOD_MOD_COUNT (n : Nat) : Fld := ⟨0x2010C + 0x20 * n, 0, 8, .rw, 0x1⟩ -- R358
def EQ_Q_MOD_MOD_TIME (n : Nat) : Fld := ⟨0x2010C + 0x20 * n, 8, 16, .rw, 0x0⟩ -- R358
def EQ_Q_STAT_STATE (n : Nat) : Fld := ⟨0x20110 + 0x20 * n, 0, 2, .ro, 0x0⟩ -- R358
def EQ_Q_STAT_RANGE (n : Nat) : Fld := ⟨0x20110 + 0x20 * n, 2, 1, .w1c, 0x0⟩ -- R358
def EQ_Q_STAT_BAD_CONS (n : Nat) : Fld := ⟨0x20110 + 0x20 * n, 3, 1, .w1c, 0x0⟩ -- R358
def EQ_Q_STAT_CFG_REFUSED (n : Nat) : Fld := ⟨0x20110 + 0x20 * n, 4, 1, .w1c, 0x0⟩ -- R358
def EQ_Q_STAT_HELD (n : Nat) : Fld := ⟨0x20110 + 0x20 * n, 8, 7, .ro, 0x0⟩ -- R358
def EQ_Q_PROD (n : Nat) : Fld := ⟨0x20114 + 0x20 * n, 0, 16, .ro, 0x0⟩ -- R357
def EQ_Q_CONS (n : Nat) : Fld := ⟨0x20118 + 0x20 * n, 0, 16, .rw, 0x0⟩ -- R357
def EQ_Q_DROP (n : Nat) : Fld := ⟨0x2011C + 0x20 * n, 0, 32, .rc, 0x0⟩ -- R357
def EQ_SRC_QUEUE (n : Nat) : Fld := ⟨0x21000 + 0x4 * n, 0, 3, .rw, 0x0⟩ -- R358
def EQ_SRC_EN (n : Nat) : Fld := ⟨0x21000 + 0x4 * n, 3, 1, .rw, 0x0⟩ -- R358
def EQ_SRC_URGENT (n : Nat) : Fld := ⟨0x21000 + 0x4 * n, 4, 1, .rw, 0x0⟩ -- R358
def FSW_CTRL_EN : Fld := ⟨0xC0000, 0, 1, .rw, 0x1⟩ -- R396
def FSW_CTRL_ROOT_DESIG : Fld := ⟨0xC0000, 1, 1, .rw, 0x0⟩ -- R396
def FSW_CTRL_RRST_EN : Fld := ⟨0xC0000, 2, 1, .rw, 0x0⟩ -- R396
def FSW_CTRL_MGMT : Fld := ⟨0xC0000, 3, 2, .rw, 0x0⟩ -- R396
def FSW_CTRL_ROOT_PRI : Fld := ⟨0xC0000, 8, 8, .rw, 0x80⟩ -- R396
def FSW_STAT_ADDR : Fld := ⟨0xC0004, 0, 12, .ro, 0x0⟩ -- R396
def FSW_STAT_ADDR_VALID : Fld := ⟨0xC0004, 12, 1, .ro, 0x0⟩ -- R396
def FSW_STAT_ROOT : Fld := ⟨0xC0004, 13, 1, .ro, 0x0⟩ -- R396
def FSW_STAT_DESIG : Fld := ⟨0xC0004, 14, 1, .ro, 0x0⟩ -- R396
def FSW_STAT_ROOT_VALID : Fld := ⟨0xC0004, 15, 1, .ro, 0x0⟩ -- R396
def FSW_STAT_UP_PORT : Fld := ⟨0xC0004, 16, 2, .ro, 0x0⟩ -- R396
def FSW_STAT_UP_VALID : Fld := ⟨0xC0004, 18, 1, .ro, 0x0⟩ -- R396
def FSW_FLAGS_ADDR_CONFLICT : Fld := ⟨0xC0008, 0, 1, .w1c, 0x0⟩ -- R396
def FSW_FLAGS_ADDR_FAIL : Fld := ⟨0xC0008, 1, 1, .w1c, 0x0⟩ -- R396
def FSW_FLAGS_DESIG_CONFLICT : Fld := ⟨0xC0008, 2, 1, .w1c, 0x0⟩ -- R396
def FSW_FLAGS_NO_ROUTE : Fld := ⟨0xC0008, 3, 1, .w1c, 0x0⟩ -- R396
def FSW_FLAGS_TTL_DROP : Fld := ⟨0xC0008, 4, 1, .w1c, 0x0⟩ -- R396
def FSW_FLAGS_MGMT_DENIED : Fld := ⟨0xC0008, 5, 1, .w1c, 0x0⟩ -- R396
def FSW_FLAGS_STALE : Fld := ⟨0xC0008, 6, 1, .w1c, 0x0⟩ -- R396
def FSW_FLAGS_URX_DROP : Fld := ⟨0xC0008, 7, 1, .w1c, 0x0⟩ -- R396
def FSW_FLAGS_MBX_BUSY : Fld := ⟨0xC0008, 8, 1, .w1c, 0x0⟩ -- R396
def FSW_ADDR_PREF_ADDR : Fld := ⟨0xC000C, 0, 12, .rw, 0x0⟩ -- R395
def FSW_ADDR_PREF_VALID : Fld := ⟨0xC000C, 31, 1, .rw, 0x0⟩ -- R395
def FSW_ROOT_UID_LO : Fld := ⟨0xC0010, 0, 32, .ro, 0x0⟩ -- R395
def FSW_ROOT_UID_HI : Fld := ⟨0xC0014, 0, 32, .ro, 0x0⟩ -- R395
def FSW_ROOT_INFO_ADDR : Fld := ⟨0xC0018, 0, 12, .ro, 0x0⟩ -- R395
def FSW_ROOT_INFO_HOPS : Fld := ⟨0xC0018, 12, 12, .ro, 0x0⟩ -- R395
def FSW_ROOT_INFO_PRI : Fld := ⟨0xC0018, 24, 8, .ro, 0x0⟩ -- R395
def FSW_BOOTGEN : Fld := ⟨0xC001C, 0, 16, .ro, 0x0⟩ -- R395
def FSW_TIMING_REQ_TMO : Fld := ⟨0xC0020, 0, 8, .rw, 0x14⟩ -- R395
def FSW_TIMING_HELLO_MISS : Fld := ⟨0xC0020, 8, 4, .rw, 0x3⟩ -- R395
def FSW_CNT_FWD : Fld := ⟨0xC0040, 0, 32, .rc, 0x0⟩ -- R395
def FSW_CNT_NOROUTE : Fld := ⟨0xC0044, 0, 32, .rc, 0x0⟩ -- R395
def FSW_CNT_TTL : Fld := ⟨0xC0048, 0, 32, .rc, 0x0⟩ -- R395
def FSW_CNT_STALE : Fld := ⟨0xC004C, 0, 32, .rc, 0x0⟩ -- R395
def FSW_CNT_DENIED : Fld := ⟨0xC0050, 0, 32, .rc, 0x0⟩ -- R395
def FSW_CNT_URXDROP : Fld := ⟨0xC0054, 0, 32, .rc, 0x0⟩ -- R395
def FSW_MGMT_ALLOW_ADDR (n : Nat) : Fld := ⟨0xC0100 + 0x4 * n, 0, 12, .rw, 0x0⟩ -- R395
def FSW_MGMT_ALLOW_EN (n : Nat) : Fld := ⟨0xC0100 + 0x4 * n, 31, 1, .rw, 0x0⟩ -- R395
def FSW_URX_BASE : Fld := ⟨0xC0200, 11, 8, .rw, 0x0⟩ -- R395
def FSW_URX_CFG_COUNT : Fld := ⟨0xC0204, 0, 8, .rw, 0x0⟩ -- R395
def FSW_URX_PROD : Fld := ⟨0xC0208, 0, 8, .ro, 0x0⟩ -- R395
def FSW_URX_CONS : Fld := ⟨0xC020C, 0, 8, .rw, 0x0⟩ -- R395
def FSW_MBX_OFS (n : Nat) : Fld := ⟨0xC0300 + 0x10 * n, 6, 13, .rw, 0x0⟩ -- R395
def FSW_MBX_CTRL_LEN (n : Nat) : Fld := ⟨0xC0304 + 0x10 * n, 0, 11, .wo, 0x0⟩ -- R395
def FSW_MBX_CTRL_GO (n : Nat) : Fld := ⟨0xC0304 + 0x10 * n, 31, 1, .wo, 0x0⟩ -- R395
def FSW_MBX_STAT_STATE (n : Nat) : Fld := ⟨0xC0308 + 0x10 * n, 0, 2, .ro, 0x0⟩ -- R395
def FSW_MBX_STAT_STATUS (n : Nat) : Fld := ⟨0xC0308 + 0x10 * n, 8, 8, .ro, 0x0⟩ -- R395
def FSW_MBX_STAT_LEN (n : Nat) : Fld := ⟨0xC0308 + 0x10 * n, 16, 11, .ro, 0x0⟩ -- R395
def FSW_FWD_DIR (n : Nat) : Fld := ⟨0xC4000 + 0x4 * n, 0, 3, .rw, 0x0⟩ -- R396
def FSW_FWD_STATIC (n : Nat) : Fld := ⟨0xC4000 + 0x4 * n, 3, 1, .rw, 0x0⟩ -- R396
def FSW_FWD_BOOTGEN (n : Nat) : Fld := ⟨0xC4000 + 0x4 * n, 16, 16, .ro, 0x0⟩ -- R396
def FP_CTRL_EN (n : Nat) : Fld := ⟨0xD0000 + 0x10000 * n, 0, 1, .rw, 0x1⟩ -- R398
def FP_CTRL_RETRAIN (n : Nat) : Fld := ⟨0xD0000 + 0x10000 * n, 1, 1, .wo, 0x0⟩ -- R398
def FP_CTRL_EQ (n : Nat) : Fld := ⟨0xD0000 + 0x10000 * n, 2, 2, .rw, 0x0⟩ -- R398
def FP_CTRL_BLOCK (n : Nat) : Fld := ⟨0xD0000 + 0x10000 * n, 4, 1, .rw, 0x0⟩ -- R398
def FP_STAT_LSTATE (n : Nat) : Fld := ⟨0xD0004 + 0x10000 * n, 0, 3, .ro, 0x0⟩ -- R398
def FP_STAT_SIGNAL (n : Nat) : Fld := ⟨0xD0004 + 0x10000 * n, 3, 1, .ro, 0x0⟩ -- R398
def FP_STAT_ROLE (n : Nat) : Fld := ⟨0xD0004 + 0x10000 * n, 4, 2, .ro, 0x0⟩ -- R398
def FP_STAT_VER (n : Nat) : Fld := ⟨0xD0004 + 0x10000 * n, 8, 3, .ro, 0x0⟩ -- R398
def FP_STAT_NB_ADDR (n : Nat) : Fld := ⟨0xD0004 + 0x10000 * n, 16, 12, .ro, 0x0⟩ -- R398
def FP_STAT_NB_ADDR_VALID (n : Nat) : Fld := ⟨0xD0004 + 0x10000 * n, 28, 1, .ro, 0x0⟩ -- R398
def FP_FLAGS_LOS (n : Nat) : Fld := ⟨0xD0008 + 0x10000 * n, 0, 1, .w1c, 0x0⟩ -- R398
def FP_FLAGS_TRAIN_FAIL (n : Nat) : Fld := ⟨0xD0008 + 0x10000 * n, 1, 1, .w1c, 0x0⟩ -- R398
def FP_FLAGS_VER_REFUSED (n : Nat) : Fld := ⟨0xD0008 + 0x10000 * n, 2, 1, .w1c, 0x0⟩ -- R398
def FP_FLAGS_HELLO_TIMEOUT (n : Nat) : Fld := ⟨0xD0008 + 0x10000 * n, 3, 1, .w1c, 0x0⟩ -- R398
def FP_FLAGS_CREDIT_TIMEOUT (n : Nat) : Fld := ⟨0xD0008 + 0x10000 * n, 4, 1, .w1c, 0x0⟩ -- R398
def FP_FLAGS_CODE_ERR (n : Nat) : Fld := ⟨0xD0008 + 0x10000 * n, 5, 1, .w1c, 0x0⟩ -- R398
def FP_FLAGS_FCS_ERR (n : Nat) : Fld := ⟨0xD0008 + 0x10000 * n, 6, 1, .w1c, 0x0⟩ -- R398
def FP_FLAGS_OVERSIZE (n : Nat) : Fld := ⟨0xD0008 + 0x10000 * n, 7, 1, .w1c, 0x0⟩ -- R398
def FP_NB_UID_LO (n : Nat) : Fld := ⟨0xD000C + 0x10000 * n, 0, 32, .ro, 0x0⟩ -- R397
def FP_NB_UID_HI (n : Nat) : Fld := ⟨0xD0010 + 0x10000 * n, 0, 32, .ro, 0x0⟩ -- R397
def FP_NB_INFO_BOOTGEN (n : Nat) : Fld := ⟨0xD0014 + 0x10000 * n, 0, 16, .ro, 0x0⟩ -- R397
def FP_NB_INFO_VMIN (n : Nat) : Fld := ⟨0xD0014 + 0x10000 * n, 16, 4, .ro, 0x0⟩ -- R397
def FP_NB_INFO_VMAX (n : Nat) : Fld := ⟨0xD0014 + 0x10000 * n, 20, 4, .ro, 0x0⟩ -- R397
def FP_NB_INFO_PORT (n : Nat) : Fld := ⟨0xD0014 + 0x10000 * n, 24, 2, .ro, 0x0⟩ -- R397
def FP_NB_CAPS (n : Nat) : Fld := ⟨0xD0018 + 0x10000 * n, 0, 16, .ro, 0x0⟩ -- R397
def FP_EQ_STAT (n : Nat) : Fld := ⟨0xD001C + 0x10000 * n, 0, 4, .ro, 0x0⟩ -- R397
def FP_CNT_CODE (n : Nat) : Fld := ⟨0xD0020 + 0x10000 * n, 0, 32, .rc, 0x0⟩ -- R397
def FP_CNT_FCS (n : Nat) : Fld := ⟨0xD0024 + 0x10000 * n, 0, 32, .rc, 0x0⟩ -- R397
def FP_CNT_DOWN (n : Nat) : Fld := ⟨0xD0028 + 0x10000 * n, 0, 32, .rc, 0x0⟩ -- R397
def FP_CNT_TXF (n : Nat) : Fld := ⟨0xD002C + 0x10000 * n, 0, 32, .rc, 0x0⟩ -- R397
def FP_CNT_RXF (n : Nat) : Fld := ⟨0xD0030 + 0x10000 * n, 0, 32, .rc, 0x0⟩ -- R397
def FP_CRED_TX (n : Nat) (m : Nat) : Fld := ⟨0xD0040 + 0x10000 * n + 0x4 * m, 0, 9, .ro, 0x0⟩ -- R397
def FP_CRED_RX (n : Nat) (m : Nat) : Fld := ⟨0xD0040 + 0x10000 * n + 0x4 * m, 16, 9, .ro, 0x0⟩ -- R397
def FP_TS_DELAY (n : Nat) : Fld := ⟨0xD0060 + 0x10000 * n, 0, 32, .ro, 0x0⟩ -- R427
def FP_TS_OFFSET (n : Nat) : Fld := ⟨0xD0064 + 0x10000 * n, 0, 32, .ro, 0x0⟩ -- R427
def FP_TS_ASYM (n : Nat) : Fld := ⟨0xD0068 + 0x10000 * n, 0, 32, .rw, 0x0⟩ -- R427
def FP_SVC_FLAGS_TS_MISSING (n : Nat) : Fld := ⟨0xD006C + 0x10000 * n, 0, 1, .w1c, 0x0⟩ -- R428
def FP_SVC_FLAGS_TS_BUDGET (n : Nat) : Fld := ⟨0xD006C + 0x10000 * n, 1, 1, .w1c, 0x0⟩ -- R428
def FP_SVC_FLAGS_STREAM_REFUSED (n : Nat) : Fld := ⟨0xD006C + 0x10000 * n, 2, 1, .w1c, 0x0⟩ -- R428
def FP_SVC_FLAGS_STREAM_LOSS (n : Nat) : Fld := ⟨0xD006C + 0x10000 * n, 3, 1, .w1c, 0x0⟩ -- R428
def FP_SVC_FLAGS_STREAM_LATE (n : Nat) : Fld := ⟨0xD006C + 0x10000 * n, 4, 1, .w1c, 0x0⟩ -- R428
def FP_STX_EN (n : Nat) (m : Nat) : Fld := ⟨0xD0100 + 0x10000 * n + 0x4 * m, 0, 1, .rw, 0x0⟩ -- R428
def FP_STX_FIRST (n : Nat) (m : Nat) : Fld := ⟨0xD0100 + 0x10000 * n + 0x4 * m, 1, 7, .rw, 0x0⟩ -- R428
def FP_STX_CNTM1 (n : Nat) (m : Nat) : Fld := ⟨0xD0100 + 0x10000 * n + 0x4 * m, 8, 7, .rw, 0x0⟩ -- R428
def FP_STX_BCAST (n : Nat) (m : Nat) : Fld := ⟨0xD0100 + 0x10000 * n + 0x4 * m, 15, 1, .rw, 0x0⟩ -- R428
def FP_STX_DST (n : Nat) (m : Nat) : Fld := ⟨0xD0100 + 0x10000 * n + 0x4 * m, 20, 12, .rw, 0x0⟩ -- R428
def FP_SRX_EN (n : Nat) (m : Nat) : Fld := ⟨0xD0140 + 0x10000 * n + 0x4 * m, 0, 1, .rw, 0x0⟩ -- R428
def FP_SRX_FIRST (n : Nat) (m : Nat) : Fld := ⟨0xD0140 + 0x10000 * n + 0x4 * m, 1, 7, .rw, 0x0⟩ -- R428
def FP_SRX_CNTM1 (n : Nat) (m : Nat) : Fld := ⟨0xD0140 + 0x10000 * n + 0x4 * m, 8, 7, .rw, 0x0⟩ -- R428
def FP_SRX_SSPACE (n : Nat) (m : Nat) : Fld := ⟨0xD0140 + 0x10000 * n + 0x4 * m, 15, 2, .rw, 0x0⟩ -- R428
def FP_SRX_SID (n : Nat) (m : Nat) : Fld := ⟨0xD0140 + 0x10000 * n + 0x4 * m, 17, 3, .rw, 0x0⟩ -- R428
def FP_SRX_SRC (n : Nat) (m : Nat) : Fld := ⟨0xD0140 + 0x10000 * n + 0x4 * m, 20, 12, .rw, 0x0⟩ -- R428
def AO_CTRL_MON_EN : Fld := ⟨0x90000, 0, 1, .rw, 0x1⟩ -- R458
def AO_STAT_CLR_PIN : Fld := ⟨0x90004, 0, 1, .ro, 0x0⟩ -- R458
def AO_STAT_RAILS_OK : Fld := ⟨0x90004, 1, 1, .ro, 0x0⟩ -- R458
def AO_STAT_MON_TRUST : Fld := ⟨0x90004, 2, 1, .ro, 0x0⟩ -- R458
def AO_FLAGS_CLEAR_HELD : Fld := ⟨0x90008, 0, 1, .w1c, 0x0⟩ -- R458
def AO_FLAGS_REF_WIN : Fld := ⟨0x90008, 1, 1, .w1c, 0x0⟩ -- R458
def AO_FLAGS_RAIL_FAULT : Fld := ⟨0x90008, 2, 1, .w1c, 0x0⟩ -- R458
def AO_SWCLR : Fld := ⟨0x9000C, 0, 16, .rw, 0x0⟩ -- R457
def AO_CLRPIN_EN : Fld := ⟨0x90010, 0, 16, .rw, 0xFFFF⟩ -- R457
def AO_REF_READING (n : Nat) : Fld := ⟨0x90020 + 0x4 * n, 0, 16, .ro, 0x0⟩ -- R457
def AO_REF_IN_WIN (n : Nat) : Fld := ⟨0x90020 + 0x4 * n, 16, 1, .ro, 0x0⟩ -- R457
def AO_CH_CFG_EN (n : Nat) : Fld := ⟨0x90100 + 0x20 * n, 0, 1, .rw, 0x0⟩ -- R458
def AO_CH_CFG_SPAN (n : Nat) : Fld := ⟨0x90100 + 0x20 * n, 1, 3, .rw, 0x0⟩ -- R458
def AO_CH_CFG_PAIR (n : Nat) : Fld := ⟨0x90100 + 0x20 * n, 4, 1, .rw, 0x0⟩ -- R458
def AO_CH_CFG_SLEW_SIG (n : Nat) : Fld := ⟨0x90100 + 0x20 * n, 5, 1, .rw, 0x0⟩ -- R458
def AO_CH_CFG_CLR_STEP (n : Nat) : Fld := ⟨0x90100 + 0x20 * n, 6, 1, .rw, 0x0⟩ -- R458
def AO_CH_CFG_SLEW_RATE (n : Nat) : Fld := ⟨0x90100 + 0x20 * n, 8, 2, .rw, 0x0⟩ -- R458
def AO_CH_CFG_CAL (n : Nat) : Fld := ⟨0x90100 + 0x20 * n, 10, 1, .wo, 0x0⟩ -- R458
def AO_CH_CFG_BENCH_OK (n : Nat) : Fld := ⟨0x90100 + 0x20 * n, 11, 1, .rw, 0x0⟩ -- R458
def AO_CH_CFG_WIN_ACT (n : Nat) : Fld := ⟨0x90100 + 0x20 * n, 12, 2, .rw, 0x0⟩ -- R458
def AO_CH_CFG_SLEW_STEP (n : Nat) : Fld := ⟨0x90100 + 0x20 * n, 16, 16, .rw, 0x2000⟩ -- R458
def AO_CH_CLRCODE (n : Nat) : Fld := ⟨0x90104 + 0x20 * n, 0, 24, .rw, 0x0⟩ -- R457
def AO_CH_STAT_STATE (n : Nat) : Fld := ⟨0x90108 + 0x20 * n, 0, 3, .ro, 0x0⟩ -- R458
def AO_CH_STAT_FED (n : Nat) : Fld := ⟨0x90108 + 0x20 * n, 3, 1, .ro, 0x0⟩ -- R458
def AO_CH_STAT_LIMITING (n : Nat) : Fld := ⟨0x90108 + 0x20 * n, 4, 1, .ro, 0x0⟩ -- R458
def AO_CH_STAT_CUR_LIMIT (n : Nat) : Fld := ⟨0x90108 + 0x20 * n, 5, 1, .ro, 0x0⟩ -- R458
def AO_CH_STAT_IN_WIN (n : Nat) : Fld := ⟨0x90108 + 0x20 * n, 6, 1, .ro, 0x0⟩ -- R458
def AO_CH_STAT_CAL_DONE (n : Nat) : Fld := ⟨0x90108 + 0x20 * n, 7, 1, .ro, 0x0⟩ -- R458
def AO_CH_STAT_SPAN_ACTIVE (n : Nat) : Fld := ⟨0x90108 + 0x20 * n, 8, 3, .ro, 0x0⟩ -- R458
def AO_CH_FLAGS_WIN (n : Nat) : Fld := ⟨0x9010C + 0x20 * n, 0, 1, .w1c, 0x0⟩ -- R458
def AO_CH_FLAGS_NEG_CLIP (n : Nat) : Fld := ⟨0x9010C + 0x20 * n, 1, 1, .w1c, 0x0⟩ -- R458
def AO_CH_FLAGS_CUR_LIMIT (n : Nat) : Fld := ⟨0x9010C + 0x20 * n, 2, 1, .w1c, 0x0⟩ -- R458
def AO_CH_FLAGS_CFG_REFUSED (n : Nat) : Fld := ⟨0x9010C + 0x20 * n, 3, 1, .w1c, 0x0⟩ -- R458
def AO_CH_FLAGS_TEST_ABORT (n : Nat) : Fld := ⟨0x9010C + 0x20 * n, 4, 1, .w1c, 0x0⟩ -- R458
def AO_CH_WIN_MODE (n : Nat) : Fld := ⟨0x90110 + 0x20 * n, 0, 2, .rw, 0x0⟩ -- R458
def AO_CH_WIN_COUNT (n : Nat) : Fld := ⟨0x90110 + 0x20 * n, 8, 8, .rw, 0x4⟩ -- R458
def AO_CH_WIN_TOL (n : Nat) : Fld := ⟨0x90110 + 0x20 * n, 16, 16, .rw, 0xFA⟩ -- R458
def AO_CH_WIN_ABS_LO (n : Nat) : Fld := ⟨0x90114 + 0x20 * n, 0, 16, .rw, 0x8000⟩ -- R457
def AO_CH_WIN_ABS_HI (n : Nat) : Fld := ⟨0x90114 + 0x20 * n, 16, 16, .rw, 0x7FFF⟩ -- R457
def AO_CH_SENSE_LAST (n : Nat) : Fld := ⟨0x90118 + 0x20 * n, 0, 16, .ro, 0x0⟩ -- R457
def AO_CH_SENSE_EXP (n : Nat) : Fld := ⟨0x90118 + 0x20 * n, 16, 16, .ro, 0x0⟩ -- R457
def AO_CH_CODE (n : Nat) : Fld := ⟨0x9011C + 0x20 * n, 0, 24, .ro, 0x0⟩ -- R457
def UART_CTRL_EN (n : Nat) : Fld := ⟨0x70000 + 0x1000 * n, 0, 1, .rw, 0x0⟩ -- R482
def UART_CTRL_MODE (n : Nat) : Fld := ⟨0x70000 + 0x1000 * n, 1, 2, .rw, 0x0⟩ -- R482
def UART_CTRL_DATA7 (n : Nat) : Fld := ⟨0x70000 + 0x1000 * n, 3, 1, .rw, 0x0⟩ -- R482
def UART_CTRL_PARITY (n : Nat) : Fld := ⟨0x70000 + 0x1000 * n, 4, 2, .rw, 0x0⟩ -- R482
def UART_CTRL_STOP2 (n : Nat) : Fld := ⟨0x70000 + 0x1000 * n, 6, 1, .rw, 0x0⟩ -- R482
def UART_CTRL_ECHO (n : Nat) : Fld := ⟨0x70000 + 0x1000 * n, 7, 1, .rw, 0x0⟩ -- R482
def UART_CTRL_RXTRIG (n : Nat) : Fld := ⟨0x70000 + 0x1000 * n, 8, 3, .rw, 0x0⟩ -- R482
def UART_CTRL_TXTRIG (n : Nat) : Fld := ⟨0x70000 + 0x1000 * n, 11, 3, .rw, 0x0⟩ -- R482
def UART_CTRL_RAW_MIDI (n : Nat) : Fld := ⟨0x70000 + 0x1000 * n, 14, 1, .rw, 0x0⟩ -- R482
def UART_CTRL_PKT_EVT (n : Nat) : Fld := ⟨0x70000 + 0x1000 * n, 15, 1, .rw, 0x0⟩ -- R482
def UART_CTRL_STUCK_TIME (n : Nat) : Fld := ⟨0x70000 + 0x1000 * n, 16, 10, .rw, 0x64⟩ -- R482
def UART_DIV (n : Nat) : Fld := ⟨0x70004 + 0x1000 * n, 0, 24, .rw, 0x1800⟩ -- R481
def UART_STAT_RX_LEVEL (n : Nat) : Fld := ⟨0x70008 + 0x1000 * n, 0, 8, .ro, 0x0⟩ -- R482
def UART_STAT_TX_LEVEL (n : Nat) : Fld := ⟨0x70008 + 0x1000 * n, 8, 8, .ro, 0x0⟩ -- R482
def UART_STAT_RX_TRIG (n : Nat) : Fld := ⟨0x70008 + 0x1000 * n, 16, 1, .ro, 0x0⟩ -- R482
def UART_STAT_TX_TRIG (n : Nat) : Fld := ⟨0x70008 + 0x1000 * n, 17, 1, .ro, 0x0⟩ -- R482
def UART_STAT_LINE_LOW (n : Nat) : Fld := ⟨0x70008 + 0x1000 * n, 18, 1, .ro, 0x0⟩ -- R482
def UART_STAT_DE (n : Nat) : Fld := ⟨0x70008 + 0x1000 * n, 19, 1, .ro, 0x0⟩ -- R482
def UART_STAT_DMX_LOSS (n : Nat) : Fld := ⟨0x70008 + 0x1000 * n, 20, 1, .ro, 0x0⟩ -- R482
def UART_FLAGS_FE (n : Nat) : Fld := ⟨0x7000C + 0x1000 * n, 0, 1, .w1c, 0x0⟩ -- R482
def UART_FLAGS_PE (n : Nat) : Fld := ⟨0x7000C + 0x1000 * n, 1, 1, .w1c, 0x0⟩ -- R482
def UART_FLAGS_OVR (n : Nat) : Fld := ⟨0x7000C + 0x1000 * n, 2, 1, .w1c, 0x0⟩ -- R482
def UART_FLAGS_BRK (n : Nat) : Fld := ⟨0x7000C + 0x1000 * n, 3, 1, .w1c, 0x0⟩ -- R482
def UART_FLAGS_LINE_STUCK (n : Nat) : Fld := ⟨0x7000C + 0x1000 * n, 4, 1, .w1c, 0x0⟩ -- R482
def UART_FLAGS_DMX_SHORT (n : Nat) : Fld := ⟨0x7000C + 0x1000 * n, 5, 1, .w1c, 0x0⟩ -- R482
def UART_RXD (n : Nat) : Fld := ⟨0x70010 + 0x1000 * n, 0, 32, .ro, 0x80000000⟩ -- R481
def UART_DE_LEAD (n : Nat) : Fld := ⟨0x70014 + 0x1000 * n, 0, 8, .rw, 0x4⟩ -- R481
def UART_DE_HOLD (n : Nat) : Fld := ⟨0x70014 + 0x1000 * n, 8, 8, .rw, 0x4⟩ -- R481
def UART_DMX_CFG_BRK_TX (n : Nat) : Fld := ⟨0x70018 + 0x1000 * n, 0, 10, .rw, 0xB0⟩ -- R481
def UART_DMX_CFG_MAB_TX (n : Nat) : Fld := ⟨0x70018 + 0x1000 * n, 10, 10, .rw, 0x10⟩ -- R481
def UART_DMX_CFG_IDLE_END (n : Nat) : Fld := ⟨0x70018 + 0x1000 * n, 20, 10, .rw, 0x84⟩ -- R481
def UART_DMX_STAT_SLOTS (n : Nat) : Fld := ⟨0x7001C + 0x1000 * n, 0, 10, .ro, 0x0⟩ -- R481
def UART_CNT_PKT (n : Nat) : Fld := ⟨0x70020 + 0x1000 * n, 0, 32, .rc, 0x0⟩ -- R481
def UART_CNT_FE (n : Nat) : Fld := ⟨0x70024 + 0x1000 * n, 0, 32, .rc, 0x0⟩ -- R481
def UART_CNT_OVR (n : Nat) : Fld := ⟨0x70028 + 0x1000 * n, 0, 32, .rc, 0x0⟩ -- R481
def UART_AC_LEAD (n : Nat) : Fld := ⟨0x70030 + 0x1000 * n, 0, 16, .rw, 0x5DC⟩ -- R481
def UART_DMX (n : Nat) (m : Nat) : Fld := ⟨0x70800 + 0x1000 * n + 0x4 * m, 0, 32, .ro, 0x0⟩ -- R481
def UART_CM_CFG_PORT (n : Nat) : Fld := ⟨0x78000 + 0x10 * n, 0, 4, .rw, 0x0⟩ -- R481
def UART_CM_CFG_KIND (n : Nat) : Fld := ⟨0x78000 + 0x10 * n, 4, 4, .rw, 0x0⟩ -- R481
def UART_CM_CFG_CHAN (n : Nat) : Fld := ⟨0x78000 + 0x10 * n, 8, 4, .rw, 0x0⟩ -- R481
def UART_CM_CFG_INDEX (n : Nat) : Fld := ⟨0x78000 + 0x10 * n, 12, 10, .rw, 0x0⟩ -- R481
def UART_CM_CFG_GROUP (n : Nat) : Fld := ⟨0x78000 + 0x10 * n, 22, 6, .rw, 0x0⟩ -- R481
def UART_CM_CFG_TGT_EN (n : Nat) : Fld := ⟨0x78000 + 0x10 * n, 28, 1, .rw, 0x0⟩ -- R481
def UART_CM_CFG_VPRI (n : Nat) : Fld := ⟨0x78000 + 0x10 * n, 29, 3, .rw, 0x0⟩ -- R481
def UART_CM_PARAM (n : Nat) : Fld := ⟨0x78004 + 0x10 * n, 0, 18, .rw, 0x0⟩ -- R481
def UART_CM_SCALE (n : Nat) : Fld := ⟨0x78008 + 0x10 * n, 0, 32, .rw, 0x3F800000⟩ -- R481
def UART_CM_OFFSET (n : Nat) : Fld := ⟨0x7800C + 0x10 * n, 0, 32, .rw, 0x0⟩ -- R481
def UART_CM_VAL (n : Nat) : Fld := ⟨0x7C000 + 0x4 * n, 0, 32, .ro, 0x0⟩ -- R481
def UART_CM_CNT_BAD : Fld := ⟨0x7F000, 0, 32, .rc, 0x0⟩ -- R481
def TDM_CTRL_EN (n : Nat) : Fld := ⟨0x80000 + 0x100 * n, 0, 1, .rw, 0x0⟩ -- R484
def TDM_CTRL_MASTER (n : Nat) : Fld := ⟨0x80000 + 0x100 * n, 1, 1, .rw, 0x0⟩ -- R484
def TDM_CTRL_FORMAT (n : Nat) : Fld := ⟨0x80000 + 0x100 * n, 2, 2, .rw, 0x0⟩ -- R484
def TDM_CTRL_DELAY (n : Nat) : Fld := ⟨0x80000 + 0x100 * n, 4, 1, .rw, 0x0⟩ -- R484
def TDM_CTRL_SLOTS (n : Nat) : Fld := ⟨0x80000 + 0x100 * n, 5, 5, .rw, 0x2⟩ -- R484
def TDM_CTRL_BCLK_INV (n : Nat) : Fld := ⟨0x80000 + 0x100 * n, 10, 1, .rw, 0x0⟩ -- R484
def TDM_CTRL_FS_INV (n : Nat) : Fld := ⟨0x80000 + 0x100 * n, 11, 1, .rw, 0x0⟩ -- R484
def TDM_CTRL_DIN_EN (n : Nat) : Fld := ⟨0x80000 + 0x100 * n, 12, 1, .rw, 0x0⟩ -- R484
def TDM_CTRL_DOUT_EN (n : Nat) : Fld := ⟨0x80000 + 0x100 * n, 13, 1, .rw, 0x0⟩ -- R484
def TDM_STAT_CLK (n : Nat) : Fld := ⟨0x80004 + 0x100 * n, 0, 2, .ro, 0x0⟩ -- R483
def TDM_FLAGS_CLK_LOST (n : Nat) : Fld := ⟨0x80008 + 0x100 * n, 0, 1, .w1c, 0x0⟩ -- R483
def TDM_FLAGS_SLIP (n : Nat) : Fld := ⟨0x80008 + 0x100 * n, 1, 1, .w1c, 0x0⟩ -- R483
def TDM_FLAGS_IN_OVR (n : Nat) : Fld := ⟨0x80008 + 0x100 * n, 2, 1, .w1c, 0x0⟩ -- R483
def TDM_FLAGS_OUT_UND (n : Nat) : Fld := ⟨0x80008 + 0x100 * n, 3, 1, .w1c, 0x0⟩ -- R483
def TDM_FLAGS_CFG_REFUSED (n : Nat) : Fld := ⟨0x80008 + 0x100 * n, 4, 1, .w1c, 0x0⟩ -- R483
def TDM_CNT_SLIP (n : Nat) : Fld := ⟨0x8000C + 0x100 * n, 0, 32, .rc, 0x0⟩ -- R483
def TDM_MCLK : Fld := ⟨0x80800, 0, 2, .rw, 0x0⟩ -- R483
def GPIO_DIR : Fld := ⟨0x81000, 0, 24, .rw, 0x0⟩ -- R483
def GPIO_OUT : Fld := ⟨0x81004, 0, 24, .rw, 0x0⟩ -- R483
def GPIO_SET : Fld := ⟨0x81008, 0, 24, .w1s, 0x0⟩ -- R483
def GPIO_CLR : Fld := ⟨0x8100C, 0, 24, .wo, 0x0⟩ -- R483
def GPIO_IN : Fld := ⟨0x81010, 0, 24, .ro, 0x0⟩ -- R483
def GPIO_PULL : Fld := ⟨0x81014, 0, 24, .rw, 0x0⟩ -- R483
def GPIO_PULLUP : Fld := ⟨0x81018, 0, 24, .rw, 0x0⟩ -- R483
def GPIO_FUNC : Fld := ⟨0x8101C, 0, 8, .rw, 0x0⟩ -- R483
def MEM_CTRL_SCRUB_EN : Fld := ⟨0xA0000, 0, 1, .rw, 0x1⟩ -- R505
def MEM_CTRL_SCRUB_PERIOD : Fld := ⟨0xA0000, 8, 8, .rw, 0x18⟩ -- R505
def MEM_STAT_REGION : Fld := ⟨0xA0004, 0, 8, .ro, 0x0⟩ -- R504
def MEM_STAT_BANK : Fld := ⟨0xA0004, 8, 6, .ro, 0x0⟩ -- R504
def MEM_STAT_TEST_ACTIVE : Fld := ⟨0xA0004, 14, 1, .ro, 0x0⟩ -- R504
def MEM_STAT_REDIRECT : Fld := ⟨0xA0004, 15, 1, .ro, 0x0⟩ -- R504
def MEM_FLAGS_SRAM_UE : Fld := ⟨0xA0008, 0, 1, .w1c, 0x0⟩ -- R505
def MEM_FLAGS_DRAM_UE : Fld := ⟨0xA0008, 1, 1, .w1c, 0x0⟩ -- R505
def MEM_FLAGS_RMW_DROP : Fld := ⟨0xA0008, 2, 1, .w1c, 0x0⟩ -- R505
def MEM_FLAGS_PWR_REFUSED : Fld := ⟨0xA0008, 3, 1, .w1c, 0x0⟩ -- R505
def MEM_FLAGS_WIN_REFUSED : Fld := ⟨0xA0008, 4, 1, .w1c, 0x0⟩ -- R505
def MEM_FLAGS_SCRUB_LATE : Fld := ⟨0xA0008, 5, 1, .w1c, 0x0⟩ -- R505
def MEM_ERR_ADDR_LO : Fld := ⟨0xA000C, 0, 32, .ro, 0x0⟩ -- R504
def MEM_ERR_ADDR_HI_A32 : Fld := ⟨0xA0010, 0, 1, .ro, 0x0⟩ -- R504
def MEM_ERR_ADDR_HI_SPACE : Fld := ⟨0xA0010, 1, 1, .ro, 0x0⟩ -- R504
def MEM_ERR_ADDR_HI_VALID : Fld := ⟨0xA0010, 31, 1, .ro, 0x0⟩ -- R504
def MEM_CNT_SRAM_CE : Fld := ⟨0xA0020, 0, 32, .rc, 0x0⟩ -- R504
def MEM_CNT_SRAM_UE : Fld := ⟨0xA0024, 0, 32, .rc, 0x0⟩ -- R504
def MEM_CNT_DRAM_CE : Fld := ⟨0xA0028, 0, 32, .rc, 0x0⟩ -- R504
def MEM_CNT_DRAM_UE : Fld := ⟨0xA002C, 0, 32, .rc, 0x0⟩ -- R504
def MEM_CNT_DMAWAIT : Fld := ⟨0xA0030, 0, 32, .rc, 0x0⟩ -- R504
def MEM_SCRUB_POS : Fld := ⟨0xA0034, 0, 28, .ro, 0x0⟩ -- R504
def MEM_BANK_PWR (n : Nat) : Fld := ⟨0xA0100 + 0x4 * n, 0, 2, .rw, 0x2⟩ -- R505
def MEM_BANK_STATE (n : Nat) : Fld := ⟨0xA0100 + 0x4 * n, 4, 2, .ro, 0x2⟩ -- R505
def MEM_BANK_REPAIRS (n : Nat) : Fld := ⟨0xA0100 + 0x4 * n, 6, 3, .ro, 0x0⟩ -- R505
def MEM_BANK_DEGRADED (n : Nat) : Fld := ⟨0xA0100 + 0x4 * n, 9, 1, .ro, 0x0⟩ -- R505
def MEM_BANK_TEST (n : Nat) : Fld := ⟨0xA0100 + 0x4 * n, 10, 1, .ro, 0x0⟩ -- R505
def MEM_WIN_BASE (n : Nat) : Fld := ⟨0xA1000 + 0x10 * n, 0, 31, .rw, 0x0⟩ -- R504
def MEM_WIN_LEN (n : Nat) : Fld := ⟨0xA1004 + 0x10 * n, 0, 24, .rw, 0x1⟩ -- R504
def MEM_WIN_PTR (n : Nat) : Fld := ⟨0xA1008 + 0x10 * n, 0, 24, .rw, 0x0⟩ -- R504
def MEM_WIN_CTRL_EN (n : Nat) : Fld := ⟨0xA100C + 0x10 * n, 0, 1, .rw, 0x0⟩ -- R505
def MEM_WIN_CTRL_SPACE (n : Nat) : Fld := ⟨0xA100C + 0x10 * n, 1, 1, .rw, 0x0⟩ -- R505
def MEM_WIN_CTRL_STEP (n : Nat) : Fld := ⟨0xA100C + 0x10 * n, 8, 7, .rw, 0x0⟩ -- R505
def PWR_REQ : Fld := ⟨0x30000, 0, 3, .wo, 0x0⟩ -- R522
def PWR_STAT_STATE : Fld := ⟨0x30004, 0, 3, .ro, 0x0⟩ -- R523
def PWR_STAT_BUSY : Fld := ⟨0x30004, 3, 1, .ro, 0x0⟩ -- R523
def PWR_STAT_PG : Fld := ⟨0x30004, 4, 1, .ro, 0x1⟩ -- R523
def PWR_STAT_THERM : Fld := ⟨0x30004, 5, 1, .ro, 0x0⟩ -- R523
def PWR_STAT_VIN_OK : Fld := ⟨0x30004, 6, 1, .ro, 0x1⟩ -- R523
def PWR_STAT_VAUX_OK : Fld := ⟨0x30004, 7, 1, .ro, 0x1⟩ -- R523
def PWR_FLAGS_REQ_REFUSED : Fld := ⟨0x30008, 0, 1, .w1c, 0x0⟩ -- R523
def PWR_FLAGS_DOM_REFUSED : Fld := ⟨0x30008, 1, 1, .w1c, 0x0⟩ -- R523
def PWR_FLAGS_VIN_LOW : Fld := ⟨0x30008, 2, 1, .w1c, 0x0⟩ -- R523
def PWR_FLAGS_VIN_HIGH : Fld := ⟨0x30008, 3, 1, .w1c, 0x0⟩ -- R523
def PWR_FLAGS_RAIL_FAULT : Fld := ⟨0x30008, 4, 1, .w1c, 0x0⟩ -- R523
def PWR_FLAGS_VAUX_OC : Fld := ⟨0x30008, 5, 1, .w1c, 0x0⟩ -- R523
def PWR_FLAGS_THERM_WARN : Fld := ⟨0x30008, 6, 1, .w1c, 0x0⟩ -- R523
def PWR_FLAGS_PLL_UNLOCK : Fld := ⟨0x30008, 7, 1, .w1c, 0x0⟩ -- R523
def PWR_DOM_EN : Fld := ⟨0x3000C, 0, 17, .rw, 0x1FFFF⟩ -- R522
def PWR_DOM_STAT : Fld := ⟨0x30010, 0, 17, .ro, 0x1FFFF⟩ -- R522
def PWR_CFG_AUTO_RESTART : Fld := ⟨0x30014, 0, 1, .rw, 0x0⟩ -- R523
def PWR_CFG_VAUX_SLEEP : Fld := ⟨0x30014, 1, 1, .rw, 0x0⟩ -- R523
def PWR_CFG_TH_WARN : Fld := ⟨0x30014, 8, 8, .rw, 0x64⟩ -- R523
def PWR_WAKE_CFG_WAKE_PIN : Fld := ⟨0x30018, 0, 1, .rw, 0x1⟩ -- R523
def PWR_WAKE_CFG_FABRIC : Fld := ⟨0x30018, 1, 1, .rw, 0x1⟩ -- R523
def PWR_WAKE_CFG_ALARM : Fld := ⟨0x30018, 2, 1, .rw, 0x0⟩ -- R523
def PWR_WAKE_CFG_PCIE : Fld := ⟨0x30018, 3, 1, .rw, 0x0⟩ -- R523
def PWR_WAKE_CFG_UART : Fld := ⟨0x30018, 4, 4, .rw, 0x0⟩ -- R523
def PWR_WAKE_CAUSE : Fld := ⟨0x3001C, 0, 10, .ro, 0x0⟩ -- R522
def PWR_ALARM_LO : Fld := ⟨0x30020, 0, 32, .rw, 0x0⟩ -- R522
def PWR_ALARM_HI : Fld := ⟨0x30024, 0, 32, .rw, 0x0⟩ -- R522
def PWR_RST_CAUSE_POR : Fld := ⟨0x30030, 0, 1, .ro, 0x1⟩ -- R523
def PWR_RST_CAUSE_BROWNOUT : Fld := ⟨0x30030, 1, 1, .ro, 0x0⟩ -- R523
def PWR_RST_CAUSE_RESET_N : Fld := ⟨0x30030, 2, 1, .ro, 0x0⟩ -- R523
def PWR_RST_CAUSE_WDOG : Fld := ⟨0x30030, 3, 1, .ro, 0x0⟩ -- R523
def PWR_RST_CAUSE_SOFT : Fld := ⟨0x30030, 4, 1, .ro, 0x0⟩ -- R523
def PWR_RST_CAUSE_REMOTE : Fld := ⟨0x30030, 5, 1, .ro, 0x0⟩ -- R523
def PWR_RST_CAUSE_REF_LOST : Fld := ⟨0x30030, 6, 1, .ro, 0x0⟩ -- R523
def PWR_RST_CAUSE_RAIL : Fld := ⟨0x30030, 7, 1, .ro, 0x0⟩ -- R523
def PWR_RST_CAUSE_NODE : Fld := ⟨0x30030, 16, 12, .ro, 0x0⟩ -- R523
def PWR_RST_REQ_KIND : Fld := ⟨0x30034, 0, 3, .wo, 0x0⟩ -- R522
def PWR_RST_REQ_MASK : Fld := ⟨0x30034, 8, 5, .wo, 0x0⟩ -- R522
def PWR_VIN : Fld := ⟨0x30038, 0, 16, .ro, 0x0⟩ -- R522
def PWR_TEMP : Fld := ⟨0x3003C, 0, 16, .ro, 0x0⟩ -- R522
def PWR_CLK_CFG_REFSEL : Fld := ⟨0x30040, 0, 1, .rw, 0x0⟩ -- R522
def PWR_CLK_STAT_PLL : Fld := ⟨0x30044, 0, 6, .ro, 0x3F⟩ -- R522
def PWR_CLK_STAT_AUDIO : Fld := ⟨0x30044, 6, 1, .ro, 0x0⟩ -- R522
def PWR_CLK_STAT_REF_OK : Fld := ⟨0x30044, 8, 1, .ro, 0x1⟩ -- R522
def PWR_CRASH (n : Nat) : Fld := ⟨0x30100 + 0x4 * n, 0, 32, .ro, 0x0⟩ -- R522
def PWR_SCRATCH (n : Nat) : Fld := ⟨0x30200 + 0x4 * n, 0, 32, .rw, 0x0⟩ -- R522
def ST_CTRL_PER_EN : Fld := ⟨0x50000, 0, 1, .rw, 0x0⟩ -- R542
def ST_CTRL_CLASS_EN : Fld := ⟨0x50000, 4, 4, .rw, 0xF⟩ -- R542
def ST_PERIOD_PERIOD : Fld := ⟨0x50004, 0, 16, .rw, 0x64⟩ -- R542
def ST_PERIOD_BUDGET : Fld := ⟨0x50004, 16, 16, .rw, 0x1F4⟩ -- R542
def ST_WAIT : Fld := ⟨0x50008, 0, 8, .rw, 0xA⟩ -- R541
def ST_STAT_ACTIVE : Fld := ⟨0x5000C, 0, 3, .ro, 0x0⟩ -- R542
def ST_STAT_PER_RUN : Fld := ⟨0x5000C, 3, 1, .ro, 0x0⟩ -- R542
def ST_STAT_UNIT : Fld := ⟨0x5000C, 8, 12, .ro, 0x0⟩ -- R542
def ST_STAT_REGION : Fld := ⟨0x5000C, 20, 7, .ro, 0x0⟩ -- R542
def ST_FLAGS_FAIL : Fld := ⟨0x50010, 0, 1, .w1c, 0x0⟩ -- R542
def ST_FLAGS_INCOMPLETE : Fld := ⟨0x50010, 1, 1, .w1c, 0x0⟩ -- R542
def ST_FLAGS_DENIED : Fld := ⟨0x50010, 2, 1, .w1c, 0x0⟩ -- R542
def ST_FLAGS_BUDGET_SHORT : Fld := ⟨0x50010, 3, 1, .w1c, 0x0⟩ -- R542
def ST_FLAGS_SKIPPED : Fld := ⟨0x50010, 4, 1, .w1c, 0x0⟩ -- R542
def ST_FLAGS_ABORTED : Fld := ⟨0x50010, 5, 1, .w1c, 0x0⟩ -- R542
def ST_HELD_CORE : Fld := ⟨0x50014, 0, 20, .ro, 0x0⟩ -- R541
def ST_HELD_OUT : Fld := ⟨0x50018, 0, 16, .ro, 0x0⟩ -- R541
def ST_CNT_PASS : Fld := ⟨0x50020, 0, 32, .rc, 0x0⟩ -- R541
def ST_CNT_FAIL : Fld := ⟨0x50024, 0, 32, .rc, 0x0⟩ -- R541
def ST_CNT_INCOMPLETE : Fld := ⟨0x50028, 0, 32, .rc, 0x0⟩ -- R541
def ST_LAST_UNIT : Fld := ⟨0x50030, 0, 16, .ro, 0x0⟩ -- R541
def ST_LAST_VERDICT : Fld := ⟨0x50030, 16, 2, .ro, 0x0⟩ -- R541
def ST_LAST_SIG : Fld := ⟨0x50034, 0, 32, .ro, 0x0⟩ -- R541
def ST_LAST_COUNT : Fld := ⟨0x50038, 0, 32, .ro, 0x0⟩ -- R541
def ST_REC (n : Nat) : Fld := ⟨0x50040 + 0x4 * n, 0, 32, .ro, 0x0⟩ -- R541
def ST_RAW_CTRL_UNIT : Fld := ⟨0x50100, 0, 16, .rw, 0x0⟩ -- R541
def ST_RAW_CTRL_GO : Fld := ⟨0x50100, 31, 1, .wo, 0x0⟩ -- R541
def LC_STAT_STATE : Fld := ⟨0x40000, 0, 3, .ro, 0x0⟩ -- R557
def LC_STAT_FUSED : Fld := ⟨0x40000, 3, 3, .ro, 0x0⟩ -- R557
def LC_STAT_SCOPE : Fld := ⟨0x40000, 6, 3, .ro, 0x0⟩ -- R557
def LC_STAT_LOCKED : Fld := ⟨0x40000, 9, 1, .ro, 0x0⟩ -- R557
def LC_STAT_NONCE_VALID : Fld := ⟨0x40000, 10, 1, .ro, 0x0⟩ -- R557
def LC_STAT_FAILS : Fld := ⟨0x40000, 16, 8, .ro, 0x0⟩ -- R557
def LC_FLAGS_AUTH_FAIL : Fld := ⟨0x40004, 0, 1, .w1c, 0x0⟩ -- R557
def LC_FLAGS_LOCKOUT : Fld := ⟨0x40004, 1, 1, .w1c, 0x0⟩ -- R557
def LC_FLAGS_CMD_REFUSED : Fld := ⟨0x40004, 2, 1, .w1c, 0x0⟩ -- R557
def LC_FLAGS_EXPIRED : Fld := ⟨0x40004, 3, 1, .w1c, 0x0⟩ -- R557
def LC_FLAGS_KEY_BAD : Fld := ⟨0x40004, 4, 1, .w1c, 0x0⟩ -- R557
def LC_CMD_OP : Fld := ⟨0x40008, 0, 4, .wo, 0x0⟩ -- R556
def LC_CMD_ARG : Fld := ⟨0x40008, 4, 3, .wo, 0x0⟩ -- R556
def LC_SCOPE : Fld := ⟨0x4000C, 0, 32, .rw, 0x0⟩ -- R556
def LC_SVC_LEFT : Fld := ⟨0x40010, 0, 15, .ro, 0x0⟩ -- R556
def LC_LOCK_LEFT : Fld := ⟨0x40014, 0, 16, .ro, 0x0⟩ -- R556
def LC_KEYS_SVCKEY : Fld := ⟨0x40018, 8, 2, .ro, 0x0⟩ -- R557
def LC_KEYS_PASSWD : Fld := ⟨0x40018, 10, 2, .ro, 0x0⟩ -- R557
def LC_RESULT_STATUS : Fld := ⟨0x4001C, 0, 8, .ro, 0x0⟩ -- R556
def LC_RESULT_BUSY : Fld := ⟨0x4001C, 8, 1, .ro, 0x0⟩ -- R556
def LC_NONCE (n : Nat) : Fld := ⟨0x40020 + 0x4 * n, 0, 32, .ro, 0x0⟩ -- R556
def LC_DATA (n : Nat) : Fld := ⟨0x40100 + 0x4 * n, 0, 32, .rw, 0x0⟩ -- R556
def ID_BOOT_STAT_BOOTSEL : Fld := ⟨0x100, 0, 2, .ro, 0x0⟩ -- R577
def ID_BOOT_STAT_SOURCE : Fld := ⟨0x100, 2, 2, .ro, 0x0⟩ -- R577
def ID_BOOT_STAT_TRIAL : Fld := ⟨0x100, 4, 1, .ro, 0x0⟩ -- R577
def ID_BOOT_STAT_CONFIRMED : Fld := ⟨0x100, 5, 1, .ro, 0x0⟩ -- R577
def ID_BOOT_STAT_REVERTED : Fld := ⟨0x100, 6, 1, .ro, 0x0⟩ -- R577
def ID_BOOT_STAT_READY : Fld := ⟨0x100, 7, 1, .ro, 0x0⟩ -- R577
def ID_BOOT_STAT_TRIES : Fld := ⟨0x100, 8, 2, .ro, 0x0⟩ -- R577
def ID_BOOT_STAT_PHASE : Fld := ⟨0x100, 12, 3, .ro, 0x0⟩ -- R577
def ID_BOOT_STAT_ERR : Fld := ⟨0x100, 16, 4, .ro, 0x0⟩ -- R577
def ID_BOOT_CTRL_GO : Fld := ⟨0x104, 0, 1, .wo, 0x0⟩ -- R577
def ID_BOOT_CTRL_CONFIRM : Fld := ⟨0x104, 1, 1, .wo, 0x0⟩ -- R577
def ID_BOOT_CTRL_REVERT : Fld := ⟨0x104, 2, 1, .wo, 0x0⟩ -- R577
def ID_FW_VER : Fld := ⟨0x108, 0, 32, .ro, 0x0⟩ -- R576
def ID_ARM_REV : Fld := ⟨0x10C, 0, 32, .ro, 0x0⟩ -- R576
def ID_SLOT_VALID (n : Nat) : Fld := ⟨0x110 + 0x4 * n, 0, 1, .ro, 0x0⟩ -- R576
def ID_SLOT_CHOSEN (n : Nat) : Fld := ⟨0x110 + 0x4 * n, 1, 1, .ro, 0x0⟩ -- R576
def ID_SLOT_VER (n : Nat) : Fld := ⟨0x118 + 0x4 * n, 0, 32, .ro, 0x0⟩ -- R576
def ID_UPD_CFG_SERVE_EN : Fld := ⟨0x120, 0, 1, .rw, 0x1⟩ -- R577
def ID_UPD_CFG_DRAIN_MAX : Fld := ⟨0x120, 8, 8, .rw, 0xA⟩ -- R577
def ID_UPD_CFG_CONFIRM_TIME : Fld := ⟨0x120, 16, 8, .rw, 0x3C⟩ -- R577
def ID_UPD_STAT_STEP : Fld := ⟨0x124, 0, 3, .ro, 0x0⟩ -- R577
def ID_UPD_STAT_CORE : Fld := ⟨0x124, 3, 5, .ro, 0x0⟩ -- R577
def ID_UPD_STAT_LEFT : Fld := ⟨0x124, 8, 8, .ro, 0x0⟩ -- R577
def HI_MSIX_ADDR_LO (n : Nat) : Fld := ⟨0x18000 + 0x10 * n, 0, 32, .rw, 0x0⟩ -- R309
def HI_MSIX_ADDR_HI (n : Nat) : Fld := ⟨0x18004 + 0x10 * n, 0, 32, .rw, 0x0⟩ -- R309
def HI_MSIX_DATA (n : Nat) : Fld := ⟨0x18008 + 0x10 * n, 0, 32, .rw, 0x0⟩ -- R309
def HI_MSIX_CTRL (n : Nat) : Fld := ⟨0x1800C + 0x10 * n, 0, 32, .rw, 0x1⟩ -- R309
def HI_PBA (n : Nat) : Fld := ⟨0x18800 + 0x4 * n, 0, 32, .ro, 0x0⟩ -- R309
def LC_KEYS_SLOT (n : Nat) : Fld := ⟨0x40018, 2 * n, 2, .ro, 0x0⟩ -- R557

/-- The fields at an offset in the register table of R3. -/
def fieldsR3 (off : Nat) : List Fld :=
  ([ID_PART, ID_REV, ID_GRADE, ID_UID_LO, ID_UID_HI, ID_IFVER_RING_MIN, ID_IFVER_RING_MAX, ID_IFVER_FAB_MIN, ID_IFVER_FAB_MAX, ID_IFVER_CTX_MIN, ID_IFVER_CTX_MAX, ID_IFVER_MAQ_MIN, ID_IFVER_MAQ_MAX]).filter (fun f => f.off == off)

/-- The fields at an offset in the register table of R20. -/
def fieldsR20 (off : Nat) : List Fld :=
  ([TB_NOW_LO, TB_NOW_HI, TB_NOW_FRAC, TB_CTRL_REF, TB_CTRL_MANUAL, TB_CTRL_BW, TB_CTRL_REACQUIRE, TB_CTRL_FS, TB_STAT_SERVO, TB_STAT_ROOT, TB_STAT_AUDIO_LOCK, TB_STAT_AUDIO_HOLD, TB_STAT_XT32_OK, TB_FLAGS_STEPPED, TB_FLAGS_OFFSET_ALARM, TB_FLAGS_RATE_CLAMP, TB_FLAGS_WCLK0_LOSS, TB_FLAGS_WCLK1_LOSS, TB_FLAGS_SET_REFUSED, TB_FLAGS_FS_BUSY, TB_FLAGS_REF_REFUSED, TB_FLAGS_XT32_FAIL, TB_FLAGS_RESYNC, TB_RATE, TB_OFFSET, TB_SET_LO, TB_SET_HI, TB_WCLK_OFS, TB_FRAME_LO, TB_FRAME_HI]
    ++ fam off 0x60040 0x10 2 (fun n => [TB_WCAP_LO n, TB_WCAP_HI n, TB_WCAP_CFG_EDGE n, TB_WCAP_CFG_EVT_EN n, TB_WCAP_CFG_FILT n, TB_WCAP_STAT_VALID n, TB_WCAP_STAT_OVR n, TB_WCAP_STAT_PRESENT n, TB_WCAP_STAT_OVR_CNT n])
    ++ fam off 0x60100 0x10 8 (fun n => [TB_TRIG_LO n, TB_TRIG_HI n, TB_TRIG_CFG_EDGE n, TB_TRIG_CFG_EVT_EN n, TB_TRIG_CFG_FILT n, TB_TRIG_STAT_COUNT n, TB_TRIG_STAT_OVF n, TB_TRIG_STAT_DROP_CNT n])
    ++ fam off 0x60200 0x20 8 (fun n => [TB_CMP_LO n, TB_CMP_HI n, TB_CMP_CFG_ENABLE n, TB_CMP_CFG_ACTION n, TB_CMP_CFG_EVT_EN n, TB_CMP_CFG_PERIODIC n, TB_CMP_CFG_LINK n, TB_CMP_CFG_LEVEL n, TB_CMP_CFG_FORCE n, TB_CMP_STAT_MATCH n, TB_CMP_STAT_MISSED n, TB_CMP_STAT_STEPPED n, TB_CMP_STAT_ARMED n, TB_CMP_STAT_PIN n, TB_CMP_PERIOD n, TB_CMP_WIDTH n, TB_CMP_COUNT n])).filter (fun f => f.off == off)

/-- The fields at an offset in the register table of R144. -/
def fieldsR144 (off : Nat) : List Fld :=
  ([AL_NODE_X, AL_NODE_Y, AL_NODE_Z]).filter (fun f => f.off == off)

/-- The fields at an offset in the register table of R162. -/
def fieldsR162 (off : Nat) : List Fld :=
  ([AL_CTRL_CAST_EN, AL_CTRL_ALL_OFF, AL_STAT_USED, AL_STAT_PARKED, AL_STAT_TAILS, AL_CAP_CAPACITY, AL_CAP_AVAIL, AL_CNT_CAST, AL_CNT_STEAL, AL_CNT_REFUSED, AL_CNT_SPILL, AL_CNT_TAILCUT, AL_CNT_LATE, AL_CNT_STALE]
    ++ fam off 0xB0400 0x10 64 (fun n => [AL_GRP_CFG0 n, AL_GRP_CFG1 n, AL_GRP_CNT_COUNT n, AL_GRP_CNT_SPILLED n])
    ++ fam off 0xB1000 0x4 256 (fun n => [AL_VOICE_STATE n, AL_VOICE_GROUP n, AL_VOICE_VPRI n, AL_VOICE_HELD n, AL_VOICE_RETRIG_PEND n, AL_VOICE_GEN n])
    ++ fam off 0xB1400 0x4 64 (fun n => [AL_PARK_STATE n, AL_PARK_GROUP n, AL_PARK_VPRI n, AL_PARK_HELD n, AL_PARK_RETRIG_PEND n, AL_PARK_GEN n])).filter (fun f => f.off == off)

/-- The fields at an offset in the register table of R214. -/
def fieldsR214 (off : Nat) : List Fld :=
  ([AL_SCH_CTRL_RUN, AL_SCH_CTRL_BLOCK, AL_SCH_CTRL_SLACK, AL_SCH_CTRL_SHED_EN, AL_SCH_CTRL_SHED_BATCH, AL_SCH_STAT_STATE, AL_SCH_STAT_LEVEL, AL_SCH_STAT_SHED_WAIT, AL_SCH_FLAGS_CFG_REFUSED, AL_SCH_FLAGS_QUEUE_FULL, AL_SCH_FLAGS_BUS_LATE, AL_SCH_FLAGS_UNDERRUN, AL_SCH_FLAGS_SHED, AL_SCH_FLAGS_STEP_SKIP, AL_SCH_SLACK_SIGMA, AL_SCH_DEFICIT_MAX_DEFICIT, AL_SCH_QUEUE_COUNT, AL_SCH_BLOCK_LO, AL_SCH_BLOCK_HI, AL_SCH_CNT_LATEBLK, AL_SCH_CNT_UNDERRUN, AL_SCH_CNT_UFRAMES, AL_SCH_CNT_ROUGH, AL_SCH_CNT_SHED, AL_SCH_CNT_LATECMD, AL_SCH_CNT_SKIP]).filter (fun f => f.off == off)

/-- The fields at an offset in the register table of R282. -/
def fieldsR282 (off : Nat) : List Fld :=
  (fam off 0x200000 0x10000 20 (fun n => [CH_CTRL_HALT n, CH_CTRL_STEP n, CH_CTRL_FAULT_ACT n, CH_CTRL_BRK_EN n, CH_STAT_STATE n, CH_STAT_BANK n, CH_STAT_IN_HANDLER n, CH_STAT_FROZEN n, CH_FLAGS_DBG_DENIED n, CH_FLAGS_WCOLL n, CH_FAULT_CODE n, CH_FAULT_DOUBLE n, CH_FAULT_BANK n, CH_FAULT_VALID n, CH_FAULT_PC n, CH_PC n, CH_CYC_LO n, CH_CYC_HI n, CH_FREEZE n, CH_ECC_CE n, CH_ECC_UE n, CH_WCOLL n, CH_DBG_ADDR_OFFSET n, CH_DBG_ADDR_BANK n, CH_DBG_ADDR_SPACE n, CH_DBG_DATA n])
    ++ fam off 0x200040 0x10000 20 (fun n => fam off (0x200040 + 0x10000 * n) 0x4 4 (fun m => [CH_BRK_EN n m, CH_BRK_PC n m]))).filter (fun f => f.off == off)

/-- The fields at an offset in the register table of R309. -/
def fieldsR309 (off : Nat) : List Fld :=
  ([HI_CTRL_CP_EN, HI_STAT_LINK_UP, HI_STAT_SPEED, HI_STAT_WIDTH, HI_FLAGS_BAD_DOORBELL, HI_FLAGS_CFG_REFUSED, HI_FLAGS_FETCH_ERROR, HI_FLAGS_FLR_SEEN, HI_FLAGS_OWNER_LOST, HI_CNT_ACCEPT, HI_CNT_REJECT, HI_CNT_STALE]
    ++ fam off 0x10100 0x20 16 (fun n => [HI_RING_BASE_LO n, HI_RING_BASE_HI n, HI_RING_CFG_ENABLE n, HI_RING_CFG_LOG2SIZE n, HI_RING_CFG_LOC n, HI_RING_CFG_CQ n, HI_RING_CFG_PRIO n, HI_RING_CFG_OWNER n, HI_RING_STAT_STATE n, HI_RING_STAT_VER n, HI_RING_STAT_REASON n, HI_RING_STAT_GEN n, HI_RING_HEAD n, HI_RING_TAIL n])
    ++ fam off 0x11000 0x4 16 (fun n => [HI_DB n])
    ++ fam off 0x18000 0x10 64 (fun n => [HI_MSIX_ADDR_LO n, HI_MSIX_ADDR_HI n, HI_MSIX_DATA n, HI_MSIX_CTRL n])
    ++ fam off 0x18800 0x4 2 (fun n => [HI_PBA n])).filter (fun f => f.off == off)

/-- The fields at an offset in the register table of R357. -/
def fieldsR357 (off : Nat) : List Fld :=
  ([EQ_CNT_DISCARD]
    ++ fam off 0x20100 0x20 8 (fun n => [EQ_Q_BASE_LO n, EQ_Q_BASE_HI n, EQ_Q_CFG_ENABLE n, EQ_Q_CFG_LOG2SIZE n, EQ_Q_CFG_LOC n, EQ_Q_CFG_VECTOR n, EQ_Q_CFG_OWNER n, EQ_Q_MOD_MOD_COUNT n, EQ_Q_MOD_MOD_TIME n, EQ_Q_STAT_STATE n, EQ_Q_STAT_RANGE n, EQ_Q_STAT_BAD_CONS n, EQ_Q_STAT_CFG_REFUSED n, EQ_Q_STAT_HELD n, EQ_Q_PROD n, EQ_Q_CONS n, EQ_Q_DROP n])
    ++ fam off 0x21000 0x4 128 (fun n => [EQ_SRC_QUEUE n, EQ_SRC_EN n, EQ_SRC_URGENT n])).filter (fun f => f.off == off)

/-- The fields at an offset in the register table of R395. -/
def fieldsR395 (off : Nat) : List Fld :=
  ([FSW_CTRL_EN, FSW_CTRL_ROOT_DESIG, FSW_CTRL_RRST_EN, FSW_CTRL_MGMT, FSW_CTRL_ROOT_PRI, FSW_STAT_ADDR, FSW_STAT_ADDR_VALID, FSW_STAT_ROOT, FSW_STAT_DESIG, FSW_STAT_ROOT_VALID, FSW_STAT_UP_PORT, FSW_STAT_UP_VALID, FSW_FLAGS_ADDR_CONFLICT, FSW_FLAGS_ADDR_FAIL, FSW_FLAGS_DESIG_CONFLICT, FSW_FLAGS_NO_ROUTE, FSW_FLAGS_TTL_DROP, FSW_FLAGS_MGMT_DENIED, FSW_FLAGS_STALE, FSW_FLAGS_URX_DROP, FSW_FLAGS_MBX_BUSY, FSW_ADDR_PREF_ADDR, FSW_ADDR_PREF_VALID, FSW_ROOT_UID_LO, FSW_ROOT_UID_HI, FSW_ROOT_INFO_ADDR, FSW_ROOT_INFO_HOPS, FSW_ROOT_INFO_PRI, FSW_BOOTGEN, FSW_TIMING_REQ_TMO, FSW_TIMING_HELLO_MISS, FSW_CNT_FWD, FSW_CNT_NOROUTE, FSW_CNT_TTL, FSW_CNT_STALE, FSW_CNT_DENIED, FSW_CNT_URXDROP, FSW_URX_BASE, FSW_URX_CFG_COUNT, FSW_URX_PROD, FSW_URX_CONS]
    ++ fam off 0xC0100 0x4 8 (fun n => [FSW_MGMT_ALLOW_ADDR n, FSW_MGMT_ALLOW_EN n])
    ++ fam off 0xC0300 0x10 4 (fun n => [FSW_MBX_OFS n, FSW_MBX_CTRL_LEN n, FSW_MBX_CTRL_GO n, FSW_MBX_STAT_STATE n, FSW_MBX_STAT_STATUS n, FSW_MBX_STAT_LEN n])
    ++ fam off 0xC4000 0x4 4096 (fun n => [FSW_FWD_DIR n, FSW_FWD_STATIC n, FSW_FWD_BOOTGEN n])).filter (fun f => f.off == off)

/-- The fields at an offset in the register table of R397. -/
def fieldsR397 (off : Nat) : List Fld :=
  (fam off 0xD0000 0x10000 4 (fun n => [FP_CTRL_EN n, FP_CTRL_RETRAIN n, FP_CTRL_EQ n, FP_CTRL_BLOCK n, FP_STAT_LSTATE n, FP_STAT_SIGNAL n, FP_STAT_ROLE n, FP_STAT_VER n, FP_STAT_NB_ADDR n, FP_STAT_NB_ADDR_VALID n, FP_FLAGS_LOS n, FP_FLAGS_TRAIN_FAIL n, FP_FLAGS_VER_REFUSED n, FP_FLAGS_HELLO_TIMEOUT n, FP_FLAGS_CREDIT_TIMEOUT n, FP_FLAGS_CODE_ERR n, FP_FLAGS_FCS_ERR n, FP_FLAGS_OVERSIZE n, FP_NB_UID_LO n, FP_NB_UID_HI n, FP_NB_INFO_BOOTGEN n, FP_NB_INFO_VMIN n, FP_NB_INFO_VMAX n, FP_NB_INFO_PORT n, FP_NB_CAPS n, FP_EQ_STAT n, FP_CNT_CODE n, FP_CNT_FCS n, FP_CNT_DOWN n, FP_CNT_TXF n, FP_CNT_RXF n])
    ++ fam off 0xD0040 0x10000 4 (fun n => fam off (0xD0040 + 0x10000 * n) 0x4 4 (fun m => [FP_CRED_TX n m, FP_CRED_RX n m]))).filter (fun f => f.off == off)

/-- The fields at an offset in the register table of R427. -/
def fieldsR427 (off : Nat) : List Fld :=
  (fam off 0xD0060 0x10000 4 (fun n => [FP_TS_DELAY n, FP_TS_OFFSET n, FP_TS_ASYM n, FP_SVC_FLAGS_TS_MISSING n, FP_SVC_FLAGS_TS_BUDGET n, FP_SVC_FLAGS_STREAM_REFUSED n, FP_SVC_FLAGS_STREAM_LOSS n, FP_SVC_FLAGS_STREAM_LATE n])
    ++ fam off 0xD0100 0x10000 4 (fun n => fam off (0xD0100 + 0x10000 * n) 0x4 8 (fun m => [FP_STX_EN n m, FP_STX_FIRST n m, FP_STX_CNTM1 n m, FP_STX_BCAST n m, FP_STX_DST n m]))
    ++ fam off 0xD0140 0x10000 4 (fun n => fam off (0xD0140 + 0x10000 * n) 0x4 8 (fun m => [FP_SRX_EN n m, FP_SRX_FIRST n m, FP_SRX_CNTM1 n m, FP_SRX_SSPACE n m, FP_SRX_SID n m, FP_SRX_SRC n m]))).filter (fun f => f.off == off)

/-- The fields at an offset in the register table of R457. -/
def fieldsR457 (off : Nat) : List Fld :=
  ([AO_CTRL_MON_EN, AO_STAT_CLR_PIN, AO_STAT_RAILS_OK, AO_STAT_MON_TRUST, AO_FLAGS_CLEAR_HELD, AO_FLAGS_REF_WIN, AO_FLAGS_RAIL_FAULT, AO_SWCLR, AO_CLRPIN_EN]
    ++ fam off 0x90020 0x4 8 (fun n => [AO_REF_READING n, AO_REF_IN_WIN n])
    ++ fam off 0x90100 0x20 16 (fun n => [AO_CH_CFG_EN n, AO_CH_CFG_SPAN n, AO_CH_CFG_PAIR n, AO_CH_CFG_SLEW_SIG n, AO_CH_CFG_CLR_STEP n, AO_CH_CFG_SLEW_RATE n, AO_CH_CFG_CAL n, AO_CH_CFG_BENCH_OK n, AO_CH_CFG_WIN_ACT n, AO_CH_CFG_SLEW_STEP n, AO_CH_CLRCODE n, AO_CH_STAT_STATE n, AO_CH_STAT_FED n, AO_CH_STAT_LIMITING n, AO_CH_STAT_CUR_LIMIT n, AO_CH_STAT_IN_WIN n, AO_CH_STAT_CAL_DONE n, AO_CH_STAT_SPAN_ACTIVE n, AO_CH_FLAGS_WIN n, AO_CH_FLAGS_NEG_CLIP n, AO_CH_FLAGS_CUR_LIMIT n, AO_CH_FLAGS_CFG_REFUSED n, AO_CH_FLAGS_TEST_ABORT n, AO_CH_WIN_MODE n, AO_CH_WIN_COUNT n, AO_CH_WIN_TOL n, AO_CH_WIN_ABS_LO n, AO_CH_WIN_ABS_HI n, AO_CH_SENSE_LAST n, AO_CH_SENSE_EXP n, AO_CH_CODE n])).filter (fun f => f.off == off)

/-- The fields at an offset in the register table of R481. -/
def fieldsR481 (off : Nat) : List Fld :=
  ([UART_CM_CNT_BAD]
    ++ fam off 0x70000 0x1000 4 (fun n => [UART_CTRL_EN n, UART_CTRL_MODE n, UART_CTRL_DATA7 n, UART_CTRL_PARITY n, UART_CTRL_STOP2 n, UART_CTRL_ECHO n, UART_CTRL_RXTRIG n, UART_CTRL_TXTRIG n, UART_CTRL_RAW_MIDI n, UART_CTRL_PKT_EVT n, UART_CTRL_STUCK_TIME n, UART_DIV n, UART_STAT_RX_LEVEL n, UART_STAT_TX_LEVEL n, UART_STAT_RX_TRIG n, UART_STAT_TX_TRIG n, UART_STAT_LINE_LOW n, UART_STAT_DE n, UART_STAT_DMX_LOSS n, UART_FLAGS_FE n, UART_FLAGS_PE n, UART_FLAGS_OVR n, UART_FLAGS_BRK n, UART_FLAGS_LINE_STUCK n, UART_FLAGS_DMX_SHORT n, UART_RXD n, UART_DE_LEAD n, UART_DE_HOLD n, UART_DMX_CFG_BRK_TX n, UART_DMX_CFG_MAB_TX n, UART_DMX_CFG_IDLE_END n, UART_DMX_STAT_SLOTS n, UART_CNT_PKT n, UART_CNT_FE n, UART_CNT_OVR n, UART_AC_LEAD n])
    ++ fam off 0x70800 0x1000 4 (fun n => fam off (0x70800 + 0x1000 * n) 0x4 129 (fun m => [UART_DMX n m]))
    ++ fam off 0x78000 0x10 1024 (fun n => [UART_CM_CFG_PORT n, UART_CM_CFG_KIND n, UART_CM_CFG_CHAN n, UART_CM_CFG_INDEX n, UART_CM_CFG_GROUP n, UART_CM_CFG_TGT_EN n, UART_CM_CFG_VPRI n, UART_CM_PARAM n, UART_CM_SCALE n, UART_CM_OFFSET n])
    ++ fam off 0x7C000 0x4 1024 (fun n => [UART_CM_VAL n])).filter (fun f => f.off == off)

/-- The fields at an offset in the register table of R483. -/
def fieldsR483 (off : Nat) : List Fld :=
  ([TDM_MCLK, GPIO_DIR, GPIO_OUT, GPIO_SET, GPIO_CLR, GPIO_IN, GPIO_PULL, GPIO_PULLUP, GPIO_FUNC]
    ++ fam off 0x80000 0x100 2 (fun n => [TDM_CTRL_EN n, TDM_CTRL_MASTER n, TDM_CTRL_FORMAT n, TDM_CTRL_DELAY n, TDM_CTRL_SLOTS n, TDM_CTRL_BCLK_INV n, TDM_CTRL_FS_INV n, TDM_CTRL_DIN_EN n, TDM_CTRL_DOUT_EN n, TDM_STAT_CLK n, TDM_FLAGS_CLK_LOST n, TDM_FLAGS_SLIP n, TDM_FLAGS_IN_OVR n, TDM_FLAGS_OUT_UND n, TDM_FLAGS_CFG_REFUSED n, TDM_CNT_SLIP n])).filter (fun f => f.off == off)

/-- The fields at an offset in the register table of R504. -/
def fieldsR504 (off : Nat) : List Fld :=
  ([MEM_CTRL_SCRUB_EN, MEM_CTRL_SCRUB_PERIOD, MEM_STAT_REGION, MEM_STAT_BANK, MEM_STAT_TEST_ACTIVE, MEM_STAT_REDIRECT, MEM_FLAGS_SRAM_UE, MEM_FLAGS_DRAM_UE, MEM_FLAGS_RMW_DROP, MEM_FLAGS_PWR_REFUSED, MEM_FLAGS_WIN_REFUSED, MEM_FLAGS_SCRUB_LATE, MEM_ERR_ADDR_LO, MEM_ERR_ADDR_HI_A32, MEM_ERR_ADDR_HI_SPACE, MEM_ERR_ADDR_HI_VALID, MEM_CNT_SRAM_CE, MEM_CNT_SRAM_UE, MEM_CNT_DRAM_CE, MEM_CNT_DRAM_UE, MEM_CNT_DMAWAIT, MEM_SCRUB_POS]
    ++ fam off 0xA0100 0x4 48 (fun n => [MEM_BANK_PWR n, MEM_BANK_STATE n, MEM_BANK_REPAIRS n, MEM_BANK_DEGRADED n, MEM_BANK_TEST n])
    ++ fam off 0xA1000 0x10 64 (fun n => [MEM_WIN_BASE n, MEM_WIN_LEN n, MEM_WIN_PTR n, MEM_WIN_CTRL_EN n, MEM_WIN_CTRL_SPACE n, MEM_WIN_CTRL_STEP n])).filter (fun f => f.off == off)

/-- The fields at an offset in the register table of R522. -/
def fieldsR522 (off : Nat) : List Fld :=
  ([PWR_REQ, PWR_STAT_STATE, PWR_STAT_BUSY, PWR_STAT_PG, PWR_STAT_THERM, PWR_STAT_VIN_OK, PWR_STAT_VAUX_OK, PWR_FLAGS_REQ_REFUSED, PWR_FLAGS_DOM_REFUSED, PWR_FLAGS_VIN_LOW, PWR_FLAGS_VIN_HIGH, PWR_FLAGS_RAIL_FAULT, PWR_FLAGS_VAUX_OC, PWR_FLAGS_THERM_WARN, PWR_FLAGS_PLL_UNLOCK, PWR_DOM_EN, PWR_DOM_STAT, PWR_CFG_AUTO_RESTART, PWR_CFG_VAUX_SLEEP, PWR_CFG_TH_WARN, PWR_WAKE_CFG_WAKE_PIN, PWR_WAKE_CFG_FABRIC, PWR_WAKE_CFG_ALARM, PWR_WAKE_CFG_PCIE, PWR_WAKE_CFG_UART, PWR_WAKE_CAUSE, PWR_ALARM_LO, PWR_ALARM_HI, PWR_RST_CAUSE_POR, PWR_RST_CAUSE_BROWNOUT, PWR_RST_CAUSE_RESET_N, PWR_RST_CAUSE_WDOG, PWR_RST_CAUSE_SOFT, PWR_RST_CAUSE_REMOTE, PWR_RST_CAUSE_REF_LOST, PWR_RST_CAUSE_RAIL, PWR_RST_CAUSE_NODE, PWR_RST_REQ_KIND, PWR_RST_REQ_MASK, PWR_VIN, PWR_TEMP, PWR_CLK_CFG_REFSEL, PWR_CLK_STAT_PLL, PWR_CLK_STAT_AUDIO, PWR_CLK_STAT_REF_OK]
    ++ fam off 0x30100 0x4 16 (fun n => [PWR_CRASH n])
    ++ fam off 0x30200 0x4 64 (fun n => [PWR_SCRATCH n])).filter (fun f => f.off == off)

/-- The fields at an offset in the register table of R541. -/
def fieldsR541 (off : Nat) : List Fld :=
  ([ST_CTRL_PER_EN, ST_CTRL_CLASS_EN, ST_PERIOD_PERIOD, ST_PERIOD_BUDGET, ST_WAIT, ST_STAT_ACTIVE, ST_STAT_PER_RUN, ST_STAT_UNIT, ST_STAT_REGION, ST_FLAGS_FAIL, ST_FLAGS_INCOMPLETE, ST_FLAGS_DENIED, ST_FLAGS_BUDGET_SHORT, ST_FLAGS_SKIPPED, ST_FLAGS_ABORTED, ST_HELD_CORE, ST_HELD_OUT, ST_CNT_PASS, ST_CNT_FAIL, ST_CNT_INCOMPLETE, ST_LAST_UNIT, ST_LAST_VERDICT, ST_LAST_SIG, ST_LAST_COUNT, ST_RAW_CTRL_UNIT, ST_RAW_CTRL_GO]
    ++ fam off 0x50040 0x4 8 (fun n => [ST_REC n])).filter (fun f => f.off == off)

/-- The fields at an offset in the register table of R556. -/
def fieldsR556 (off : Nat) : List Fld :=
  ([LC_STAT_STATE, LC_STAT_FUSED, LC_STAT_SCOPE, LC_STAT_LOCKED, LC_STAT_NONCE_VALID, LC_STAT_FAILS, LC_FLAGS_AUTH_FAIL, LC_FLAGS_LOCKOUT, LC_FLAGS_CMD_REFUSED, LC_FLAGS_EXPIRED, LC_FLAGS_KEY_BAD, LC_CMD_OP, LC_CMD_ARG, LC_SCOPE, LC_SVC_LEFT, LC_LOCK_LEFT, LC_KEYS_SVCKEY, LC_KEYS_PASSWD, LC_RESULT_STATUS, LC_RESULT_BUSY, LC_KEYS_SLOT 0, LC_KEYS_SLOT 1, LC_KEYS_SLOT 2, LC_KEYS_SLOT 3]
    ++ fam off 0x40020 0x4 8 (fun n => [LC_NONCE n])
    ++ fam off 0x40100 0x4 32 (fun n => [LC_DATA n])).filter (fun f => f.off == off)

/-- The fields at an offset in the register table of R576. -/
def fieldsR576 (off : Nat) : List Fld :=
  ([ID_BOOT_STAT_BOOTSEL, ID_BOOT_STAT_SOURCE, ID_BOOT_STAT_TRIAL, ID_BOOT_STAT_CONFIRMED, ID_BOOT_STAT_REVERTED, ID_BOOT_STAT_READY, ID_BOOT_STAT_TRIES, ID_BOOT_STAT_PHASE, ID_BOOT_STAT_ERR, ID_BOOT_CTRL_GO, ID_BOOT_CTRL_CONFIRM, ID_BOOT_CTRL_REVERT, ID_FW_VER, ID_ARM_REV, ID_UPD_CFG_SERVE_EN, ID_UPD_CFG_DRAIN_MAX, ID_UPD_CFG_CONFIRM_TIME, ID_UPD_STAT_STEP, ID_UPD_STAT_CORE, ID_UPD_STAT_LEFT]
    ++ fam off 0x110 0x4 2 (fun n => [ID_SLOT_VALID n, ID_SLOT_CHOSEN n])
    ++ fam off 0x118 0x4 2 (fun n => [ID_SLOT_VER n])).filter (fun f => f.off == off)

/-- The fields of the register at an offset of BAR0; none where the spec names no register (R14). -/
def fieldsAt (off : Nat) : List Fld :=
  (if 0x0 ≤ off ∧ off < 0x1C then fieldsR3 off else [])
  ++ (if 0x60000 ≤ off ∧ off < 0x602FC then fieldsR20 off else [])
  ++ (if 0xB0F00 ≤ off ∧ off < 0xB0F0C then fieldsR144 off else [])
  ++ (if 0xB0000 ≤ off ∧ off < 0xB1500 then fieldsR162 off else [])
  ++ (if 0xB0800 ≤ off ∧ off < 0xB083C then fieldsR214 off else [])
  ++ (if 0x200000 ≤ off ∧ off < 0x330058 then fieldsR282 off else [])
  ++ (if 0x10000 ≤ off ∧ off < 0x18808 then fieldsR309 off else [])
  ++ (if 0x20000 ≤ off ∧ off < 0x21200 then fieldsR357 off else [])
  ++ (if 0xC0000 ≤ off ∧ off < 0xC8000 then fieldsR395 off else [])
  ++ (if 0xD0000 ≤ off ∧ off < 0x100050 then fieldsR397 off else [])
  ++ (if 0xD0060 ≤ off ∧ off < 0x100160 then fieldsR427 off else [])
  ++ (if 0x90000 ≤ off ∧ off < 0x90300 then fieldsR457 off else [])
  ++ (if 0x70000 ≤ off ∧ off < 0x7F004 then fieldsR481 off else [])
  ++ (if 0x80000 ≤ off ∧ off < 0x81020 then fieldsR483 off else [])
  ++ (if 0xA0000 ≤ off ∧ off < 0xA1400 then fieldsR504 off else [])
  ++ (if 0x30000 ≤ off ∧ off < 0x30300 then fieldsR522 off else [])
  ++ (if 0x50000 ≤ off ∧ off < 0x50104 then fieldsR541 off else [])
  ++ (if 0x40000 ≤ off ∧ off < 0x40180 then fieldsR556 off else [])
  ++ (if 0x100 ≤ off ∧ off < 0x128 then fieldsR576 off else [])

end Sys2Proof.Machine.Reg
end

