-- ==== Sys2Proof/Machine/StateTypes.lean ====
section
/-!
DEFINITION. The parts of the machine's state: plain data, one structure per unit of the spec.
-/
namespace Sys2Proof.Machine

/-! ### Time base (01_fabric_time.md) -/

/-- The time base: the counter and what the servo, capture and compare logic hold beside their registers. -/
structure TimeBase where
  /-- The counter of R17 in units of 2^-32 ns: 64 bits of ns, 16 of fraction, 16 not visible. -/
  now : Nat
  /-- The counter before its latest move: P of the current crossing interval (R49), same unit. -/
  prev : Nat
  /-- Consecutive in-range measurements in ACQUIRE (R28). -/
  inRange : Nat
  /-- R29: the OFFSET_ALARM episode of ACQUIRE is running. -/
  acqAlarm : Bool
  /-- R30: OFFSET_ALARM already set in this stay in LOCKED. -/
  lockAlarm : Bool
  /-- Corrections in force in LOCKED over the last second: (time in ns, TB_RATE units), newest first (R28). -/
  corr : List (Nat × Int)
  /-- The captures waiting in the queue of each trigger input, oldest first, in ns (R43). -/
  trig : List (List Nat)
  /-- The 32-bit holding registers of the compare channels (R48). -/
  cmpHold : Tbl Nat
  /-- End of the pulse in progress of each channel in ns, none if no pulse (R53). -/
  pulse : Tbl (Option Nat)
  /-- Word-clock inputs: stamp of the latest selected edge in ns (R35). -/
  wclkLast : Tbl (Option Nat)
  /-- Word-clock inputs: consecutive selected edges with a spacing in range (R35). -/
  wclkRun : Tbl Nat
  /-- Time of the last selected edge of a word-clock input by `real`. -/
  wclkAt : Tbl Nat
  /-- A scheduled step of the root or of an announcement: (t_s, delta) in ns (R405). -/
  step : Option (Nat × Nat)
  /-- R405: steps already seen, so an announcement is taken once: t_s values. -/
  stepSeen : List Nat
  /-- XT32 has stopped (R38). -/
  xt32Dead : Bool
  /-- Time since power-on that no step or hold touches, in 2^-32 ns: the PD1 timer of R551. -/
  real : Nat
deriving DecidableEq, Repr

/-! ### Event queues (11_event_queues.md) -/

/-- An event record before its phase and sequence number are given (R346). -/
structure Rec where
  /-- TYPE. -/
  typ : Nat
  /-- SOURCE. -/
  src : Nat
  /-- Bytes 4 to 7. -/
  tagstat : Nat
  /-- TIME in ns. -/
  time : Nat
  /-- Bytes 16 to 31 as a number. -/
  payload : Nat
deriving DecidableEq, Repr

/-- What a record held for a queue is (R351). -/
inductive HeldKind where
  /-- A completion: the acceptance number of its command, its ring and the ring's generation then. -/
  | completion (seq ring gen : Nat)
  /-- Any other record. -/
  | plain
  /-- The overflow marker with its count. -/
  | marker
deriving DecidableEq, Repr

/-- A record waiting for room in its queue; its URGENT is fixed at generation (R358). -/
structure HeldRec where
  /-- The record. -/
  r : Rec
  /-- URGENT of its source when it was generated. -/
  urgent : Bool
  /-- What it is. -/
  kind : HeldKind
deriving DecidableEq, Repr

/-- An event queue beside its registers (R349, R351, R354). -/
structure EvQueue where
  /-- Enabled: STATE is RUNNING or WAITING. -/
  on : Bool
  /-- Pass phase. -/
  phase : Bool
  /-- SEQ of the next record. -/
  seq : Nat
  /-- Records held, oldest first. -/
  held : List HeldRec
  /-- Dropped records counted in the marker, when one is held. -/
  dropped : Nat
  /-- Records written since the last message. -/
  unsig : Nat
  /-- The first record written after the last message: when it was written and its TIME, in ns. -/
  firstUnsig : Option (Nat × Nat)
deriving DecidableEq, Repr

/-! ### Rings and commands (10_host_rings.md) -/

/-- A command accepted and not yet completed. -/
structure Flight where
  /-- Acceptance number. -/
  seq : Nat
  /-- Ring. -/
  ring : Nat
  /-- Ring generation at acceptance (R342). -/
  gen : Nat
  /-- OPCODE. -/
  op : Nat
  /-- TAG. -/
  tag : Nat
  /-- QUIET. -/
  quiet : Bool
deriving DecidableEq, Repr

/-- Where a timed command came from, and so where its answer goes. -/
inductive Org where
  /-- A ring: a completion record (R321). -/
  | ring
  /-- A spilled cast of a partner: node, partnership, record; `lead` = SL + 2 blocks (R186, R423). -/
  | spillCast (node pid rec lead : Nat)
  /-- A later command of a spilled voice: node, partnership, record; `lead` as above (R423). -/
  | spillCmd (node pid rec lead : Nat)
  /-- A command forwarded with the migrating voice of this handle (R418): no answer. -/
  | fwd (handle : Nat)
  /-- An auto-cast command (R472): no answer. -/
  | silent
  /-- The target update of a control-map entry (R475): no answer. -/
  | cm (n : Nat)
deriving DecidableEq, Repr

/-- An entry of the timed command queue (R198). -/
structure TCmd where
  /-- The command's acceptance record. -/
  fl : Flight
  /-- Its origin. -/
  org : Org
  /-- EXEC_TIME in ns; 0 = as soon as possible. -/
  exec : Nat
  /-- Acceptance in tu. -/
  acc : Nat
  /-- CAST: the group's last key pitch as it stood at acceptance (R127). -/
  lastKey : Option F32
  /-- The descriptor's 64 bytes as a number. -/
  desc : Nat
  /-- Applied, with its completion waiting for room in its event queue (R351). -/
  done : Bool
deriving DecidableEq, Repr

/-- A MEM_DMA accepted and not yet completed (R336). -/
structure Dma where
  /-- The command. -/
  fl : Flight
  /-- Source space: 0 host memory, 1 DRAM, 2 shared SRAM, 3 exchange region. -/
  sspace : Nat
  /-- Destination space. -/
  dspace : Nat
  /-- Source address. -/
  src : Nat
  /-- Destination address. -/
  dst : Nat
  /-- Length in bytes. -/
  len : Nat
deriving DecidableEq, Repr

/-- The host interface beside its registers. -/
structure HostIf where
  /-- Commands accepted and not yet completed, oldest first. -/
  flights : List Flight
  /-- The next acceptance number. -/
  nextSeq : Nat
  /-- The descriptor a ring has fetched and cannot yet accept (R320, R334, R339). -/
  heldDesc : Tbl (Option Nat)
  /-- Data from host memory that came with a held descriptor (R334). -/
  heldData : Tbl (List (BitVec 8))
  /-- FENCE: the acceptance number below which each fencing ring waits (R339). -/
  fenceAt : Tbl (Option Nat)
  /-- Ring served last at each PRIO level (R317). -/
  rr : Tbl Nat
  /-- Bus Master Enable (R308). -/
  bme : Bool
  /-- The function is in D3hot (R308). -/
  d3hot : Bool
  /-- PERST_N is low (R343). -/
  perst : Bool
  /-- The MEM_DMAs that run or pause (R336). -/
  dmas : List Dma
deriving DecidableEq, Repr

/-! ### Voices (02 to 05); times in tu -/

/-- The checked copy of a library directory entry (R85, R89). -/
structure DirEntry where
  /-- 1 wavetable, 2 sample. -/
  kind : Nat
  /-- Data address. -/
  addr : Nat
  /-- 0 s16, 1 s24, 2 binary32. -/
  format : Nat
  /-- FRAMES of a wavetable. -/
  frames : Nat
  /-- LENGTH in points. -/
  length : Nat
  /-- LOOP_START. -/
  loopStart : Nat
  /-- LOOP_END, exclusive. -/
  loopEnd : Nat
  /-- RATE in Hz. -/
  rate : Nat
  /-- ROOT_PITCH. -/
  root : F32
  /-- CHANNELS. -/
  channels : Nat
  /-- LOOP_MODE. -/
  loopMode : Nat
  /-- OCTAVES. -/
  octaves : Nat
deriving DecidableEq, Repr

/-- One oscillator of a voice. -/
structure Osc where
  /-- The accumulator A (R61). -/
  a : Nat
  /-- The increment I (R61). -/
  inc : Int
  /-- The frequency in force. -/
  freq : F32
  /-- Sample position P in 2^-32 points (R81). -/
  pos : Int
  /-- J in 2^-32 points. -/
  j : Int
  /-- Ping-pong: running backward between the loop points (R83). -/
  back : Bool
  /-- The loop has been entered (R83). -/
  inLoop : Bool
  /-- Unlooped data has ended (R83). -/
  ended : Bool
  /-- Octave copy read now and before the latest change (R82). -/
  copy : Nat
  /-- Octave copy faded from. -/
  copyOld : Nat
  /-- Samples left of the crossfade between copies. -/
  copyX : Nat
  /-- The checked directory entry; none while invalid or not selected (R88). -/
  dir : Option DirEntry
  /-- Noise generator x (R90). -/
  rnd : BitVec 32
  /-- State of the noise filter in use: pink noise's, or y of patina drift (R90). -/
  noise : List F32
  /-- Output after LEVEL of the previous sample (R74). -/
  y1 : F32
  /-- Output after LEVEL of the sample before (R74). -/
  y2 : F32
  /-- Residual tail: corrections for the coming samples (R66). -/
  tail : List F32
  /-- The same for steps of LEVEL and of ring modulation, added after LEVEL (R69). -/
  ltail : List F32
  /-- The waveform value before residuals at the previous sample. -/
  wave : F32
  /-- PW in force, as an accumulator value (R64). -/
  pw : Nat
  /-- The part of the interval up to the coming sample that it has still to run, in 2^-24 sample (R68, R69). -/
  todo : Nat
deriving DecidableEq, Repr

/-- The state of one filter structure (R106, R108). -/
structure FilSt where
  /-- ic1, ic2, s1 to s4. -/
  z : List F32
  /-- Dither generator (R110). -/
  rnd : BitVec 32
deriving DecidableEq, Repr

/-- One filter with the structure it is being faded from (R118). -/
structure Fil where
  /-- The structure in use. -/
  st : FilSt
  /-- TYPE and state of the old structure while a crossfade runs. -/
  old : Option (Nat × FilSt)
  /-- Samples left of the crossfade. -/
  x : Nat
deriving DecidableEq, Repr

/-- One envelope (R131 to R136). -/
structure Env where
  /-- 0 DELAY, 1 ATTACK, 2 HOLD, 3 DECAY, 4 SUSTAIN, 5 RELEASE, 6 DONE. -/
  seg : Nat
  /-- Start of the segment in 1/16 tu, finer than 2^-24 of a sample (R68, R132). -/
  t0 : Nat
  /-- Its duration in 1/16 tu. -/
  dur : Nat
  /-- Its start level. -/
  a : F32
  /-- Its curve. -/
  curve : F32
  /-- peak. -/
  peak : F32
  /-- SUSTAIN as read at the latest update. -/
  sus : F32
deriving DecidableEq, Repr

/-- One LFO (R139). -/
structure Lfo where
  /-- Accumulator. -/
  a : Nat
  /-- Increment. -/
  inc : Int
  /-- Generator. -/
  rnd : BitVec 32
  /-- a of R139, or the held value. -/
  va : F32
  /-- b of R139. -/
  vb : F32
deriving DecidableEq, Repr

/-- A 32-sample linear ramp or crossfade of R118: the parameter, the value it left, its samples left. -/
structure GRamp where
  /-- Parameter ID. -/
  id : Nat
  /-- The value it started from. -/
  from_ : Nat
  /-- Samples left, of 32. -/
  left : Nat
deriving DecidableEq, Repr

/-- A running RAMP_PARAM (R327). -/
structure PRamp where
  /-- Parameter ID. -/
  id : Nat
  /-- Start value. -/
  from_ : F32
  /-- Target. -/
  tgt : F32
  /-- Start in tu. -/
  t0 : Nat
  /-- Duration in tu. -/
  dur : Nat
deriving DecidableEq, Repr

/-- What happens to a voice at an exact time. -/
inductive VAct where
  /-- The cast itself (R69, R93). -/
  | start
  /-- A parameter step (R69, R118, R129, R149). -/
  | set (id v seq : Nat)
  /-- A RAMP_PARAM starts; each carries the acceptance number of its command (R119, R299). -/
  | ramp (id : Nat) (tgt : F32) (dur seq : Nat)
  /-- A retrigger with its key and velocity (R134, R127, R69). -/
  | retrig (key vel : F32) (seq : Nat)
  /-- A release with its velocity (R135). -/
  | release (vel : F32) (seq : Nat)
deriving DecidableEq, Repr

/-- The sound state of a voice: what its context carries (R122, R150). -/
structure Sound where
  /-- The four oscillators. -/
  osc : List Osc
  /-- The two filters. -/
  fil : List Fil
  /-- The six envelopes. -/
  env : List Env
  /-- The four LFOs. -/
  lfo : List Lfo
  /-- Each slot's smoothed contribution m (R146). -/
  m : List F32
  /-- It has started: the cast time has been reached. -/
  live : Bool
  /-- Where each contribution stood before the latest matrix update, for the linear interpolation of R97 and R120. -/
  mOld : List F32
  /-- Each slot's DEST as of the latest matrix update (R149). -/
  dst : List Nat
  /-- Samples since the latest matrix update. -/
  since : Nat
  /-- Samples from the latest matrix update to the next (R148). -/
  gap : Nat
  /-- No sample has been formed since the cast. -/
  fresh : Bool
  /-- A cast or retrigger in the interval up to the coming sample, whose phases are still to be set: its time in tu, its
  fraction in 2^-24 sample, and each oscillator's value and slope before it (R69). -/
  place : Option (Nat × Nat × List (F32 × F32))
  /-- Patina generator and signal (R128). -/
  patRnd : BitVec 32
  /-- pat. -/
  pat : F32
  /-- Glide: start pitch, start time and length in tu (R127). -/
  glide : F32 × Nat × Nat
  /-- p_v at the latest update. -/
  pv : F32
  /-- Where p_v stood before it, for the interpolation of R120. -/
  pvOld : F32
  /-- The two filter inputs' recent samples at fs, newest first. -/
  xin : List (List F32)
  /-- The same at 2 fs. -/
  xin2 : List (List F32)
  /-- Shaper output history at 4 fs, 2 fs and fs, newest first. -/
  down : List (List F32)
  /-- The old routing with filter 1's state under it and the samples left of its crossfade (R118). -/
  route1 : Option (Nat × FilSt × Nat)
  /-- DC blocker: a[n-1], b[n-1] (R115). -/
  blk : F32 × F32
  /-- Ramps and crossfades of R118. -/
  gramp : List GRamp
  /-- Tier of the latest rendered block. -/
  tier : Nat
  /-- FILTER_FAULT raised since the cast (R113). -/
  filFault : Bool
  /-- Oscillators' DIR_FAULT to report: oscillator, entry, check (R99). -/
  faults : List (Nat × Nat × Nat)
  /-- Spoilt 64-bit words of DRAM that its reads met, to report (R89). -/
  ue : List Nat
  /-- The sample rate it runs at (R99, R420). -/
  rate : Nat
deriving DecidableEq, Repr

/-- An entry of a command list (R299). -/
structure ListEntry where
  /-- 1 parameter step, 2 ramp start, 3 release, 4 retrigger. -/
  kind : Nat
  /-- Parameter ID, or PP for stages and effects. -/
  id : Nat
  /-- VALUE. -/
  value : Nat
  /-- AUX. -/
  aux : Nat
  /-- FRAME. -/
  frame : Nat
  /-- DELTA in 2^-16 sample. -/
  delta : Nat
deriving DecidableEq, Repr

/-- A ramp the allocator or a migration applies to a voice (R176, R183, R417). -/
structure VRamp where
  /-- Start in tu. -/
  t0 : Nat
  /-- Length in tu. -/
  len : Nat
  /-- The rising half. -/
  up : Bool
  /-- The constant-power quarter wave of R417. -/
  quarter : Bool
deriving DecidableEq, Repr

/-- Why an entry is ramping out. -/
inductive EndWhy where
  /-- Not ramping. -/
  | none
  /-- CHOKE, ALL_OFF. -/
  | choke
  /-- The release-end limit (R178). -/
  | limit
  /-- Shed (R173). -/
  | shed
  /-- Replacement steal, in a tail. -/
  | steal
  /-- Park, with the acceptance number of the command that asked; the park is cancelled (R182). -/
  | park (seq : Nat) (cancelled : Bool)
  /-- Migration fade (R417). -/
  | migrate
deriving DecidableEq, Repr

/-- A retrigger pending on a voice (R177). -/
structure Retrig where
  /-- Execution time and acceptance number of its cast, for the order of R166. -/
  ord : Nat × Nat
  /-- Its time in tu. -/
  t : Nat
  /-- Key pitch. -/
  key : F32
  /-- Velocity. -/
  vel : F32
  /-- VPRI. -/
  vpri : Nat
  /-- NID. -/
  nid : Nat
deriving DecidableEq, Repr

/-- A voice-table entry: a resident slot, a parked entry or a tail (R151, R156). -/
structure Voice where
  /-- State code of R156. -/
  st : Nat
  /-- Generation (R153). -/
  gen : Nat
  /-- Group. -/
  group : Nat
  /-- VPRI. -/
  vpri : Nat
  /-- Note ID (R154). -/
  nid : Nat
  /-- A release is deferred by HOLD (R179). -/
  held : Bool
  /-- The velocity of the deferred release. -/
  heldVel : F32
  /-- Retriggers pending (R177). -/
  retrig : List Retrig
  /-- Cast or resume time in tu, for the ranking of R171. -/
  castT : Nat
  /-- Time of the cast in tu, for voice age (R143). -/
  bornT : Nat
  /-- First block that renders it. -/
  block : Nat
  /-- Release time in tu (R302). -/
  relT : Option Nat
  /-- LOUD; none = +infinity (R171). -/
  loud : Option F32
  /-- p_key. -/
  key : F32
  /-- Velocity. -/
  vel : F32
  /-- Release velocity. -/
  relVel : F32
  /-- COHERENT. -/
  coherent : Bool
  /-- E of R94 in ns. -/
  epoch : Nat
  /-- Cast random value R. -/
  seed : BitVec 32
  /-- UID of its program; 0 = armature. -/
  prog : Nat
  /-- The program slot it was cast from (R286). -/
  progSlot : Nat
  /-- A maquette voice that has ended (R300). -/
  ended : Bool
  /-- Command lists of its latest block: 0 its maquette's, 1 + i that of the stage at instance i (R298, R299). -/
  lists : List (Nat × ListEntry)
  /-- The handle a tail had in its slot (R193). -/
  tailOf : Nat
  /-- Ramps in force, whose product is r of R116. -/
  ramps : List VRamp
  /-- Why it ramps out. -/
  why : EndWhy
  /-- State before MIGRATING_OUT (R157). -/
  prevSt : Nat
  /-- Rendered in the spill lane for this node, its partnership and its record (R186, R423). -/
  spill : Option (Nat × Nat × Nat)
  /-- Base values of its parameters where they differ from the program's defaults. -/
  par : Tbl (Option Nat)
  /-- Running RAMP_PARAMs. -/
  pramps : List PRamp
  /-- Events not yet reached, in order of time. -/
  acts : List (Nat × VAct)
  /-- The sound state. -/
  snd : Sound
deriving DecidableEq, Repr

/-- A voice group (R159 to R161, R326). -/
structure Group where
  /-- Configuration word 0. -/
  cfg0 : Nat
  /-- Configuration word 1. -/
  cfg1 : Nat
  /-- GC0 to GC7. -/
  gc : List F32
  /-- Key pitch of the last accepted CAST (R127). -/
  lastKey : Option F32
  /-- Program slot bound; 0 = armature. -/
  bind : Nat
  /-- The patch where it differs from the program's defaults (R326). -/
  patch : Tbl (Option Nat)
  /-- Running RAMP_PARAMs of the patch (R327). -/
  pramps : List PRamp
deriving DecidableEq, Repr

/-- A change of a voice-table entry that comes up between boundaries and is made at the next one (R7, R8, R157): entry and GEN. -/
inductive Later where
  /-- A choke without a time of its own: a spill lane ends (R424). -/
  | choke (e gen : Nat)
  /-- A choke of a voice that has not left its core in time (R572). -/
  | drain (e gen : Nat)
  /-- The release-end ramp, from its time in tu (R178). -/
  | limit (e gen t : Nat)
  /-- An ABORT for a committed voice, whose ramp begins at its time in tu (R419). -/
  | abort (e gen t : Nat)
  /-- A reservation is released (R416, R419, R426). -/
  | unreserve (e gen : Nat)
  /-- A failed migration gives its voice back to its previous state (R157, R416). -/
  | back (e gen : Nat)
  /-- A parked voice has been sent: its entry is FREE (R157, R421). -/
  | gone (e gen : Nat)
  /-- A parked voice has arrived and is committed: its entry is PARKED (R157, R421). -/
  | keep (e gen : Nat)
deriving DecidableEq, Repr

/-- The allocator (R151, R186, R192). -/
structure Alloc where
  /-- Slots V0 to V255. -/
  slots : Tbl Voice
  /-- Parked entries. -/
  parked : Tbl Voice
  /-- Tails: 4 x core + i. -/
  tails : Tbl Voice
  /-- Groups. -/
  groups : List Group
  /-- Cores asked to go on the bench, draining or benched: a voice core's AVAIL is clear (R10, R190). -/
  draining : List Nat
  /-- Those that drain for a rolling update: their voices are relocated (R572). -/
  moving : List Nat
  /-- Node position in effect as a modulation source (R144). -/
  node : List F32
  /-- Voice cores of clusters that a reset has taken and that are not back in service (R158, R163). -/
  away : List Nat
  /-- Changes that wait for the next render boundary (R7, R8, R157). -/
  later : List Later
deriving DecidableEq, Repr

/-! ### Render scheduler (06_render_schedule.md); times in tu, 1/441 ns -/

/-- A command whose answer waits for several voices (R330). -/
structure Track where
  /-- The command. -/
  cmd : TCmd
  /-- Voices still to finish. -/
  left : Nat
  /-- Voices that succeeded. -/
  good : Nat
  /-- Status of the first failure, with its cause byte (R419). -/
  bad : Option (Nat × Nat)
  /-- Handle of the latest success. -/
  handle : Nat
  /-- Status of a success: OK or LATE. -/
  ok : Nat
  /-- Timestamp in ns. -/
  time : Nat
  /-- Voices addressed. -/
  n : Nat
deriving DecidableEq, Repr

/-- A block being rendered or rendered and not yet played. -/
structure Block where
  /-- Block index. -/
  j : Nat
  /-- r_j, the start of its render, in tu. -/
  start : Nat
  /-- Level it is rendered at: 0 FINISH to 3 SHED. -/
  level : Nat
  /-- The cores whose BDONE is still awaited. -/
  waiting : List Nat
  /-- The cluster E cores whose BDONE is still awaited (R281). -/
  waitE : List Nat
  /-- The voice cores that wrote BDONE: their partial sums count (R280, R301). -/
  wrote : List Nat
  /-- Time of the latest awaited BDONE, in tu. -/
  lastBdone : Nat
  /-- From when cluster E can work on the block, in tu: the last awaited BDONE, or its return to service after that (R206, R240). -/
  mixFrom : Nat
  /-- Cluster E has begun its part (R206). -/
  mixOn : Bool
  /-- When that part is done, in tu (R242). -/
  mixEnd : Nat
  /-- Completion in tu. -/
  complete : Option Nat
  /-- It passed its deadline still rendering (R204). -/
  late : Bool
deriving DecidableEq, Repr

/-- The scheduler beside its registers. -/
structure Sched where
  /-- Timed command queue in acceptance order (R198). -/
  queue : List TCmd
  /-- A QUEUE_FULL episode is running. -/
  fullEp : Bool
  /-- First block of this run, j0 (R211). -/
  first : Nat
  /-- The next block to begin. -/
  next : Nat
  /-- The block rendering now. -/
  cur : Option Block
  /-- Rendered blocks not yet played, oldest first. -/
  ready : List Block
  /-- Completion of the latest rendered block, in tu. -/
  lastDone : Nat
  /-- Margin P_j - r_j of the previous render start, in tu; negative where the render began after the play start. -/
  sigmaPrev : Int
  /-- Handles of a shed batch not yet freed (R208). -/
  shedLeft : List Nat
  /-- Blocks still to be rendered after the batch's last voice was freed (R208). -/
  shedSettle : Nat
  /-- Late blocks in the running episode. -/
  lateEp : Nat
  /-- ALL_OFF waits for the next boundary (R163). -/
  allOff : Bool
  /-- The next block to be played. -/
  play : Nat
  /-- A block whose play start came before it was complete: which of its frames are played is still open (R205). -/
  owe : Option Nat
  /-- The block that cluster E mixed last. -/
  heardJ : Nat
  /-- The voice cores whose partial sums it had (R191). -/
  heard : List Nat
  /-- The clusters being reset that it ramped to 0 (R191). -/
  faded : List Nat
  /-- The clusters freed since, whose contribution the next block mixed ramps to 0 from where it stood (R191). -/
  fading : List Nat
  /-- Answers that wait for several voices. -/
  tracks : List Track
  /-- Voice cores of clusters being reset, to be freed at the next boundary: the clusters (R191). -/
  resets : List Nat
  /-- The level is held at the next render start: it follows a time step (R213). -/
  holdLevel : Bool
deriving DecidableEq, Repr

/-! ### Programs (09_maquettes.md) -/

/-- An entry of a parameter table (R289). -/
structure PEntry where
  /-- ID or PP. -/
  id : Nat
  /-- TYPE. -/
  typ : Nat
  /-- FLAGS. -/
  flags : Nat
  /-- MIN. -/
  lo : Nat
  /-- MAX. -/
  hi : Nat
  /-- DEFAULT. -/
  dflt : Nat
deriving DecidableEq, Repr

/-- A loaded maquette with its copy in the program store (R286 to R291). -/
structure Program where
  /-- UID. -/
  uid : Nat
  /-- KIND: 1 voice, 2 stage, 3 effect. -/
  kind : Nat
  /-- HOOK. -/
  hook : Nat
  /-- HOOK_VALUE. -/
  hookVal : Nat
  /-- Parameter table. -/
  params : List PEntry
  /-- The image. -/
  image : List (BitVec 8)
  /-- First IMEM byte of its granules. -/
  code : Nat
  /-- First DMEM byte of its granules. -/
  data : Nat
  /-- Step 5 of R292 has been taken. -/
  live : Bool
  /-- COST_EXCEEDED has been raised since the load (R300). -/
  costSeen : Bool
  /-- Unloading: the command, its effect's time in ns and status (R293). -/
  unl : Option (TCmd × Nat × Nat)
deriving DecidableEq, Repr

/-- A load in progress (R292). -/
structure Load where
  /-- The command. -/
  cmd : TCmd
  /-- The image copied into the program store. -/
  image : List (BitVec 8)
  /-- The status the MC's checks gave, when they are done. -/
  res : Option Nat
deriving DecidableEq, Repr

/-! ### Fabric (12_elvlink_links.md) -/

/-- A hello as received (R365). -/
structure Hello where
  /-- UID. -/
  uid : Nat
  /-- BOOTGEN. -/
  bootgen : Nat
  /-- Lowest version. -/
  vmin : Nat
  /-- Highest version. -/
  vmax : Nat
  /-- PORT. -/
  port : Nat
  /-- CAPS. -/
  caps : Nat
  /-- ADDR, none while not VALID. -/
  addr : Option Nat
  /-- The root vector is VALID. -/
  valid : Bool
  /-- DESIGNATED. -/
  desig : Bool
  /-- RPRI. -/
  rpri : Nat
  /-- HOPS. -/
  hops : Nat
  /-- RUID. -/
  ruid : Nat
  /-- RADDR. -/
  raddr : Nat
  /-- UPUID. -/
  upuid : Nat
deriving DecidableEq, Repr

/-- A frame in a receive buffer (R385), or one of this module's own. -/
structure BufF where
  /-- Port it arrived on; 4 = this module. -/
  port : Nat
  /-- The frame. -/
  f : Frame
  /-- Ports it is still to be sent on. -/
  out : List Nat
  /-- It is for this module and not yet taken. -/
  here : Bool
  /-- Arrival in ns. -/
  t : Nat
  /-- FABRIC_SEND: the command that completes when it has left. -/
  fl : Option Flight
deriving DecidableEq, Repr

/-- A port beside its registers. -/
structure Port where
  /-- Hellos received and not yet handled, at most two (R365). -/
  hbuf : List (List (BitVec 8))
  /-- The neighbour's latest hello. -/
  nb : Option Hello
  /-- Hellos received since the port entered HELLO. -/
  hellos : Nat
  /-- Units sent per class, modulo 2^16 (R386). -/
  sent : List Nat
  /-- The latest count received per class. -/
  got : List Nat
  /-- Units freed per class. -/
  freed : List Nat
  /-- SEQ of the next SYNC mark sent. -/
  synSeq : Nat
  /-- Time of the latest PORT_TIME record of reason 1 in ns (R404). -/
  budgetAt : Option Nat
  /-- SYNC mark received: SEQ and t2 in 2^-16 ns. -/
  mark : Option (Nat × Nat)
  /-- t2 - t1 of the latest complete SYNC pair, in 2^-16 ns. -/
  pair : Option Int
  /-- DREQ mark sent: SEQ and t3. -/
  dreq : Option (Nat × Nat)
  /-- SEQ of the next DREQ mark. -/
  dreqSeq : Nat
  /-- The last delays d_i in 2^-16 ns, newest first, at most 8. -/
  delays : List Int
  /-- Delay measurements since the port became UPSTREAM (R402). -/
  nDelay : Nat
  /-- Time of the last complete SYNC pair, in ns (R403). -/
  syncAt : Nat
deriving DecidableEq, Repr

/-- A module known by its announcements (R380). -/
structure Node where
  /-- Address. -/
  addr : Nat
  /-- UID. -/
  uid : Nat
  /-- Boot generation. -/
  bootgen : Nat
  /-- Time of the last announcement in ns. -/
  seen : Nat
deriving DecidableEq, Repr

/-- The switch beside its registers. -/
structure Switch where
  /-- The four ports. -/
  ports : List Port
  /-- Frames in the receive buffers and this module's own, in order of arrival. -/
  buf : List BufF
  /-- A valid root vector has been held since the switch started (R374). -/
  held : Bool
  /-- UID of the upstream neighbour; 0 when root or not valid. -/
  upUid : Nat
  /-- Modules known. -/
  nodes : List Node
  /-- The root's binding table: UID, address, time of the loss if lost (R379). -/
  binds : List (Nat × Nat × Option Nat)
  /-- This module is root and its binding table is ready (R379). -/
  bindReady : Bool
  /-- The time at which the next announcement is due, in ns (R376, R378). -/
  annDue : Option Nat
  /-- Mailboxes: TAG of the request in flight (R391). -/
  mbxTag : Tbl (Option Nat)
  /-- Counts of summarising records since the previous one: by 256 x source + reason (R359). -/
  sums : Tbl Nat
  /-- The time of the first happening of each of them in ns, plus 1 (R346). -/
  sumsAt : Tbl Nat
  /-- The fabric reference is lost (R403). -/
  refLost : Bool
  /-- The MC has loaded FSW_BOOTGEN (R364). -/
  genLoaded : Bool
  /-- BYPASS_EN is high (R394). -/
  bypass : Bool
  /-- Times of the latest FORWARD records of reasons 1 and 2 in ns (R382). -/
  fwdRec : List (Option Nat)
deriving DecidableEq, Repr

/-! ### Services (13_elvlink_services.md) -/

/-- A migration session at its source (R413 to R421). -/
structure MigSrc where
  /-- SESSION. -/
  session : Nat
  /-- Acceptance number of the MIGRATE. -/
  seq : Nat
  /-- The voice's entry. -/
  ent : Nat
  /-- Its generation. -/
  gen : Nat
  /-- Destination node. -/
  peer : Nat
  /-- Destination group. -/
  dgroup : Nat
  /-- NO_STEAL. -/
  noSteal : Bool
  /-- The voice is parked (R421). -/
  parked : Bool
  /-- Block of the overlap, or of the OFFER of a parked voice. -/
  jx : Nat
  /-- The MIGRATE is late: its answer is LATE. -/
  late : Bool
  /-- When the OFFER left, in ns. -/
  sent : Option Nat
  /-- DST_HANDLE of an ACCEPT. -/
  dst : Option Nat
  /-- COMMIT_ACK has arrived. -/
  acked : Bool
  /-- Cause of a REFUSE or a loss. -/
  bad : Option Nat
  /-- The outcome is settled; the entry is freed at the next boundary. -/
  ended : Bool
deriving DecidableEq, Repr

/-- A migration session at its destination. -/
structure MigDst where
  /-- SESSION. -/
  session : Nat
  /-- Source node. -/
  peer : Nat
  /-- SRC_HANDLE. -/
  src : Nat
  /-- T_X in ns. -/
  tx : Nat
  /-- T_SNAP in ns. -/
  tsnap : Nat
  /-- DGROUP. -/
  dgroup : Nat
  /-- MFLAGS. -/
  flags : Nat
  /-- CTX of the OFFER. -/
  ctx : Nat
  /-- Part 0 of the context. -/
  part0 : Option (List (BitVec 8))
  /-- Part 1. -/
  part1 : Option (List (BitVec 8))
  /-- The reserved entry and its generation. -/
  ent : Option (Nat × Nat)
  /-- COMMIT has arrived. -/
  committed : Bool
deriving DecidableEq, Repr

/-- A spill partnership this module asked for (R331, R424). -/
structure Partner where
  /-- PID. -/
  pid : Nat
  /-- Partner node. -/
  node : Nat
  /-- Bus of each return channel. -/
  buses : List Nat
  /-- EST_ACCEPT has arrived. -/
  active : Bool
  /-- The SPILL_CFG whose completion is due, its time in ns and the status of a success. -/
  cmd : Option (TCmd × Nat × Nat)
  /-- When ESTABLISH was sent, in ns. -/
  sent : Nat
deriving DecidableEq, Repr

/-- A record of the spill table (R185, R188). -/
structure SpillRec where
  /-- REC. -/
  num : Nat
  /-- Its partnership. -/
  pid : Nat
  /-- Group here. -/
  group : Nat
  /-- NID. -/
  nid : Nat
  /-- Key pitch. -/
  key : F32
  /-- L, SPILL_LAT in blocks. -/
  lat : Nat
  /-- Handle on the partner. -/
  handle : Option Nat
  /-- The CAST whose completion is due, with its time in ns. -/
  cmd : Option (TCmd × Nat)
  /-- The shifted cast time t + L in ns. -/
  start : Nat
  /-- When the cast was sent, in ns. -/
  sent : Nat
deriving DecidableEq, Repr

/-- A partnership this module serves: a spill lane (R186, R424). -/
structure Lane where
  /-- The requesting node. -/
  node : Nat
  /-- Its PID. -/
  pid : Nat
  /-- SL + 2: blocks the lane runs ahead of play time. -/
  lead : Nat
  /-- Return channels. -/
  nret : Nat
  /-- Sums of the block being rendered: channel c, frame i at 64 c + i. -/
  sums : Tbl F32
  /-- A voice of the partnership renders in the block. -/
  any : Bool
  /-- BSEQ of the next return frame. -/
  bseq : Nat
deriving DecidableEq, Repr

/-- A receive stream's running state (R411). -/
structure RxStream where
  /-- BSEQ expected next. -/
  bseq : Option Nat
  /-- A loss episode runs. -/
  loss : Bool
  /-- A late episode runs. -/
  late : Bool
  /-- Frames replaced in the episode. -/
  frames : Nat
deriving DecidableEq, Repr

/-- The services. -/
structure Services where
  /-- Sessions as a source. -/
  src : List MigSrc
  /-- Sessions as a destination. -/
  dst : List MigDst
  /-- Next SESSION. -/
  nextSession : Nat
  /-- OFFERs of the last 1 ms: output port, time in ns (R422). -/
  offers : List (Nat × Nat)
  /-- Context versions a node reads: address, boot generation, lowest, highest (R419). -/
  ctxRange : List (Nat × Nat × Nat × Nat)
  /-- Partnerships asked for. -/
  partners : List Partner
  /-- The spill table. -/
  recs : List SpillRec
  /-- Partnerships served. -/
  lanes : List Lane
  /-- Stream samples received: (128 x space + channel) x 2^40 + frame, valued code + 1. -/
  rx : Tbl Nat
  /-- Return samples received: partnership, channel, frame at (256 pid + ch) x 2^40 + frame. -/
  ret : Tbl Nat
  /-- Receive streams: 8 x space + s. -/
  streams : List RxStream
  /-- BSEQ of the next block sent. -/
  bseq : Nat
  /-- Stream settings in force: those of the latest render start, SRX and STX words (R407). -/
  inForce : Tbl Nat
deriving DecidableEq, Repr

/-! ### Memory (16_memory.md) -/

/-- A region test in progress (R497). -/
structure RegionTest where
  /-- Bank. -/
  bank : Nat
  /-- Region of the bank, 0 to 127. -/
  region : Nat
deriving DecidableEq, Repr

/-- A core DMA port (R496). -/
structure CoreDma where
  /-- SRC, DST, LEN and the space bytes as stored, 24 bytes as a number. -/
  regs : Nat
  /-- Bytes still to be moved: a transfer in progress. -/
  busy : Bool
  /-- DONE. -/
  done : Bool
  /-- ERROR. -/
  error : Bool
  /-- Cause. -/
  cause : Nat
deriving DecidableEq, Repr

/-- The memory system beside its registers. -/
structure MemSys where
  /-- Pending window fields: descriptor w, field f (0 EN, 1 SPACE, 2 BASE, 3 LEN, 4 PTR, 5 STEP) at 8 w + f (R494). -/
  winPend : Tbl (Option Nat)
  /-- SRAM words (address / 8) that carry an uncorrectable error (R490). -/
  sramBad : List Nat
  /-- SRAM words with a single-bit error. -/
  sramSoft : List Nat
  /-- DRAM words (address / 8) that carry an uncorrectable error (R503). -/
  dramBad : List Nat
  /-- DRAM words with a single-bit error. -/
  dramSoft : List Nat
  /-- Corrected errors of a row since power-up: bank b, row r at 512 b + r (R501). -/
  rowErr : Tbl Nat
  /-- Rows mapped to spares. -/
  repaired : List Nat
  /-- Spares the factory left unused, by bank where not 4 (R501). -/
  spares : Tbl Nat
  /-- The region test in progress. -/
  test : Option RegionTest
  /-- Core DMA ports by core. -/
  dma : List CoreDma
  /-- The DRAM has been trained (R564). -/
  trained : Bool
deriving DecidableEq, Repr

/-! ### Life cycle (19_life_cycle_security.md) -/

/-- The fuses, the flash keys and the session logic of PD1 (R544 to R553). -/
structure Life where
  /-- Cells of the state fuses, three for each: cell i of fuse f at 3 (f - 1) + i (R544). -/
  cells : List Bool
  /-- Key slots 0 to 3: 32 bytes each. -/
  slots : List (List (BitVec 8))
  /-- Revoke bits. -/
  revoked : List Bool
  /-- Service key: 32 bytes. -/
  svc : List (BitVec 8)
  /-- Password salt: 16 bytes. -/
  salt : List (BitVec 8)
  /-- Password hash: 32 bytes. -/
  pwd : List (BitVec 8)
  /-- Public keys of slots 1 to 3 in flash: 64 bytes each. -/
  keys : List (List (BitVec 8))
  /-- Slots found BAD at the latest boot (R546). -/
  bad : List Bool
  /-- FAILS as flash and the plinth keep it (R553). -/
  fails : Nat
  /-- The valid nonce and when it was drawn, on the PD1 timer (R551). -/
  nonce : Option (List (BitVec 8) × Nat)
  /-- When the open session was opened, on the PD1 timer. -/
  opened : Option Nat
  /-- The running lockout: its start on the PD1 timer, its length in s (R553). -/
  lock : Option (Nat × Nat)
deriving DecidableEq, Repr

/-! ### Boot (20_boot_and_update.md) -/

/-- A copy of the boot record (R562). -/
structure BootRec where
  /-- ACTIVE: slot B. -/
  active : Bool
  /-- TRIAL. -/
  trial : Bool
  /-- TRIES. -/
  tries : Nat
  /-- SEQ. -/
  seq : Nat
deriving DecidableEq, Repr

/-- An image session of a booting module (R568). -/
structure BootReq where
  /-- The port asked. -/
  port : Nat
  /-- The node asked. -/
  node : Nat
  /-- SESSION. -/
  session : Nat
  /-- The pause past the last port runs. -/
  pause : Bool
  /-- Time of the latest frame on the PD1 timer, or when the pause began, in 2^-32 ns. -/
  last : Nat
deriving DecidableEq, Repr

/-- Boot state. -/
structure Boot where
  /-- The plinth copy; none while its CRC is wrong (R562). -/
  plinth : Option BootRec
  /-- The two flash copies. -/
  flash : List (Option BootRec)
  /-- Flash slots A and B. -/
  slots : List (List (BitVec 8))
  /-- Boot generation in flash (R564). -/
  gen : Nat
  /-- The image in force. -/
  image : List (BitVec 8)
  /-- Recovery: the MC waits for an image from any source (R558). -/
  recovery : Bool
  /-- The image session. -/
  req : Option BootReq
  /-- READY's time on the PD1 timer, in 2^-32 ns. -/
  readyAt : Nat
  /-- Next SESSION. -/
  nextSession : Nat
deriving DecidableEq, Repr

/-! ### Rolling update (20_boot_and_update.md) -/

/-- A rolling update in progress (R571 to R575). -/
structure Update where
  /-- The command that completes with it; none once an FLR has dropped its completion. -/
  fl : Option Flight
  /-- The image in the update buffer. -/
  image : List (BitVec 8)
  /-- The cores of the unit being updated. -/
  unit : List Nat
  /-- When its bench was requested, on the PD1 timer in 2^-32 ns. -/
  asked : Nat
  /-- Units still to be updated. -/
  left : List (List Nat)
  /-- Units updated, latest first. -/
  done : List (List Nat)
  /-- The update is being rolled back (R575). -/
  rolling : Bool
  /-- An updated core has taken a double fault: the roll back is still to begin (R575). -/
  failed : Bool
  /-- The slot-0 programs before the update, by cluster. -/
  old : List (List (BitVec 8))
  /-- The slot being written: 1 = B. -/
  slot : Nat
deriving DecidableEq, Repr

/-! ### Serial ports (15_serial_and_tdm.md) -/

/-- A control-map entry in force (R473): its four words. -/
structure CmEnt where
  /-- CFG. -/
  cfg : Nat
  /-- PARAM. -/
  param : Nat
  /-- SCALE. -/
  scale : F32
  /-- OFFSET. -/
  offset : F32
deriving DecidableEq, Repr

/-- A queued SERIAL_TX (R334). -/
structure TxJob where
  /-- The command. -/
  fl : Flight
  /-- EXEC_TIME in ns. -/
  exec : Nat
  /-- FORMAT. -/
  format : Nat
  /-- The data. -/
  data : List (BitVec 8)
  /-- Its data lie in host memory (R342). -/
  host : Bool
deriving DecidableEq, Repr

/-- A UART beside its registers. -/
structure Uart where
  /-- Receive FIFO, oldest first, at most 128 words as UARTn_RXD gives them. -/
  rx : List Nat
  /-- MODE 1 receiver: 0 no packet, 1 start code expected, 2 start-code-0 packet, 3 alternate start code, 4 waiting for a
  valid break (R469). -/
  dmx : Nat
  /-- Slots of the packet in progress. -/
  slots : List (BitVec 8)
  /-- When the latest start-code-0 packet completed, in ns (R470). -/
  lastPkt : Nat
  /-- SERIAL_TX waiting, at most 4 with the one being sent. -/
  txq : List TxJob
  /-- The SERIAL_TX being sent: its first edge in ns, whether it began late (R334). -/
  run : Option (TxJob × Nat × Bool)
  /-- MODE and DIV still in force while a transmission runs (R335). -/
  keep : Option (Nat × Nat)
  /-- MODE 2: running status, 0 while none (R471). -/
  status : Nat
  /-- MODE 2: the bytes of the message in progress: its status byte if it came, and its data (R471). -/
  part : List (BitVec 8)
  /-- MODE 2: complete channel messages not yet acted on: status, data 1, data 2, t_msg in ns. -/
  msgs : List (Nat × Nat × Nat × Nat)
  /-- Times of the latest framing and overrun records, in ns (R485). -/
  errAt : List (Option Nat)
deriving DecidableEq, Repr

/-- The serial block. -/
structure Ser where
  /-- U0 to U3. -/
  uarts : List Uart
  /-- Control-map entries in force. -/
  cm : Tbl CmEnt
  /-- Committed entries that take effect at the next boundary. -/
  cmNext : List (Nat × CmEnt)
  /-- MSB and LSB of 14-bit controllers: 128 MSB + LSB by entry. -/
  cm14 : Tbl Nat
deriving DecidableEq, Repr

/-! ### Power (17_power_clocks_reset.md) -/

/-- Why PD1 to PD16 stand off, beside the power states. -/
inductive Down where
  /-- They do not. -/
  | no
  /-- Brown-out (R506). -/
  | brown
  /-- Overvoltage cut-off (R506). -/
  | overvolt
  /-- The plinth is lost (R506). -/
  | plinth
  /-- RESET_N is held low (R518). -/
  | held
  /-- No reference: nothing is lost yet, but every fast clock has stopped (R512). -/
  | ref
deriving DecidableEq, Repr

/-- The power logic beside its registers. -/
structure Power where
  /-- Why the module stands still. -/
  down : Down
  /-- A boot is due: the MC has not started since the latest reset or wake (R558). -/
  booting : Bool
  /-- The power state the boot wakes from (R513). -/
  woke : Option Nat
  /-- Wake sources that arrived during a transition, coded as PWR_WAKE_CAUSE (R514). -/
  latched : Nat
  /-- The alarm committed, in ns (R515). -/
  alarm : Nat
  /-- A thermal shutdown has not yet been reported by a wake (R509). -/
  hot : Bool
  /-- VAUX33 has switched off above 400 mA (R508). -/
  vauxOff : Bool
  /-- A full reset asked for: when it begins on the PD1 timer in 2^-32 ns, its cause bit, its node (R518). -/
  due : Option (Nat × Nat × Nat)
  /-- Cluster resets asked for: the command that completes, clusters still to come back (R518). -/
  clusters : List (Option Flight × List Nat)
  /-- A global debug halt has stopped the fast clocks (R36). -/
  halt : Bool
  /-- REFSEL in force (R511). -/
  refsel : Nat
  /-- The reference came back: a CLOCK record follows the boot (R512). -/
  refBack : Bool
deriving DecidableEq, Repr

/-! ### Chisel cores (08_chisel_core.md) -/

/-- A register bank (R249). -/
structure Bank where
  /-- G0 to G31. -/
  g : List (BitVec 32)
  /-- A0 to A7. -/
  a : List (BitVec 32)
  /-- ACC0 to ACC3: parts .re and .im at 2k and 2k + 1. -/
  acc : List (BitVec 72)
  /-- BS, LC0, LS0, LE0, LC1, LS1, LE1 by system register number 0 to 6 (R250). -/
  bs : List (BitVec 32)
deriving DecidableEq, Repr

/-- A result in flight (R251, R259). -/
structure Land where
  /-- Issue cycles until it lands. -/
  left : Nat
  /-- Bank it was issued from. -/
  bank : Nat
  /-- Where it lands: 0 to 31 G, 32 to 39 A, 40 to 47 ACC part. -/
  dst : Nat
  /-- The value. -/
  v : BitVec 72
deriving DecidableEq, Repr

/-- A chisel core beside its registers in BAR0. -/
structure Core where
  /-- B0 to B3. -/
  banks : List Bank
  /-- Current bank. -/
  bank : Nat
  /-- PC of the next instruction to issue. -/
  pc : Nat
  /-- In a delay slot: the branch's own PC, and the target when taken (R269). -/
  slot : Option (Nat × Option Nat)
  /-- The delay slot belongs to RETI (R274). -/
  reti : Bool
  /-- One instruction of resumed code is still to issue before a line can be accepted (R274). -/
  resumed : Bool
  /-- IE. -/
  ie : Nat
  /-- IP. -/
  ip : Nat
  /-- EPC. -/
  epc : Nat
  /-- EBANK. -/
  ebank : Nat
  /-- ECAUSE. -/
  ecause : Nat
  /-- VBASE. -/
  vbase : Nat
  /-- WMAP0 to WMAP7. -/
  wmap : List Nat
  /-- DRB. -/
  drb : Nat
  /-- TMR. -/
  tmr : Nat
  /-- TMRLD. -/
  tmrld : Nat
  /-- SIGSRC. -/
  sigsrc : Nat
  /-- Cycle counter (R246). -/
  cyc : Nat
  /-- The shadow of CYCH that a read of CYCL latched (R250). -/
  cych : Option Nat
  /-- BLK. -/
  blk : Nat
  /-- TIER. -/
  tier : Nat
  /-- Results in flight. -/
  land : List Land
  /-- BOUNDARY has been raised and BDONE not yet written (R281). -/
  owed : Bool
  /-- Store buffer, oldest first: SRAM (0) or DRAM (1), address, bytes (R247). -/
  stores : List (Nat × Nat × List (BitVec 8))
  /-- IMEM. -/
  imem : Memory
  /-- DMEM. -/
  dmem : Memory
  /-- IMEM words (address / 4) with an uncorrectable error. -/
  imemBad : List Nat
  /-- DMEM words (address / 8) with an uncorrectable error. -/
  dmemBad : List Nat
  /-- IMEM words with a correctable error. -/
  imemSoft : List Nat
  /-- DMEM words with a correctable error. -/
  dmemSoft : List Nat
  /-- Breakpoint address passed over by a step or a resume. -/
  passed : Option Nat
deriving DecidableEq, Repr

/-! ### Mix section (07_buses_and_effects.md) -/

/-- A route-map entry (R232). -/
structure Route where
  /-- SRC. -/
  src : Nat
  /-- DST. -/
  dst : Nat
  /-- GAIN, binary32 dB. -/
  gain : F32
  /-- ALIGN. -/
  align : Nat
  /-- FLAGS. -/
  flags : Nat
deriving DecidableEq, Repr

/-- A change of the mix section at its frame (R231, R235). -/
inductive MixAct where
  /-- A parameter step. -/
  | par (id v : Nat)
  /-- A RAMP_PARAM from frame time t0 over dur, in tu. -/
  | ramp (id : Nat) (tgt : F32) (t0 dur : Nat)
deriving DecidableEq, Repr

/-- A linear ramp over 32 frames (R231, R235). -/
structure Ramp32 where
  /-- The frame it starts at. -/
  k0 : Nat
  /-- Its first value. -/
  a : F32
  /-- Its last value. -/
  b : F32
deriving DecidableEq, Repr

/-- What a route entry gives its destination from one change of the entry to the next (R235). -/
structure Feed where
  /-- The entry. -/
  entry : Nat
  /-- SRC. -/
  src : Nat
  /-- DST. -/
  dst : Nat
  /-- ALIGN. -/
  align : Nat
  /-- FLAGS. -/
  flags : Nat
  /-- The frame from which the entry names the destination so. -/
  n0 : Nat
  /-- The frame from which it does so no more. -/
  till : Option Nat
  /-- The first frame it contributes to. -/
  k0 : Nat
  /-- The frame at which it has ended. -/
  k1 : Option Nat
  /-- The factor it fades by. -/
  fade : Ramp32
  /-- GAIN in dB. -/
  gain : Ramp32
deriving DecidableEq, Repr

/-- A change of a mix parameter under way (R231). -/
structure MRamp where
  /-- Parameter ID. -/
  id : Nat
  /-- The value left: a binary32 value that ramps, or the connection that ramps to 0. -/
  from_ : Nat
  /-- The factor it starts from: of a switch, or of the connection left. -/
  w : F32
  /-- The frame it acts at. -/
  k0 : Nat
deriving DecidableEq, Repr

/-- A path of an equaliser band that is being crossfaded away (R231). -/
structure BandPath where
  /-- TYPE. -/
  typ : Nat
  /-- FREQ, GAIN, Q. -/
  par : F32 × F32 × F32
  /-- Its state. -/
  z : F32 × F32
  /-- The frame the crossfade starts at. -/
  k0 : Nat
deriving DecidableEq, Repr

/-- An equaliser band (R223). -/
structure Band where
  /-- Its state. -/
  z : F32 × F32
  /-- Paths being left, oldest first. -/
  olds : List BandPath
deriving DecidableEq, Repr

/-- The state of a bus channel's chain: four bands, and rs (R223, R224). -/
structure Chain where
  /-- Bands. -/
  bands : List Band
  /-- rs. -/
  rs : F32
deriving DecidableEq, Repr

/-- A bus channel (R222). -/
structure BusCh where
  /-- The chain in use. -/
  ch : Chain
  /-- Paths with another ORDER being crossfaded away, oldest first: ORDER, chain, frame the crossfade starts at (R231). -/
  olds : List (Nat × Chain × Nat)
deriving DecidableEq, Repr

/-- A delay line (R226, R227). -/
structure DLine where
  /-- z. -/
  z : F32
  /-- A moving D: start value, first frame, GLIDE in samples. -/
  glide : Option (F32 × Nat × F32)
  /-- Stepped Ds being crossfaded away, oldest first: value, frame the crossfade starts at. -/
  steps : List (F32 × Nat)
  /-- The frame at which its memory was cleared (R231). -/
  clear : Option Nat
deriving DecidableEq, Repr

/-- The reverb (R228). -/
structure Reverb where
  /-- d_i. -/
  d : List F32
  /-- Samples it has processed: the positions of its lines in its window. -/
  pos : Nat
  /-- The window and lengths that its memory stands for; empty while it stands for none (R231). -/
  key : List Nat
  /-- The frame at which its memory was cleared (R231). -/
  clear : Option Nat
deriving DecidableEq, Repr

/-- The hold-fade of one channel (R205). -/
structure Hold where
  /-- The last value delivered. -/
  last : F32
  /-- Replaced frames: g. -/
  g : Nat
  /-- Frames played since the gap: h, while a fade-in runs. -/
  h : Option Nat
deriving DecidableEq, Repr

/-- The mix section. -/
structure Mix where
  /-- Parameters as configured, where they differ from their defaults (R230). -/
  par : Tbl (Option Nat)
  /-- Parameters in force at the frame being mixed. -/
  cur : Tbl (Option Nat)
  /-- Running RAMP_PARAMs. -/
  pramps : List PRamp
  /-- Changes under way, in order (R231). -/
  xr : List MRamp
  /-- Changes not yet reached: frame, change, in order. -/
  acts : List (Nat × MixAct)
  /-- Bus channels. -/
  buses : List BusCh
  /-- Delay lines. -/
  lines : List DLine
  /-- The reverb. -/
  rev : Reverb
  /-- Effect instances whose program is being taken away: the frame the fade starts at, plus 1 (R293). -/
  fxFade : Tbl Nat
  /-- Effect instances whose memory was cleared: the frame, plus 1 (R231, R297). -/
  fxClear : Tbl Nat
  /-- Command lists of the effect instances for the block being mixed, each with its instance (R298, R299). -/
  fxLists : List (Nat × ListEntry)
  /-- The route map as configured: 256 entries. -/
  map : Tbl Route
  /-- What the entries give their destinations, with the changes not yet over (R235). -/
  feeds : List Feed
  /-- Bus outputs by frame, as far back as an ALIGN can reach (R237). -/
  hist : Tbl (List F32)
  /-- Bus frames that are not played: first, last plus 1, and whether they lie in a time step, so that no destination has them
  (R205, R213, R239). -/
  dead : List (Nat × Nat × Bool)
  /-- Hold-fade of output destinations by DST (R205). -/
  hold : Tbl (Option Hold)
  /-- The same before the block played last (R213). -/
  hold0 : Tbl (Option Hold)
  /-- Hold-fade of inputs by SRC + 2^16 (4096 entry + ALIGN), and of return channels at 2^40 + 256 pid + channel (R188, R238). -/
  inHold : Tbl (Option Hold)
  /-- Clamped samples since the last CLIP record, by DST (R236). -/
  clips : Tbl Nat
  /-- The time of the first of them in ns, plus 1 (R346). -/
  clipsAt : Tbl Nat
  /-- Time of the latest FX_FAULT record of a processor in ns, by its UNIT (R243). -/
  fxSeen : Tbl (Option Nat)
  /-- Cluster E is out of service (R240). -/
  out : Bool
  /-- TDM input samples: SRC index x 2^40 + frame, valued code + 1. -/
  tdm : Tbl Nat
deriving DecidableEq, Repr

/-! ### Analogue outputs (14_analogue_outputs.md) -/

/-- An output channel beside its registers (R435 to R448). -/
structure AoCh where
  /-- The code the limiter presented at `t0`. -/
  code : Int
  /-- In tu. -/
  t0 : Nat
  /-- A ramp at the slew limit runs: enable, disable, join, clear or range change (R440). -/
  ramp : Bool
  /-- A disable reversed by EN = 1: ENABLING toward the code the channel must present (R438). -/
  back : Bool
  /-- RANGING: 1 ramping to 0 V, 2 switching and settling, 4 ramping to the target; 0 otherwise (R445). -/
  ph : Nat
  /-- When the channel entered RUN or CLEAR, in ns (R451). -/
  since : Nat
  /-- Outside its window: the episode runs (R451). -/
  ep : Bool
  /-- Values set by OUT_SET: frame and value, in order; the latest past one is the stored value (R234). -/
  vals : List (Nat × Int)
  /-- Clamped and negative codes have been looked for up to this frame, as the limiter receives them (R236, R433). -/
  clipQ : Nat
  /-- Its own calibration is done; CAL_DONE of a pair waits for both (R448). -/
  cald : Bool
deriving DecidableEq, Repr

/-- The analogue block. -/
structure Analog where
  /-- OUT0 to OUT15. -/
  chans : List AoCh
  /-- References outside their windows: the episodes (R453). -/
  refEp : List Bool
  /-- When CLR_PIN became 1, in ns, while CLEAR_HELD is still to come (R443). -/
  clrAt : Option Nat
deriving DecidableEq, Repr

/-! ### Self-test (18_self_test.md) -/

/-- A test in progress: of a slice or a raw test. -/
structure StTest where
  /-- UNIT (R525). -/
  unit : Nat
  /-- A raw test (R530); otherwise a slice. -/
  raw : Bool
  /-- When its budget began, in ns; none while its target is not yet benched (R537, R538). -/
  start : Option Nat
  /-- Memory: the region in progress or the next one. -/
  region : Nat
  /-- Memory: regions completed. -/
  done : Nat
  /-- The signature so far. -/
  sig : Nat
  /-- No pattern so far failed. -/
  good : Bool
deriving DecidableEq, Repr

/-- A SHUTDOWN in progress (R534). -/
structure Shut where
  /-- Its command. -/
  fl : Flight
  /-- NO_SKIP asked for. -/
  noSkip : Bool
deriving DecidableEq, Repr

/-- The self-test engine beside its registers. -/
structure SelfTest where
  /-- Position of each class: core 3 x core + part, memory 128 x bank + region, analogue 7 x channel + span, references 0 (R535). -/
  pos : List Nat
  /-- The next class of the rotation. -/
  turn : Nat
  /-- The test in progress. -/
  cur : Option StTest
  /-- The core whose bench the core class has requested, and when, in ns (R537). -/
  bench : Option (Nat × Nat)
  /-- The SHUTDOWN in progress. -/
  shut : Option Shut
  /-- The result record in flash: its eight words (R533). -/
  flash : List Nat
deriving DecidableEq, Repr

end Sys2Proof.Machine
end

