-- ==== Sys2Proof/Machine/Init.lean ====
section
/-!
DEFINITION. What each part of the machine holds after a power-on, before the MC starts (R520): the parts of `State.reset`,
and what a domain that loses its contents goes back to.
-/
namespace Sys2Proof.Machine

/-- The time base (R17, R520 rows 3 and 6). -/
def TimeBase.zero : TimeBase :=
  { now := 0, prev := 0, inRange := 0, acqAlarm := false, lockAlarm := false, corr := [], trig := List.replicate 8 []
    cmpHold := [], pulse := [], wclkLast := [], wclkRun := [], wclkAt := [], step := none, stepSeen := [], xt32Dead := false, real := 0 }

/-- A disabled event queue (R349). -/
def EvQueue.zero : EvQueue := ⟨false, true, 0, [], 0, 0, none⟩

/-- The host interface (R316, R343). Bus Master Enable is 0 after a PCIe reset (assumption 40). (Log: 40 PRESUMED.) -/
def HostIf.zero : HostIf :=
  { flights := [], nextSeq := 0, heldDesc := [], heldData := [], fenceAt := [], rr := [], bme := false, d3hot := false
    perst := false, dmas := [] }

/-- A group (R159, R160, R326). -/
def Group.zero : Group :=
  { cfg0 := 0x148100, cfg1 := 0x300000, gc := List.replicate 8 0, lastKey := none, bind := 0, patch := [], pramps := [] }

/-- The allocator (R151, R192). -/
def Alloc.zero : Alloc :=
  { slots := [], parked := [], tails := [], groups := List.replicate 64 Group.zero, draining := [], moving := []
    node := [0, 0, 0], away := [], later := [] }

/-- The scheduler, STOPPED (R211). -/
def Sched.zero : Sched :=
  { queue := [], fullEp := false, first := 0, next := 0, cur := none, ready := [], lastDone := 0, sigmaPrev := 0
    shedLeft := [], shedSettle := 0, lateEp := 0, allOff := false, play := 0, owe := none, heardJ := 0, heard := [], faded := [], fading := [], tracks := [], resets := []
    holdLevel := false }

/-- A port (R363, R365, R386). -/
def Port.zero : Port :=
  { hbuf := [], nb := none, hellos := 0, sent := [0, 0, 0, 0], got := [0, 0, 0, 0], freed := [0, 0, 0, 0], synSeq := 0
    budgetAt := none, mark := none, pair := none, dreq := none, dreqSeq := 0, delays := [], nDelay := 0, syncAt := 0 }

/-- The switch (R374, R379). -/
def Switch.zero : Switch :=
  { ports := List.replicate 4 Port.zero, buf := [], held := false, upUid := 0, nodes := [], binds := []
    bindReady := false, annDue := none, mbxTag := [], sums := [], sumsAt := [], refLost := false, genLoaded := false, bypass := false
    fwdRec := [none, none] }

/-- The services. -/
def Services.zero : Services :=
  { src := [], dst := [], nextSession := 0, offers := [], ctxRange := [], partners := [], recs := [], lanes := [], rx := []
    ret := [], streams := List.replicate 32 ⟨none, false, false, 0⟩, bseq := 0, inForce := [] }

/-- A core's DMA port (R496). -/
def CoreDma.zero : CoreDma := { regs := 0, busy := false, done := false, error := false, cause := 0 }

/-- The memory system (R492, R494, R501). -/
def MemSys.zero : MemSys :=
  { winPend := [], sramBad := [], sramSoft := [], dramBad := [], dramSoft := [], rowErr := [], repaired := [], spares := []
    test := none, dma := List.replicate 20 CoreDma.zero, trained := false }

/-- A module as the factory leaves it (R545): slot 0 programmed, everything else empty, no state fuse blown (assumption 2).
(Log: 2 DESIGN CHOICE.) -/
def Life.zero : Life :=
  { cells := List.replicate 9 false
    slots := sha256 Config.romKey :: List.replicate 3 (List.replicate 32 0)
    revoked := List.replicate 4 false, svc := List.replicate 32 0, salt := List.replicate 16 0
    pwd := List.replicate 32 0, keys := List.replicate 3 (List.replicate 64 0), bad := List.replicate 4 false
    fails := 0, nonce := none, opened := none, lock := none }

/-- Before the first boot: no boot record and no image in flash (assumption 2). (Log: 2 DESIGN CHOICE, 137 DESIGN CHOICE.) -/
def Boot.zero : Boot :=
  { plinth := none, flash := [none, none], slots := [[], []], gen := 0, image := [], recovery := false, req := none
    readyAt := 0, nextSession := 0 }

/-- An entry of the control map that is off (R473). -/
def CmEnt.off : CmEnt := ⟨0, 0, 0x3F800000, 0⟩
/-- A UART (R460). -/
def Uart.zero : Uart := ⟨[], 0, [], 0, [], none, none, 0, [], [], [none, none]⟩
/-- The serial block. -/
def Ser.zero : Ser := { uarts := List.replicate 4 Uart.zero, cm := [], cmNext := [], cm14 := [] }

/-- An empty route-map entry (R232). -/
def Route.empty : Route := ⟨0, 0, 0, 0, 0⟩
/-- A bus channel whose chain is cleared (R240). -/
def BusCh.zero : BusCh := ⟨⟨List.replicate 4 ⟨(0, 0), []⟩, 0⟩, []⟩
/-- The reverb cleared (R240). -/
def Reverb.zero : Reverb := ⟨List.replicate 16 0, 0, [], none⟩
/-- The mix section. -/
def Mix.zero : Mix :=
  { par := [], cur := [], pramps := [], xr := [], acts := [], buses := List.replicate 32 BusCh.zero
    lines := List.replicate 16 ⟨0, none, [], none⟩, rev := Reverb.zero, fxFade := [], fxClear := [], fxLists := [], map := [], feeds := []
    hist := [], dead := [], hold := [], hold0 := [], inHold := [], clips := [], clipsAt := [], fxSeen := [], out := false, tdm := [] }

/-- An output channel, OFF (R436). -/
def AoCh.zero : AoCh := ⟨0, 0, false, false, 0, 0, false, [], 0, false⟩
/-- The analogue block. -/
def Analog.zero : Analog := { chans := List.replicate 16 AoCh.zero, refEp := List.replicate 8 false, clrAt := none }

/-- The self-test engine (R525, R535). (Log: 2 DESIGN CHOICE.) -/
def SelfTest.zero : SelfTest :=
  { pos := [0, 0, 0, 0], turn := 0, cur := none, bench := none, shut := none, flash := List.replicate 8 0 }

/-- The power logic: a boot is due (R558). (Log: 137 DESIGN CHOICE.) -/
def Power.zero : Power :=
  { down := .no, booting := true, woke := none, latched := 0, alarm := 0, hot := false, vauxOff := false, due := none
    clusters := [], halt := false, refsel := 0, refBack := false }

/-- A bank at reset (R252). -/
def Bank.zero : Bank :=
  { g := List.replicate 32 0, a := List.replicate 8 0, acc := List.replicate 8 0, bs := List.replicate 7 0 }

/-- A core at reset (R250, R252). -/
def Core.zero : Core :=
  { banks := List.replicate 4 Bank.zero, bank := 0, pc := 0, slot := none, reti := false, resumed := false, ie := 0, ip := 0
    epc := 0, ebank := 0, ecause := 0, vbase := 0, wmap := List.replicate 8 0, drb := 0, tmr := 0, tmrld := 0, sigsrc := 0
    cyc := 0, cych := none, blk := 0, tier := 0, land := [], owed := false, stores := [], imem := [], dmem := []
    imemBad := [], dmemBad := [], imemSoft := [], dmemSoft := [], passed := none }

end Sys2Proof.Machine
end

