-- ==== Sys2Proof/Machine/State.lean ====
section
/-!
DEFINITION. The state of the module, its stops, and the state after a power-on reset.
-/
namespace Sys2Proof.Machine

/-- What leaves the module (the model's own record; newest first). -/
inductive Out where
  /-- A memory write to host memory by the PCIe function. -/
  | hostWrite (addr : Nat) (data : List (BitVec 8))
  /-- An MSI-X message of a vector (R354). -/
  | msix (vector addr data : Nat)
  /-- A frame sent on a port. -/
  | frame (port : Nat) (f : Frame)
  /-- A CREDIT set: port, class, count (R361). -/
  | credit (port cls count : Nat)
  /-- A time-sync mark: port, TYPE, SEQ (R400). -/
  | mark (port typ seq : Nat)
  /-- Codes delivered to an output destination: DST, first frame, codes (R236). -/
  | codes (dst frame : Nat) (l : List Int)
  /-- A direct output presents a value of OUT_SET from a frame on: channel, frame, value (R333). -/
  | direct (ch frame v : Nat)
  /-- A SERIAL_TX begins on a port: port, FORMAT, data (R334). -/
  | serial (port format : Nat) (data : List (BitVec 8))
  /-- A completion of a BAR2 read from this exchange-region offset is returned poisoned (R490). -/
  | poisoned (ofs : Nat)
  /-- An edge of a pin: pin code, level, time in ns. -/
  | pin (code : Nat) (level : Bool) (time : Nat)
deriving DecidableEq, Repr

/-- Where the exchange region stands in shared SRAM (R486). -/
def exchBase : Nat := 0x1780000

/-- The state: every piece the spec gives the machine, plain data. -/
structure State where
  /-- The commands that wait, first in, first out. -/
  pending : List Instr
  /-- Every stored register field by `Fld.key`, listed where it differs from its reset value. -/
  regs : Tbl Nat
  /-- The pending shadows of 64-bit pairs, by the offset of the high half (R16). -/
  shadows : Tbl (Option Nat)
  /-- The word the latest register read returned (the model's own). -/
  rdata : Nat
  /-- What has left the module, newest first (the model's own). -/
  out : List Out
  /-- Counter of free values taken (the model's own). -/
  fresh : Nat
  /-- Time base. -/
  tb : TimeBase
  /-- The eight event queues. -/
  eq : List EvQueue
  /-- Records of a PCIe reset held until their queue is enabled (R356): queue and record, oldest first. -/
  pcieHeld : List (Nat × HeldRec)
  /-- Queues whose PCIe records are held from a reset until they are enabled again (R356). -/
  pcieHold : List Nat
  /-- Rings and commands. -/
  hi : HostIf
  /-- Render scheduler. -/
  sch : Sched
  /-- The allocator. -/
  al : Alloc
  /-- Program slots 1 to 15. -/
  progs : Tbl (Option Program)
  /-- Loads in progress, in order of acceptance. -/
  loads : List Load
  /-- The fabric switch. -/
  sw : Switch
  /-- Services of the fabric. -/
  sv : Services
  /-- Shared SRAM by byte address. -/
  sram : Memory
  /-- DRAM by byte address. -/
  dram : Memory
  /-- The chisel cores CH0 to CH19. -/
  cores : List Core
  /-- The slot-0 program each cluster runs, by cluster: the core section of a firmware image (R291, R559, R572). -/
  fw0 : List (List (BitVec 8))
  /-- Life cycle and service access. -/
  life : Life
  /-- Boot. -/
  boot : Boot
  /-- The rolling update in progress. -/
  upd : Option Update
  /-- Serial ports and the control map. -/
  ser : Ser
  /-- The mix section. -/
  mix : Mix
  /-- The memory system. -/
  ms : MemSys
  /-- The analogue outputs. -/
  ao : Analog
  /-- The self-test engine. -/
  st : SelfTest
  /-- The power logic. -/
  pw : Power
deriving DecidableEq, Repr

/-- Why the machine stops. -/
inductive Fault where
  /-- Never raised: every effect the spec gives is a next state (safe). -/
  | none
deriving DecidableEq, Repr

/-- Commands without a meaning. -/
inductive Refusal where
  /-- The command of this mnemonic has no meaning yet; raised by exec's arm (safe). -/
  | notModelled (mnemonic : String)
deriving DecidableEq, Repr

/-- The module right after a power-on reset, before the MC starts: every register at the value its table gives (R14,
R520), every block as `Init` gives it, no command waiting. (Log: 2 DESIGN CHOICE, 4 DESIGN CHOICE, 137 DESIGN CHOICE.) -/
def State.reset : State :=
  { pending := [], regs := [], shadows := [], rdata := 0, out := [], fresh := 0, tb := TimeBase.zero
    eq := List.replicate 8 EvQueue.zero, pcieHeld := [], pcieHold := [], hi := HostIf.zero, sch := Sched.zero
    al := Alloc.zero, progs := [], loads := [], sw := Switch.zero, sv := Services.zero, sram := [], dram := []
    cores := List.replicate 20 Core.zero, fw0 := List.replicate 5 [], life := Life.zero, boot := Boot.zero, upd := none
    ser := Ser.zero, mix := Mix.zero, ms := MemSys.zero, ao := Analog.zero, st := SelfTest.zero, pw := Power.zero }

end Sys2Proof.Machine
end

