-- ==== Sys2Proof/Machine/Ops.lean ====
section
/-!
DEFINITION. The operations every family shares: register fields, time, event records and their queues, completions.
-/
namespace Sys2Proof.Machine

/-- The outcome of an effect the spec gives: a next state. -/
abbrev ok (s : State) : Host.Outcome State Fault Refusal := .next s

/-! ### Register fields -/

/-- The value of a register field, within its width. -/
def State.get (s : State) (f : Fld) : Nat := Tbl.get f.reset s.regs f.key % 2 ^ f.w

/-- Write a register field; a value is held to the field's width. -/
def State.put (s : State) (f : Fld) (v : Nat) : State :=
  { s with regs := Tbl.put f.reset s.regs f.key (v % 2 ^ f.w) }

/-- Set a one-bit field. -/
def State.set1 (s : State) (f : Fld) : State := s.put f 1

/-- Is a one-bit field 1? -/
def State.on (s : State) (f : Fld) : Bool := s.get f == 1

/-- Add to a counter field, which wraps at its width. -/
def State.count (s : State) (f : Fld) (n : Nat) : State := s.put f (s.get f + n)

/-- Add to a counter field that saturates at its width. -/
def State.countSat (s : State) (f : Fld) (n : Nat) : State := s.put f (min (s.get f + n) (2 ^ f.w - 1))

/-- The stored word at an offset: its readable fields in place (R14, R15). -/
def State.word (s : State) (off : Nat) : Nat :=
  (Reg.fieldsAt off).foldl (fun a f => if f.acc = Acc.wo then a else a + s.get f * 2 ^ f.lsb) 0

/-- A value in two fields, low and high half. -/
def State.get64 (s : State) (lo hi : Fld) : Nat := s.get lo + 2 ^ 32 * s.get hi
/-- Write a value into two fields, low and high half. -/
def State.put64 (s : State) (lo hi : Fld) (v : Nat) : State := (s.put lo v).put hi (v / 2 ^ 32)

/-- Take one free value: an open word. (Log: 5 DESIGN CHOICE.) -/
def State.freeWord (s : State) : BitVec 32 × State := (Config.freeWord s.fresh, { s with fresh := s.fresh + 1 })
/-- Take one free number. (Log: 5 DESIGN CHOICE.) -/
def State.freeNat (s : State) : Nat × State := (Config.freeNat s.fresh, { s with fresh := s.fresh + 1 })
/-- Take one free choice. (Log: 5 DESIGN CHOICE.) -/
def State.freeBool (s : State) : Bool × State := (Config.freeBool s.fresh, { s with fresh := s.fresh + 1 })

/-- Replace the scheduler's state. -/
def State.setSch (s : State) (f : Sched → Sched) : State := { s with sch := f s.sch }

/-- Note what leaves the module. (Log: 146 DESIGN CHOICE.) -/
def State.emit (s : State) (o : Out) : State := { s with out := o :: s.out }

/-! ### Time -/

/-- The counter in whole ns (R17). (Log: 19 DEDUCED.) -/
def State.ns (s : State) : Nat := s.tb.now / 2 ^ 32
/-- The counter in tu, 1/441 ns, rounded down. (Log: 19 DEDUCED.) -/
def State.tu (s : State) : Nat := s.tb.now * 441 / 2 ^ 32

/-- Sample rate in Hz by its FS code (R21). -/
def fsHz (fs : Nat) : Nat :=
  match fs with
  | 0 => 44100 | 1 => 48000 | 2 => 88200 | 3 => 96000 | 4 => 176400 | _ => 192000

/-- One frame period 10^9 / fs in tu: exact at every rate (R23). -/
def framePeriod (fs : Nat) : Nat :=
  match fs with
  | 0 => 10000000 | 1 => 9187500 | 2 => 5000000 | 3 => 4593750 | 4 => 2500000 | _ => 2296875

/-- FS now. -/
def State.fs (s : State) : Nat := s.get Reg.TB_CTRL_FS
/-- The sample rate now, in Hz. -/
def State.rate (s : State) : Nat := fsHz s.fs
/-- One frame period now, in tu. -/
def State.fper (s : State) : Nat := framePeriod s.fs
/-- ns in tu. (Log: 19 DEDUCED.) -/
def nsTu (n : Nat) : Nat := 441 * n
/-- t_k in tu (R23). (Log: 19 DEDUCED.) -/
def State.frameTime (s : State) (k : Nat) : Nat := k * s.fper
/-- The first frame at or after a time in ns: n of R68, R195. -/
def State.frameOf (s : State) (t : Nat) : Nat := (nsTu t + s.fper - 1) / s.fper
/-- TB_FRAME: floor(T x fs / 10^9) (R24). -/
def State.frameNow (s : State) : Nat := s.tb.now * s.rate / (1000000000 * 2 ^ 32)
/-- B, frames in a block (R194). -/
def State.blockLen (s : State) : Nat := 8 * 2 ^ s.get Reg.AL_SCH_CTRL_BLOCK
/-- S, slack in blocks (R196). -/
def State.slack (s : State) : Nat := s.get Reg.AL_SCH_CTRL_SLACK
/-- T, the block length in tu (R194). -/
def State.blockT (s : State) : Nat := s.blockLen * s.fper
/-- P_j in tu (R196). -/
def State.playStart (s : State) (j : Nat) : Nat := j * s.blockT
/-- O_j in tu; a block that near time 0 opens at 0 (R196). -/
def State.opening (s : State) (j : Nat) : Nat := (j - s.slack) * s.blockT
/-- D_j in tu (R196). -/
def State.deadline (s : State) (j : Nat) : Nat := (j - (s.slack - 1)) * s.blockT
/-- The block of an event at a time in ns (R195). -/
def State.blockOf (s : State) (t : Nat) : Nat := s.frameOf t / s.blockLen
/-- tu in whole ns, rounded down: a record's timestamp. (Log: 19 DEDUCED.) -/
def tuNs (t : Nat) : Nat := t / 441

/-- The scheduler's STATE code (R215). -/
def State.schState (s : State) : Nat := s.get Reg.AL_SCH_STAT_STATE
/-- R211: the scheduler is running whenever STATE is not STOPPED. -/
def State.schRuns (s : State) : Bool := s.schState != 0

/-! ### Fabric: frames of this module -/

/-- Switch: replace. -/
def State.setSw (s : State) (f : Switch → Switch) : State := { s with sw := f s.sw }

/-- Port `p` of the switch. -/
def State.port (s : State) (p : Nat) : Port :=
  s.sw.ports.getD p { hbuf := [], nb := none, hellos := 0, sent := [0, 0, 0, 0], got := [0, 0, 0, 0], freed := [0, 0, 0, 0]
                      synSeq := 0, budgetAt := none, mark := none, pair := none, dreq := none, dreqSeq := 0
                      delays := [], nDelay := 0, syncAt := 0 }
/-- Replace port `p`. -/
def State.setPort (s : State) (p : Nat) (x : Port) : State := s.setSw (fun w => { w with ports := w.ports.set p x })

/-- Port `p` is UP (R363). -/
def State.isUp (s : State) (p : Nat) : Bool := s.get (Reg.FP_STAT_LSTATE p) == 5
/-- Port `p` carries tree traffic: UPSTREAM or DOWNSTREAM (R375). -/
def State.inTree (s : State) (p : Nat) : Bool :=
  s.isUp p && (s.get (Reg.FP_STAT_ROLE p) == 1 || s.get (Reg.FP_STAT_ROLE p) == 2)

/-- The module's address, none while not valid. -/
def State.addr (s : State) : Option Nat :=
  if s.on Reg.FSW_STAT_ADDR_VALID then some (s.get Reg.FSW_STAT_ADDR) else none
/-- UID of this module. (Log: 1 DESIGN CHOICE.) -/
def State.uid (s : State) : Nat := s.get64 Reg.ID_UID_LO Reg.ID_UID_HI

/-- R366: the negotiated version of port `p` carries the frame. -/
def State.verCarries (s : State) (p : Nat) (f : Frame) : Bool :=
  if s.get (Reg.FP_STAT_VER p) ≠ 1 then true
  else if f.kind = 9 ∨ f.kind = 10 then false
  else if f.kind = 8 then
    decide ((f.payload.getD 2 0).toNat + (f.payload.getD 3 0).toNat ≤ 64)
  else true

/-- A frame is dropped for no route (R366, R381). -/
def State.dropRoute (s : State) : State := (s.count Reg.FSW_CNT_NOROUTE 1).set1 Reg.FSW_FLAGS_NO_ROUTE

/-- The ports of a list that may carry a frame; each that lacks its version drops it (R366). -/
def State.carry (s : State) (ps : List Nat) (f : Frame) : List Nat × State :=
  (ps.filter (fun p => s.verCarries p f), (ps.filter (fun p => !s.verCarries p f)).foldl (fun s _ => s.dropRoute) s)

/-- Every UPSTREAM and DOWNSTREAM port but one: FLOOD (R382). -/
def State.floodPorts (s : State) (arr : Nat) : List Nat := (List.range 4).filter (fun p => p != arr && s.inTree p)

/-- A frame of this module to be sent on ports. -/
def State.queueFrame (s : State) (ps : List Nat) (f : Frame) (here : Bool) (fl : Option Flight) : State :=
  let (ps, s) := s.carry ps f
  s.setSw (fun w => { w with buf := w.buf ++ [⟨4, f, ps, here, s.ns, fl⟩] })

/-- A frame of this module with its own header values. -/
def State.mkFrame (s : State) (tc kind dst : Nat) (payload : List (BitVec 8)) : Frame :=
  { tc := BitVec.ofNat 2 tc, kind := BitVec.ofNat 4 kind, srcrt := false, bcast := false
    sgen := BitVec.ofNat 8 (s.get Reg.FSW_BOOTGEN), dst := BitVec.ofNat 12 dst
    src := BitVec.ofNat 12 (s.get Reg.FSW_STAT_ADDR), noaddr := false, hop := 0, payload := payload }

/-- DIR of the forwarding entry of an address: the module's own reads LOCAL, 7 acts as NONE (R396). -/
def State.dir (s : State) (a : Nat) : Nat :=
  if s.addr = some a then 5 else let d := s.get (Reg.FSW_FWD_DIR a); if d = 7 then 0 else d

/-- The ports a frame to `a` leaves by, none for an entry NONE (R382); `arr` is the arrival port, 4 for this module. -/
def State.route (s : State) (a arr : Nat) : Option (List Nat) :=
  match s.dir a with
  | 0 => none
  | 5 => some []
  | 6 => some (s.floodPorts arr)
  | d => if d - 1 ≠ arr ∧ s.inTree (d - 1) then some [d - 1] else some (s.floodPorts arr)

/-- Send a frame by its destination; false for an entry NONE (R382). (Log: 100 DEDUCED.) -/
def State.sendTo (s : State) (tc kind dst : Nat) (payload : List (BitVec 8)) (fl : Option Flight) : State × Bool :=
  match s.route dst 4 with
  | none => (s, false)
  | some ps => (s.queueFrame ps (s.mkFrame tc kind dst payload) (s.dir dst == 5) fl, true)

/-- Broadcast a frame of this module on the tree (R382). -/
def State.sendAll (s : State) (tc kind : Nat) (payload : List (BitVec 8)) : State :=
  s.queueFrame (s.floodPorts 4) { s.mkFrame tc kind 0 payload with bcast := true } false none

/-- Send a link-local frame on port `p`. -/
def State.sendLocal (s : State) (p tc kind : Nat) (payload : List (BitVec 8)) : State :=
  s.queueFrame [p] (s.mkFrame tc kind 0 payload) false none

/-! ### Shared SRAM: the exchange region -/

/-- Write bytes into the exchange region at an offset; bytes beyond its 512 KiB are not written. -/
def State.exchWrite (s : State) (ofs : Nat) (b : List (BitVec 8)) : State :=
  { s with sram := s.sram.setBytes (exchBase + ofs) (b.take (0x80000 - ofs)) }
/-- Read bytes of the exchange region. -/
def State.exchRead (s : State) (ofs n : Nat) : List (BitVec 8) := s.sram.bytes (exchBase + ofs) n

/-! ### Event queues -/

/-- Replace element `n` of a list by a function of it. -/
def modifyAt {α : Type} (l : List α) (n : Nat) (f : α → α) : List α := l.modify n f

/-- Queue `n` (beyond 7: a disabled one). -/
def State.queue (s : State) (n : Nat) : EvQueue := s.eq.getD n ⟨false, true, 0, [], 0, 0, none⟩
/-- Replace queue `n`. -/
def State.setQueue (s : State) (n : Nat) (q : EvQueue) : State := { s with eq := s.eq.set n q }

/-- Entries of queue `n`. -/
def State.qSize (s : State) (n : Nat) : Nat := 2 ^ s.get (Reg.EQ_Q_CFG_LOG2SIZE n)
/-- R349: full when PROD + 1 equals CONS modulo the size. -/
def State.qFull (s : State) (n : Nat) : Bool :=
  (s.get (Reg.EQ_Q_PROD n) + 1) % s.qSize n == s.get (Reg.EQ_Q_CONS n) % s.qSize n
/-- R308: the function makes no memory request. -/
def State.hostBlocked (s : State) : Bool := !s.hi.bme || s.hi.d3hot || s.hi.perst
/-- R351: writes to queue `n` are blocked. -/
def State.qBlocked (s : State) (n : Nat) : Bool := s.get (Reg.EQ_Q_CFG_LOC n) == 0 && s.hostBlocked
/-- R351: STATE of queue `n`: 0 DISABLED, 1 RUNNING, 2 WAITING. -/
def State.qState (s : State) (n : Nat) : Nat :=
  if !(s.queue n).on then 0 else if s.qFull n || s.qBlocked n then 2 else 1

/-- Bytes of a record with its phase and sequence number (R346). -/
def Rec.bytes (r : Rec) (phase : Bool) (seq : Nat) : List (BitVec 8) :=
  leBytes 2 (r.typ % 256 + 256 * (r.src % 128) + 32768 * b2n phase) ++ leBytes 2 seq
    ++ leBytes 4 r.tagstat ++ leBytes 8 r.time ++ leBytes 16 r.payload

/-- Send an MSI-X message, or set the pending bit of a masked vector (R354). (Log: 20 PRESUMED.) -/
def State.msix (s : State) (v : Nat) : State :=
  if s.on (Reg.HI_MSIX_CTRL v) then
    let f := Reg.HI_PBA (v / 32)
    s.put f (s.get f ||| 2 ^ (v % 32))
  else s.emit (.msix v (s.get64 (Reg.HI_MSIX_ADDR_LO v) (Reg.HI_MSIX_ADDR_HI v)) (s.get (Reg.HI_MSIX_DATA v)))

/-- Signal queue `n`: the message covers every record written (R354, R355). -/
def State.qSignal (s : State) (n : Nat) : State :=
  let first := match (s.queue n).firstUnsig with
    | some (_, t) => t
    | none => s.ns
  let s := s.setQueue n { s.queue n with unsig := 0, firstUnsig := none }
  if s.get (Reg.EQ_Q_CFG_LOC n) = 0 then s.msix (s.get (Reg.EQ_Q_CFG_VECTOR n))
  else (s.sendTo 1 6 (s.get (Reg.EQ_Q_CFG_OWNER n))
    (leBytes 2 n ++ leBytes 2 (s.get (Reg.EQ_Q_PROD n)) ++ leBytes 8 first) none).1

/-- Write one record into queue `n`, which has room (R347, R349), then moderate (R354). -/
def State.qWrite (s : State) (n : Nat) (h : HeldRec) : State :=
  let q := s.queue n
  let p := s.get (Reg.EQ_Q_PROD n)
  let bs := h.r.bytes q.phase q.seq
  let base := s.get (Reg.EQ_Q_BASE_LO n) * 64 + 2 ^ 32 * s.get (Reg.EQ_Q_BASE_HI n)
  let s := if s.get (Reg.EQ_Q_CFG_LOC n) = 0 then s.emit (.hostWrite (base + 32 * p) bs)
    else s.exchWrite (base + 32 * p) bs
  let p' := (p + 1) % s.qSize n
  let s := s.put (Reg.EQ_Q_PROD n) p'
  let s := s.setQueue n { q with
    phase := if p' = 0 then !q.phase else q.phase
    seq := (q.seq + 1) % 65536
    unsig := q.unsig + 1
    firstUnsig := if q.unsig = 0 then some (s.ns, h.r.time) else q.firstUnsig }
  let s := match h.kind with
    | .completion sq _ _ => { s with
        hi := { s.hi with flights := s.hi.flights.filter (fun f => f.seq != sq) }
        sch := { s.sch with queue := s.sch.queue.filter (fun c => c.fl.seq != sq) } }
    | _ => s
  let cnt := max 1 (s.get (Reg.EQ_Q_MOD_MOD_COUNT n))
  if h.urgent || cnt ≤ q.unsig + 1 || s.get (Reg.EQ_Q_MOD_MOD_TIME n) == 0 then s.qSignal n else s

/-- Records held that are no completions (R358 HELD). -/
def EvQueue.heldPlain (q : EvQueue) : Nat :=
  (q.held.filter (fun h => match h.kind with | .completion _ _ _ => false | _ => true)).length

/-- A completion dropped without being written leaves the outstanding commands. -/
def State.forget (s : State) (sq : Nat) : State :=
  { s with hi := { s.hi with flights := s.hi.flights.filter (fun f => f.seq != sq) }
           sch := { s.sch with queue := s.sch.queue.filter (fun c => c.fl.seq != sq) } }

/-- Hold a record for a WAITING queue (R351). -/
def State.qHold (s : State) (n : Nat) (h : HeldRec) : State :=
  let q := s.queue n
  match h.kind with
  | .completion _ _ _ => s.setQueue n { q with held := q.held ++ [h] }
  | _ =>
    if (if q.dropped = 0 then 63 else 64) ≤ q.heldPlain then
      let s := s.count (Reg.EQ_Q_DROP n) 1
      if q.dropped = 0 then
        s.setQueue n { q with dropped := 1, held := q.held ++
          [⟨⟨3, 4 + n / 2, n, s.ns, 0⟩, s.on (Reg.EQ_SRC_URGENT (4 + n / 2)), .marker⟩] }
      else s.setQueue n { q with dropped := q.dropped + 1 }
    else s.setQueue n { q with held := q.held ++ [h] }

/-- A record reaches queue `n` (R351, R352). -/
def State.qEnter (s : State) (n : Nat) (h : HeldRec) : State :=
  let q := s.queue n
  if !q.on then
    let s := s.count Reg.EQ_CNT_DISCARD 1
    match h.kind with
    | .completion sq _ _ => s.forget sq
    | _ => s
  else if q.held.isEmpty && s.qState n == 1 then s.qWrite n h
  else s.qHold n h

/-- Write the held records in their order while the queue has room (R351); `fuel` bounds the number. (Log: 65 DEDUCED.) -/
def State.qDrain (n : Nat) : Nat → State → State
  | 0, s => s
  | fuel + 1, s =>
    let q := s.queue n
    match q.held with
    | [] => s
    | h :: rest =>
      if s.qState n = 1 then
        let h' := match h.kind with
          | .marker => { h with r := { h.r with payload := q.dropped % 2 ^ 32 } }
          | _ => h
        let d := match h.kind with
          | .marker => 0
          | _ => q.dropped
        State.qDrain n fuel ((s.setQueue n { q with held := rest, dropped := d }).qWrite n h')
      else s

/-- Drain queue `n` as far as it goes. -/
def State.drain (s : State) (n : Nat) : State := s.qDrain n (s.queue n).held.length

/-- R356: the PCIe records of a reset, held until their queue is enabled; one for each source, reason and UNIT. -/
def State.holdPcie (s : State) (n : Nat) (h : HeldRec) : State :=
  { s with pcieHeld := s.pcieHeld.filter (fun e => !(e.2.r.src == h.r.src && e.2.r.tagstat == h.r.tagstat
      && e.2.r.typ == h.r.typ)) ++ [(n, h)] }

/-- Write an event record by the source map (R353). -/
def State.record (s : State) (r : Rec) : State :=
  if s.on (Reg.EQ_SRC_EN r.src) then
    let n := s.get (Reg.EQ_SRC_QUEUE r.src)
    let h : HeldRec := ⟨r, s.on (Reg.EQ_SRC_URGENT r.src), .plain⟩
    if 8 ≤ r.src ∧ r.src ≤ 13 ∧ s.pcieHold.contains n ∧ !(s.queue n).on then s.holdPcie n h
    else s.qEnter n h
  else s

/-- Write an event record stamped `t` ns: type, source, UNIT, REASON, payload. -/
def State.eventAt (s : State) (t typ src unit reason payload : Nat) : State :=
  s.record ⟨typ, src, unit % 65536 + 65536 * (reason % 256), t % 2 ^ 64, payload % 2 ^ 128⟩

/-- Write an event record stamped with the counter. -/
def State.event (s : State) (typ src unit reason payload : Nat) : State :=
  s.eventAt s.ns typ src unit reason payload

/-- Count `n` happenings for the summarising record of source `k / 256` and reason `k % 256`, with the time of the first of them
(R346, R359). -/
def State.sumUp (s : State) (k n : Nat) : State :=
  s.setSw (fun w => { w with
    sums := Tbl.put 0 w.sums k (Tbl.get 0 w.sums k + n)
    sumsAt := if Tbl.get 0 w.sums k = 0 ∧ n ≠ 0 then Tbl.put 0 w.sumsAt k (s.ns + 1) else w.sumsAt })
/-- The count of a summarising record starts again. -/
def State.sumClear (s : State) (k : Nat) : State :=
  s.setSw (fun w => { w with sums := Tbl.put 0 w.sums k 0, sumsAt := Tbl.put 0 w.sumsAt k 0 })
/-- The time a summarising record bears: that of the first happening counted (R346). -/
def State.sumTime (s : State) (k : Nat) : Nat := match Tbl.get 0 s.sw.sumsAt k with
  | 0 => s.ns
  | t + 1 => t

/-- A payload field: `v` at byte `b` of the record (16 to 31). -/
def pay (b v : Nat) : Nat := v * 2 ^ (8 * (b - 16))

/-! ### Completions -/

/-- Complete a command (R321): nothing is written when QUIET is set and the status is OK; a completion of an old ring
generation is dropped and counted (R341, R342). `x` is bytes 24 to 31. -/
def State.completeX (s : State) (f : Flight) (time status detail handle x : Nat) : State :=
  if f.gen ≠ s.get (Reg.HI_RING_STAT_GEN f.ring) then (s.forget f.seq).count Reg.HI_CNT_STALE 1
  else if f.quiet && status == 0 then s.forget f.seq
  else
    let r : Rec := ⟨1, f.ring / 4, f.tag + 65536 * status + 2 ^ 24 * f.ring, time % 2 ^ 64,
      pay 16 f.op + pay 18 (min detail 0xFFFF) + pay 20 (handle % 2 ^ 32) + pay 24 (x % 2 ^ 64)⟩
    s.qEnter (s.get (Reg.HI_RING_CFG_CQ f.ring))
      ⟨r, s.on (Reg.EQ_SRC_URGENT (f.ring / 4)), .completion f.seq f.ring f.gen⟩

/-- Complete a command with no opcode-specific bytes. -/
def State.complete (s : State) (f : Flight) (time status detail handle : Nat) : State :=
  s.completeX f time status detail handle 0

end Sys2Proof.Machine
end

