-- ==== Sys2Proof/Machine/Params.lean ====
section
/-!
DEFINITION. The parameters of the armature: identifiers, ranges, defaults (R91, R123 to R125, R130, R138, R142, R145).
-/
namespace Sys2Proof.Machine

/-- The kind and range of a parameter. -/
inductive PKind where
  /-- binary32, clamped to a range. -/
  | real (lo hi : F32)
  /-- An integer enumeration. -/
  | enum (lo hi : Nat)
  /-- A source ID of R143. -/
  | source
  /-- A destination of R145. -/
  | dest
  /-- binary32 refused outside its range (R145). -/
  | strict (lo hi : F32)
  /-- 0 or one of these: the parameters of a maquette's own table that are marked MOD (R289). -/
  | own (ids : List Nat)
deriving DecidableEq, Repr

/-- A parameter: kind, default, and whether a matrix slot may name it. -/
structure PSpec where
  /-- Kind and range. -/
  kind : PKind
  /-- Default value, as its 32 bits or its integer. -/
  dflt : Nat
  /-- Mod = Yes. -/
  mod : Bool
deriving DecidableEq, Repr

/-- Oscillator n (R91). -/
def oscParam (n pp : Nat) : Option PSpec :=
  match pp with
    | 0x00 => some ⟨.enum 0 5, if n = 0 then 1 else 0, false⟩
    | 0x01 => some ⟨.enum 0 3, 0, false⟩
    | 0x02 => some ⟨.enum 0 2, 0, false⟩
    | 0x03 => some ⟨.real 0xC2C00000 0x42C00000, 0x00000000, true⟩
    | 0x04 => some ⟨.real 0x00000000 0x40000000, 0x3F800000, false⟩
    | 0x05 => some ⟨.real 0x3D800000 0x42800000, 0x3F800000, true⟩
    | 0x06 => some ⟨.real 0x3C23D70A 0x46BB8000, 0x43DC0000, true⟩
    | 0x07 => some ⟨.real 0xC2C80000 0x42C80000, 0x00000000, true⟩
    | 0x08 => some ⟨.real 0xC2F00000 0x41400000, 0x00000000, true⟩
    | 0x09 => some ⟨.real 0x3C23D70A 0x3F7D70A4, 0x3F000000, true⟩
    | 0x0A => some ⟨.real 0x00000000 0x3F800000, 0x00000000, false⟩
    | 0x0B => some ⟨.enum 0 2, 0, false⟩
    | 0x0C => some ⟨.enum 0 3, 0, false⟩
    | 0x0D => some ⟨.enum 0 3, 0, false⟩
    | 0x0E => some ⟨.real 0x00000000 0x3F800000, 0x3F800000, true⟩
    | 0x10 => some ⟨.enum 0 1023, 0, false⟩
    | 0x11 => some ⟨.real 0x00000000 0x437F0000, 0x00000000, true⟩
    | 0x12 => some ⟨.enum 0 1, 0, false⟩
    | 0x14 => some ⟨.real 0x00000000 0x41C80000, 0x00000000, true⟩
    | 0x15 => some ⟨.real 0x00000000 0x41C80000, 0x00000000, true⟩
    | 0x16 => some ⟨.real 0x00000000 0x41C80000, 0x00000000, true⟩
    | 0x17 => some ⟨.real 0x00000000 0x41C80000, 0x00000000, true⟩
    | 0x18 => some ⟨.enum 0 1023, 0, false⟩
    | 0x19 => some ⟨.real 0x00000000 0x3F800000, 0x00000000, false⟩
    | 0x1A => some ⟨.enum 0 3, 0, false⟩
    | 0x1B => some ⟨.enum 0 1, 0, false⟩
    | 0x1C => some ⟨.enum 0 2, 0, false⟩
    | 0x1D => some ⟨.real 0x3C23D70A 0x41A00000, 0x3F800000, true⟩
    | _ => none

/-- Filter n (R123). -/
def filParam (n pp : Nat) : Option PSpec :=
  match pp with
    | 0x00 => some ⟨.enum 0 8, if n = 0 then 1 else 0, false⟩
    | 0x01 => some ⟨.real 0x41200000 0x469C4000, 0x469C4000, false⟩
    | 0x02 => some ⟨.real 0xC2F00000 0x42F00000, 0x00000000, true⟩
    | 0x03 => some ⟨.real 0x00000000 0x40000000, 0x00000000, false⟩
    | 0x04 => some ⟨.real 0x3F000000 0x42200000, 0x3F34FDF4, true⟩
    | 0x05 => some ⟨.real 0x00000000 0x3F99999A, 0x00000000, true⟩
    | 0x06 => some ⟨.real 0xC1C00000 0x42100000, 0x00000000, true⟩
    | 0x07 => some ⟨.real 0x00000000 0x3F800000, 0x3F000000, false⟩
    | 0x08 => some ⟨.real 0xC2F00000 0x41400000, if n = 0 then 0x00000000 else 0xC2F00000, true⟩
    | 0x09 => some ⟨.real 0xC2F00000 0x41400000, if n = 0 then 0x00000000 else 0xC2F00000, true⟩
    | 0x0A => some ⟨.real 0xC2F00000 0x41400000, if n = 0 then 0x00000000 else 0xC2F00000, true⟩
    | 0x0B => some ⟨.real 0xC2F00000 0x41400000, if n = 0 then 0x00000000 else 0xC2F00000, true⟩
    | 0x0C => some ⟨.real 0xC2F00000 0x41400000, if n = 0 then 0xC2F00000 else 0x00000000, true⟩
    | 0x0D => if n = 1 then some ⟨.real 0xC2F00000 0x41400000, 0, true⟩ else none
    | 0x0E => if n = 0 then some ⟨.enum 0 1, 0, false⟩ else none
    | _ => none

/-- The shaper (R124). -/
def shParam (pp : Nat) : Option PSpec :=
  match pp with
    | 0x00 => some ⟨.enum 0 5, 0, false⟩
    | 0x01 => some ⟨.real 0xC1C00000 0x42400000, 0x00000000, true⟩
    | 0x02 => some ⟨.real 0xBF800000 0x3F800000, 0x00000000, true⟩
    | 0x03 => some ⟨.real 0x00000000 0x3F800000, 0x3F800000, true⟩
    | 0x04 => some ⟨.real 0xC2F00000 0x41400000, 0x00000000, true⟩
    | _ => none

/-- The amplifier and its sends (R125). -/
def ampParam (pp : Nat) : Option PSpec :=
  match pp with
    | 0x00 => some ⟨.real 0xC2F00000 0x41400000, 0, true⟩
    | 0x01 => some ⟨.enum 0 6, 1, false⟩
    | 0x02 => some ⟨.real 0xBF800000 0x3F800000, 0, true⟩
    | _ =>
      if 0x10 ≤ pp ∧ pp < 0x30 then
        let s := (pp - 0x10) / 4
        match pp % 4 with
        | 0 => some ⟨.enum 0 32, if s < 2 then s + 1 else 0, false⟩
        | 1 => some ⟨.enum 0 2, if s < 2 then s + 1 else 0, false⟩
        | 2 => some ⟨.real 0xC2F00000 0x41400000, 0, true⟩
        | _ => none
      else none

/-- Envelopes (R138). -/
def envParam (pp : Nat) : Option PSpec :=
  match pp with
    | 0x00 => some ⟨.real 0x00000000 0x42700000, 0x00000000, true⟩
    | 0x01 => some ⟨.real 0x00000000 0x42700000, 0x3BA3D70A, true⟩
    | 0x02 => some ⟨.real 0x00000000 0x42700000, 0x00000000, true⟩
    | 0x03 => some ⟨.real 0x00000000 0x42700000, 0x3E99999A, true⟩
    | 0x04 => some ⟨.real 0x00000000 0x3F800000, 0x3F800000, true⟩
    | 0x05 => some ⟨.real 0x00000000 0x42700000, 0x3E4CCCCD, true⟩
    | 0x06 => some ⟨.real 0xBF800000 0x3F800000, 0x00000000, false⟩
    | 0x07 => some ⟨.real 0xBF800000 0x3F800000, 0x3F000000, false⟩
    | 0x08 => some ⟨.real 0xBF800000 0x3F800000, 0x3F000000, false⟩
    | 0x09 => some ⟨.real 0x00000000 0x3F800000, 0x00000000, false⟩
    | 0x0A => some ⟨.real 0xBF800000 0x3F800000, 0x00000000, false⟩
    | 0x0B => some ⟨.enum 0 2, 1, false⟩
    | _ => none

/-- LFOs (R142). -/
def lfoParam (pp : Nat) : Option PSpec :=
  match pp with
    | 0x00 => some ⟨.enum 0 6, 0, false⟩
    | 0x01 => some ⟨.real 0x3A83126F 0x43480000, 0x40A00000, true⟩
    | 0x02 => some ⟨.real 0x00000000 0x3F800000, 0x00000000, false⟩
    | 0x03 => some ⟨.enum 0 2, 0, false⟩
    | 0x04 => some ⟨.real 0x00000000 0x42700000, 0x00000000, false⟩
    | 0x05 => some ⟨.real 0x00000000 0x42700000, 0x00000000, false⟩
    | 0x06 => some ⟨.enum 0 1, 0, false⟩
    | _ => none

/-- Voice-global parameters (R130). -/
def gloParam (pp : Nat) : Option PSpec :=
  match pp with
    | 0x00 => some ⟨.real 0xC2400000 0x42400000, 0x00000000, true⟩
    | 0x01 => some ⟨.real 0x00000000 0x41200000, 0x00000000, false⟩
    | 0x02 => some ⟨.enum 0 2, 0, false⟩
    | 0x03 => some ⟨.enum 0 1, 0, false⟩
    | 0x04 => some ⟨.real 0x3C23D70A 0x41200000, 0x3F000000, false⟩
    | 0x05 => some ⟨.real 0x00000000 0x42480000, 0x00000000, true⟩
    | 0x06 => some ⟨.real 0x00000000 0x3F800000, 0x00000000, false⟩
    | _ => none

/-- Matrix slots (R145). -/
def slotParam (pp : Nat) : Option PSpec :=
  match pp with
    | 0 => some ⟨.source, 0, false⟩
    | 1 => some ⟨.dest, 0, false⟩
    | 2 => some ⟨.strict 0xC47A0000 0x447A0000, 0, false⟩
    | 3 => some ⟨.source, 0, false⟩
    | 4 => some ⟨.enum 0 2, 0, false⟩
    | 5 => some ⟨.strict 0 0x3F800000, 0, false⟩
    | _ => none

/-- The armature's parameter of an ID; none where the ID is reserved. -/
def armParam (id : Nat) : Option PSpec :=
  let pp := id % 256
  match id / 256 with
  | 0x00 => oscParam 0 pp
  | 0x01 => oscParam 1 pp
  | 0x02 => oscParam 2 pp
  | 0x03 => oscParam 3 pp
  | 0x10 => filParam 0 pp
  | 0x11 => filParam 1 pp
  | 0x20 => shParam pp
  | 0x21 => ampParam pp
  | 0x50 => slotParam (id % 16)
  | 0x51 => slotParam (id % 16)
  | 0x60 => gloParam pp
  | h =>
    if 0x30 ≤ h ∧ h ≤ 0x35 then envParam pp
    else if 0x40 ≤ h ∧ h ≤ 0x43 then lfoParam pp
    else none

/-- Is a source ID valid (R143)? -/
def validSource (id : Nat) : Bool := decide (id ≤ 0x1D) || (decide (0x400 ≤ id) && decide (id ≤ 0x7FF))

/-- What checking a parameter value gives: the value to store, or the status of the refusal (R91). -/
inductive PRes where
  /-- Accepted, with the value stored. -/
  | ok (v : Nat)
  /-- BAD_PARAM: no such parameter. -/
  | badParam
  /-- BAD_VALUE. -/
  | badValue
deriving DecidableEq, Repr

/-- Check a value against a parameter of a program whose parameters `f` gives (R91, R145). -/
def checkParam (f : Nat → Option PSpec) (id v : Nat) : PRes :=
  match f id with
  | none => .badParam
  | some p =>
    let x : F32 := BitVec.ofNat 32 v
    match p.kind with
    | .real lo hi => if fFinite x then .ok (fClamp lo hi x).toNat else .badValue
    | .strict lo hi => if fFinite x && fLe lo x && fLe x hi then .ok v else .badValue
    | .enum lo hi => if lo ≤ v ∧ v ≤ hi then .ok v else .badValue
    | .source => if validSource v then .ok v else .badValue
    | .own ids => if v = 0 ∨ ids.contains v then .ok v else .badValue
    | .dest => if v = 0 then .ok 0 else
      match f v with
      | some q => if q.mod then .ok v else .badValue
      | none => .badValue

/-- The default of a parameter; 0 where there is none. -/
def dfltParam (f : Nat → Option PSpec) (id : Nat) : Nat := match f id with | some p => p.dflt | none => 0

end Sys2Proof.Machine
end

