-- ==== Sys2Proof/Machine/Osc.lean ====
section
/-!
DEFINITION. The oscillators of the armature (02_oscillators.md). Sums and products are binary32 by R253, in the order
the formulas are written.
-/
namespace Sys2Proof.Machine

/-- The library the oscillators read: bytes of DRAM, with 0 for points an uncorrectable error spoils (R89). -/
structure Lib where
  /-- DRAM. -/
  mem : Memory
  /-- 64-bit words with an uncorrectable error. -/
  bad : List Nat

/-- `n` bytes of the library as a number; 0 where a word it reads is spoilt (R89). -/
def Lib.nat (l : Lib) (a n : Nat) : Nat := if l.bad.contains (a / 8) || l.bad.contains ((a + n - 1) / 8) then 0 else l.mem.nat a n

/-- The spoilt words among those that `n` bytes at `a` lie in (R89, R503). -/
def Lib.spoilt (l : Lib) (a n : Nat) : List Nat := ([a / 8, (a + n - 1) / 8].eraseDups).filter (fun w => l.bad.contains w)

/-- Container size of a FORMAT (R86). -/
def fmtSize (f : Nat) : Nat := if f = 0 then 2 else 4

/-- A data point (R86). -/
def Lib.point (l : Lib) (a fmt : Nat) : F32 :=
  match fmt with
  | 0 => fRat (toS 16 (l.nat a 2)) 32768
  | 1 => fRat (toS 24 (l.nat a 4)) 8388608
  | _ => BitVec.ofNat 32 (l.nat a 4)

/-- The point at an address; none reads 0 (R83). -/
def Lib.pt (l : Lib) (fmt : Nat) (a : Option Nat) : F32 := match a with | some x => l.point x fmt | none => 0

/-- The byte where copy `c` of a sample ends from its ADDR (R87). -/
def copyEnd (e : DirEntry) : Nat → Nat
  | 0 => e.length * e.channels * fmtSize e.format
  | c + 1 => (copyEnd e c + 63) / 64 * 64 + ((e.length + 2 ^ (c + 1) - 1) / 2 ^ (c + 1)) * e.channels * fmtSize e.format
/-- The byte where copy `c` begins (R87). -/
def copyStart (e : DirEntry) (c : Nat) : Nat :=
  match c with
  | 0 => 0
  | c + 1 => (copyEnd e c + 63) / 64 * 64

/-- Read and check a directory entry for an oscillator mode (R85, R88): the entry, or the first check that fails. -/
def Lib.entry (l : Lib) (i kind : Nat) : DirEntry ⊕ Nat :=
  let b := i * 64
  let e : DirEntry := {
    kind := l.nat b 1, addr := l.nat (b + 8) 8, format := l.nat (b + 44) 1
    frames := l.nat (b + 24) 2, length := l.nat (b + 24) 4, loopStart := l.nat (b + 28) 4, loopEnd := l.nat (b + 32) 4
    rate := l.nat (b + 36) 4, root := BitVec.ofNat 32 (l.nat (b + 40) 4)
    channels := l.nat (b + 45) 1, loopMode := l.nat (b + 46) 1, octaves := l.nat (b + 47) 1 }
  let bytes := l.nat (b + 16) 8
  let need := if kind = 1 then 11 * e.frames * 2048 * fmtSize e.format else copyEnd e e.octaves
  if e.kind ≠ kind then .inr 1
  else if l.nat (b + 1) 1 ≠ 1 then .inr 2
  else if 2 < e.format then .inr 3
  else if e.addr % 64 ≠ 0 then .inr 4
  else if 2 ^ 33 < e.addr + bytes ∨ e.addr < 0x10000 then .inr 5
  else if bytes < need then .inr 6
  else if kind = 1 then
    if e.frames < 1 ∨ 256 < e.frames ∨ e.channels ≠ 11 then .inr 7 else .inl e
  else if e.length < 1 ∨ e.rate < 8000 ∨ 384000 < e.rate ∨ e.channels < 1 ∨ 2 < e.channels ∨ 3 < e.octaves then .inr 8
  else if e.loopMode ≠ 0 ∧ ¬(e.loopStart < e.loopEnd ∧ e.loopEnd ≤ e.length) then .inr 9
  else .inl e

/-- One step of the 32-bit xorshift generator (R90). -/
def xorshift (x : BitVec 32) : BitVec 32 :=
  let x := x ^^^ (x <<< 13)
  let x := x ^^^ (x >>> 17)
  x ^^^ (x <<< 5)

/-- The seed of generator `n` from the cast random value R (R90, R110, R128, R139). -/
def genSeed (r : BitVec 32) (n : Nat) : BitVec 32 :=
  let x := r ^^^ BitVec.ofNat 32 (n * 0x9E3779B9)
  if x = 0 then 1 else x

/-- x / 2^31 as a signed value (R90). -/
def white (x : BitVec 32) : F32 := fRat x.toInt 2147483648

/-- 2^24: fractions of a sample are counted in units of 2^-24 (R68). -/
def sub24 : Nat := 2 ^ 24

/-- The fraction δ of an event at `t` tu before frame `n`, in units of 2^-24 sample (R68). -/
def deltaOf (fper n t : Nat) : Nat := (n * fper - t) * sub24 / fper

/-- Gain of a level in dB; -120 dB is exactly 0 (R92, R101, R116). -/
def dbGain (x : F32) : F32 := if fLe x 0xC2F00000 then 0 else fDb x

/-- I = round(f x 2^64 / fs) (R61). -/
def incOf (f : F32) (rate : Nat) : Int :=
  let e := fE f + 64
  if 0 ≤ e then (2 * fMant f * 2 ^ e.toNat + rate) / (2 * rate)
  else (2 * fMant f + rate * 2 ^ (-e).toNat) / (2 * (rate * 2 ^ (-e).toNat : Nat))

/-- A modulo 2^64. -/
def modA (a : Int) : Nat := (a % (2 ^ 64 : Int)).toNat

/-- A phase in cycles (binary32, 1.0 acts as 0.0) as an accumulator value. -/
def phaseA (p : F32) : Nat := (fFloorScaled p 64).toNat % 2 ^ 64

/-- Oscillator frequency (R59, R60) from effective values `p` and enumerations `en` by PP. -/
def oscFreq (p : Nat → F32) (en : Nat → Nat) (pv : F32) (rate : Nat) : F32 :=
  let twelve : F32 := 0x41400000
  let semi (x : F32) : F32 := fExp2 (fDiv x twelve)
  let f := match en 2 with
    | 0 => fMul 0x43DC0000 (semi (fSub (fAdd (fAdd 0x42700000 (fMul (p 4) (fSub pv 0x42700000))) (p 3)) 0x428A0000))
    | 1 => fMul (fMul (p 5) 0x43DC0000) (semi (fSub (fAdd pv (p 3)) 0x428A0000))
    | _ => fMul (p 6) (semi (p 3))
  let f := fAdd f (p 7)
  let lim := fRat (49 * rate) 100
  fClamp (fNegate lim) lim f

/-- The naive virtual-analogue waveform at accumulator `a` (R63); `pw` is PW as an accumulator value. -/
def vaWave (shape a pw : Nat) : F32 :=
  match shape with
  | 0 => fRat (2 * (a : Int) - 2 ^ 64) (2 ^ 64)
  | 1 => if a < pw then fOne else 0xBF800000
  | 2 => if a < 2 ^ 63 then fRat (4 * (a : Int) - 2 ^ 64) (2 ^ 64) else fRat (3 * 2 ^ 64 - 4 * (a : Int)) (2 ^ 64)
  | _ => fClamp 0xBF800000 fOne (fSin2Pi (fRat a (2 ^ 64)))

/-- cos(2πx) by the module's sine. -/
def fCos2Pi (x : F32) : F32 := fSin2Pi (fAdd x 0x3E800000)

/-- The slope per sample of sin(2πφ + d) at accumulator `a`. -/
def sinSlope (a : Nat) (inc : Int) (d : F32) : F32 :=
  fMul (fMul 0x40C90FDB (fRat inc (2 ^ 64))) (fCos2Pi (fAdd (fRat a (2 ^ 64)) (fDiv d 0x40C90FDB)))

/-- The slope of the waveform per sample at accumulator `a` (R63, R72). -/
def vaSlope (shape a : Nat) (inc : Int) : F32 :=
  match shape with
  | 0 => fRat (2 * inc) (2 ^ 64)
  | 1 => 0
  | 2 => if a < 2 ^ 63 then fRat (4 * inc) (2 ^ 64) else fRat (-4 * inc) (2 ^ 64)
  | _ => sinSlope a inc 0

/-- The residuals' length in phases: both are 0 from 64 samples on (R65). -/
def resEnd : Nat := 64 * 256

/-- The step residual r = s - u at phase index i of 256 a sample (R65). (Log: 7 DESIGN CHOICE.) -/
def stepResidual (i : Nat) : F32 := if resEnd ≤ i then 0 else fSub (Config.bandStep i) fOne

/-- The sum of the first `n` entries of r, in units of 2^-96. -/
def residualSum : Nat → Fix
  | 0 => 0
  | n + 1 => residualSum n + fixOf (stepResidual n)

/-- The ramp residual q, the running integral of r, at phase index i (R65). (Log: 7 DESIGN CHOICE.) -/
def rampResidual (i : Nat) : F32 := if resEnd ≤ i then 0 else (⟨residualSum i, -104⟩ : Approx).round

/-- Residuals of a value step dv and a slope step ds placed `d` units of 2^-24 sample before a sample, added to the tail
over `k` samples from `i` on (R66). -/
def addResidual (dv ds : F32) (d : Nat) : Nat → Nat → List F32 → List F32
  | 0, _, tail => tail
  | k + 1, i, tail =>
    let p := i * sub24 + d
    let n := p / 2 ^ 16
    let fr := fRat ((p % 2 ^ 16 : Nat) : Int) 65536
    let lerp (f : Nat → BitVec 32) : F32 := fAdd (f n) (fMul (fSub (f (n + 1)) (f n)) fr)
    let v := fAdd (fMul dv (lerp stepResidual)) (fMul ds (lerp rampResidual))
    match tail with
    | [] => v :: addResidual dv ds d k (i + 1) []
    | t :: ts => fAdd t v :: addResidual dv ds d k (i + 1) ts

/-- Residual length of a tier (R97). -/
def resLen (tier : Nat) : Nat := if tier = 2 then 16 else 64

/-- Add a discontinuity to an oscillator's tail (R66). -/
def Osc.jump (o : Osc) (tier : Nat) (dv ds : F32) (d : Nat) : Osc :=
  if fIsZero dv && fIsZero ds then o else { o with tail := addResidual dv ds d (resLen tier) 0 o.tail }

/-- The same on the side of LEVEL where steps of LEVEL and of ring modulation act (R69). -/
def Osc.jumpOut (o : Osc) (tier : Nat) (dv ds : F32) (d : Nat) : Osc :=
  if fIsZero dv && fIsZero ds then o else { o with ltail := addResidual dv ds d (resLen tier) 0 o.ltail }

/-- Distance from accumulator `a0` forward (or backward) to the point `x`, none if a move of `da` does not reach it. -/
def crossDist (a0 : Nat) (da : Int) (x : Nat) : Option Nat :=
  if 0 < da then
    let d : Nat := (x + 2 ^ 64 - a0) % 2 ^ 64
    let d : Nat := if d = 0 then 2 ^ 64 else d
    if (d : Int) ≤ da then some d else none
  else if da < 0 then
    let d : Nat := (a0 + 2 ^ 64 - x) % 2 ^ 64
    if (d : Int) < -da then some d else none
  else none

/-- Advance the accumulator by `num`/2^24 of a sample ending `e` (2^-24 sample) before the sample, adding the residuals
of the discontinuities crossed (R61, R63, R66). Answers the position of the last wrap, if any. -/
def Osc.advance (o : Osc) (tier mode shape pw num e : Nat) : Osc × Option Nat :=
  let da := o.inc * (num : Int) / (sub24 : Int)
  let a1 := modA ((o.a : Int) + da)
  let mag := o.inc.natAbs
  let pos (d : Nat) : Nat := if mag = 0 then e else e + (da.natAbs - d) * sub24 / mag
  let fwd := 0 < o.inc
  let wrap := (crossDist o.a da 0).map (fun d => min (sub24 - 1) (pos d))
  let mid (x : Nat) := (crossDist o.a da x).map (fun d => min (sub24 - 1) (pos d))
  let o := { o with a := a1 }
  let two : F32 := fTwo
  let o :=
    if mode = 1 then
      match shape with
      | 0 => match wrap with
        | some d => o.jump tier (if fwd then fNegate two else two) 0 d
        | none => o
      | 1 =>
        let o := match wrap with
          | some d => o.jump tier (if fwd then two else fNegate two) 0 d
          | none => o
        match mid pw with
        | some d => o.jump tier (if fwd then fNegate two else two) 0 d
        | none => o
      | 2 =>
        let sl := fRat (8 * o.inc) (2 ^ 64)
        let o := match wrap with
          | some d => o.jump tier 0 sl d
          | none => o
        match mid (2 ^ 63) with
        | some d => o.jump tier 0 (fNegate sl) d
        | none => o
      | _ => o
    else o
  (o, wrap)

/-- Tap `i` of `n` at phase `p` of 512: the windowed sinc at the tap's distance from the read position (R84).
(Log: 7 DESIGN CHOICE.) -/
def interpTap (n p i : Nat) : F32 := Config.sincAt n ((512 * ((i : Int) + 1 - ((n / 2 : Nat) : Int)) - p).natAbs)

/-- Points through the interpolator at a 32-bit fraction, linear between phases (R79, R84). -/
def interp (frac : Nat) (pts : List F32) : F32 :=
  let n := pts.length
  let p := frac / 2 ^ 23
  let w := fRat ((frac % 2 ^ 23 : Nat) : Int) (2 ^ 23)
  ((List.range n).zip pts).foldl (fun acc e =>
    let t0 := interpTap n p e.1
    let t1 := interpTap n (p + 1) e.1
    fAdd acc (fMul (fAdd t0 (fMul (fSub t1 t0) w)) e.2)) 0

/-- Taps of the interpolator of a tier (R97). -/
def taps (tier : Nat) : Nat := if tier = 2 then 4 else 8

/-- The points that level `m`, frame `k` of a wavetable is read at (R79, R87). -/
def wtAddrs (e : DirEntry) (tier m k a : Nat) : List (Option Nat) :=
  let n := taps tier
  (List.range n).map (fun t =>
    some (e.addr + ((m * e.frames + k) * 2048 + (a / 2 ^ 53 + 2048 + t + 1 - n / 2) % 2048) * fmtSize e.format))

/-- Levels m1 and m2 and the weight of m2 (R78). -/
def wtLevels (freq : F32) (rate : Nat) : Nat × Nat × F32 :=
  if fIsZero freq then (0, 1, 0)
  else
    let x := fLog2 (fDiv (fMul 0x44800000 (fAbsol freq)) (fMul fHalf (fInt rate)))
    let m1 : Nat := ((max 0 (min 10 (-(fFloorI (fNegate x))))) : Int).toNat
    (m1, min (m1 + 1) 10, fClamp 0 fOne (fAdd (fSub x (fInt m1)) fOne))

/-- The frame, the next one where it is crossfaded in, and its weight (R79). -/
def wtFrames (e : DirEntry) (pos : F32) (step : Bool) : Nat × Option Nat × F32 :=
  let p := fClamp 0 (fInt ((e.frames : Int) - 1)) pos
  let k := (fFloorI p).toNat
  let fr := fSub p (fInt k)
  (k, if step ∨ fIsZero fr then none else some (min (k + 1) (e.frames - 1)), fr)

/-- A wavetable oscillator's value (R78, R79). -/
def wtWave (l : Lib) (e : DirEntry) (tier a : Nat) (freq pos : F32) (step : Bool) (rate : Nat) : F32 :=
  let (m1, m2, w) := wtLevels freq rate
  let (k, k2, fr) := wtFrames e pos step
  let read (m k : Nat) : F32 := interp (a / 2 ^ 21 % 2 ^ 32) ((wtAddrs e tier m k a).map (l.pt e.format))
  let at' (m : Nat) : F32 := match k2 with
    | none => read m k
    | some k2 => fAdd (fMul (fSub fOne fr) (read m k)) (fMul fr (read m k2))
  fAdd (fMul (fSub fOne w) (at' m1)) (fMul w (at' m2))

/-- Every point it reads. -/
def wtPoints (e : DirEntry) (tier a : Nat) (freq pos : F32) (step : Bool) (rate : Nat) : List (Option Nat) :=
  let (m1, m2, _) := wtLevels freq rate
  let (k, k2, _) := wtFrames e pos step
  [m1, m2].flatMap (fun m => (k :: k2.toList).flatMap (fun k => wtAddrs e tier m k a))

/-- The loop mode in force (R83): SMP_LOOP, or the entry's when 0. -/
def loopMode (e : DirEntry) (smpLoop : Nat) : Nat := if smpLoop = 0 then e.loopMode else smpLoop - 1

/-- The index a tap reads in a copy, by the loop; none reads 0 (R83). In ping-pong the loop's points are mirrored about both
ends, the end point read twice. (Log: 161 DEDUCED.) -/
def tapIndex (mode : Nat) (inLoop : Bool) (ls le len : Nat) (i : Int) : Option Nat :=
  let n : Int := ((le - ls : Nat) : Int)
  if inLoop ∧ mode = 1 ∧ ls < le then
    if (le : Int) ≤ i then some (ls + ((i - ls) % n).toNat) else if i < 0 then none else some i.toNat
  else if inLoop ∧ mode = 2 ∧ ls < le then
    let u := (i - ls) % (2 * n)
    some (ls + (if u < n then u else 2 * n - 1 - u).toNat)
  else if i < 0 ∨ (len : Int) ≤ i then none else some i.toNat

/-- The points that copy `c` is read at (R82 to R84, R87). -/
def smpAddrs (e : DirEntry) (o : Osc) (pos : Int) (tier c ch smpLoop : Nat) : List (Option Nat) :=
  let n := taps tier
  let i := pos / (2 ^ c : Int) / (2 ^ 32 : Int)
  let len := (e.length + 2 ^ c - 1) / 2 ^ c
  let ch := if ch < e.channels then ch else 0
  (List.range n).map (fun (t : Nat) =>
    (tapIndex (loopMode e smpLoop) o.inLoop (e.loopStart / 2 ^ c) (e.loopEnd / 2 ^ c) len (i + (t : Int) + 1 - ((n / 2 : Nat) : Int))).map
      (fun k => e.addr + copyStart e c + (k * e.channels + ch) * fmtSize e.format))

/-- The sample value of copy `c` at position `pos` (R82 to R84, R87). -/
def smpRead (l : Lib) (e : DirEntry) (o : Osc) (pos : Int) (tier c ch smpLoop : Nat) : F32 :=
  interp (pos / (2 ^ c : Int) % (2 ^ 32 : Int)).toNat ((smpAddrs e o pos tier c ch smpLoop).map (l.pt e.format))

/-- The sample oscillator's value at `pos`, through the crossfade of a change of copy (R82). -/
def smpWave (l : Lib) (e : DirEntry) (o : Osc) (pos : Int) (tier ch smpLoop : Nat) : F32 :=
  if o.ended then 0
  else
    let v := smpRead l e o pos tier o.copy ch smpLoop
    if o.copyX = 0 then v
    else
      let w := fRat o.copyX 32
      fAdd (fMul w (smpRead l e o pos tier o.copyOld ch smpLoop)) (fMul (fSub fOne w) v)

/-- The smallest copy with |J| / 2^c ≤ 1, limited to the copies there are (R82). -/
def octCopy (e : DirEntry) (j : Int) : Nat :=
  let m := j.natAbs
  let c := if m ≤ 2 ^ 32 then 0 else if m ≤ 2 ^ 33 then 1 else if m ≤ 2 ^ 34 then 2 else 3
  min c e.octaves

/-- J in units of 2^-32 points (R81). -/
def smpInc (e : DirEntry) (freq : F32) (rate : Nat) : Int :=
  let fr := fMul 0x43DC0000 (fExp2 (fDiv (fSub e.root 0x428A0000) 0x41400000))
  let j := fMul (fDiv freq fr) (fRat e.rate rate)
  fNearScaled (fClamp 0xC1800000 0x41800000 j) 32

/-- Move P by `dj` and fold it into the loop, which is entered once the way of P meets it (R81, R83). A Forward loop run
backward goes from LOOP_START to LOOP_END. (Log: 161 DEDUCED.) -/
def Osc.smpMove (o : Osc) (e : DirEntry) (smpLoop : Nat) (dj : Int) : Osc :=
  let mode := loopMode e smpLoop
  let ls : Int := (e.loopStart : Int) * 2 ^ 32
  let le : Int := (e.loopEnd : Int) * 2 ^ 32
  let n := le - ls
  let p := o.pos + (if o.back then -dj else dj)
  let inL := o.inLoop || (mode != 0 && decide (min o.pos p < le) && decide (ls ≤ max o.pos p))
  let o := { o with inLoop := inL }
  if mode = 1 ∧ inL ∧ 0 < n then
    { o with pos := if le ≤ p ∨ (p < ls ∧ dj < 0) then ls + (p - ls) % n else p }
  else if mode = 2 ∧ inL ∧ 0 < n then
    let u := (p - ls) % (2 * n)
    { o with pos := ls + (if u ≤ n then u else 2 * n - u), back := if n ≤ u then !o.back else o.back }
  else { o with pos := p, ended := o.ended || decide ((e.length : Int) * 2 ^ 32 ≤ p) || decide (p < 0) }

/-- g and c of the patina-drift recursion (R90): y := (1 - c) y + g w, limited to ±1. -/
def driftStep (y w drift : F32) (rate : Nat) : F32 :=
  let c := fDiv (fMul 0x40C90FDB drift) (fInt rate)
  let k := fSub fOne c
  let g := fMul (fRat 3 10) (fSqrt (fMul 0x40400000 (fSub fOne (fMul k k))))
  fClamp 0xBF800000 fOne (fAdd (fMul k y) (fMul g w))

/-- One sample of noise (R90). (Log: 165 DEDUCED.) -/
def Osc.noiseStep (o : Osc) (color : Nat) (drift : F32) (rate : Nat) : Osc × F32 :=
  let x := xorshift o.rnd
  let w := white x
  let o := { o with rnd := x }
  match color with
  | 0 => (o, w)
  | 1 =>
    let (st, y) := Config.pinkStep o.noise w
    ({ o with noise := st.take 8 }, fClamp 0xBF800000 fOne y)
  | _ =>
    let y := driftStep (o.noise.headD 0) w drift rate
    ({ o with noise := [y] }, y)

/-- What an oscillator's step hands to the later ones. -/
structure OscOut where
  /-- Waveform after residuals and before LEVEL. -/
  y : F32
  /-- Output after LEVEL. -/
  out : F32
  /-- Its accumulator's last wrap in this sample. -/
  wrap : Option Nat

/-- What an oscillator reads from its voice and its module in a sample. -/
structure OscCtx where
  /-- The library. -/
  lib : Lib
  /-- Effective values by PP. -/
  p : Nat → F32
  /-- Enumerations by PP. -/
  en : Nat → Nat
  /-- Tier. -/
  tier : Nat
  /-- Sample rate. -/
  rate : Nat
  /-- Its own index. -/
  n : Nat
  /-- What the stage that its MODE selects puts out in this sample (R286, R298). -/
  stage : F32

/-- The waveform value of oscillator state `o`, with phase offset `d` (R63, R74, R78, R82); noise and a stage keep their last
value. -/
def Osc.value (o : Osc) (x : OscCtx) (d : F32) : F32 :=
  match x.en 0 with
  | 0 => 0
  | 1 => vaWave (x.en 1) o.a o.pw
  | 2 => match o.dir with
    | some e => wtWave x.lib e x.tier o.a o.freq (x.p 0x11) (x.en 0x12 == 1) x.rate
    | none => 0
  | 3 => fSin2Pi (fAdd (fRat o.a (2 ^ 64)) (fDiv d 0x40C90FDB))
  | 4 => match o.dir with
    | some e => smpWave x.lib e o o.pos x.tier (x.en 0x1B) (x.en 0x1A)
    | none => 0
  | _ => o.wave

/-- Its slope per sample (R69, R72): of a wavetable over one table point, of a sample over one point. (Log: 162 DEDUCED.) -/
def Osc.slope (o : Osc) (x : OscCtx) (d : F32) : F32 :=
  match x.en 0 with
  | 1 => vaSlope (x.en 1) o.a o.inc
  | 2 => fMul (fSub ({ o with a := modA ((o.a : Int) + 2 ^ 53) }.value x d) (o.value x d)) (fRat o.inc (2 ^ 53))
  | 3 => sinSlope o.a o.inc d
  | 4 => fMul (fSub ({ o with pos := o.pos + 2 ^ 32 }.value x d) (o.value x d)) (fRat (if o.back then -o.j else o.j) (2 ^ 32))
  | _ => 0

/-- The points of the library that it reads in a sample (R89). -/
def Osc.points (o : Osc) (x : OscCtx) : List (Option Nat) :=
  match o.dir with
  | none => []
  | some e => match x.en 0 with
    | 2 => wtPoints e x.tier o.a o.freq (x.p 0x11) (x.en 0x12 == 1) x.rate
    | 4 =>
      if o.ended then []
      else smpAddrs e o o.pos x.tier o.copy (x.en 0x1B) (x.en 0x1A)
        ++ (if o.copyX = 0 then [] else smpAddrs e o o.pos x.tier o.copyOld (x.en 0x1B) (x.en 0x1A))
    | _ => []

/-- Run an oscillator on to `e` before the coming sample, in 2^-24 sample (R58 step 2, R61, R72, R81): its accumulator with
the residuals of what it crosses, a reset at a master's wrap `sync`, or its position. Answers its own last wrap. -/
def Osc.run (o : Osc) (x : OscCtx) (d : F32) (e : Nat) (sync : Option Nat) : Osc × Option Nat :=
  let num := o.todo - e
  let o := { o with todo := min o.todo e }
  let mode := x.en 0
  let go (o : Osc) (num e : Nat) : Osc × Option Nat := o.advance x.tier mode (x.en 1) o.pw num e
  if num = 0 then (o, none)
  else if 1 ≤ mode ∧ mode ≤ 3 then
    match sync with
    | none => go o num e
    | some dl =>
      let (o1, w) := go o (num - (dl - e)) dl
      let o2 := { o1 with a := phaseA (x.p 0x0A) }
      let (o3, w3) := go (o2.jump x.tier (fSub (o2.value x d) (o1.value x d)) (fSub (o2.slope x d) (o1.slope x d)) dl) (dl - e) e
      (o3, match w3 with | some y => some y | none => w)
  else if mode = 4 then
    (match o.dir with
      | some en => if o.ended then o else o.smpMove en (x.en 0x1A) (o.j * (num : Int) / (sub24 : Int))
      | none => o, none)
  else (o, none)

/-- The master that SYNC_SRC or RING_SRC `k` of oscillator `n` names (R71). -/
def masterOf (n k : Nat) : Option Nat := if 0 < k ∧ k ≤ n then some (k - 1) else none

/-- PW as it stands at the sample; an edge that a change of it moves across the present phase is taken here (R64). -/
def Osc.takePw (o : Osc) (x : OscCtx) : Osc :=
  let o' := { o with pw := phaseA (x.p 9) }
  if x.en 0 = 1 ∧ x.en 1 = 1 then o'.jump x.tier (fSub (o'.value x 0) (o.value x 0)) 0 0 else o'

/-- One sample of an oscillator (R58): `prev` all four oscillators as they stood, `done` the outputs of the lower ones in this
sample. While OFF its residuals run out unheard. (Log: 162 DEDUCED.) -/
def Osc.step (o : Osc) (x : OscCtx) (prev : List Osc) (done : List OscOut) : Osc × OscOut :=
  let n := x.n
  if x.en 0 = 0 then
    ({ o with y1 := 0, y2 := o.y1, wave := 0, todo := sub24, tail := o.tail.tail, ltail := o.ltail.tail }, ⟨0, 0, none⟩)
  else
    let sync := ((masterOf n (x.en 0x0C)).bind (fun k => done[k]?)).bind OscOut.wrap
    let d := (List.range 4).foldl (fun acc i =>
      let u := if i < n then (done[i]?.map OscOut.out).getD 0
        else if i = n then fMul fHalf (fAdd o.y1 o.y2)
        else (prev[i]?.map Osc.y1).getD 0
      fAdd acc (fMul (x.p (0x14 + i)) u)) 0
    let (o, wrap) := o.run x d 0 sync
    let o := { o.takePw x with todo := sub24, copyX := o.copyX - 1 }
    let (o, y0) : Osc × F32 :=
      if x.en 0 = 5 then o.noiseStep (x.en 0x1C) (x.p 0x1D) x.rate
      else if 8 ≤ x.en 0 then (o, x.stage)
      else (o, o.value x d)
    let y := fAdd y0 (o.tail.headD 0)
    let y := match (if 4 < x.en 0 then none else masterOf n (x.en 0x0D)).bind (fun k => done[k]?) with
      | some m => fMul y (fAdd (fSub fOne (x.p 0x0E)) (fMul (x.p 0x0E) m.y))
      | none => y
    let out := fAdd (fMul y (dbGain (x.p 8))) (o.ltail.headD 0)
    ({ o with tail := o.tail.tail, ltail := o.ltail.tail, wave := y0, y2 := o.y1, y1 := out }, ⟨y, out, wrap⟩)

/-- A directory entry is selected by MODE, WT_INDEX or SMP_INDEX: read and checked (R88); a failure is noted.
(Log: 162 DEDUCED.) -/
def Osc.select (o : Osc) (l : Lib) (en : Nat → Nat) : Osc × Option (Nat × Nat) :=
  let go (i kind : Nat) : Osc × Option (Nat × Nat) :=
    match l.entry i kind with
    | .inl e => ({ o with dir := some e }, none)
    | .inr c => ({ o with dir := none }, some (i, c))
  match en 0 with
  | 2 => go (en 0x10) 1
  | 4 => go (en 0x18) 2
  | _ => ({ o with dir := none }, none)

end Sys2Proof.Machine
end

