-- ==== Sys2Proof/Machine/Filter.lean ====
section
/-!
DEFINITION. The filters, the shaper and the resampling chain of the armature (03_filters_and_amplifier.md).
-/
namespace Sys2Proof.Machine

/-- Oversampling factor K of a tier (R103). -/
def overK (tier : Nat) : Nat := match tier with | 0 => 4 | 1 => 2 | _ => 1

/-- Element `i` of a filter's state list. -/
def FilSt.at (f : FilSt) (i : Nat) : F32 := f.z.getD i 0

/-- A filter with zero state and its dither seed kept. -/
def FilSt.clear (f : FilSt) : FilSt := { f with z := [0, 0, 0, 0, 0, 0] }

/-- The group of a TYPE: 0 bypass, 1 state-variable, 2 ladder, each stage its own (R118, R286). -/
def filGroup (t : Nat) : Nat := if t = 0 then 0 else if t ≤ 4 then 1 else if t ≤ 8 then 2 else t

/-- Coefficients in force for one fs sample. -/
structure FilPar where
  /-- TYPE. -/
  typ : Nat
  /-- g = tan(pi fc / fo). -/
  g : F32
  /-- Q. -/
  q : F32
  /-- RES. -/
  res : F32
  /-- d = 10^(DRIVE/20). -/
  d : F32
  /-- COMP. -/
  comp : F32
  /-- What the stage that TYPE selects makes of an input (R286). -/
  stage : F32 → F32

/-- fc of R105 from CUTOFF and the semitones above it, clamped. -/
def cutoff (base semis : F32) (fo : Nat) : F32 :=
  let hi := fMinV 0x469C4000 (fRat (45 * fo) 100)
  fClamp 0x41200000 hi (fMul base (fExp2 (fDiv semis 0x41400000)))

/-- One substep of the state-variable filter (R106). -/
def svfStep (p : FilPar) (f : FilSt) (x : F32) : FilSt × F32 :=
  let ic1 := f.at 0
  let ic2 := f.at 1
  let k := fDiv fOne p.q
  let a1 := fDiv fOne (fAdd fOne (fMul p.g (fAdd p.g k)))
  let a2 := fMul p.g a1
  let a3 := fMul p.g a2
  let v3 := fSub x ic2
  let v1 := fAdd (fMul a1 ic1) (fMul a2 v3)
  let v2 := fAdd (fAdd ic2 (fMul a2 ic1)) (fMul a3 v3)
  let y := match p.typ with
    | 1 => v2
    | 2 => fMul k v1
    | 3 => fSub (fSub x (fMul k v1)) v2
    | _ => fSub x (fMul k v1)
  ({ f with z := [fSub (fMul fTwo v1) ic1, fSub (fMul fTwo v2) ic2, f.at 2, f.at 3, f.at 4, f.at 5] }, y)

/-- One substep of the ladder (R108 to R110). -/
def ladderStep (p : FilPar) (f : FilSt) (x : F32) : FilSt × F32 :=
  let rnd := xorshift f.rnd
  let e := fMul 0x35800000 (white rnd)
  let G := fDiv p.g (fAdd fOne p.g)
  let k := fMul 0x40800000 p.res
  let G2 := fMul G G
  let G3 := fMul G2 G
  let G4 := fMul G3 G
  let xe := fAdd x e
  let sig := fMul (fSub fOne G)
    (fAdd (fAdd (fAdd (fMul G3 (f.at 2)) (fMul G2 (f.at 3))) (fMul G (f.at 4))) (f.at 5))
  let y4e := fDiv (fAdd (fMul G4 xe) sig) (fAdd fOne (fMul k G4))
  let u := fDiv (fTanh (fMul p.d (fSub xe (fMul k y4e)))) p.d
  let stage (inp s : F32) : F32 × F32 :=
    let v := fMul (fSub inp s) G
    let y := fAdd v s
    (y, fAdd y v)
  let (y1, s1) := stage u (f.at 2)
  let (y2, s2) := stage y1 (f.at 3)
  let (y3, s3) := stage y2 (f.at 4)
  let (y4, s4) := stage y3 (f.at 5)
  let gain := fAdd fOne (fMul p.comp k)
  let y := match p.typ with
    | 5 => fMul y4 gain
    | 6 => fMul y2 gain
    | 7 => fAdd (fSub (fMul 0x40800000 y2) (fMul 0x41000000 y3)) (fMul 0x40800000 y4)
    | _ => fAdd (fSub (fAdd (fSub u (fMul 0x40800000 y1)) (fMul 0x40C00000 y2)) (fMul 0x40800000 y3)) y4
  (⟨[f.at 0, f.at 1, s1, s2, s3, s4], rnd⟩, y)

/-- One substep of a filter of any TYPE with its guards (R112, R113); says whether the guard reset it. (Log: 26 DEDUCED.) -/
def filStep (p : FilPar) (f : FilSt) (x : F32) : FilSt × F32 × Bool :=
  let x := if fFinite x then x else 0
  let (f', y) := match filGroup p.typ with
    | 0 => (f, x)
    | 1 => svfStep p f x
    | 2 => ladderStep p f x
    | _ => (f, p.stage x)
  if f'.z.any (fun v => !fFinite v || fLt 0x49800000 (fAbsol v)) then (f'.clear, y, true) else (f', y, false)

/-- A filter with the crossfade from its old structure (R118). -/
def Fil.step (fl : Fil) (p : FilPar) (x : F32) : Fil × F32 × Bool :=
  let (st, y, bad) := filStep p fl.st x
  match fl.old with
  | none => ({ fl with st := st }, y, bad)
  | some (t, o) =>
    let (o', yo, bad') := filStep { p with typ := t } o x
    let w := fRat fl.x 32
    ({ fl with st := st, old := some (t, o') }, fAdd (fMul w yo) (fMul (fSub fOne w) y), bad || bad')

/-- The shaper's curve (R114). -/
def shapeF (typ : Nat) (u : F32) : F32 :=
  match typ with
  | 1 => fTanh u
  | 2 => fClamp 0xBF800000 fOne u
  | 3 =>
    let q := fMul (fAdd u fOne) 0x3E800000
    let fr := fSub q (fInt (fFloorI q))
    fSub fOne (fMul 0x40800000 (fAbsol (fSub fr fHalf)))
  | 4 => if fLt u 0 then fMul fHalf (fTanh (fMul fTwo u)) else fTanh u
  | _ => fSin2Pi (fMul 0x3E800000 u)

/-- The shaper, or the stage that its TYPE selects in its place (R114, R286); `drive` and `out` are gains. -/
def shaper (typ : Nat) (drive bias mix out z : F32) (stage : F32 → F32) : F32 :=
  if typ = 0 then z
  else if 8 ≤ typ then stage z
  else
    let u := fAdd (fMul drive z) bias
    let w := fAdd (fMul (fSub fOne mix) z) (fMul mix (fSub (shapeF typ u) (shapeF typ bias)))
    fMul w out

/-! ### Resampling (R103, R104): histories are newest first -/

/-- Tap `i` of `n`, the same on both sides of the middle: the stages are of linear phase (R103). (Log: 7 DESIGN CHOICE.) -/
def linTap (h : Nat → BitVec 32) (n i : Nat) : F32 := if i < n then h (min i (n - 1 - i)) else 0
/-- Tap `i` of resampling stage 1 (R103). -/
def fir1 : Nat → F32 := linTap Config.firHalf1 57
/-- Tap `i` of resampling stage 2 (R103). -/
def fir2 : Nat → F32 := linTap Config.firHalf2 17

/-- Sum of taps `h (i0 + step i)` on history entries. -/
def firSum (h : Nat → F32) (i0 step n : Nat) (x : List F32) : F32 :=
  ((List.range n).zip x).foldl (fun acc e => fAdd acc (fMul (h (i0 + step * e.1)) e.2)) 0

/-- The two output samples of an up stage for its newest input. -/
def upPair (h : Nat → F32) (n : Nat) (x : List F32) : F32 × F32 :=
  (fMul fTwo (firSum h 0 2 ((n + 1) / 2) x), fMul fTwo (firSum h 1 2 (n / 2) x))

/-- Push a sample on a history of a given length. -/
def pushH (x : F32) (h : List F32) (n : Nat) : List F32 := (x :: h).take n

/-- Upsample one filter input (R100 step 2): new histories at fs and 2 fs and the K substep inputs in time order. -/
def upsample (tier : Nat) (x : F32) (h1 h2 : List F32) : List F32 × List F32 × List F32 :=
  let h1 := pushH x h1 36
  let (a, b) := upPair fir1 57 h1
  let h2a := pushH a h2 9
  let h2b := pushH b h2a 9
  match tier with
  | 0 =>
    let (a0, a1) := upPair fir2 17 h2a
    let (b0, b1) := upPair fir2 17 h2b
    (h1, h2b, [a0, a1, b0, b1])
  | 1 => (h1, h2b, [h2a.getD 4 0, h2b.getD 4 0])
  | _ => (h1, [], [h1.getD 16 0])

/-- Stage 1 of the down path at its newest input. -/
def down1 (h2 : List F32) : F32 := firSum fir1 0 1 57 h2
/-- Stage 2 of the down path at its newest input. -/
def down2 (h4 : List F32) : F32 := firSum fir2 0 1 17 h4

/-- Decimate the K substep outputs to one sample (R100 step 4): histories at 4 fs, 2 fs and fs. -/
def decimate (tier : Nat) (v : List F32) (h4 h2 h1 : List F32) : List F32 × List F32 × List F32 × F32 :=
  match tier with
  | 0 =>
    let h4 := pushH (v.getD 0 0) h4 17
    let h2 := pushH (down2 h4) h2 64
    let y := down1 h2
    let h4 := pushH (v.getD 2 0) (pushH (v.getD 1 0) h4 17) 17
    let h2 := pushH (down2 h4) h2 64
    (pushH (v.getD 3 0) h4 17, h2, [], y)
  | 1 =>
    let h2 := pushH (v.getD 0 0) h2 64
    let h1 := pushH (down1 h2) h1 17
    ([], pushH (v.getD 1 0) h2 64, h1, h1.getD 2 0)
  | _ =>
    let h1 := pushH (v.getD 0 0) h1 32
    ([], [], h1, h1.getD 16 0)

/-- `n` entries of a history by an index into it. -/
def reindex (n : Nat) (h : List F32) (f : Nat → Nat) : List F32 := (List.range n).map (fun i => h.getD (f i) 0)

/-- The filter output at 2 fs, newest first, without any delay, as the histories of a tier hold it. -/
def flat2 (tier : Nat) (h4 h2 h1 : List F32) : List F32 :=
  match tier with
  | 0 => reindex 4 h4 (fun i => 2 * i + 1) ++ h2
  | 1 => h2
  | _ => reindex 64 h1 (fun i => i / 2)

/-- The histories of the down path at a change of tier: each stage that starts is given what it would hold had it run, as far
as the signal is still held, so the path keeps its delay of 16 samples and its signal goes on (R121). (Log: 28 DEDUCED.) -/
def downAt (old new : Nat) (h4 h2 h1 : List F32) : List (List F32) :=
  let f := flat2 old h4 h2 h1
  match new with
  | 0 => [reindex 17 f (fun i => i / 2), if old = 2 then reindex 60 f (fun i => 4 + i) else f.drop 4, []]
  | 1 => [[], f, if old = 2 then reindex 17 h1 (fun i => 14 + i) else (List.range 17).map (fun i => down1 (f.drop (2 * i + 1)))]
  | _ => [[], [], reindex 32 f (fun i => 2 * i + 1)]

/-- The history at 2 fs of the up path when stage 1 starts: its outputs for the inputs that the delay holds (R121).
(Log: 28 DEDUCED.) -/
def upAt (h1 : List F32) : List F32 :=
  ((List.range 5).flatMap (fun i => let (a, b) := upPair fir1 57 (h1.drop i); [b, a])).take 9

/-- Histories at a change of tier (R121). (Log: 28 DEDUCED.) -/
def Sound.retier (v : Sound) (tier : Nat) : Sound :=
  if v.tier = tier then v
  else { v with
    tier := tier
    xin2 := if tier = 2 then [[], []] else if v.tier = 2 then v.xin.map upAt else v.xin2
    down := downAt v.tier tier (v.down.getD 0 []) (v.down.getD 1 []) (v.down.getD 2 []) }

end Sys2Proof.Machine
end

