-- ==== Sys2Proof/Machine/Mod.lean ====
section
/-!
DEFINITION. Envelopes, LFOs, patina, glide and the modulation matrix (04_modulation.md).
-/
namespace Sys2Proof.Machine

/-- Seconds in tu, 1/441 ns, rounded down. -/
def secTu (x : F32) : Nat :=
  let m := fMant x * 441000000000
  let e := fE x
  if !fFinite x ∨ m < 0 then 0 else if 0 ≤ e then (m * 2 ^ e.toNat).toNat else (m / 2 ^ (-e).toNat).toNat

/-- Seconds in 1/16 tu, rounded down: the times of envelopes (R132). -/
def secFine (x : F32) : Nat :=
  let m := fMant x * (16 * 441000000000)
  let e := fE x
  if !fFinite x ∨ m < 0 then 0 else if 0 ≤ e then (m * 2 ^ e.toNat).toNat else (m / 2 ^ (-e).toNat).toNat

/-- A length scaled by a binary32 factor. -/
def tuScale (t : Nat) (x : F32) : Nat :=
  let m := fMant x * (t : Int)
  let e := fE x
  if !fFinite x ∨ m < 0 then 0 else if 0 ≤ e then (m * 2 ^ e.toNat).toNat else (m / 2 ^ (-e).toNat).toNat

/-! ### Envelopes -/

/-- h(x) of R133. -/
def curveH (curve x : F32) : F32 :=
  if fIsZero curve then x
  else
    let k := fMul 0x40C00000 curve
    fDiv (fSub fOne (fExp (fNegate (fMul k x)))) (fSub fOne (fExp (fNegate k)))

/-- The level at `t` tu inside the running segment (R131, R133). -/
def Env.level (e : Env) (t : Nat) : F32 :=
  let x := if e.dur = 0 then fOne else fClamp 0 fOne (fRat ((16 * t - e.t0 : Nat) : Int) e.dur)
  let run (b : F32) : F32 := fAdd e.a (fMul (fSub b e.a) (curveH e.curve x))
  match e.seg with
  | 0 => 0
  | 1 => run e.peak
  | 2 => e.peak
  | 3 => run (fMul e.sus e.peak)
  | 4 => fMul e.sus e.peak
  | 5 => run 0
  | _ => 0

/-- The key scaling ks of R131. -/
def envKs (p : Nat → F32) (key : F32) : F32 :=
  fExp2 (fDiv (fNegate (fMul (p 0x0A) (fSub key 0x42700000))) 0x41400000)
/-- peak of R131. -/
def envPeak (p : Nat → F32) (vel : F32) : F32 := fSub fOne (fMul (p 9) (fSub fOne vel))

/-- Enter a segment at `t`, in 1/16 tu, from level `a` (R132, R133); `p` gives the effective parameters there. -/
def Env.enter (e : Env) (seg t : Nat) (a : F32) (p : Nat → F32) (key : F32) : Env :=
  let d (pp : Nat) : Nat := tuScale (secFine (p pp)) (envKs p key)
  { e with
    seg := seg, t0 := t, a := a
    dur := match seg with | 0 => d 0 | 1 => d 1 | 2 => d 2 | 3 => d 3 | 5 => d 5 | _ => 0
    curve := match seg with | 1 => p 6 | 3 => p 7 | 5 => p 8 | _ => 0 }

/-- Pass every segment that has ended by `t` tu; each next one starts at the exact end of the one before, with the parameters
`p` as they stand there (R132, R133, R136). -/
def Env.advance (p : Nat → Nat → F32) (key : F32) (t : Nat) : Nat → Env → Env
  | 0, e => e
  | fuel + 1, e =>
    let t1 := e.t0 + e.dur
    if 4 = e.seg ∨ 6 ≤ e.seg ∨ 16 * t < t1 then e
    else
      let go (seg : Nat) (a : F32) : Env := e.enter seg t1 a (p (t1 / 16)) key
      Env.advance p key t fuel (match e.seg with
        | 0 => go 1 0
        | 1 => go 2 e.peak
        | 2 => go 3 e.peak
        | 3 => if fIsZero e.sus then go 6 0 else go 4 (fMul e.sus e.peak)
        | _ => go 6 0)

/-- A release at `t` tu (R135). -/
def Env.release (e : Env) (t : Nat) (p : Nat → F32) (key : F32) : Env :=
  let l := e.level t
  if 5 ≤ e.seg then e
  else if e.seg = 0 ∨ fIsZero l then e.enter 6 (16 * t) 0 p key
  else e.enter 5 (16 * t) l p key

/-- A retrigger at `t` tu (R134); `mode` is TRIG_MODE. -/
def Env.retrig (e : Env) (mode t : Nat) (vel : F32) (p : Nat → F32) (key : F32) : Env :=
  let l := e.level t
  let peak := envPeak p vel
  match mode with
  | 0 => { e with peak := peak }.enter 0 (16 * t) 0 p key
  | 1 =>
    let e := { e with peak := peak }
    if fLe peak l then e.enter 2 (16 * t) peak p key
    else
      let e' := e.enter 1 (16 * t) l p key
      { e' with dur := tuScale e'.dur (fDiv (fSub peak l) peak) }
  | _ => e

/-! ### LFOs -/

/-- The next random value of an LFO (R139). -/
def Lfo.draw (l : Lfo) : Lfo × F32 :=
  let x := xorshift l.rnd
  ({ l with rnd := x }, white x)

/-- Advance by `num`/2^24 of a sample; a wrap takes new random values (R139). -/
def Lfo.step (num : Nat) (l : Lfo) : Lfo :=
  let x := (l.a : Int) + l.inc * (num : Int) / (sub24 : Int)
  let a := modA x
  let wraps := decide (2 ^ 64 ≤ x)
  let l := { l with a := a }
  if wraps then
    let (l, w) := l.draw
    { l with va := l.vb, vb := w }
  else l

/-- y of a SHAPE at the LFO's phase (R139). -/
def Lfo.wave (l : Lfo) (shape : Nat) : F32 :=
  match shape with
  | 0 => fSin2Pi (fRat l.a (2 ^ 64))
  | 1 => vaWave 2 l.a 0
  | 2 => vaWave 0 l.a 0
  | 3 => fNegate (vaWave 0 l.a 0)
  | 4 => if l.a < 2 ^ 63 then fOne else 0xBF800000
  | 5 => l.vb
  | _ =>
    let c := fSin2Pi (fAdd (fRat l.a (2 ^ 65)) 0x3E800000)
    fAdd l.va (fDiv (fMul (fSub l.vb l.va) (fSub fOne c)) fTwo)

/-- The phase of an absolute time: floor(I x D x fs / (10^9 x 2^16)) mod 2^64 plus the start phase, in exact integers (R94);
`tn` and `e` are in tu, so D, in units of 2^-16 ns, is (`tn` - `e`) x 2^16 / 441 with its fraction. (Log: 163 DEDUCED.) -/
def absPhase (inc : Int) (tn e : Int) (rate ph : Nat) : Nat := modA (inc * (tn - e) * (rate : Int) / (441 * 1000000000) + (ph : Int))

/-! ### Reading a voice's parameters -/

/-- The base value of a parameter: the voice's own or the armature's default (R326). -/
def Voice.raw (v : Voice) (id : Nat) : Nat := (Tbl.get none v.par id).getD (dfltParam armParam id)

/-- The base value at `t` tu with RAMP_PARAM applied (R327). -/
def Voice.base (v : Voice) (t id : Nat) : F32 :=
  match v.pramps.find? (fun r => r.id == id) with
  | some r =>
    if r.t0 + r.dur ≤ t then r.tgt
    else if t < r.t0 then r.from_
    else fAdd r.from_ (fMul (fSub r.tgt r.from_) (fRat ((t - r.t0 : Nat) : Int) r.dur))
  | none => BitVec.ofNat 32 (v.raw id)

/-- The base value with the 32-sample ramp of R118 applied. -/
def Voice.base32 (v : Voice) (t id : Nat) : F32 :=
  let b := v.base t id
  match v.snd.gramp.find? (fun r => r.id == id) with
  | some r =>
    let f : F32 := BitVec.ofNat 32 r.from_
    fAdd f (fMul (fSub b f) (fRat ((32 - r.left : Nat) : Int) 32))
  | none => b

/-- The sum of the contributions `m` of every slot naming a destination at the latest update, in ascending slot order
(R146, R149). -/
def Voice.modSum (v : Voice) (m : List F32) (id : Nat) (x : F32) : F32 :=
  (v.snd.dst.zip m).foldl (fun acc e => if e.1 = id then fAdd acc e.2 else acc) x

/-- A base value with contributions, held to its range (R91). -/
def Voice.effWith (v : Voice) (m : List F32) (t id : Nat) : F32 :=
  let b := v.base32 t id
  match armParam id with
  | some ⟨.real lo hi, _, true⟩ => fClamp lo hi (v.modSum m id b)
  | _ => b

/-- The effective value of a parameter at `t` (R91). -/
def Voice.eff (v : Voice) (t id : Nat) : F32 := v.effWith v.snd.m t id

/-- Update interval N of a tier (R148). -/
def updN (tier : Nat) : Nat := match tier with | 0 => 1 | 1 => 4 | _ => 16

/-- A value between the latest update and the next, which it reaches with the interval's last sample (R97, R120).
(Log: 27 DEDUCED.) -/
def Sound.between (v : Sound) (old new : F32) : F32 :=
  if v.gap ≤ v.since + 1 then new else fAdd old (fMul (fSub new old) (fRat ((v.since + 1 : Nat) : Int) v.gap))

/-- The contributions as interpolated now. -/
def Sound.mNow (v : Sound) : List F32 := (v.mOld.zip v.m).map (fun e => v.between e.1 e.2)
/-- p_v as interpolated now, for the cutoff (R120). -/
def Sound.pvNow (v : Sound) : F32 := v.between v.pvOld v.pv

/-- A value whose modulation is interpolated between updates (R97, R120): its base value acts at its own times.
(Log: 27 DEDUCED.) -/
def Voice.effI (v : Voice) (t id : Nat) : F32 := v.effWith v.snd.mNow t id

/-! ### Glide and sources -/

/-- p_g at `t` (R127): a linear glide from its start pitch to p_key. -/
def Voice.pg (v : Voice) (t : Nat) : F32 :=
  let (from_, t0, dur) := v.snd.glide
  if dur = 0 ∨ t0 + dur ≤ t then v.key
  else fAdd from_ (fMul (fSub v.key from_) (fRat ((t - t0 : Nat) : Int) dur))

/-- p_v (R126). -/
def Voice.pitch (v : Voice) (t : Nat) : F32 :=
  fAdd (fAdd (v.pg t) (v.eff t 0x6000)) (fMul (fDiv (v.eff t 0x6005) 0x42C80000) v.snd.pat)

/-- What a voice reads from the module where it is rendered (R150). -/
structure Env0 where
  /-- Frame period in tu. -/
  fper : Nat
  /-- Sample rate. -/
  rate : Nat
  /-- Group controls GC0 to GC7. -/
  gc : List F32
  /-- Node position in effect. -/
  node : List F32
  /-- Control-map inputs (R143). -/
  cm : Nat → F32
  /-- The sample and wavetable library. -/
  lib : Lib
  /-- UID of the loaded stage at a hook and value, 0 for none (R286). -/
  stage : Nat → Nat → Nat

/-- LFO `n` as a source: DELAY, FADE and POLARITY applied (R141). -/
def Voice.lfoOut (v : Voice) (t n : Nat) : F32 :=
  match v.snd.lfo[n]? with
  | none => 0
  | some l =>
    let id := 0x4000 + 256 * n
    let y := l.wave (v.raw id)
    let tau := t - v.bornT
    let d := secTu (v.base t (id + 4))
    let f := secTu (v.base t (id + 5))
    let g := if tau < d then (0 : F32) else if d + f ≤ tau then fOne else fRat ((tau - d : Nat) : Int) f
    let o := fMul y g
    if v.raw (id + 6) = 1 then fDiv (fAdd o g) fTwo else o

/-- The value of a source (R143). -/
def Voice.source (v : Voice) (c : Env0) (t id : Nat) (via : Bool) : F32 :=
  if id = 0 then (if via then fOne else 0)
  else if id ≤ 6 then (v.snd.env[id - 1]?.map (fun e => e.level t)).getD 0
  else if id ≤ 0xA then v.lfoOut t (id - 7)
  else if id = 0xB then v.vel
  else if id = 0xC then v.relVel
  else if id = 0xD then fDiv (fSub v.key 0x42700000) 0x41400000
  else if id = 0xE then v.base t 0x6006
  else if id ≤ 0x16 then c.gc.getD (id - 0xF) 0
  else if id = 0x17 then v.snd.pat
  else if id = 0x18 then white v.seed
  else if id = 0x19 then fMinV 0x47800000 (fRat ((t - v.bornT : Nat) : Int) 441000000000)
  else if id ≤ 0x1C then c.node.getD (id - 0x1A) 0
  else if id = 0x1D then fOne
  else if 0x400 ≤ id ∧ id ≤ 0x7FF then c.cm (id - 0x400)
  else 0

/-- One slot's new contribution at an update (R146, R149): a new DEST starts from 0, a slot with no source or destination
contributes 0, reached through SMOOTH. (Log: 164 DEDUCED.) -/
def Voice.slot (v : Voice) (c : Env0) (t s : Nat) (m : F32) : F32 :=
  let b := 0x5000 + 16 * s
  let src := v.raw b
  let m := if v.raw (b + 1) = v.snd.dst.getD s 0 then m else 0
  let sv := v.source c t src false
  let g := match v.raw (b + 4) with
    | 0 => sv
    | 1 => fMul sv (fAbsol sv)
    | _ => fSub fOne sv
  let x := if src = 0 ∨ v.raw (b + 1) = 0 then 0 else fMul (fMul (v.base t (b + 2)) g) (v.source c t (v.raw (b + 3)) true)
  let sm := v.base t (b + 5)
  let a := if fIsZero sm then fOne
    else fSub fOne (fExp (fDiv (fNegate (fInt (updN v.snd.tier))) (fMul sm (fInt c.rate))))
  fAdd m (fMul a (fSub x m))

/-- LFO `n` at an update: its increment from the effective RATE; in fabric mode its phase too (R139, R140). -/
def Voice.lfoAt (v : Voice) (c : Env0) (t n : Nat) (l : Lfo) : Lfo :=
  let inc := incOf (v.eff t (0x4001 + 256 * n)) c.rate
  if v.raw (0x4003 + 256 * n) = 2 then { l with inc := inc, a := absPhase inc t 0 c.rate (phaseA (v.base t (0x4002 + 256 * n))) }
  else { l with inc := inc }

/-- Replace the LFOs, each by a function of its index. -/
def Voice.mapLfo (v : Voice) (f : Nat → Lfo → Lfo) : Voice :=
  { v with snd := { v.snd with lfo := ((List.range 4).zip v.snd.lfo).map (fun (e : Nat × Lfo) => f e.1 e.2) } }

/-- An oscillator's frequency, increment and J from its effective parameters at `t` (R59 to R62, R81). -/
def Voice.tuned (v : Voice) (c : Env0) (t n : Nat) (o : Osc) : Osc :=
  let f := oscFreq (fun pp => v.eff t (256 * n + pp)) (fun pp => v.raw (256 * n + pp)) v.snd.pv c.rate
  { o with freq := f, inc := incOf f c.rate, j := match o.dir with
    | some d => if d.kind = 2 then smpInc d f c.rate else o.j
    | none => o.j }

/-- The octave copy is revised; a change is crossfaded over 32 samples, the first choice of a voice is not (R82). -/
def Osc.pickCopy (o : Osc) (fresh : Bool) : Osc :=
  match o.dir with
  | some d =>
    let k := octCopy d o.j
    if d.kind ≠ 2 ∨ k = o.copy then o
    else if fresh then { o with copy := k, copyX := 0 }
    else { o with copyOld := o.copy, copy := k, copyX := 32 }
  | none => o

/-- A matrix update at frame time `t`, the next one `gap` samples on (R126, R146 to R149): an LFO's phase is that of the
parameters before it, every source is read before any result is applied, and the results act from this sample on.
(Log: 26 DEDUCED, 27 DEDUCED.) -/
def Voice.update (v : Voice) (c : Env0) (t gap : Nat) : Voice :=
  let v := v.mapLfo (v.lfoAt c t)
  let m := ((List.range 32).zip v.snd.m).map (fun e => v.slot c t e.1 e.2)
  let dst := (List.range 32).map (fun s => v.raw (0x5001 + 16 * s))
  let old := ((List.range 32).zip v.snd.mNow).map (fun e => if dst.getD e.1 0 = v.snd.dst.getD e.1 0 then e.2 else 0)
  let fresh := v.snd.fresh
  let was := v.snd.pvNow
  let v := { v with snd := { v.snd with m := m, mOld := if fresh then m else old, dst := dst, since := 0, gap := gap } }
  let pv := v.pitch t
  let v := { v with snd := { v.snd with pv := pv, pvOld := if fresh then pv else was } }
  let env := ((List.range 6).zip v.snd.env).map (fun (e : Nat × Env) => { e.2 with sus := v.eff t (0x3004 + 256 * e.1) })
  let osc := ((List.range 4).zip v.snd.osc).map (fun (e : Nat × Osc) => (v.tuned c t e.1 e.2).pickCopy fresh)
  { v with snd := { v.snd with env := env, osc := osc } }.mapLfo (fun n l => { l with inc := incOf (v.eff t (0x4001 + 256 * n)) c.rate })

end Sys2Proof.Machine
end

