-- ==== Sys2Proof/Machine/VoiceDsp.lean ====
section
/-!
DEFINITION. One voice through one block: its events at their exact times, its samples, its sends (R58, R68, R69, R93 to
R95, R100 to R122, R129, R149, R596).
-/
namespace Sys2Proof.Machine

/-- An oscillator at zero. -/
def Osc.zero : Osc :=
  { a := 0, inc := 0, freq := 0, pos := 0, j := 0, back := false, inLoop := false, ended := false, copy := 0, copyOld := 0
    copyX := 0, dir := none, rnd := 1, noise := [], y1 := 0, y2 := 0, tail := [], ltail := [], wave := 0, pw := 0, todo := sub24 }

/-- The sound state before a voice starts: all of it at 0 (R122). -/
def Sound.zero : Sound :=
  { osc := List.replicate 4 Osc.zero
    fil := List.replicate 2 ⟨⟨[0, 0, 0, 0, 0, 0], 1⟩, none, 0⟩
    env := List.replicate 6 ⟨6, 0, 0, 0, 0, 0, 0⟩
    lfo := List.replicate 4 ⟨0, 0, 1, 0, 0⟩
    m := List.replicate 32 0, mOld := List.replicate 32 0, dst := List.replicate 32 0, live := false, since := 0, gap := 0
    fresh := false, place := none, patRnd := 1, pat := 0, glide := (0, 0, 0), pv := 0, pvOld := 0
    xin := [[], []], xin2 := [[], []], down := [[], [], []], route1 := none, blk := (0, 0), gramp := [], tier := 0
    filFault := false, faults := [], ue := [], rate := 0 }

/-- Effective values of oscillator `n` at `t` by PP, with the interpolation of R97. -/
def Voice.oscP (v : Voice) (t n : Nat) (pp : Nat) : F32 := v.effI t (256 * n + pp)
/-- Enumerations of oscillator `n` by PP. -/
def Voice.oscE (v : Voice) (n : Nat) (pp : Nat) : Nat := v.raw (256 * n + pp)

/-- What oscillator `n` reads at `t`; `stage` is what its stage puts out. -/
def Voice.oscCtx (v : Voice) (c : Env0) (t n : Nat) (stage : F32) : OscCtx :=
  { lib := c.lib, p := v.oscP t n, en := v.oscE n, tier := v.snd.tier, rate := c.rate, n := n, stage := stage }

/-- Replace the oscillators, each by a function of its index. -/
def Voice.mapOsc (v : Voice) (f : Nat → Osc → Osc) : Voice :=
  { v with snd := { v.snd with osc := ((List.range 4).zip v.snd.osc).map (fun (e : Nat × Osc) => f e.1 e.2) } }
/-- Replace the envelopes. -/
def Voice.mapEnv (v : Voice) (f : Nat → Env → Env) : Voice :=
  { v with snd := { v.snd with env := ((List.range 6).zip v.snd.env).map (fun (e : Nat × Env) => f e.1 e.2) } }

/-- The effective parameters of envelope `n`. -/
def Voice.envP (v : Voice) (n t : Nat) (pp : Nat) : F32 := v.eff t (0x3000 + 256 * n + pp)

/-- Advance every envelope to `t`. -/
def Voice.envTo (v : Voice) (t : Nat) : Voice := v.mapEnv (fun n e => Env.advance (v.envP n) v.key t 8 e)

/-- Select the directory entries of an oscillator; a failed check is kept for the fault record, spoilt words that the read
met for theirs (R88, R89, R99). -/
def Voice.selectDir (v : Voice) (c : Env0) (n : Nat) : Voice :=
  match v.snd.osc[n]? with
  | none => v
  | some o =>
    let (o', f) := o.select c.lib (v.oscE n)
    let fs := match f with
      | some (i, chk) => v.snd.faults ++ [(n, i, chk)]
      | none => v.snd.faults
    let i := match v.oscE n 0 with | 2 => some (v.oscE n 0x10) | 4 => some (v.oscE n 0x18) | _ => none
    let bad := match i with | some i => ((List.range 8).map (fun w => 8 * i + w)).filter (fun w => c.lib.bad.contains w) | none => []
    { v with snd := { v.snd with osc := v.snd.osc.set n o', faults := fs, ue := v.snd.ue ++ bad } }

/-! ### Events between samples (R68, R69) -/

/-- The phase offset d of operator `n` as its sources' latest outputs make it (R74). -/
def Voice.pmAt (v : Voice) (t n : Nat) : F32 :=
  ((List.range 4).zip v.snd.osc).foldl (fun acc e =>
    fAdd acc (fMul (v.oscP t n (0x14 + e.1)) (if e.1 = n then fMul fHalf (fAdd e.2.y1 e.2.y2) else e.2.y1))) 0

/-- Run every oscillator on to `d` before the coming sample, slaves after their masters (R58, R69, R72). -/
def Voice.oscTo (v : Voice) (c : Env0) (t d : Nat) : Voice :=
  let r := ((List.range 4).zip v.snd.osc).foldl (fun (acc : List Osc × List (Option Nat)) e =>
    let n := e.1
    let sync := ((masterOf n (v.oscE n 0x0C)).bind (fun k => acc.2[k]?)).join
    let (o, w) := e.2.run (v.oscCtx c t n 0) (v.pmAt t n) d sync
    (acc.1 ++ [o], acc.2 ++ [w])) ([], [])
  { v with snd := { v.snd with osc := r.1 } }

/-- The waveform value and slope of oscillator `n` as it stands, before ring modulation (R69). -/
def Voice.oscNow (v : Voice) (c : Env0) (t n : Nat) : F32 × F32 :=
  match v.snd.osc[n]? with
  | some o => (o.value (v.oscCtx c t n 0) (v.pmAt t n), o.slope (v.oscCtx c t n 0) (v.pmAt t n))
  | none => (0, 0)

/-- The factor of ring modulation on oscillator `n` as it stands (R73); `fuel` bounds a chain of masters. -/
def Voice.ringNow (v : Voice) (c : Env0) (t : Nat) : Nat → Nat → F32
  | 0, _ => fOne
  | fuel + 1, n =>
    match if 4 < v.oscE n 0 then none else masterOf n (v.oscE n 0x0D) with
    | none => fOne
    | some m =>
      let d := v.oscP t n 0x0E
      fAdd (fSub fOne d) (fMul d (fMul (v.oscNow c t m).1 (v.ringNow c t fuel m)))

/-- The phases of oscillator `n` for a cast or retrigger at `t`, `d` units of 2^-24 sample before sample `k`: where it stands at
`t`, with `d` still to run (R81, R93 to R95). (Log: 9 DESIGN CHOICE.) -/
def Voice.startPhase (v : Voice) (c : Env0) (t k d n : Nat) (o : Osc) : Osc :=
  let ph := phaseA (v.base t (256 * n + 0x0A))
  let epoch : Int := if v.coherent then 441 * (v.epoch : Int) else 0
  let coh := v.coherent ∨ v.oscE n 0x0B = 2
  let tk : Int := (k * c.fper : Nat)
  let back (i : Int) : Int := i * (d : Int) / (sub24 : Int)
  let master := if v.coherent then masterOf n (v.oscE n 0x0C) else none
  let atK : Nat := match master.bind (fun m => if 1 ≤ v.oscE m 0 ∧ v.oscE m 0 ≤ 3 then v.snd.osc[m]? else none) with
    | some m =>
      let pm := absPhase m.inc tk epoch c.rate 0
      if m.inc = 0 then ph else modA (o.inc * (pm : Int) / m.inc + (ph : Int))
    | none => absPhase o.inc tk epoch c.rate ph
  let a := if coh then modA ((atK : Int) - back o.inc)
    else if v.oscE n 0x0B = 1 then (Config.randomPhase v.seed n).toNat else ph
  let o := { o with a := a, todo := d, pw := phaseA (v.oscP t n 9) }
  match v.oscE n 0, o.dir with
  | 4, some e =>
    let p0 : Int := (fFloorScaled (fMul (v.base t (256 * n + 0x19)) (fInt e.length)) 0) * 2 ^ 32
    let o := { o with pos := p0, back := false, inLoop := false, ended := false }
    if coh then o.smpMove e (v.oscE n 0x1A) (o.j * (tk - epoch) / (c.fper : Int) - back o.j) else o
  | _, _ => o

/-- The phases of a cast or retrigger that is still to be placed are set, and the step and slope it makes are corrected (R69,
R93); an oscillator that is off, and noise, which starts at 0, make none. (Log: 162 DEDUCED.) -/
def Voice.placed (v : Voice) (c : Env0) (k : Nat) : Voice :=
  match v.snd.place with
  | none => v
  | some (t, d, olds) =>
    let v := { v with snd := { v.snd with place := none } }
    let v := (List.range 4).foldl (fun (v : Voice) n =>
      match v.snd.osc[n]? with
      | some o => { v with snd := { v.snd with osc := v.snd.osc.set n (v.startPhase c t k d n o) } }
      | none => v) v
    v.mapOsc (fun n o =>
      if v.oscE n 0 = 0 ∨ v.oscE n 0 = 5 then o
      else
        let new := v.oscNow c t n
        let old := olds.getD n (0, 0)
        o.jump v.snd.tier (fSub new.1 old.1) (fSub new.2 old.2) d)

/-- The length of a glide from `from_` in tu, by GLIDE_TIME and GLIDE_LAW (R127). -/
def Voice.glideLen (v : Voice) (t : Nat) (from_ : F32) : Nat :=
  let time := secTu (v.base t 0x6001)
  if v.raw 0x6003 = 1 then tuScale time (fDiv (fAbsol (fSub v.key from_)) 0x41400000) else time

/-- The cast takes effect at `t`, before sample `k` by `d` (R69, R93, R110, R122, R127, R128, R131, R139, R140). Its glide starts
from the pitch that the cast's group had. -/
def Voice.start (v : Voice) (c : Env0) (t k d : Nat) : Voice :=
  let tk := k * c.fper
  let glides := v.raw 0x6002 = 1 ∧ !v.coherent
  let from_ := v.snd.glide.1
  let v := { v with snd := { v.snd with
    live := true, fresh := true, place := some (t, d, [])
    glide := if glides then (from_, t, v.glideLen t from_) else (v.key, t, 0)
    patRnd := genSeed v.seed 12, pat := 0
    fil := ((List.range 2).zip v.snd.fil).map (fun (e : Nat × Fil) => { e.2 with st := ⟨[0, 0, 0, 0, 0, 0], genSeed v.seed (4 + e.1)⟩ })
    osc := ((List.range 4).zip v.snd.osc).map (fun (e : Nat × Osc) => { Osc.zero with rnd := genSeed v.seed e.1 }) } }
  let v := v.mapLfo (fun n _ =>
    let b := 0x4000 + 256 * n
    let l : Lfo := ⟨phaseA (v.base t (b + 2)), incOf (v.eff t (b + 1)) c.rate, genSeed v.seed (8 + n), 0, 0⟩
    let l := if v.raw (b + 3) = 1 ∧ !v.coherent then let (l, _) := l.draw; { l with a := l.rnd.toNat * 2 ^ 32 } else l
    let (l, w) := l.draw
    let (l, w2) := if v.raw b = 6 then l.draw else (l, w)
    let l := { l with va := w, vb := w2 }
    if v.coherent then { l with a := absPhase l.inc tk (441 * (v.epoch : Int)) c.rate (phaseA (v.base t (b + 2))) } else l.step d)
  let v := v.mapEnv (fun n _ =>
    let p := v.envP n t
    ({ seg := 0, t0 := 0, dur := 0, a := 0, curve := 0, peak := envPeak p v.vel, sus := p 4 } : Env).enter 0 (16 * t) 0 p v.key)
  (List.range 4).foldl (fun v n => v.selectDir c n) v

/-- A retrigger at `t` as the envelopes and the glide take it (R127, R134). -/
def Voice.retrigEnv (v : Voice) (t : Nat) (key vel : F32) : Voice :=
  let from_ := v.pg t
  let v := { (v.envTo t) with key := key, vel := vel, relT := none }
  let v := { v with snd := { v.snd with glide := (from_, t, if v.raw 0x6002 = 0 then 0 else v.glideLen t from_) } }
  v.mapEnv (fun n e => e.retrig (v.raw (0x300B + 256 * n)) t vel (v.envP n t) key)

/-- The same as the oscillators take it (R69, R76). -/
def Voice.retrigOsc (v : Voice) (c : Env0) (t k d : Nat) : Voice :=
  let v := (v.placed c k).oscTo c t d
  let olds := (List.range 4).map (v.oscNow c t)
  let v := v.mapOsc (fun _ o => { o with y1 := 0, y2 := 0 })
  { v with snd := { v.snd with place := some (t, d, olds) } }

/-- The parameters that take a 32-sample ramp at a step (R118). -/
def rampedId (id : Nat) : Bool :=
  let pp := id % 256
  match id / 256 with
  | 0x10 => decide (8 ≤ pp ∧ pp ≤ 0x0C)
  | 0x11 => decide (8 ≤ pp ∧ pp ≤ 0x0D)
  | 0x20 => pp == 3 || pp == 4
  | 0x21 => pp == 0 || pp == 2 || (decide (0x10 ≤ pp ∧ pp < 0x30) && (pp % 4 == 2 || pp % 4 == 0)) || pp == 1
  | _ => false

/-- Store a base value. -/
def Voice.store (v : Voice) (id val : Nat) : Voice :=
  { v with par := Tbl.put none v.par id (if val = dfltParam armParam id then none else some val)
           pramps := v.pramps.filter (fun r => r.id != id) }

/-- Oscillator parameters that change its frequency (R69). -/
def freqPP (pp : Nat) : Bool := decide (2 ≤ pp ∧ pp ≤ 7)

/-- A parameter whose steps are placed at their fraction: an oscillator's, and TUNE (R69, R129). -/
def placedId (id : Nat) : Bool := decide (id < 0x400) || id == 0x6000

/-- A step of a frequency parameter or of TUNE at `t`, `d` before the sample: the old increment up to there, the new one after
(R69, R129). Between updates the rest of p_v stays as it was (R148). -/
def Voice.stepFreq (v : Voice) (c : Env0) (t k d id val : Nat) : Voice :=
  let v := (v.placed c k).oscTo c t d
  let old := v.eff t 0x6000
  let v := v.store id val
  let pv := fAdd v.snd.pv (fSub (v.eff t 0x6000) old)
  let v := if id = 0x6000 then { v with snd := { v.snd with pv := pv } } else v
  v.mapOsc (fun n o => if id = 0x6000 ∨ id / 256 = n then v.tuned c t n o else o)

/-- A step of another oscillator parameter at `t`, `d` before the sample: the step and slope it makes are corrected there (R69);
those of LEVEL and of ring modulation after LEVEL. A new noise colour starts from zero filter state.
(Log: 162 DEDUCED, 165 DEDUCED.) -/
def Voice.stepOsc (v : Voice) (c : Env0) (t k d id val : Nat) : Voice :=
  let pp := id % 256
  let n := id / 256
  let v := (v.placed c k).oscTo c t d
  let gain (v : Voice) : F32 := fMul (v.ringNow c t 4 n) (dbGain (v.eff t (256 * n + 8)))
  let old := v.oscNow c t n
  let gOld := gain v
  let mode := v.oscE n 0
  let color := v.oscE n 0x1C
  let v := v.store id val
  let v := if pp = 0 ∨ (pp = 0x10 ∧ mode = 2) ∨ (pp = 0x18 ∧ mode = 4) then (v.selectDir c n).mapOsc (fun i o =>
      if i = n then { o with j := (v.tuned c t n o).j }.pickCopy true else o) else v
  let v := v.mapOsc (fun i o =>
    if i ≠ n then o
    else
      let o := { o with pw := phaseA (v.oscP t n 9) }
      let o := if v.oscE n 0x1C = color then o else { o with noise := [] }
      if mode ≠ 5 ∧ v.oscE n 0 = 5 then { o with wave := 0 } else o)
  let new := v.oscNow c t n
  let outer := decide (pp = 8 ∨ pp = 0x0D ∨ pp = 0x0E)
  let dg := fSub (gain v) gOld
  v.mapOsc (fun i o =>
    if i ≠ n then o
    else if outer then o.jumpOut v.snd.tier (fMul old.1 dg) (fMul old.2 dg) d
    else o.jump v.snd.tier (fSub new.1 old.1) (fSub new.2 old.2) d)

/-- A step of any other parameter, which acts at the sample (R118, R129, R149). -/
def Voice.stepHere (v : Voice) (c : Env0) (k id val : Nat) : Voice :=
  let tk := k * c.fper
  let pp := id % 256
  let hi := id / 256
  if rampedId id then
    let cur := (v.base32 tk id).toNat
    let cur := if (hi = 0x21 ∧ (pp = 1 ∨ (0x10 ≤ pp ∧ pp % 4 = 0))) then v.raw id else cur
    let v := v.store id val
    { v with snd := { v.snd with gramp := ⟨id, cur, 32⟩ :: v.snd.gramp.filter (fun r => r.id != id) } }
  else if id = 0x100E then
    let r := v.raw id
    let v := v.store id val
    match v.snd.fil[1]? with
    | some f => if r = val then v else { v with snd := { v.snd with route1 := some (r, f.st, 32) } }
    | none => v
  else if id = 0x1000 ∨ id = 0x1100 then
    let n := hi - 0x10
    let old := v.raw id
    let v := v.store id val
    match v.snd.fil[n]? with
    | some f =>
      if filGroup old = filGroup val then v
      else { v with snd := { v.snd with fil := v.snd.fil.set n ⟨f.st.clear, some (old, f.st), 32⟩ } }
    | none => v
  else if id = 0x2000 then
    let old := v.raw id
    let v := v.store id val
    if old ≠ 0 ∧ val = 0 then { v with snd := { v.snd with blk := (0, 0) } } else v
  else v.store id val

/-- The first frame at or after `t`, in tu (R68). -/
def frameAt (fper t : Nat) : Nat := (t + fper - 1) / fper * fper

/-- Where a ramp starts: at its time for an oscillator's parameter (R69), else at the first frame from it (R118, R129). -/
def rampT0 (fper t id : Nat) : Nat := if id / 256 ≤ 3 then t else frameAt fper t

/-- A RAMP_PARAM given for `t` is stored: it runs from the value at its start (R327). -/
def Voice.setRamp (v : Voice) (fper t id : Nat) (tgt : F32) (dur : Nat) : Voice :=
  let t0 := rampT0 fper t id
  let from_ := v.base t0 id
  { v.store id tgt.toNat with pramps := ⟨id, from_, tgt, t0, dur⟩ :: v.pramps.filter (fun r => r.id != id) }

/-- The acceptance number of an event's command. -/
def VAct.seq : VAct → Nat
  | .start => 0
  | .set _ _ q => q
  | .ramp _ _ _ q => q
  | .retrig _ _ q => q
  | .release _ q => q

/-- It is a parameter change. -/
def VAct.change : VAct → Bool
  | .set _ _ _ => true
  | .ramp _ _ _ _ => true
  | _ => false

/-- Insert in acceptance order, after equals (R119). -/
def insSeq (e : Nat × VAct) : List (Nat × VAct) → List (Nat × VAct)
  | [] => [e]
  | x :: l => if e.2.seq < x.2.seq then e :: x :: l else x :: insSeq e l

/-- The parameter changes among events, in acceptance order. -/
def changesOf (l : List (Nat × VAct)) : List (Nat × VAct) := (l.filter (fun e => e.2.change)).foldl (fun a e => insSeq e a) []

/-- A change that sets the value the voice starts with, without a step (R596). -/
def Voice.actFirst (v : Voice) (c : Env0) (t : Nat) : VAct → Voice
  | .set id val _ => v.store id val
  | .ramp id tgt dur _ => v.setRamp c.fper t id tgt dur
  | _ => v

/-- An event as the envelopes and the glide take it, at its exact time (R127, R134, R135). -/
def Voice.actEnv (v : Voice) (t : Nat) : VAct → Voice
  | .retrig key vel _ => v.retrigEnv t key vel
  | .release rv _ =>
    let v := v.envTo t
    { (v.mapEnv (fun n e => e.release t (v.envP n t) v.key)) with relVel := rv }
  | _ => v

/-- An event as the oscillators take it, at its exact time (R69). -/
def Voice.actOsc (v : Voice) (c : Env0) (t k : Nat) (a : VAct) : Voice :=
  let d := deltaOf c.fper k t
  match a with
  | .set id val _ => if !placedId id then v else if id = 0x6000 ∨ freqPP (id % 256) then v.stepFreq c t k d id val else v.stepOsc c t k d id val
  | .ramp id tgt dur _ => if id < 0x400 then v.setRamp c.fper t id tgt dur else v
  | .retrig _ _ _ => v.retrigOsc c t k d
  | _ => v

/-- A change that acts at the sample (R118, R129). -/
def Voice.actHere (v : Voice) (c : Env0) (t k : Nat) : VAct → Voice
  | .set id val _ => if placedId id then v else v.stepHere c k id val
  | .ramp id tgt dur _ => if id < 0x400 then v else v.setRamp c.fper t id tgt dur
  | _ => v

/-- Take every event whose time has come by sample `k`. A voice that starts takes the changes up to its first sample as its
first values, in acceptance order (R596). A sounding one takes envelope events at their times, with the parameters as they
stood (R133, R135), then the oscillators' at theirs (R69), then the changes that act at the sample, in acceptance order (R119);
retriggers and releases that fall before the first sample act at their own times all the same. -/
def Voice.takeActs (v : Voice) (c : Env0) (k : Nat) : Voice :=
  let tk := k * c.fper
  let due := v.acts.filter (fun e => decide (e.1 ≤ tk))
  let starts := due.find? (fun e => e.2 == .start)
  if !v.snd.live ∧ starts.isNone then v
  else
    let v := { v with acts := v.acts.filter (fun e => decide (tk < e.1)) }
    let (v, due) : Voice × List (Nat × VAct) := match starts with
      | none => (v, due)
      | some s =>
        let v := (changesOf due).foldl (fun v e => v.actFirst c e.1 e.2) v
        (v.start c s.1 k (deltaOf c.fper k s.1), due.filter (fun e => !e.2.change))
    let v := due.foldl (fun v e => v.actEnv e.1 e.2) v
    let v := due.foldl (fun v e => v.actOsc c e.1 k e.2) (v.envTo tk)
    (changesOf due).foldl (fun v e => v.actHere c e.1 k e.2) v

/-- cos(pi x) by the module's sine. -/
def cosPi (x : F32) : F32 := fCos2Pi (fMul fHalf x)

/-- One ramp's factor at `t` (R176, R183, R417). (Log: 27 DEDUCED.) -/
def VRamp.at (r : VRamp) (t : Nat) : F32 :=
  let x := if t ≤ r.t0 then (0 : F32) else if r.len = 0 ∨ r.t0 + r.len ≤ t then fOne else fRat ((t - r.t0 : Nat) : Int) r.len
  if r.quarter then (if r.up then fSin2Pi (fMul 0x3E800000 x) else cosPi (fMul fHalf x))
  else fMul fHalf (if r.up then fSub fOne (cosPi x) else fAdd fOne (cosPi x))

/-- The product of the ramps in force: r of R116. -/
def Voice.rampAt (v : Voice) (t : Nat) : F32 := v.ramps.foldl (fun acc r => fMul acc (r.at t)) fOne

/-- E of R116 for an ENV_SRC value. -/
def Voice.envE (v : Voice) (t src : Nat) : F32 :=
  if src = 0 then fOne else (v.snd.env[src - 1]?.map (fun e => e.level t)).getD 0

/-- E with the crossfade of ENV_SRC (R118). -/
def Voice.ampE (v : Voice) (t : Nat) : F32 :=
  let e := v.envE t (v.raw 0x2101)
  match v.snd.gramp.find? (fun r => r.id == 0x2101) with
  | some r =>
    let w := fRat r.left 32
    fAdd (fMul w (v.envE t r.from_)) (fMul (fSub fOne w) e)
  | none => e

/-- What the stage of hook and value puts out at instance `i` (R286, R298): oscillators 0 to 3, filters 4 and 5, shaper 6; `f` counts its
frames. (Log: 10 DESIGN CHOICE.) -/
def Voice.stageOut (v : Voice) (c : Env0) (i hook val f : Nat) (x : F32) : F32 :=
  Config.stageOut (c.stage hook val) (8 * (v.bornT * 2 ^ 32 + v.nid) + i) f x

/-- Coefficients of filter `n` at `t` (R105, R120). -/
def Voice.filPar (v : Voice) (c : Env0) (t n : Nat) : FilPar :=
  let b := 0x1000 + 256 * n
  let fo := overK v.snd.tier * c.rate
  let semis := fAdd (v.effI t (b + 2)) (fMul (v.base t (b + 3)) (fSub v.snd.pvNow 0x42700000))
  let fc := cutoff (v.base t (b + 1)) semis fo
  { typ := v.raw b, g := fTanPi (fDiv fc (fInt fo)), q := v.eff t (b + 4), res := v.eff t (b + 5)
    d := dbGain (v.eff t (b + 6)), comp := v.base t (b + 7), stage := fun _ => 0 }

/-- One substep through both filters, the output mix and the shaper (R102, R114): filters, old-route state, output, and
the filter the guard reset, if any. `f` counts substeps. -/
def Voice.substep (v : Voice) (c : Env0) (t f : Nat) (p0 p1 : FilPar) (x0 x1 : F32) : Voice × F32 × Option Nat :=
  match v.snd.fil with
  | f0 :: f1 :: _ =>
    let g (id : Nat) : F32 := dbGain (v.effI t id)
    let p0 := { p0 with stage := v.stageOut c 4 2 p0.typ f }
    let p1 := { p1 with stage := v.stageOut c 5 2 p1.typ f }
    let (f0, y0, b0) := f0.step p0 x0
    let route := v.raw 0x100E
    let ser := fMul (g 0x110D) y0
    let in1 (r : Nat) : F32 := if r = 0 then fAdd x1 ser else x1
    let (f1, y1, b1) := f1.step p1 (in1 route)
    let mix (y1 : F32) : F32 := fAdd (fMul (g 0x100C) y0) (fMul (g 0x110C) y1)
    let (r1, z, b2) : Option (Nat × FilSt × Nat) × F32 × Bool := match v.snd.route1 with
      | none => (none, mix y1, false)
      | some (r, st, left) =>
        let (st', yo, b) := filStep p1 st (in1 r)
        let w := fRat left 32
        (some (r, st', left), fAdd (fMul w (mix yo)) (fMul (fSub fOne w) (mix y1)), b)
    let out := shaper (v.raw 0x2000) (dbGain (v.eff t 0x2001)) (v.eff t 0x2002) (v.effI t 0x2003) (dbGain (v.effI t 0x2004)) z
      (v.stageOut c 6 3 (v.raw 0x2000) f)
    ({ v with snd := { v.snd with fil := [f0, f1], route1 := r1 } }, out,
      if b0 then some 0 else if b1 || b2 then some 1 else none)
  | _ => (v, 0, none)

/-- One sample through the filter section, the amplifier and the sends (R100, R115 to R117): the contributions to the
buses, the amplifier output, and the filter the guard reset. -/
def Voice.path (v : Voice) (c : Env0) (t : Nat) (o : List F32) : Voice × List (Nat × F32) × F32 × Option Nat :=
  let tier := v.snd.tier
  let inp (n : Nat) : F32 := ((List.range 4).zip o).foldl (fun acc e =>
    fAdd acc (fMul (dbGain (v.effI t (0x1008 + 256 * n + e.1))) e.2)) 0
  let (a1, a2, s0) := upsample tier (inp 0) (v.snd.xin.getD 0 []) (v.snd.xin2.getD 0 [])
  let (b1, b2, s1) := upsample tier (inp 1) (v.snd.xin.getD 1 []) (v.snd.xin2.getD 1 [])
  let v := { v with snd := { v.snd with xin := [a1, b1], xin2 := [a2, b2] } }
  let p0 := v.filPar c t 0
  let p1 := v.filPar c t 1
  let (v, zs, bad) := (s0.zip s1).foldl (fun (acc : Voice × List F32 × Option Nat) e =>
    let (v, z, b) := acc.1.substep c t (t / c.fper * overK tier + acc.2.1.length) p0 p1 e.1 e.2
    (v, acc.2.1 ++ [z], match acc.2.2 with | some n => some n | none => b)) (v, [], none)
  let (h4, h2, h1, a) := decimate tier zs (v.snd.down.getD 0 []) (v.snd.down.getD 1 []) (v.snd.down.getD 2 [])
  let (blk, b) : (F32 × F32) × F32 :=
    if v.raw 0x2000 = 0 then ((0, 0), a)
    else
      let cc := fSub fOne (fDiv 0x41FB53D1 (fInt c.rate))
      let b := fAdd (fSub a v.snd.blk.1) (fMul cc v.snd.blk.2)
      ((a, b), b)
  let amp := fMul (fMul (dbGain (v.effI t 0x2100)) (v.ampE t)) (v.rampAt t)
  let y := fMul amp b
  let th := fMul (fAdd (v.effI t 0x2102) fOne) 0x3E000000
  let pan (side : Nat) : F32 := match side with
    | 1 => fSin2Pi (fAdd th 0x3E800000)
    | 2 => fSin2Pi th
    | _ => fOne
  let sends := (List.range 8).flatMap (fun s =>
    let id := 0x2110 + 4 * s
    let d := v.raw id
    let old := v.snd.gramp.find? (fun r => r.id == id)
    if d = 0 ∧ old = none then []
    else
      let x := fMul (fMul y (dbGain (v.effI t (id + 2)))) (pan (v.raw (id + 1)))
      match old with
      | none => [(d - 1, x)]
      | some r =>
        let w := fRat r.left 32
        (if d = 0 then [] else [(d - 1, fMul (fSub fOne w) x)]) ++ (if r.from_ = 0 then [] else [(r.from_ - 1, fMul w x)]))
  ({ v with snd := { v.snd with down := [h4, h2, h1], blk := blk } }, sends, y, bad)

/-- Count down the ramps and crossfades of R118 after a sample. -/
def Voice.wind (v : Voice) : Voice :=
  { v with snd := { v.snd with
      gramp := (v.snd.gramp.map (fun r => { r with left := r.left - 1 })).filter (fun r => decide (0 < r.left))
      fil := v.snd.fil.map (fun f => if f.x ≤ 1 then { f with old := none, x := 0 } else { f with x := f.x - 1 })
      route1 := match v.snd.route1 with
        | some (r, st, n) => if n ≤ 1 then none else some (r, st, n - 1)
        | none => none
      since := v.snd.since + 1 } }

/-- One sample of a voice: frame `k`, sample `i` of a block of `B` (R58, R100, R148). The first sample of a voice makes an update
of its own where it falls off the grid. (Log: 26 DEDUCED.) -/
def Voice.sample (v : Voice) (c : Env0) (k i B : Nat) : Voice × List (Nat × F32) × F32 × Option Nat :=
  let t := k * c.fper
  let v := v.takeActs c k
  if !v.snd.live then (v, [], 0, none)
  else
    let fresh := v.snd.fresh
    let x := xorshift v.snd.patRnd
    let v := { v with snd := { v.snd with patRnd := x, pat := driftStep v.snd.pat (white x) (v.base t 0x6004) c.rate } }
    let v := if fresh then v else v.mapLfo (fun _ l => l.step sub24)
    let n := updN v.snd.tier
    let v := if i % n = 0 ∨ fresh then v.update c t (min (n - i % n) (B - i)) else v
    let v := v.placed c k
    let prev := v.snd.osc
    let ctx (n : Nat) : OscCtx := v.oscCtx c t n (v.stageOut c n 1 (v.oscE n 0) k 0)
    let (os, outs) := ((List.range 4).zip v.snd.osc).foldl (fun (acc : List Osc × List OscOut) e =>
      let (o, y) := e.2.step (ctx e.1) prev acc.2
      (acc.1 ++ [o], acc.2 ++ [y])) ([], [])
    let ue := if c.lib.bad.isEmpty then []
      else ((List.range 4).zip os).flatMap (fun e => (e.2.points (ctx e.1)).flatMap (fun a => match a, e.2.dir with
        | some a, some d => c.lib.spoilt a (fmtSize d.format)
        | _, _ => []))
    let v := { v with snd := { v.snd with osc := os, fresh := false, ue := v.snd.ue ++ ue } }
    let (v, sends, y, bad) := v.path c t (outs.map OscOut.out)
    (v.wind, sends, y, bad)

/-- Add a bus contribution to the partial sums: bus b, sample i at key 64 b + i. -/
def addBus (p : Tbl F32) (i : Nat) (l : List (Nat × F32)) : Tbl F32 :=
  l.foldl (fun p e => Tbl.put 0 p (64 * e.1 + i) (fAdd (Tbl.get 0 p (64 * e.1 + i)) e.2)) p

/-- A voice through block `j` of `B` frames at a tier: the partial sums, and the filter whose guard acted (R97, R113,
R121, R171). (Log: 46 DEDUCED.) -/
def Voice.render (v : Voice) (c : Env0) (j B tier : Nat) (p : Tbl F32) : Voice × Tbl F32 × Option Nat :=
  let v := { v with snd := { v.snd.retier tier with rate := c.rate }, loud := if v.snd.live then some 0 else v.loud }
  (List.range B).foldl (fun (acc : Voice × Tbl F32 × Option Nat) i =>
    let (v, sends, y, bad) := acc.1.sample c (j * B + i) i B
    let v := if v.snd.live then { v with loud := some (fMaxV (v.loud.getD 0) (fAbsol y)) } else v
    (v, addBus acc.2.1 i sends, match acc.2.2 with | some n => some n | none => bad)) (v, p, none)

/-- The ending envelope of a voice is DONE at `t` (R136). -/
def Voice.doneAt (v : Voice) (t : Nat) : Bool :=
  let n := v.raw 0x2101
  match (v.envTo t).snd.env[if n = 0 then 0 else n - 1]? with
  | some e => v.snd.live && e.seg == 6
  | none => false

/-- When the ending envelope became DONE, in tu (R136). -/
def Voice.doneTime (v : Voice) (t : Nat) : Nat :=
  let n := v.raw 0x2101
  match (v.envTo t).snd.env[if n = 0 then 0 else n - 1]? with
  | some e => (e.t0 + 15) / 16
  | none => t

end Sys2Proof.Machine
end

