-- ==== Sys2Proof/Machine/Dest.lean ====
section
/-!
DEFINITION. The destinations of the route map: what the entries give them, the bus history that ALIGN reaches into, the hold-fade,
the conversion to codes (R205, R213, R235 to R239).
-/
namespace Sys2Proof.Machine

/-- Replace the mix section's state. -/
def State.setMix (s : State) (f : Mix → Mix) : State := { s with mix := f s.mix }

/-- The type of an end of an entry. -/
def rType (x : Nat) : Nat := x / 4096
/-- The index of an end of an entry. -/
def rIdx (x : Nat) : Nat := x % 4096

/-! ### Hold-fade (R205) -/

/-- 0.5 (1 + cos(pi x)). -/
def fadeDown (g B : Nat) : F32 := if B ≤ g then 0 else fMul fHalf (fAdd fOne (cosPi (fRat g B)))
/-- 0.5 (1 - cos(pi x)). -/
def fadeUp (h B : Nat) : F32 := if B ≤ h then fOne else fMul fHalf (fSub fOne (cosPi (fRat h B)))

/-- One frame of a channel with the hold-fade: `v` = the frame, none when it is not played (R205). -/
def Hold.frame (B : Nat) (x : Hold) (v : Option F32) : Hold × F32 :=
  match v with
  | none => ({ x with g := x.g + 1, h := some 0 }, fMul x.last (fadeDown x.g B))
  | some v => match x.h with
    | none => ({ last := v, g := 0, h := none }, v)
    | some h =>
      let y := fMul v (fadeUp h B)
      ({ last := y, g := 0, h := if B ≤ h + 1 then none else some (h + 1) }, y)

/-! ### Feeds (R235, R236) -/

/-- The value of a ramp at frame `k`. -/
def Ramp32.val (r : Ramp32) (k : Nat) : F32 :=
  if k ≤ r.k0 then r.a else if r.k0 + 32 ≤ k then r.b else fAdd r.a (fMul (fRat (k - r.k0 : Nat) 32) (fSub r.b r.a))

/-- A feed contributes to frame `k`. -/
def Feed.on (x : Feed) (k : Nat) : Bool := decide (x.k0 ≤ k) && (x.k1.map (fun e => decide (k < e))).getD true
/-- Its entry names its destination at frame `k`. -/
def Feed.names (x : Feed) (k : Nat) : Bool := decide (x.n0 ≤ k) && (x.till.map (fun e => decide (k < e))).getD true

/-- A feed whose entry names its destination no more from frame `k`: as it was until then, and from there on its way to 0 from where
it stands (R235). (Log: 155 DEDUCED.) -/
def Feed.leave (x : Feed) (k : Nat) : List Feed :=
  if k ≤ x.k0 then [{ x with k1 := some k, till := some k }]
  else [{ x with k1 := some k, till := some k },
        { x with n0 := k, till := some k, k0 := k, k1 := some (k + 32), fade := ⟨k, x.fade.val k, 0⟩ }]

/-- What a feed makes of the value `v` at frame `k` (R235, R236): at 0 dB the factor is 1. (Log: 155 DEDUCED.) -/
def Feed.scale (x : Feed) (k : Nat) (v : F32) : F32 :=
  let g := x.gain.val k
  let y := if g = 0 ∨ g = 0x80000000 then v else fMul v (dbGain g)
  fMul (if bit x.flags 0 then fNegate y else y) (x.fade.val k)

/-! ### Bus frames and what the destinations have of them (R237, R239) -/

/-- y of bus `b` at frame `k`; 0 where no such frame was formed. -/
def State.busAt (s : State) (b k : Nat) : F32 := (Tbl.get [] s.mix.hist k).getD b 0

/-- Bus frame `k` is never played: it was late, or its time was stepped over (R205, R213). -/
def State.busDead (s : State) (k : Nat) : Bool := s.mix.dead.any (fun r => decide (r.1 ≤ k ∧ k < r.2.1))
/-- The time of frame `k` was stepped over (R213). -/
def State.timeDead (s : State) (k : Nat) : Bool := s.mix.dead.any (fun r => r.2.2 && decide (r.1 ≤ k ∧ k < r.2.1))

/-- The buses that feed destination `dst` at frame `m`. -/
def State.feedsAt (s : State) (dst m : Nat) : List Feed :=
  s.mix.feeds.filter (fun x => rType x.src == 1 && x.dst == dst && x.on m)

/-- The value of destination `dst` at frame `m`: each entry has the bus frame that its ALIGN puts there (R236, R237). -/
def State.destAt (s : State) (dst m : Nat) : F32 :=
  (s.feedsAt dst m).foldl (fun a x => fAdd a (x.scale m (if x.align ≤ m then s.busAt (rIdx x.src) (m - x.align) else 0))) 0

/-- Destination `dst` has nothing to play at frame `m` (R205, R213, R239). -/
def State.destDead (s : State) (dst m : Nat) : Bool :=
  s.timeDead m || (s.feedsAt dst m).any (fun x => decide (x.align ≤ m) && s.busDead (m - x.align))

/-- Bus frames from `a` up to `b` are not played; `all` = nor has any destination them (R205, R213). -/
def State.markDead (s : State) (a b : Nat) (all : Bool) : State :=
  if b ≤ a then s else s.setMix (fun m => { m with dead := m.dead ++ [(a, b, all)] })

/-- What no destination can reach any more is forgotten: bus frames and feeds that end before the block to be played next. -/
def State.mixPrune (s : State) : State :=
  let k := s.sch.play * s.blockLen
  s.setMix (fun m => { m with
    hist := Tbl.drop (fun n => decide (n + 4096 < k)) m.hist
    dead := m.dead.filter (fun r => decide (k ≤ r.2.1 + 4096))
    feeds := m.feeds.filter (fun x => rType x.dst == 2 || !(x.k1.map (fun e => decide (e + 4096 < k))).getD false) })

/-- Times of the mix section renumbered for another sample rate. -/
def Mix.moved (f : Nat → Nat) (m : Mix) : Mix :=
  { m with
    acts := m.acts.map (fun e => (f e.1, e.2))
    xr := m.xr.map (fun r => { r with k0 := f r.k0 })
    lines := m.lines.map (fun x => { x with
      glide := x.glide.map (fun g => (g.1, f g.2.1, g.2.2)), steps := x.steps.map (fun e => (e.1, f e.2)), clear := x.clear.map f })
    rev := { m.rev with clear := m.rev.clear.map f }
    fxFade := m.fxFade.map (fun e => (e.1, f (e.2 - 1) + 1)), fxClear := m.fxClear.map (fun e => (e.1, f (e.2 - 1) + 1)) }

/-! ### Codes (R236) -/

/-- round(v x 2^23) clamped to 24 bits; a non-finite value gives 0; whether it was clamped (R236). -/
def toCode (v : F32) : Int × Bool :=
  if !fFinite v then (0, false)
  else
    let x := fNearScaled v 23
    (satS 24 x, decide (satS 24 x ≠ x))

/-- The output destinations that buses feed. -/
def State.outDsts (s : State) : List Nat :=
  s.mix.feeds.filterMap (fun x => if rType x.src = 1 ∧ 2 ≤ rType x.dst then some x.dst else none)

/-- The output destinations that carry codes: analogue and TDM. -/
def State.playDsts (s : State) : List Nat :=
  ((s.outDsts ++ s.mix.hold.map (fun e => e.1)).filter (fun d => rType d == 2 || rType d == 3)).eraseDups

/-- Count a clamped sample (R236). (Log: 94 DEDUCED.) -/
def State.clip (s : State) (dst n : Nat) : State :=
  if n = 0 then s
  else s.setMix (fun m => { m with
    clips := Tbl.put 0 m.clips dst (Tbl.get 0 m.clips dst + n)
    clipsAt := if Tbl.get 0 m.clips dst = 0 then Tbl.put 0 m.clipsAt dst (s.ns + 1) else m.clipsAt })

/-- The codes of block `j` at a destination, with the hold-fade and the clamped samples after it (R205, R236). -/
def State.blockCodes (s : State) (dst j : Nat) : Hold × List Int × Nat :=
  (List.range s.blockLen).foldl (fun (acc : Hold × List Int × Nat) i =>
    let m := j * s.blockLen + i
    let (h, y) := acc.1.frame s.blockLen (if s.destDead dst m then none else some (s.destAt dst m))
    let (c, b) := toCode y
    (h, acc.2.1 ++ [c], acc.2.2 + b2n b)) ((Tbl.get none s.mix.hold dst).getD ⟨0, 0, none⟩, [], 0)

/-- Block `j` goes to a destination (R205, R236). -/
def State.deliver (s : State) (dst j : Nat) : State :=
  let (h, codes, nclip) := s.blockCodes dst j
  ((s.setMix (fun m => { m with hold := Tbl.put none m.hold dst (some h) })).clip dst nclip).emit (.codes dst (j * s.blockLen) codes)

/-- The hold-fades as they stand before a block, kept for a time step inside it (R213). -/
def State.keepHold (s : State) : State := s.setMix (fun m => { m with hold0 := m.hold })

/-- Block `j` of every destination. -/
def State.deliverAll (s : State) (j : Nat) : State := s.playDsts.foldl (fun s d => s.deliver d j) s.keepHold

/-- Block `j`, which stands at the destinations already, once more: frames of it have been stepped over (R213).
(Log: 39 DEDUCED.) -/
def State.deliverAgain (s : State) (j : Nat) : State :=
  let old := s.mix
  let s := (s.setMix (fun m => { m with hold := m.hold0 })).deliverAll j
  s.setMix (fun m => { m with clips := old.clips, clipsAt := old.clipsAt })

/-- `n` frames of every output destination are replaced without going there one by one (R205). -/
def State.skipHold (s : State) (n : Nat) : State :=
  if n = 0 then s
  else s.setMix (fun m => { m with hold := m.hold.map (fun e => (e.1, e.2.map (fun h => { h with g := h.g + n, h := some 0 }))) })

/-- `n` frames of block `j`, the first of them frame `k`, are replaced (R205, R217). -/
def State.underrun (s : State) (j k n : Nat) : State :=
  if n = 0 then s
  else (((s.count Reg.AL_SCH_CNT_UNDERRUN 1).count Reg.AL_SCH_CNT_UFRAMES n).set1 Reg.AL_SCH_FLAGS_UNDERRUN).eventAt
    (tuNs (s.playStart j)) 0x3A 66 0 0 (pay 16 k + pay 24 n)

end Sys2Proof.Machine
end

