-- ==== Sys2Proof/Machine/TimeOps.lean ====
section
/-!
DEFINITION. The time base: the counter and its servo (R17 to R38), forward steps (R31, R213), compare (R47 to R55).
-/
namespace Sys2Proof.Machine

/-! ### The servo -/

/-- The limit of R26. (Log: 22 DESIGN CHOICE.) -/
def rateLimit : Int := 3435974
/-- TB_RATE as a signed number. -/
def State.corr (s : State) : Int := toS 32 (s.get Reg.TB_RATE)
/-- SERVO code (R22). -/
def State.servo (s : State) : Nat := s.get Reg.TB_STAT_SERVO

/-- Set the rate correction, held at the limit with RATE_CLAMP (R26); in LOCKED it is kept for the holdover mean.
(Log: 21 DEDUCED, 23 DEDUCED.) -/
def State.setCorr (s : State) (c : Int) : State :=
  let ovr := c < -rateLimit ∨ rateLimit < c
  let v := max (-rateLimit) (min rateLimit c)
  let s := s.put Reg.TB_RATE (ofS 32 v)
  let s := if s.servo = 2 then
      { s with tb := { s.tb with corr := (s.ns, v) :: s.tb.corr.filter (fun e => decide (s.ns < e.1 + 2000000000)) } }
    else s
  if ovr then (s.set1 Reg.TB_FLAGS_RATE_CLAMP).event 0x55 113 0 4 (pay 16 (ofS 64 (toS 32 (s.get Reg.TB_OFFSET)))) else s

/-- Slew at the -200 ppm limit (R29): the correction reaches its limit. (Log: 23 DEDUCED.) -/
def State.slewMin (s : State) : State := s.setCorr (-rateLimit - 1)

/-- Time-weighted sum and length of the corrections over the last second before `t`, newest first. (Log: 21 DEDUCED.) -/
def corrSum (t : Nat) : Nat → List (Nat × Int) → Int × Nat
  | _, [] => (0, 0)
  | hi, (t0, r) :: rest =>
    let lo := max t0 (t - 1000000000)
    if hi ≤ lo then (0, 0)
    else
      let (a, n) := corrSum t lo rest
      (a + r * ((hi - lo : Nat) : Int), n + (hi - lo))

/-- The mean correction of the last second in LOCKED (R28 HOLDOVER). (Log: 21 DEDUCED.) -/
def State.meanCorr (s : State) : Int :=
  let (a, n) := corrSum s.ns s.ns s.tb.corr
  if n = 0 then s.corr else a / (n : Int)

/-- Enter a servo state (R28): writes the SERVO record, restarts the counts, and sets the rate of HOLDOVER.
(Log: 24 DEDUCED.) -/
def State.setServo (s : State) (c : Nat) : State :=
  if s.servo = c then s
  else
    let old := s.servo
    let s := if c = 3 then s.put Reg.TB_RATE (ofS 32 s.meanCorr) else s
    let s := s.put Reg.TB_STAT_SERVO c
    let s := { s with tb := { s.tb with
      inRange := 0, acqAlarm := false, lockAlarm := false
      corr := if c = 2 then [(s.ns, s.corr)] else s.tb.corr } }
    let s := s.event 0x54 112 0 c (pay 16 old)
    if c = 3 then (s.set1 Reg.TB_STAT_AUDIO_HOLD).event 0x57 115 0 3 (pay 16 s.fs)
    else s.put Reg.TB_STAT_AUDIO_HOLD 0

/-- The word-clock input `n` is present (R35). -/
def State.wclkPresent (s : State) (n : Nat) : Bool := s.on (Reg.TB_WCAP_STAT_PRESENT n)

/-- The state that the reference selection asks for: ACQUIRE with an applicable reference, else FREE (R28, R33).
(Log: 156 DEDUCED.) -/
def State.refServo (s : State) : Nat :=
  if s.on Reg.TB_CTRL_MANUAL then 0
  else match s.get Reg.TB_CTRL_REF with
    | 0 => if s.on Reg.TB_STAT_ROOT then 0 else 1
    | 1 => if s.wclkPresent 0 then 1 else 0
    | 2 => if s.wclkPresent 1 then 1 else 0
    | _ => 0

/-- Apply the reference selection, but not while the fast clocks are stopped (COARSE); in ACQUIRE an applicable one is
acquired anew (R28). (Log: 156 DEDUCED.) -/
def State.applyRef (s : State) : State :=
  if s.servo = 5 then s
  else if s.servo = 1 ∧ s.refServo = 1 then { s with tb := { s.tb with inRange := 0, acqAlarm := false } }
  else s.setServo s.refServo

/-- Some fabric port is UP (R32, R363). -/
def State.anyPortUp (s : State) : Bool := (List.range 4).any (fun p => s.get (Reg.FP_STAT_LSTATE p) == 5)

/-! ### Compare -/

/-- GPIO_FUNC gives the pin to channel `n`: note its edge. -/
def State.cmpPin (s : State) (n : Nat) (level : Bool) (t : Nat) : State :=
  let s' := s.put (Reg.TB_CMP_STAT_PIN n) (b2n level)
  if bit (s.get Reg.GPIO_FUNC) n then s'.emit (.pin n level t) else s'

/-- The live compare value of channel `n` in ns. -/
def State.cmpLive (s : State) (n : Nat) : Nat := s.get64 (Reg.TB_CMP_LO n) (Reg.TB_CMP_HI n)

/-- PERIOD with 1 to 7 acting as 8 (R51). -/
def State.cmpPeriod (s : State) (n : Nat) : Nat :=
  let p := s.get (Reg.TB_CMP_PERIOD n)
  if p = 0 then 0 else max 8 p
/-- WIDTH in ns: [23:0], below 8 acting as 8 (R53). -/
def State.cmpWidth (s : State) (n : Nat) : Nat := max 8 (s.get (Reg.TB_CMP_WIDTH n) % 2 ^ 24)

/-- R55: channel 2m+1 counts the wraps of channel 2m. -/
def State.cmpLinked (s : State) (n : Nat) : Bool := s.on (Reg.TB_CMP_CFG_LINK (n - n % 2))

/-- Add `k` matches to COUNT of channel `n` (R51, R55). -/
def State.cmpCount (s : State) (n k : Nat) : State :=
  if s.cmpLinked n then
    if n % 2 = 1 then s
    else
      let c := s.get (Reg.TB_CMP_COUNT n) + k
      (s.put (Reg.TB_CMP_COUNT n) c).count (Reg.TB_CMP_COUNT (n + 1)) (c / 2 ^ 32)
  else s.count (Reg.TB_CMP_COUNT n) k

/-- The pin action of a match with its edge at `t` ns (R47, R53, R54). (Log: 159 DEDUCED.) -/
def State.cmpAction (s : State) (n t : Nat) : State :=
  match s.get (Reg.TB_CMP_CFG_ACTION n) with
  | 1 => s.cmpPin n true t
  | 2 => s.cmpPin n false t
  | 3 => s.cmpPin n (!s.on (Reg.TB_CMP_STAT_PIN n)) t
  | 4 =>
    let s := s.cmpPin n true t
    { s with tb := { s.tb with pulse := Tbl.put none s.tb.pulse n (some (t + s.cmpWidth n)) } }
  | _ => s

/-- A match of channel `n` (R51 to R53); `step` says that a forward step caused it. -/
def State.cmpMatch (s : State) (n : Nat) (step : Bool) : State :=
  let c := s.cmpLive n
  let s := s.set1 (Reg.TB_CMP_STAT_MATCH n)
  let s := if step then s.set1 (Reg.TB_CMP_STAT_STEPPED n) else s
  let p := if s.on (Reg.TB_CMP_CFG_PERIODIC n) then s.cmpPeriod n else 0
  let s :=
    if p = 0 then (s.cmpCount n 1).put (Reg.TB_CMP_STAT_ARMED n) 0
    else
      let k := (s.ns - c) / p + 1
      (s.put64 (Reg.TB_CMP_LO n) (Reg.TB_CMP_HI n) (c + k * p)).cmpCount n k |>.set1 (Reg.TB_CMP_STAT_ARMED n)
  let edge := if s.servo = 5 then s.ns else if step then s.ns + 16 else c + 16
  let s := s.cmpAction n edge
  if s.on (Reg.TB_CMP_CFG_EVT_EN n) then
    s.eventAt (if step then s.ns else c) 0x53 (108 + n / 2) n (if step then 3 else 1) (pay 16 (s.get (Reg.TB_CMP_COUNT n)))
  else s

/-- P < C ≤ N for the current crossing interval (R49). (Log: 25 DEDUCED.) -/
def State.cmpCrossed (s : State) (n : Nat) : Bool :=
  decide (s.tb.prev < s.cmpLive n * 2 ^ 32) && decide (s.cmpLive n * 2 ^ 32 ≤ s.tb.now)

/-- Test channel `n` at a tick edge or a step: a match where C lies in the crossing interval (R49). -/
def State.cmpTick (s : State) (n : Nat) (step : Bool) : State :=
  if s.on (Reg.TB_CMP_CFG_ENABLE n) && s.on (Reg.TB_CMP_STAT_ARMED n) && s.cmpCrossed n && s.servo != 4 then
    s.cmpMatch n step
  else s

/-- Test channel `n` at a commit (R49, R50). (Log: 25 DEDUCED.) -/
def State.cmpCommit (s : State) (n : Nat) : State :=
  if !s.on (Reg.TB_CMP_CFG_ENABLE n) then s.put (Reg.TB_CMP_STAT_ARMED n) 0
  else if s.cmpCrossed n && s.servo != 4 then s.cmpMatch n false
  else if s.tb.now < s.cmpLive n * 2 ^ 32 then s.set1 (Reg.TB_CMP_STAT_ARMED n)
  else
    let s := (s.set1 (Reg.TB_CMP_STAT_MISSED n)).put (Reg.TB_CMP_STAT_ARMED n) 0
    if s.on (Reg.TB_CMP_CFG_EVT_EN n) then s.event 0x53 (108 + n / 2) n 2 (pay 16 (s.get (Reg.TB_CMP_COUNT n))) else s

/-- A write of TB_CMPn_CFG (R47, R50, R54). -/
def State.writeCmpCfg (s : State) (n v : Nat) : State :=
  let was := s.on (Reg.TB_CMP_CFG_ENABLE n)
  let s := s.put (Reg.TB_CMP_CFG_ENABLE n) (bits v 0 1)
  let s := s.put (Reg.TB_CMP_CFG_ACTION n) (bits v 1 3)
  let s := s.put (Reg.TB_CMP_CFG_EVT_EN n) (bits v 4 1)
  let s := s.put (Reg.TB_CMP_CFG_PERIODIC n) (bits v 5 1)
  let s := if n % 2 = 0 then s.put (Reg.TB_CMP_CFG_LINK n) (bits v 6 1) else s
  let s := s.put (Reg.TB_CMP_CFG_LEVEL n) (bits v 7 1)
  let s := if bit v 8 then
      { s with tb := { s.tb with pulse := Tbl.put none s.tb.pulse n none } }.cmpPin n (bit v 7) s.ns
    else s
  if !bit v 0 then s.put (Reg.TB_CMP_STAT_ARMED n) 0
  else if was then s else s.cmpCommit n

/-- A write of TB_CMPn_LO goes to the holding register (R48). -/
def State.writeCmpLo (s : State) (n v : Nat) : State :=
  { s with tb := { s.tb with cmpHold := Tbl.put 0 s.tb.cmpHold n v } }

/-- A write of TB_CMPn_HI commits (R48, R49). -/
def State.writeCmpHi (s : State) (n v : Nat) : State :=
  ((s.put (Reg.TB_CMP_LO n) (Tbl.get 0 s.tb.cmpHold n)).put (Reg.TB_CMP_HI n) v).cmpCommit n

/-! ### The counter moves -/

/-- A change of every output channel. (Log: 123 DEDUCED.) -/
def State.mapAo (s : State) (f : AoCh → AoCh) : State := { s with ao := { s.ao with chans := s.ao.chans.map f } }

/-- R213: what a forward step of the counter does to the scheduler; `p` and `n` are the counter before and after in tu. The frames of
the blocks it passes that lie before or after it are replaced as an underrun (R205). (Log: 39 DEDUCED.) -/
def State.schedSkip (s : State) (p n : Nat) : State :=
  if s.schState < 2 then s
  else
    let B := s.blockLen
    let k0 := max (p / s.fper + 1) (s.sch.first * B)
    let k1 := max (n / s.fper + 1) k0
    let jn := n / s.blockT
    let q := s.sch.owe.getD s.sch.play
    let passed := if q ≤ jn then [q, s.sch.play, jn].eraseDups.filter (fun j => decide (j ≤ jn) && (s.schState == 2 || decide (j < s.sch.next))) else []
    let s := (s.setSch (fun x => { x with
      ready := x.ready.filter (fun b => decide (n < s.playStart b.j))
      next := max x.next ((n + s.blockT - 1) / s.blockT + s.slack), holdLevel := true
      play := max x.play (jn + 1), owe := if q ≤ jn then none else x.owe })).markDead k0 k1 true
    let s := if s.sch.first < q ∧ k0 < q * B ∧ k0 < k1 then s.deliverAgain (q - 1) else s
    let s := s.markDead (q * B) ((jn + 1) * B) false
    let s := if q ≤ jn then s.deliverAll q else s
    let s := if q < jn then (s.skipHold ((jn - q - 1) * B)).deliverAll jn else s
    let s := passed.foldl (fun s j =>
      let l := ((List.range B).map (fun i => j * B + i)).filter (fun k => !(decide (k0 ≤ k ∧ k < k1)))
      s.underrun j (l.headD 0) l.length) s
    if k1 ≤ k0 then s
    else
      let s := (s.count Reg.AL_SCH_CNT_SKIP (k1 - k0)).set1 Reg.AL_SCH_FLAGS_STEP_SKIP
      s.event 0x3D 69 0 0 (pay 16 (k1 - k0))

/-- A forward step by `d` units of 2^-32 ns: one tick whose crossing interval spans it; its records stand in order of source (R9, R31, R52).
(Log: 25 DEDUCED, 123 DEDUCED.) -/
def State.forwardStep (s : State) (d : Nat) : State :=
  let p := s.tu
  let s := { s with tb := { s.tb with prev := s.tb.now, now := s.tb.now + d } }
  let s := s.mapAo (fun x => { x with t0 := x.t0 + (s.tu - p) })
  let s := s.set1 Reg.TB_FLAGS_STEPPED
  let s := (List.range 8).foldl (fun s n => s.cmpTick n true) (s.schedSkip p s.tu)
  s.event 0x55 113 0 1 (pay 16 (ofS 64 ((d / 2 ^ 32 : Nat) : Int)))

/-- One tick of the counter (R17, R31, R36): 4 ns and the correction; nothing in HELD; an XT32 edge in COARSE.
(Log: 158 DEDUCED.) -/
def State.tick (s : State) : State :=
  let d : Nat :=
    if s.servo = 4 then 0
    else if s.servo = 5 then (if s.tb.xt32Dead then 0 else 30517 * 2 ^ 32 + 0x9400 * 2 ^ 16)
    else ((4 * 2 ^ 32 : Int) + s.corr).toNat
  let r : Nat := if s.servo = 5 then 30517 * 2 ^ 32 + 0x9400 * 2 ^ 16 else 4 * 2 ^ 32
  { s with tb := { s.tb with prev := s.tb.now, now := s.tb.now + d, real := s.tb.real + r } }

/-! ### Measurements (R27 to R30) -/

/-- An OFFSET_ALARM: the flag at every call, the record when `rec` says so. -/
def State.offsetAlarm (s : State) (off : Int) (rec : Bool) : State :=
  let s := s.set1 Reg.TB_FLAGS_OFFSET_ALARM
  if rec then s.event 0x55 113 0 3 (pay 16 (ofS 64 off)) else s

/-- Slew: the correction the servo's loop arrives at is open, a free value, held at the limit where it would pass it (R26,
R404). (Log: 22 DESIGN CHOICE, 23 DEDUCED.) -/
def State.slew (s : State) : State :=
  let (w, s) := s.freeWord
  s.setCorr (toS 32 w.toNat)

/-- A measurement in LOCKED (R30). (Log: 22 DESIGN CHOICE.) -/
def State.measureLocked (s : State) (off : Int) : State :=
  let s :=
    if (off < -1000000 ∨ 1000000 < off) ∧ !s.tb.lockAlarm then
      { s.offsetAlarm off true with tb := { (s.offsetAlarm off true).tb with lockAlarm := true } }
    else s
  s.slew

/-- A measurement in ACQUIRE (R29). (Log: 22 DESIGN CHOICE.) -/
def State.measureAcquire (s : State) (off : Int) : State :=
  let bad := 1000000 < off ∧ s.schRuns
  let was := s.tb.acqAlarm
  let s := { s with tb := { s.tb with acqAlarm := decide bad, inRange := if -1000 ≤ off ∧ off ≤ 1000 then s.tb.inRange + 1 else 0 } }
  if off < -1000 then s.forwardStep ((-off).toNat / 4 * 4 * 2 ^ 32)
  else if off ≤ 1000 then
    let s := s.slew
    if 8 ≤ s.tb.inRange then s.setServo 2 else s
  else if off ≤ 1000000 then s.slewMin
  else if s.schRuns then (s.offsetAlarm off (!was)).slewMin
  else (s.event 0x55 113 0 2 (pay 16 (ofS 64 off))).setServo 4

/-- The servo acts on a measured offset, local minus reference, in ns (R27 to R30). -/
def State.measure (s : State) (off : Int) : State :=
  let s := s.put Reg.TB_OFFSET (ofS 32 (satS 32 off))
  if s.on Reg.TB_CTRL_MANUAL then s
  else match s.servo with
    | 1 => s.measureAcquire off
    | 2 => s.measureLocked off
    | 3 => (s.setServo 2).measureLocked off
    | _ => s

/-! ### TB_CTRL -/

/-- R408: streams with a channel above 63 are disabled by a rate of 176.4 or 192 kHz. -/
def State.dropWideStream (s : State) (p k : Nat) (tx : Bool) : State :=
  let en := if tx then Reg.FP_STX_EN p k else Reg.FP_SRX_EN p k
  let first := s.get (if tx then Reg.FP_STX_FIRST p k else Reg.FP_SRX_FIRST p k)
  let cnt := s.get (if tx then Reg.FP_STX_CNTM1 p k else Reg.FP_SRX_CNTM1 p k) + 1
  if s.on en ∧ 64 < first + cnt then
    ((s.put en 0).set1 (Reg.FP_SVC_FLAGS_STREAM_REFUSED p)).event 0x13 (19 + 4 * p) (k + 8 * b2n tx) 4
      (pay 16 first + pay 18 cnt)
  else s

/-- R408 for every stream of every space. -/
def State.dropWideStreams (s : State) : State :=
  (List.range 4).foldl (fun s p => (List.range 8).foldl (fun s k => (s.dropWideStream p k true).dropWideStream p k false) s) s

/-- FORMAT and SLOTS are legal at the rate (R476, R477). -/
def State.tdmLegal (s : State) (n : Nat) : Bool :=
  let f := s.get (Reg.TDM_CTRL_FORMAT n)
  let k := s.get (Reg.TDM_CTRL_SLOTS n)
  f != 3 && (if f = 2 then decide (1 ≤ k ∧ k ≤ 16) else k == 2) && decide (32 * k * s.rate ≤ 24576000)

/-- A port whose clock limit a new rate breaks is disabled (R477). -/
def State.tdmRate (s : State) (n : Nat) : State :=
  if s.on (Reg.TDM_CTRL_EN n) ∧ !s.tdmLegal n then
    ((s.put (Reg.TDM_CTRL_EN n) 0).put (Reg.TDM_STAT_CLK n) 0).set1 (Reg.TDM_FLAGS_CFG_REFUSED n)
  else s

/-- A feed with its frames renumbered. (Log: 123 DEDUCED.) -/
def Feed.moved (f : Nat → Nat) (x : Feed) : Feed :=
  { x with
    n0 := f x.n0, till := x.till.map f, k0 := f x.k0, k1 := x.k1.map f
    fade := { x.fade with k0 := f x.fade.k0 }, gain := { x.gain with k0 := f x.gain.k0 } }

/-- A write of FS (R25, R408); the times of values stored for direct outputs stand (R234). (Log: 123 DEDUCED.) -/
def State.writeFs (s : State) (f : Nat) : State :=
  if f = s.fs ∨ 5 < f then s
  else if s.schRuns then (s.set1 Reg.TB_FLAGS_FS_BUSY).event 0x57 115 0 4 (pay 16 s.fs)
  else
    let at_ (k : Nat) : Nat := k * s.fper / framePeriod f
    let s := s.mapAo (fun x => { x with vals := x.vals.map (fun e => (at_ e.1, e.2)), clipQ := at_ x.clipQ })
    let s := s.setMix (fun m => { m.moved at_ with feeds := m.feeds.map (Feed.moved at_) })
    let s := s.put Reg.TB_CTRL_FS f
    let s := (s.put Reg.TB_STAT_AUDIO_LOCK 0).put Reg.PWR_CLK_STAT_AUDIO 0
    let s := ((s.event 0x57 115 0 2 (pay 16 f)).tdmRate 0).tdmRate 1
    if 4 ≤ f then s.dropWideStreams else s

/-- A refusal of REF (R33). -/
def State.refRefused (s : State) : State := (s.set1 Reg.TB_FLAGS_REF_REFUSED).event 0x55 113 0 6 0

/-- A write of REF (R33). (Log: 157 DEDUCED.) -/
def State.writeRef (s : State) (r : Nat) : State :=
  if r = s.get Reg.TB_CTRL_REF then s
  else if (r = 1 ∨ r = 2) ∧ !s.on Reg.TB_STAT_ROOT ∧ s.anyPortUp then s.refRefused
  else (s.put Reg.TB_CTRL_REF r).applyRef

/-- A write of MANUAL (R26). (Log: 157 DEDUCED.) -/
def State.writeManual (s : State) (m : Nat) : State :=
  if m = s.get Reg.TB_CTRL_MANUAL then s else (s.put Reg.TB_CTRL_MANUAL m).applyRef

/-- REACQUIRE written 1 (R30). -/
def State.reacquire (s : State) : State :=
  match s.servo with
  | 1 => { s with tb := { s.tb with inRange := 0 } }
  | 2 => s.setServo 1
  | 3 => s.setServo 1
  | _ => s

/-- A write of TB_CTRL: every field of R21. (Log: 157 DEDUCED.) -/
def State.writeTbCtrl (s : State) (v : Nat) : State :=
  let s := s.put Reg.TB_CTRL_BW (bits v 3 2)
  let s := s.writeFs (bits v 8 3)
  let s := s.writeManual (bits v 2 1)
  let s := s.writeRef (bits v 0 2)
  if bit v 5 then s.reacquire else s

/-- The module becomes the time root (R28); while the fast clocks are stopped the counter stays in COARSE (R36).
(Log: 156 DEDUCED.) -/
def State.gainRoot (s : State) : State :=
  let s := s.set1 Reg.TB_STAT_ROOT
  if s.get Reg.TB_CTRL_REF = 0 ∧ s.servo ≠ 5 then s.setServo 0 else s

/-- The module loses root status (R28, R33). -/
def State.loseRoot (s : State) : State :=
  let s := s.put Reg.TB_STAT_ROOT 0
  let s := if s.get Reg.TB_CTRL_REF = 1 ∨ s.get Reg.TB_CTRL_REF = 2 then (s.put Reg.TB_CTRL_REF 0).refRefused else s
  s.applyRef

/-! ### Setting the time (R32, R405) -/

/-- The 32 bytes of a time-sync frame (R401). -/
def timeFrameBytes (typ flags seq tsNs tsFrac hops stepAt stepBy : Nat) : List (BitVec 8) :=
  leBytes 1 typ ++ leBytes 1 flags ++ leBytes 2 seq ++ leBytes 8 tsNs ++ leBytes 2 tsFrac ++ leBytes 2 hops
    ++ leBytes 8 stepAt ++ leBytes 8 stepBy

/-- Send a STEP frame on every DOWNSTREAM port that is UP (R405). (Log: 118 DEDUCED.) -/
def State.sendStep (s : State) (ts d : Nat) : State :=
  (List.range 4).foldl (fun s p =>
    if s.get (Reg.FP_STAT_LSTATE p) = 5 ∧ s.get (Reg.FP_STAT_ROLE p) = 2 then
      s.sendLocal p 0 7 (timeFrameBytes 3 0 0 0 0 (s.get Reg.FSW_ROOT_INFO_HOPS) ts d)
    else s) s

/-- A write of TB_SET_HI (R32, R405). (Log: 118 DEDUCED.) -/
def State.setCommit (s : State) (hi : Nat) : State :=
  let v : Nat := s.get Reg.TB_SET_LO + 2 ^ 32 * hi
  let refuse := (s.set1 Reg.TB_FLAGS_SET_REFUSED).event 0x55 113 0 5 (pay 16 (ofS 64 ((v : Int) - (s.ns : Int))))
  if !(s.on Reg.TB_STAT_ROOT || !s.anyPortUp) then refuse
  else if v * 2 ^ 32 ≤ s.tb.now then refuse
  else if s.tb.step.isSome then refuse
  else if s.anyPortUp then
    let d := v - s.ns
    let ts := s.ns + 2000000
    { s with tb := { s.tb with step := some (ts, d) } }.sendStep ts d
  else s.forwardStep (v * 2 ^ 32 - s.tb.now)

end Sys2Proof.Machine
end

