-- ==== Sys2Proof/Machine/AllocOps.lean ====
section
/-!
DEFINITION. The allocator: entries, handles, groups, the choice of a slot, steals, tails, ramps and ends of voices
(R151 to R184, R189 to R193).
-/
namespace Sys2Proof.Machine

/-! ### Commands -/

/-- `n` bytes of a descriptor from byte `b`. -/
def dfield (d b n : Nat) : Nat := d / 2 ^ (8 * b) % 2 ^ (8 * n)
/-- `n` bytes of a command's descriptor from byte `b`. -/
def TCmd.u (c : TCmd) (b n : Nat) : Nat := dfield c.desc b n
/-- A cast or a resume: decided one block ahead (R199). -/
def TCmd.isCast (c : TCmd) : Bool := c.fl.op == 1 || (c.fl.op == 0x20 && c.u 27 1 % 4 == 2)

/-- Find the last element a predicate names, replaced by a function of it. -/
def updWhere {α : Type} (p : α → Bool) (f : α → α) (l : List α) : List α := l.map (fun x => if p x then f x else x)

/-- Mark a command taken: applied or decided, its completion still to come. -/
def State.take (s : State) (c : TCmd) : State :=
  { s with sch := { s.sch with queue := updWhere (fun x => x.fl.seq == c.fl.seq) (fun x => { x with done := true }) s.sch.queue } }

/-! ### Entries and handles (R151 to R156) -/

/-- A free entry. -/
def Voice.free (gen : Nat) : Voice :=
  { st := 0, gen := gen, group := 0, vpri := 0, nid := 0, held := false, heldVel := 0, retrig := [], castT := 0, bornT := 0
    block := 0, relT := none, loud := none, key := 0, vel := 0, relVel := 0, coherent := false, epoch := 0, seed := 0
    prog := 0, progSlot := 0, ended := false, lists := [], tailOf := 0, ramps := [], why := .none, prevSt := 0, spill := none, par := [], pramps := []
    acts := [], snd := Sound.zero }

/-- Slot `v`. -/
def State.slot (s : State) (v : Nat) : Voice := Tbl.get (Voice.free 0) s.al.slots v
/-- Parked entry `p`. -/
def State.park (s : State) (p : Nat) : Voice := Tbl.get (Voice.free 0) s.al.parked p
/-- Tail `i` of core `c` at 4 c + i. -/
def State.tail (s : State) (k : Nat) : Voice := Tbl.get (Voice.free 0) s.al.tails k
/-- Replace slot `v`. -/
def State.setSlot (s : State) (v : Nat) (x : Voice) : State :=
  { s with al := { s.al with slots := Tbl.put (Voice.free 0) s.al.slots v x } }
/-- Replace parked entry `p`. -/
def State.setPark (s : State) (p : Nat) (x : Voice) : State :=
  { s with al := { s.al with parked := Tbl.put (Voice.free 0) s.al.parked p x } }
/-- Replace tail `k`. -/
def State.setTail (s : State) (k : Nat) (x : Voice) : State :=
  { s with al := { s.al with tails := Tbl.put (Voice.free 0) s.al.tails k x } }

/-- Entry `e`: slots 0 to 255, parked entries from 256. -/
def State.ent (s : State) (e : Nat) : Voice := if e < 256 then s.slot e else s.park (e - 256)
/-- Replace entry `e`. -/
def State.setEnt (s : State) (e : Nat) (x : Voice) : State := if e < 256 then s.setSlot e x else s.setPark (e - 256) x

/-- All entries. -/
def allEnts : List Nat := List.range 320
/-- All slots. -/
def allSlots : List Nat := List.range 256

/-- The handle of entry `e` (R153). -/
def State.handle (s : State) (e : Nat) : Nat := e + 2 ^ 16 * (s.ent e).gen
/-- The entry a handle names, unless it is stale (R153). -/
def State.lookup (s : State) (h : Nat) : Option Nat :=
  let e := h % 512
  if h / 512 % 128 ≠ 0 ∨ 320 ≤ e then none else if (s.ent e).gen = h / 2 ^ 16 % 2 ^ 16 then some e else none

/-- Group `g`. -/
def State.group (s : State) (g : Nat) : Group :=
  s.al.groups.getD g { cfg0 := 0x148100, cfg1 := 0x300000, gc := List.replicate 8 0, lastKey := none, bind := 0, patch := []
                       pramps := [] }
/-- Replace group `g`. -/
def State.setGroup (s : State) (g : Nat) (x : Group) : State := { s with al := { s.al with groups := s.al.groups.set g x } }

/-- LIMIT (R159). -/
def Group.limit (g : Group) : Nat := bits g.cfg0 0 9
/-- PRIORITY. -/
def Group.priority (g : Group) : Nat := bits g.cfg0 9 3
/-- POLICY. -/
def Group.policy (g : Group) : Nat := bits g.cfg0 12 3
/-- RELEASED_FIRST. -/
def Group.relFirst (g : Group) : Bool := bit g.cfg0 15
/-- STEAL_RAMP in tu. -/
def Group.ramp (g : Group) : Nat := nsTu (100000 * bits g.cfg0 16 8)
/-- HOLD. -/
def Group.hold (g : Group) : Bool := bit g.cfg0 24
/-- CHOKE_TGT. -/
def Group.chokeTgt (g : Group) : Nat := bits g.cfg0 25 6
/-- CHOKE_EN. -/
def Group.chokeEn (g : Group) : Bool := bit g.cfg0 31
/-- SPILL_NODE (R160). -/
def Group.spillNode (g : Group) : Nat := bits g.cfg1 0 12
/-- SPILL_GROUP. -/
def Group.spillGroup (g : Group) : Nat := bits g.cfg1 12 6
/-- SPILL_MODE. -/
def Group.spillMode (g : Group) : Nat := bits g.cfg1 18 2
/-- SPILL_LAT. -/
def Group.spillLat (g : Group) : Nat := bits g.cfg1 20 4
/-- RELEASE_LIMIT in tu, none when 0. -/
def Group.relLimit (g : Group) : Option Nat :=
  let x := bits g.cfg1 24 7
  if x = 0 then none else some (nsTu (500000000 * x))
/-- END_EVT. -/
def Group.endEvt (g : Group) : Bool := bit g.cfg1 31

/-- States that count against LIMIT (R156). -/
def counted (st : Nat) : Bool := st == 1 || st == 2 || st == 3 || st == 6 || st == 7
/-- CASTING, SOUNDING or RELEASING. -/
def active (st : Nat) : Bool := st == 1 || st == 2 || st == 3
/-- COUNT of group `g`. -/
def State.gcount (s : State) (g : Nat) : Nat :=
  (allSlots.filter (fun v => counted (s.slot v).st && (s.slot v).group == g)).length

/-- AVAIL of voice core `c`: in service and not draining (R158, R163, R190). -/
def State.avail (s : State) (c : Nat) : Bool := !s.al.draining.contains c && !s.al.away.contains c
/-- R152: slots that can be cast into at the rate. -/
def State.castable (s : State) (v : Nat) : Bool := s.fs < 4 || v % 16 < 8

/-! ### Records -/

/-- A VOICE record (R193): reason 1 STOLEN, 2 END, 3 LOST, 4 TAIL_CUT. -/
def State.voiceRec (s : State) (t reason g handle nid : Nat) : State :=
  s.eventAt t 0x30 60 g reason (pay 16 handle + pay 20 nid)
/-- A PARK record (R193). (Log: 41 DEDUCED.) -/
def State.parkRec (s : State) (reason g handle nid status : Nat) : State :=
  s.event 0x32 62 g reason (pay 16 handle + pay 20 nid + pay 24 status)

/-! ### Freeing -/

/-- A SPILL frame (R423). -/
def State.spillMsg (s : State) (node msg pid num handle status fs bs sl nret : Nat) (desc : List (BitVec 8)) : State :=
  (s.sendTo 1 10 node (leBytes 1 msg ++ leBytes 1 pid ++ leBytes 2 num ++ leBytes 4 handle ++ leBytes 1 status ++ leBytes 1 fs
    ++ leBytes 1 bs ++ leBytes 1 sl ++ leBytes 1 nret ++ leBytes 3 0 ++ desc) none).1

/-- A voice of a spill lane ends: END with status 1 ended, 2 stolen, 3 lost (R424). -/
def State.laneEnd (s : State) (v : Voice) (handle status : Nat) : State :=
  match v.spill with
  | some (node, pid, num) => s.spillMsg node 8 pid num handle status 0 0 0 0 []
  | none => s


/-- The entry becomes FREE with its generation incremented (R153). -/
def State.freeEnt (s : State) (e : Nat) : State := s.setEnt e (Voice.free (((s.ent e).gen + 1) % 2 ^ 16))

/-- A voice of entry `e` has ended by R193: it is freed, with a VOICE_END record under END_EVT. -/
def State.endEnt (s : State) (e t : Nat) : State :=
  let v := s.ent e
  let s' := if (s.group v.group).endEvt then s.voiceRec t 2 v.group (s.handle e) v.nid else s
  (s'.laneEnd v (s.handle e) 1).freeEnt e

/-- A ramp to silence from `t` over the voice's group's STEAL_RAMP (R176). -/
def State.rampOut (s : State) (v : Voice) (t : Nat) : Voice :=
  { v with ramps := ⟨t, (s.group v.group).ramp, false, false⟩ :: v.ramps }

/-- End a voice in place: STEALING from `t` (R157, R176, R179). (Log: 142 DEDUCED.) -/
def State.endInPlace (s : State) (e t : Nat) (why : EndWhy) : State :=
  let v := s.ent e
  let keep := match why with
    | .park _ _ => v.held
    | _ => false
  s.setEnt e { s.rampOut v t with st := 4, held := keep, retrig := [], why := why }

/-- A choke of entry `e` at `t` in tu (R180, R182, R184); whether it acted. A migrating voice keeps its state until the
outcome, one that ramps already its ramp; a parked voice that is being sent ends at once. (Log: 142 DEDUCED.) -/
def State.chokeEnt (s : State) (e t : Nat) : State × Bool :=
  let v := s.ent e
  match v.st with
  | 1 => ((s.laneEnd v (s.handle e) 1).freeEnt e, true)
  | 2 => (s.endInPlace e t .choke, true)
  | 3 => (s.endInPlace e t .choke, true)
  | 4 => match v.why with
    | .park q _ => (s.setEnt e { v with why := .park q true }, true)
    | _ => (s, true)
  | 5 => (s.endEnt e (tuNs t), true)
  | 6 => if 256 ≤ e then (s.endEnt e (tuNs t), true)
    else if v.why = .none then (s.setEnt e { s.rampOut v t with held := false, prevSt := 4, why := .choke }, true) else (s, true)
  | 7 => if v.why = .none then (s.setEnt e { s.rampOut v t with held := false, prevSt := 4, why := .choke }, true) else (s, true)
  | _ => (s, false)

/-! ### Choosing (R168 to R173) -/

/-- Lexicographic order of ranks. (Log: 93 DEDUCED.) -/
def lexLt : List Nat → List Nat → Bool
  | [], [] => false
  | [], _ :: _ => true
  | _ :: _, [] => false
  | a :: as, b :: bs => a < b || (a == b && lexLt as bs)

/-- The element with the least rank. (Log: 93 DEDUCED.) -/
def argmin {α : Type} (rank : α → List Nat) : List α → Option α
  | [] => none
  | x :: xs => match argmin rank xs with
    | none => some x
    | some y => if lexLt (rank y) (rank x) then some y else some x

/-- Non-FREE slots of core `c`. -/
def State.coreUsed (s : State) (c : Nat) : Nat := ((List.range 16).filter (fun i => (s.slot (16 * c + i)).st != 0)).length

/-- The free slot a cast takes (R168). -/
def State.freeSlot (s : State) : Option Nat :=
  argmin (fun v => [s.coreUsed (v / 16), v]) (allSlots.filter (fun v =>
    (s.slot v).st == 0 && s.castable v && s.avail (v / 16)))

/-- LOUD as a number for ranking; +infinity for one that has not rendered, and above it for CASTING (R170, R171). -/
def Voice.loudRank (v : Voice) : Nat :=
  if v.st = 1 then 2 ^ 32 + 1 else match v.loud with
    | none => 2 ^ 32
    | some x => (fAbsol x).toNat

/-- p_key as the allocator reads it: that of the latest retrigger applied at a boundary (R177). (Log: 93 DEDUCED.) -/
def Voice.pkey (v : Voice) : F32 := v.acts.foldl (fun k a => match a.2 with | .retrig key _ _ => key | _ => k) v.key

/-- Rank of oldest(C) (R171). -/
def Voice.ageRank (v : Voice) (slot : Nat) : List Nat := [b2n (v.st == 1), v.castT, slot]

/-- oldest(C). (Log: 29 DEDUCED.) -/
def State.oldest (s : State) (c : List Nat) : Option Nat := argmin (fun v => (s.slot v).ageRank v) c
/-- quietest(C). -/
def State.quietest (s : State) (c : List Nat) : Option Nat :=
  argmin (fun v => (s.slot v).loudRank :: (s.slot v).ageRank v) c

/-- choose(C, policy, released_first, key) (R171). (Log: 93 DEDUCED.) -/
def State.choose (s : State) (c : List Nat) (policy : Nat) (relFirst : Bool) (key : F32) : Option Nat :=
  let k := if policy = 3 then c.filter (fun v => (s.slot v).pkey == key) else []
  if !k.isEmpty then s.oldest k
  else
    let r := c.filter (fun v => (s.slot v).st == 3)
    let c := if relFirst && !r.isEmpty then r else c
    match policy with
    | 1 => s.quietest c
    | 2 =>
      let low := c.foldl (fun m v => min m (s.slot v).vpri) 7
      s.quietest (c.filter (fun v => (s.slot v).vpri == low))
    | _ => s.oldest c

/-- R170: slots whose voice can be stolen. -/
def State.stealable (s : State) : List Nat :=
  allSlots.filter (fun v => active (s.slot v).st && (s.slot v).retrig.isEmpty && s.avail (v / 16))

/-- The victim in the candidates `c` of group `o`, none under POLICY NONE (R172). -/
def State.victimOf (s : State) (o : Nat) (c : List Nat) (key : F32) : Option Nat :=
  let g := s.group o
  if g.policy = 4 then none else s.choose (c.filter (fun v => (s.slot v).group == o)) g.policy g.relFirst key

/-- The module-wide victim of a cast into group `g` (R169). -/
def State.victimAll (s : State) (g : Nat) (key : F32) : Option Nat :=
  let pr (v : Nat) : Nat := (s.group (s.slot v).group).priority
  let own := (s.group g).priority
  let c := s.stealable.filter (fun v => pr v ≤ own && (s.group (s.slot v).group).policy != 4)
  let low := c.filter (fun v => pr v < own)
  let c := if low.isEmpty then c else low
  let lp := c.foldl (fun m v => min m (pr v)) 7
  let c := c.filter (fun v => pr v == lp)
  match argmin (fun o => [256 - s.gcount o, o]) ((List.range 64).filter (fun o => c.any (fun v => (s.slot v).group == o))) with
  | none => none
  | some o => s.victimOf o c key

/-- Where a voice of group `g` goes (R168, R169): a free slot, a victim's slot, or none. -/
inductive Place where
  /-- A free slot. -/
  | free (v : Nat)
  /-- The slot of a victim. -/
  | steal (v : Nat)
  /-- No slot can be had. -/
  | none
deriving DecidableEq, Repr

/-- A steal is needed for group `g`: it is at its limit, or no slot is free (R169). -/
def State.needSteal (s : State) (g : Nat) : Bool := decide ((s.group g).limit ≤ s.gcount g) || s.freeSlot.isNone

/-- The slot for a new voice of group `g`. LIMIT 0 closes the group (R159). The policy of a module-wide steal is that of the
victim's group (R169 step 5, R172). (Log: 151 DEDUCED.) -/
def State.place (s : State) (g : Nat) (key : F32) : Place :=
  let gr := s.group g
  if gr.limit = 0 then .none
  else if gr.limit ≤ s.gcount g then
    match s.victimOf g s.stealable key with
    | some v => .steal v
    | none => .none
  else match s.freeSlot with
    | some v => .free v
    | none => match s.victimAll g key with
      | some v => .steal v
      | none => .none

/-! ### Steal ramps and tails (R174, R175) -/

/-- When a ramp to silence of the voice completes, the first of them; crossfades of a migration are none of them (R176). -/
def Voice.rampEnd (v : Voice) : Nat :=
  match v.ramps.filter (fun r => !r.up && !r.quarter) with
  | r :: l => l.foldl (fun m x => min m (x.t0 + x.len)) (r.t0 + r.len)
  | [] => 0

/-- The tail of core `c` that a victim takes, cutting one when all four are used. -/
def State.tailFor (s : State) (c : Nat) : Nat × State :=
  let ks := (List.range 4).map (fun i => 4 * c + i)
  match ks.find? (fun k => (s.tail k).st == 0) with
  | some k => (k, s)
  | none =>
    let k := (argmin (fun k => [(s.tail k).rampEnd, k]) ks).getD (4 * c)
    let v := s.tail k
    (k, ((s.count Reg.AL_CNT_TAILCUT 1).setTail k (Voice.free 0)).voiceRec s.ns 4 v.group v.tailOf v.nid)

/-- Replacement steal of slot `v` for a voice whose time is `t` (R174, R175): slot `v` is left FREE, its GEN incremented. -/
def State.steal (s : State) (v t : Nat) : State :=
  let x := s.slot v
  let ts := (t + s.fper - 1) / s.fper * s.fper
  let s := s.count Reg.AL_CNT_STEAL 1
  let s :=
    if x.st = 1 then s
    else
      let (k, s) := s.tailFor (v / 16)
      s.setTail k { s.rampOut x ts with st := 4, held := false, why := .steal, tailOf := s.handle v }
  ((s.voiceRec (tuNs ts) 1 x.group (s.handle v) x.nid).laneEnd x (s.handle v) 2).freeEnt v

/-- Shed order (R173). -/
def State.shedRank (s : State) (v : Nat) : List Nat :=
  let x := s.slot v
  let g := s.group x.group
  [b2n (g.policy == 4), g.priority, x.vpri, x.loudRank, x.castT, v]

/-- Take the first `n` by rank. -/
def takeBy (rank : Nat → List Nat) : Nat → List Nat → List Nat
  | 0, _ => []
  | n + 1, l => match argmin rank l with
    | none => []
    | some x => x :: takeBy rank n (l.filter (fun y => y != x))

/-- The voices a batch takes: SOUNDING and RELEASING ones (R173, R208), none with a retrigger pending (R177). -/
def State.shedBatch (s : State) (n : Nat) : List Nat :=
  takeBy s.shedRank n (allSlots.filter (fun v =>
    ((s.slot v).st == 2 || (s.slot v).st == 3) && (s.slot v).retrig.isEmpty))

/-- Shed slot `v` from `t` (R173, R208). -/
def State.shedOne (s : State) (t v : Nat) : State :=
  let x := s.slot v
  (((s.endInPlace v t .shed).count Reg.AL_SCH_CNT_SHED 1).voiceRec (tuNs t) 1 x.group (s.handle v) x.nid).laneEnd x (s.handle v) 2

/-! ### Programs in use -/

/-- The parameter entry of a table as a specification (R289). -/
def PEntry.spec (tab : List PEntry) (e : PEntry) : PSpec :=
  { kind := match e.typ with
      | 0 => .real (BitVec.ofNat 32 e.lo) (BitVec.ofNat 32 e.hi)
      | 1 => .enum e.lo e.hi
      | 2 => .source
      | _ => .own ((tab.filter (fun x => bit x.flags 0)).map (fun x => x.id))
    dflt := e.dflt, mod := bit e.flags 0 }

/-- The program in slot `n`. -/
def State.prog (s : State) (n : Nat) : Option Program := Tbl.get none s.progs n
/-- The live, not unloading voice program with a UID (R304). -/
def State.progByUid (s : State) (uid : Nat) : Option Program :=
  ((List.range 16).filterMap s.prog).find? (fun p => p.uid == uid && p.kind == 1)

/-- The slot of that program; 0 for the armature. -/
def State.slotOfUid (s : State) (uid : Nat) : Nat :=
  ((List.range 16).find? (fun n => (s.prog n).any (fun p => p.uid == uid && p.kind == 1))).getD 0

/-- Number of instances a hook has (R296). -/
def hookCount (hook : Nat) : Nat := match hook with
  | 1 => 4
  | 2 => 2
  | _ => 1

/-- Parameters that stages add to the armature (R296). -/
def State.stageParam (s : State) (id : Nat) : Option PSpec :=
  match s.prog ((id - 0x7000) / 0x100) with
  | some p =>
    if p.kind = 2 ∧ id / 0x40 % 4 < hookCount p.hook then (p.params.find? (fun e => e.id == id % 0x40)).map (PEntry.spec p.params) else none
  | none => none

/-- Parameters of the voice program with a UID; 0 = the armature with its stages (R91, R295, R296). -/
def State.voiceParams (s : State) (uid id : Nat) : Option PSpec :=
  if uid = 0 then (if 0x7000 ≤ id ∧ id < 0x8000 then s.stageParam id else armParam id)
  else match s.progByUid uid with
    | some p => (p.params.find? (fun e => e.id == id)).map (PEntry.spec p.params)
    | none => none

/-- The hook a parameter of the armature selects: 1 MODE, 2 filter TYPE, 3 shaper TYPE. -/
def hookOf (id : Nat) : Nat :=
  if id = 0 ∨ id = 0x100 ∨ id = 0x200 ∨ id = 0x300 then 1
  else if id = 0x1000 ∨ id = 0x1100 then 2 else if id = 0x2000 then 3 else 0

/-- A loaded stage takes this hook value (R292, R293). -/
def State.hookValid (s : State) (hook val : Nat) : Bool :=
  hook != 0 && ((List.range 16).filterMap s.prog).any (fun p =>
    p.kind == 2 && p.live && p.unl.isNone && p.hook == hook && p.hookVal == val)

/-- Check a value for a voice program. -/
def State.checkVal (s : State) (uid id v : Nat) : PRes :=
  if uid = 0 ∧ s.hookValid (hookOf id) v then .ok v else checkParam (s.voiceParams uid) id v

/-- UID of the program bound to group `g` (R287). -/
def State.boundUid (s : State) (g : Nat) : Nat := match s.prog (s.group g).bind with
  | some p => p.uid
  | none => 0

/-- Check `n` pairs of a descriptor from byte `b`; the values to store, or the failing index and its status. -/
def State.checkPairs (s : State) (uid d b : Nat) : Nat → Nat → Except (Nat × Nat) (List (Nat × Nat))
  | 0, _ => .ok []
  | n + 1, i =>
    match s.checkVal uid (dfield d (b + 8 * i) 2) (dfield d (b + 8 * i + 4) 4) with
    | .badParam => .error (i, 4)
    | .badValue => .error (i, 3)
    | .ok v => match s.checkPairs uid d b n (i + 1) with
      | .ok l => .ok ((dfield d (b + 8 * i) 2, v) :: l)
      | .error e => .error e

/-! ### Voice events -/

/-- Insert an event in order of time, after those of the same time. -/
def insAct (t : Nat) (a : VAct) : List (Nat × VAct) → List (Nat × VAct)
  | [] => [(t, a)]
  | (t', a') :: l => if t < t' then (t, a) :: (t', a') :: l else (t', a') :: insAct t a l

/-- Add an event to a voice. -/
def Voice.addAct (v : Voice) (t : Nat) (a : VAct) : Voice := { v with acts := insAct t a v.acts }

/-- Release entry `e` at `t` with a release velocity, by the command accepted as number `seq` (R178, R179); whether it acted.
(Log: 30 DEDUCED.) -/
def State.releaseEnt (s : State) (e t : Nat) (rv : F32) (seq : Nat) : State × Bool :=
  let v := s.ent e
  if v.st = 5 ∨ (v.st = 6 ∧ 256 ≤ e) then (s.endEnt e (tuNs t), true)
  else if v.st = 1 ∨ v.st = 2 ∨ v.st = 6 then
    if (s.group v.group).hold then (s.setEnt e { v with held := true, heldVel := rv }, true)
    else
      let t := if v.st = 1 then max t v.castT else t
      let v' := { v.addAct t (.release rv seq) with relT := some t, held := false }
      (s.setEnt e (if v.st = 2 then { v' with st := 3 } else if v.st = 6 then { v' with prevSt := 3 } else v'), true)
  else (s, false)

/-- Entries an address names (R178, R323), before a command's own test of the state; a stale handle is counted.
(Log: 34 DEDUCED.) -/
def State.address (s : State) (amode group target : Nat) : State × List Nat :=
  match amode with
  | 0 => match s.lookup target with
    | some e => (s, if (s.ent e).st = 0 then [] else [e])
    | none => (s.count Reg.AL_CNT_STALE 1, [])
  | 1 => (s, allEnts.filter (fun e => (s.ent e).st != 0 && (s.ent e).nid == target))
  | 2 => (s, allEnts.filter (fun e => (s.ent e).st != 0 && (s.ent e).group == group
      && (s.ent e).pkey == BitVec.ofNat 32 target))
  | _ => (s, allEnts.filter (fun e => (s.ent e).st != 0 && (s.ent e).group == group))

/-- Apply an operation to entries in order, counting those it acts on. (Log: 34 DEDUCED.) -/
def State.eachEnt (s : State) (es : List Nat) (f : State → Nat → State × Bool) : State × Nat :=
  es.foldl (fun (acc : State × Nat) e => let (s, b) := f acc.1 e; (s, acc.2 + b2n b)) (s, 0)

end Sys2Proof.Machine
end

