-- ==== Sys2Proof/Machine/MemOps.lean ====
section
/-!
DEFINITION. Shared SRAM, DRAM and circular windows (R486 to R505).
-/
namespace Sys2Proof.Machine

/-- Replace the memory system's state. -/
def State.setMs (s : State) (f : MemSys → MemSys) : State := { s with ms := f s.ms }

/-! ### Banks and errors (R486 to R491, R503) -/

/-- Bank of an SRAM address. -/
def bankOf (a : Nat) : Nat := a / 0x80000
/-- SRAM bytes. -/
def sramBytes : Nat := 0x1800000
/-- DRAM bytes. -/
def dramBytes : Nat := 0x200000000
/-- Bank `b` is ON (R491). -/
def State.bankOn (s : State) (b : Nat) : Bool := s.get (Reg.MEM_BANK_STATE b) == 2

/-- Record the address of an uncorrectable error, unless one is recorded (R490, R503). -/
def State.errAddr (s : State) (space a : Nat) : State :=
  if s.on Reg.MEM_ERR_ADDR_HI_VALID then s
  else ((((s.put Reg.MEM_ERR_ADDR_LO a).put Reg.MEM_ERR_ADDR_HI_A32 (a / 2 ^ 32)).put Reg.MEM_ERR_ADDR_HI_SPACE space)).set1 Reg.MEM_ERR_ADDR_HI_VALID

/-- An uncorrectable SRAM error found at an address (R490). -/
def State.sramUe (s : State) (a : Nat) : State := ((s.set1 Reg.MEM_FLAGS_SRAM_UE).count Reg.MEM_CNT_SRAM_UE 1).errAddr 0 a
/-- An uncorrectable DRAM error found (R503). -/
def State.dramUe (s : State) (a : Nat) : State := ((s.set1 Reg.MEM_FLAGS_DRAM_UE).count Reg.MEM_CNT_DRAM_UE 1).errAddr 1 a

/-- Row key of an SRAM address: 512 x bank + row (R501). -/
def rowOf (a : Nat) : Nat := a / 1024

/-- An access to the 8-byte SRAM word of address `a`: a single-bit error is corrected and counted; whether the word is
spoilt (R490). -/
def State.sramTouch (s : State) (a : Nat) : State × Bool :=
  let w := a / 8
  let s := if s.ms.sramSoft.contains w then
      (s.count Reg.MEM_CNT_SRAM_CE 1).setMs (fun m => { m with
        sramSoft := m.sramSoft.filter (fun x => x != w)
        rowErr := Tbl.put 0 m.rowErr (rowOf a) (Tbl.get 0 m.rowErr (rowOf a) + 1) })
    else s
  if s.ms.sramBad.contains w then (s.sramUe (8 * w), true) else (s, false)

/-- The same for a DRAM word (R503). -/
def State.dramTouch (s : State) (a : Nat) : State × Bool :=
  let w := a / 8
  let s := if s.ms.dramSoft.contains w then
      (s.count Reg.MEM_CNT_DRAM_CE 1).setMs (fun m => { m with dramSoft := m.dramSoft.filter (fun x => x != w) })
    else s
  if s.ms.dramBad.contains w then (s.dramUe (8 * w), true) else (s, false)

/-- A write of `n` bytes at an SRAM address within one 64-bit word: a full one replaces a spoilt word, a partial one is
dropped (R490). (Log: 89 DEDUCED.) -/
def State.sramWrite (s : State) (a : Nat) (b : List (BitVec 8)) : State :=
  if b.length = 8 ∧ a % 8 = 0 then
    { s with sram := s.sram.setBytes a b }.setMs (fun m => { m with
      sramBad := m.sramBad.filter (fun x => x != a / 8), sramSoft := m.sramSoft.filter (fun x => x != a / 8) })
  else
    let (s, bad) := s.sramTouch a
    if bad then s.set1 Reg.MEM_FLAGS_RMW_DROP else { s with sram := s.sram.setBytes a b }

/-- Write bytes at any SRAM address, word by word (R490). -/
def State.sramWriteAll (s : State) (a : Nat) (b : List (BitVec 8)) : State :=
  go (b.length / 8 + 2) s a b
where
  /-- One 64-bit word after another. -/
  go : Nat → State → Nat → List (BitVec 8) → State
    | 0, s, _, _ => s
    | fuel + 1, s, a, b =>
      if b.isEmpty then s
      else
        let n := 8 - a % 8
        go fuel (s.sramWrite a (b.take n)) (a + (b.take n).length) (b.drop n)

/-- A write of bytes to DRAM; a full 64-bit word removes its error (R503). -/
def State.dramWrite (s : State) (a : Nat) (b : List (BitVec 8)) : State :=
  let full (w : Nat) : Bool := decide (a ≤ 8 * w ∧ 8 * w + 8 ≤ a + b.length)
  { s with dram := s.dram.setBytes a b }.setMs (fun m => { m with
    dramBad := m.dramBad.filter (fun x => !full x), dramSoft := m.dramSoft.filter (fun x => !full x) })

/-- The first spoilt SRAM word in a range, whose bytes are then good only below it (R490). (Log: 89 DEDUCED.) -/
def State.sramSpoilt (s : State) (a n : Nat) : Option Nat :=
  (s.ms.sramBad.filter (fun w => decide (a < 8 * w + 8 ∧ 8 * w < a + n))).foldl (fun m w => some (match m with | some x => min x w | none => w)) none
/-- The first spoilt DRAM word in a range. (Log: 89 DEDUCED.) -/
def State.dramSpoilt (s : State) (a n : Nat) : Option Nat :=
  (s.ms.dramBad.filter (fun w => decide (a < 8 * w + 8 ∧ 8 * w < a + n))).foldl (fun m w => some (match m with | some x => min x w | none => w)) none

/-- A read of `n` bytes of SRAM corrects every single-bit error it meets (R490). (Log: 89 DEDUCED.) -/
def State.sramFix (s : State) (a n : Nat) : State :=
  (s.ms.sramSoft.filter (fun w => decide (a < 8 * w + 8 ∧ 8 * w < a + n))).foldl (fun s w => (s.sramTouch (8 * w)).1) s
/-- The same for DRAM (R503). (Log: 89 DEDUCED.) -/
def State.dramFix (s : State) (a n : Nat) : State :=
  (s.ms.dramSoft.filter (fun w => decide (a < 8 * w + 8 ∧ 8 * w < a + n))).foldl (fun s w => (s.dramTouch (8 * w)).1) s

/-! ### Bank power (R491) -/

/-- A window that is enabled, or pending enable, lies in bank `b` (R491). -/
def State.winInBank (s : State) (b : Nat) : Bool :=
  (List.range 64).any (fun w =>
    let p (f : Nat) (live : Nat) : Nat := (Tbl.get none s.ms.winPend (8 * w + f)).getD live
    let inBank (sp base len : Nat) : Bool := sp == 0 && decide (4 * base < (b + 1) * 0x80000 ∧ b * 0x80000 < 4 * (base + len))
    (s.on (Reg.MEM_WIN_CTRL_EN w) && inBank (s.get (Reg.MEM_WIN_CTRL_SPACE w)) (s.get (Reg.MEM_WIN_BASE w)) (s.get (Reg.MEM_WIN_LEN w)))
      || (p 0 (s.get (Reg.MEM_WIN_CTRL_EN w)) == 1 && inBank (p 1 (s.get (Reg.MEM_WIN_CTRL_SPACE w)))
        (p 2 (s.get (Reg.MEM_WIN_BASE w))) (p 3 (s.get (Reg.MEM_WIN_LEN w)))))

/-- The contents of bank `b` become zeros without errors. -/
def State.bankZero (s : State) (b : Nat) : State :=
  { s with sram := s.sram.clear (b * 0x80000) 0x80000 }.setMs (fun m => { m with
    sramBad := m.sramBad.filter (fun w => bankOf (8 * w) != b), sramSoft := m.sramSoft.filter (fun w => bankOf (8 * w) != b) })

/-- The PWR change itself: RETAIN keeps the contents, OFF loses them; a power-up from OFF waits for its end (R491).
(Log: 88 DEDUCED.) -/
def State.bankGo (s : State) (b p : Nat) : State :=
  let st := s.get (Reg.MEM_BANK_STATE b)
  let s := s.put (Reg.MEM_BANK_PWR b) p
  if p = 0 then (s.put (Reg.MEM_BANK_STATE b) 0).bankZero b
  else if st = 0 then s
  else s.put (Reg.MEM_BANK_STATE b) p

/-- A power-up of bank `b` is complete: every word is 0 (R491). -/
def State.bankUp (s : State) (b : Nat) : State :=
  let p := s.get (Reg.MEM_BANK_PWR b)
  if s.get (Reg.MEM_BANK_STATE b) = 0 ∧ p ≠ 0 then (s.bankZero b).put (Reg.MEM_BANK_STATE b) p else s

/-! ### Windows (R493 to R495) -/

/-- The active value of a window field: 0 EN, 1 SPACE, 2 BASE, 3 LEN, 4 PTR, 5 STEP. -/
def winFld (w f : Nat) : Fld :=
  match f with
  | 0 => Reg.MEM_WIN_CTRL_EN w
  | 1 => Reg.MEM_WIN_CTRL_SPACE w
  | 2 => Reg.MEM_WIN_BASE w
  | 3 => Reg.MEM_WIN_LEN w
  | 4 => Reg.MEM_WIN_PTR w
  | _ => Reg.MEM_WIN_CTRL_STEP w

/-- Active value of a window field. -/
def State.win (s : State) (w f : Nat) : Nat := s.get (winFld w f)
/-- The value a field will have after the boundary, PTR apart. -/
def State.winNext (s : State) (w f : Nat) : Nat := (Tbl.get none s.ms.winPend (8 * w + f)).getD (s.win w f)

/-- R493: the fields as they will stand make a legal window, which lies somewhere once it is in use; a written PTR lies below
LEN. (Log: 154 DEDUCED.) -/
def State.winLegal (s : State) (w : Nat) : Bool :=
  let base := s.winNext w 2
  let len := s.winNext w 3
  let ptrOk := match Tbl.get none s.ms.winPend (8 * w + 4) with
    | some p => decide (p < len)
    | none => true
  let place := if s.winNext w 0 = 0 then true
    else if s.winNext w 1 = 0 then decide (4 * (base + len) ≤ 45 * 0x80000)
    else decide (0x10000 ≤ 4 * base ∧ 4 * (base + len) ≤ dramBytes)
  decide (1 ≤ len) && ptrOk && place

/-- A write of window fields: pending, or refused as a whole (R494). -/
def State.writeWin (s : State) (w : Nat) (fs : List (Nat × Nat)) : State :=
  let s' := s.setMs (fun m => { m with winPend := fs.foldl (fun t e => Tbl.put none t (8 * w + e.1) (some e.2)) m.winPend })
  if s'.winLegal w then s' else s.set1 Reg.MEM_FLAGS_WIN_REFUSED

/-- A write of a window register: 0 BASE, 1 LEN, 2 PTR, 3 CTRL. -/
def State.writeWinReg (s : State) (w r v : Nat) : State :=
  s.writeWin w (match r with
    | 0 => [(2, bits v 0 31)]
    | 1 => [(3, bits v 0 24)]
    | 2 => [(4, bits v 0 24)]
    | _ => [(0, bits v 0 1), (1, bits v 1 1), (5, bits v 8 7)])

/-- The word a read of a window register returns: pending values first, PTR active (R504). -/
def State.readWinReg (s : State) (w r : Nat) : Nat :=
  match r with
  | 0 => s.winNext w 2
  | 1 => s.winNext w 3
  | 2 => s.win w 4
  | _ => s.winNext w 0 + 2 * s.winNext w 1 + 256 * s.winNext w 5

/-- One descriptor at a render boundary (R494). -/
def State.winStep (s : State) (w : Nat) : State :=
  let ptr := match Tbl.get none s.ms.winPend (8 * w + 4) with
    | some p => p
    | none => (s.win w 4 + s.win w 5) % max 1 (s.win w 3)
  let s' := [0, 1, 2, 3, 5].foldl (fun (t : State) f => t.put (winFld w f) (s.winNext w f)) s
  (s'.put (winFld w 4) (ptr % max 1 (s'.win w 3))).setMs (fun m => { m with winPend := Tbl.drop (fun k => k / 8 == w) m.winPend })

/-- The snapshot entry of window `w` (R495). (Log: 90 DEDUCED.) -/
def State.winSnap (s : State) (w : Nat) : State :=
  let e := leBytes 4 (s.win w 4) ++ leBytes 4 (s.win w 3) ++ leBytes 4 (s.win w 2) ++ leBytes 1 (s.win w 0 + 2 * s.win w 1) ++ leBytes 3 0
  { s with sram := s.sram.setBytes (0x177FC00 + 16 * w) e }

/-- Every descriptor at a boundary, then the snapshot (R494, R495). -/
def State.windows (s : State) : State :=
  let s := (List.range 64).foldl State.winStep s
  (List.range 64).foldl State.winSnap s

/-- The byte address of word `o` of window `w`, with its space. (Log: 91 DEDUCED.) -/
def State.winAddr (s : State) (w : Nat) (o : Int) : Nat × Nat :=
  (s.win w 1, 4 * (s.win w 2 + (o % ((max 1 (s.win w 3) : Nat) : Int)).toNat))

/-- Read a word of a window as the mix section does; one with EN = 0 holds nothing (R493). -/
def State.winRead (s : State) (w : Nat) (o : Int) : BitVec 32 :=
  let (sp, a) := s.winAddr w o
  BitVec.ofNat 32 (if s.win w 0 = 0 then 0 else if sp = 0 then s.sram.nat a 4 else s.dram.nat a 4)
/-- Write a word of a window. (Log: 91 DEDUCED.) -/
def State.winWrite (s : State) (w : Nat) (o : Int) (v : BitVec 32) : State :=
  let (sp, a) := s.winAddr w o
  if s.win w 0 = 0 then s
  else if sp = 0 then { s with sram := s.sram.setNat a 4 v.toNat } else { s with dram := s.dram.setNat a 4 v.toNat }

end Sys2Proof.Machine
end

