-- ==== Sys2Proof/Machine/MixOps.lean ====
section
/-!
DEFINITION. The mix section's parameters and route map: checks, storage, the values in force at a frame (R220, R230 to R235, R297).
-/
namespace Sys2Proof.Machine

/-! ### Parameters (R230, R297) -/

/-- A real parameter. -/
def rp (lo hi d : F32) : Option PSpec := some ⟨.real lo hi, d.toNat, false⟩
/-- An enumeration. -/
def ep (lo hi d : Nat) : Option PSpec := some ⟨.enum lo hi, d, false⟩

/-- Bus parameters (R230). -/
def busParam (b pp : Nat) : Option PSpec :=
  match pp with
  | 0x00 => rp 0xC2F00000 0x41C00000 0
  | 0x01 => rp 0xC2F00000 0x41400000 0
  | 0x02 | 0x03 | 0x04 | 0x05 | 0x06 => ep 0 1 0
  | 0x20 => rp 0xC2700000 0 0xC1400000
  | 0x21 => rp 0x3F800000 0x41A00000 0x40800000
  | 0x22 => rp 0x38D1B717 0x3DCCCCCD 0x3BA3D70A
  | 0x23 => rp 0x3BA3D70A 0x40000000 0x3DCCCCCD
  | 0x24 => rp 0 0x41C00000 0x40C00000
  | 0x25 => rp 0 0x41C00000 0
  | _ =>
    if 0x10 ≤ pp ∧ pp < 0x20 then
      match pp % 4 with
      | 0 => ep 0 5 0
      | 1 => rp 0x41200000 0x469C4000 0x447A0000
      | 2 => rp 0xC1C00000 0x41C00000 0
      | _ => rp 0x3DCCCCCD 0x41A00000 0x3F34FDF4
    else if 0x30 ≤ pp ∧ pp < 0x40 then
      match pp % 4 with
      | 0 => if b ≤ 30 then ep 0 32 0 else ep 0 0 0
      | 1 => rp 0xC2F00000 0x41400000 0
      | 2 => ep 0 1 0
      | _ => none
    else none

/-- Delay-line parameters (R230). -/
def delayParam (d pp : Nat) : Option PSpec :=
  match pp with
  | 0x00 => ep 0 1 0
  | 0x01 => ep 0 30 0
  | 0x02 => ep 1 31 1
  | 0x03 => ep 0 63 d
  | 0x04 => rp 0 0x42700000 0x3E800000
  | 0x05 => rp 0 0x41200000 0x3D4CCCCD
  | 0x06 => rp 0xBF7D70A4 0x3F7D70A4 0
  | 0x07 => rp 0x42C80000 0x469C4000 0x469C4000
  | 0x08 => rp 0xC2F00000 0x41400000 0
  | _ => none

/-- Reverb parameters (R230). -/
def revParam (pp : Nat) : Option PSpec :=
  match pp with
  | 0x00 => ep 0 1 0
  | 0x01 => ep 0 29 0
  | 0x02 => ep 0 29 1
  | 0x03 => ep 1 31 2
  | 0x04 => ep 1 31 3
  | 0x05 => ep 0 63 16
  | 0x06 => rp 0x3E800000 0x40000000 0x3F800000
  | 0x07 => rp 0x3DCCCCCD 0x41F00000 0x40000000
  | 0x08 => rp 0x43FA0000 0x469C4000 0x45FA0000
  | 0x09 => rp 0 0x3E800000 0x3CA3D70A
  | 0x0A => rp 0xC2F00000 0x41400000 0xC0C00000
  | _ => none

/-- Raw value of a mix parameter in a table whose defaults `f` gives. -/
def rawIn (f : Nat → Option PSpec) (t : Tbl (Option Nat)) (id : Nat) : Nat := (Tbl.get none t id).getD (dfltParam f id)

/-- The effect program named by instance `e` in a table: its slot's live maquette (R286, R297). -/
def State.fxProg (s : State) (t : Tbl (Option Nat)) (e : Nat) : Option Program :=
  match s.prog ((Tbl.get none t (0xC000 + 256 * e)).getD 0) with
  | some p => if p.kind = 3 ∧ p.live then some p else none
  | none => none

/-- Parameters of effect instance `e` (R297). -/
def State.fxParam (s : State) (t : Tbl (Option Nat)) (e pp : Nat) : Option PSpec :=
  match pp with
  | 0x00 => ep 0 15 0
  | 0x01 => ep 0 1 0
  | 0x02 | 0x03 => ep 0 30 0
  | 0x04 | 0x05 => ep 1 31 1
  | 0x06 => ep 0 63 (32 + e)
  | _ =>
    if pp < 0x10 then none
    else match s.fxProg t e with
      | some p => (p.params.find? (fun x => x.id == pp)).map (PEntry.spec p.params)
      | none => none

/-- A parameter of a bus, a delay line or the reverb (R230). -/
def mixFixed (id : Nat) : Option PSpec :=
  let pp := id % 256
  if 0x8000 ≤ id ∧ id < 0xA000 then busParam (id / 256 - 0x80) pp
  else if 0xA000 ≤ id ∧ id < 0xB000 then delayParam (id / 256 - 0xA0) pp
  else if 0xB000 ≤ id ∧ id < 0xB100 then revParam pp
  else none

/-- A mix-section parameter (R230, R297). -/
def State.mixParam (s : State) (t : Tbl (Option Nat)) (id : Nat) : Option PSpec :=
  if 0xC000 ≤ id ∧ id < 0xC800 then s.fxParam t (id / 256 - 0xC0) (id % 256) else mixFixed id

/-- Raw value of a mix parameter in a table. -/
def State.mixRaw (s : State) (t : Tbl (Option Nat)) (id : Nat) : Nat := rawIn (s.mixParam t) t id

/-- Store a mix parameter: a change of PROGRAM puts the registered parameters to their defaults (R297). -/
def State.mixStore (s : State) (t : Tbl (Option Nat)) (id v : Nat) : Tbl (Option Nat) :=
  let t' := Tbl.put none t id (if v = dfltParam (s.mixParam t) id then none else some v)
  if 0xC000 ≤ id ∧ id % 256 = 0 ∧ v ≠ s.mixRaw t id then Tbl.drop (fun k => k / 256 == id / 256 && 0x10 ≤ k % 256) t' else t'

/-- R220, R224, R225, R227, R228, R297: the configuration has no loop and no shared window. -/
def State.mixValid (s : State) (t : Tbl (Option Nat)) : Bool :=
  let r (id : Nat) : Nat := s.mixRaw t id
  let sends := (List.range 32).all (fun b => (List.range 4).all (fun k =>
    let d := r (0x8030 + 256 * b + 4 * k)
    d == 0 || (decide (b + 2 ≤ d) && !(b % 2 == 0 && d == b + 2 && r (0x8006 + 256 * b) == 1 && r (0x8106 + 256 * b) == 1))))
  let delays := (List.range 16).all (fun d => decide (r (0xA001 + 256 * d) < r (0xA002 + 256 * d)))
  let rev := decide (max (r 0xB001) (r 0xB002) < min (r 0xB003) (r 0xB004))
  let fx := (List.range 8).all (fun e =>
    let p := r (0xC000 + 256 * e)
    decide (max (r (0xC002 + 256 * e)) (r (0xC003 + 256 * e)) < min (r (0xC004 + 256 * e)) (r (0xC005 + 256 * e)))
      && (p == 0 || ((s.fxProg t e).any (fun q => q.unl.isNone))))
  let wins := (List.range 16).map (fun d => r (0xA003 + 256 * d)) ++ [r 0xB005] ++ (List.range 8).map (fun e => r (0xC006 + 256 * e))
  sends && delays && rev && fx && (List.range wins.length).all (fun i => !(wins.drop (i + 1)).contains (wins.getD i 64))

/-- Check one mix value: enumerations, ranges, and PROGRAM's slot (R230, R297). -/
def State.mixCheck (s : State) (t : Tbl (Option Nat)) (id v : Nat) : PRes := checkParam (s.mixParam t) id v

/-- Check the pairs of a command against the mix section: the table as it will stand, or the failing index and status. -/
def State.mixPairs (s : State) (d b : Nat) : Nat → Nat → Tbl (Option Nat) → List (Nat × Nat) →
    Except (Nat × Nat) (Tbl (Option Nat) × List (Nat × Nat))
  | 0, i, t, l => if s.mixValid t then .ok (t, l) else .error (i - 1, 3)
  | n + 1, i, t, l =>
    match s.mixCheck t (dfield d (b + 8 * i) 2) (dfield d (b + 8 * i + 4) 4) with
    | .badParam => .error (i, 4)
    | .badValue => .error (i, 3)
    | .ok v => s.mixPairs d b n (i + 1) (s.mixStore t (dfield d (b + 8 * i) 2) v) (l ++ [(dfield d (b + 8 * i) 2, v)])

/-- Insert a change in order of its frame, after those of the same frame. -/
def insMix (n : Nat) (a : MixAct) : List (Nat × MixAct) → List (Nat × MixAct)
  | [] => [(n, a)]
  | (n', a') :: l => if n < n' then (n, a) :: (n', a') :: l else (n', a') :: insMix n a l

/-- Queue a change of the mix section for its frame. -/
def State.mixAct (s : State) (n : Nat) (a : MixAct) : State := s.setMix (fun m => { m with acts := insMix n a m.acts })

/-! ### The route map (R232, R233, R235) -/

/-- Parse an entry of 16 bytes (R232). -/
def parseRoute (d : Nat) : Route :=
  let g : F32 := BitVec.ofNat 32 (dfield d 4 4)
  ⟨dfield d 0 2, dfield d 2 2, if fFinite g then fClamp 0xC2F00000 0x41400000 g else g, dfield d 8 2, dfield d 10 1⟩
/-- Entry `n` as configured. -/
def State.routeEnt (s : State) (n : Nat) : Route := Tbl.get Route.empty s.mix.map n

/-- R233: the entry is empty or one of the valid pairings, with its fields in range. -/
def routeValid (d : Nat) : Bool :=
  let r := parseRoute d
  let st := rType r.src
  let dt := rType r.dst
  let reserved := dfield d 10 1 / 2 == 0 && dfield d 11 5 == 0
  if st = 0 ∧ dt = 0 then reserved
  else
    let srcOk := match st with
      | 1 => rIdx r.src < 32
      | 2 => rIdx r.src < 32
      | 3 => rIdx r.src < 512
      | 4 => true
      | _ => false
    let dstOk := match dt with
      | 1 => rIdx r.dst < 32
      | 2 => rIdx r.dst < 16
      | 3 => rIdx r.dst < 32
      | 4 => rIdx r.dst < 512
      | _ => false
    let pair := ((st == 2 || st == 3) && dt == 1) || (st == 1 && (dt == 2 || dt == 3 || dt == 4)) || (st == 4 && dt == 2)
    reserved && srcOk && dstOk && pair && r.align < 4096 && fFinite (BitVec.ofNat 32 (dfield d 4 4))

/-- A ROUTE record (R359). -/
def State.routeRec (s : State) (n reason displaced dst : Nat) : State :=
  s.event 0x28 56 n reason (pay 16 displaced + pay 18 dst)

/-- The entry an output destination is driven by, other than `n`. -/
def State.routeTo (s : State) (dst n : Nat) : Option Nat :=
  (List.range 256).find? (fun k => k != n && rType dst ≥ 2 && (s.routeEnt k).dst == dst)

/-- The feeds once entry `n`, until now `old`, is `r` from frame `k` (R235). (Log: 155 DEDUCED.) -/
def feedsNext (l : List Feed) (n k : Nat) (old r : Route) : List Feed :=
  let own (x : Feed) : Bool := x.entry == n && x.k1.isNone
  let out := l.flatMap (fun x => if own x then x.leave k else [x])
  let fresh (k0 : Nat) : Feed := ⟨n, r.src, r.dst, r.align, r.flags, k, none, k0, none, ⟨k0, 0, fOne⟩, ⟨k0, r.gain, r.gain⟩⟩
  if rType r.src = 0 ∨ rType r.dst = 0 then out
  else if old.dst ≠ r.dst ∨ (old.src ≠ r.src ∧ (rType old.src ≠ 4 ∨ rType r.src ≠ 4)) then out ++ [fresh k]
  else if old.align ≠ r.align then out ++ [fresh (k + 32)]
  else l.flatMap (fun x =>
    if own x then
      [{ x with k1 := some k, till := some k },
       { x with flags := r.flags, n0 := k, k0 := max k x.k0, gain := ⟨k, x.gain.val k, r.gain⟩ }]
    else [x])

/-- Store entry `n` and change its feeds from frame `k` (R235). -/
def State.putRoute (s : State) (n k : Nat) (r : Route) : State :=
  let old := s.routeEnt n
  s.setMix (fun m => { m with map := Tbl.put Route.empty m.map n r, feeds := feedsNext m.feeds n k old r })

/-- Apply an entry from a frame: an older entry that named the destination is displaced (R233, R235). -/
def State.applyRoute (s : State) (n frame : Nat) (r : Route) : State :=
  let s := match s.routeTo r.dst n with
    | some k => (s.putRoute k frame { s.routeEnt k with dst := 0 }).routeRec n 2 k r.dst
    | none => s
  (s.putRoute n frame r).routeRec n 1 0 r.dst

/-- The binary32 value of a signed 24-bit code held as code + 1 modulo 2^24. -/
def codeVal (c : Nat) : F32 := fRat (toS 24 (c - 1)) (2 ^ 23)

/-- The setting in force of receive (false) or transmit (true) stream `k` of space `n`: its register word as it stood at
the latest render start (R407). -/
def State.strm (s : State) (tx : Bool) (n k : Nat) : Nat := Tbl.get 0 s.sv.inForce (16 * n + 8 * b2n tx + k)

/-! ### Values in force (R231) -/

/-- Raw value in force. -/
def State.mc (s : State) (id : Nat) : Nat := s.mixRaw s.mix.cur id

/-- How far a change of 32 samples that acts at frame `k0` has come at frame `n`, from 0 to 1. -/
def gone32 (k0 n : Nat) : F32 := if n ≤ k0 then 0 else if k0 + 32 ≤ n then fOne else fRat (n - k0 : Nat) 32
/-- From `a` to `b` by the part `g`. -/
def blend (a b g : F32) : F32 := fAdd a (fMul (fSub b a) g)
/-- Old and new, crossfaded. -/
def cross (old new g : F32) : F32 := fAdd (fMul (fSub fOne g) old) (fMul g new)

/-- The changes of parameter `id` under way at frame `n`, oldest first. -/
def State.mixXr (s : State) (n id : Nat) : List MRamp := s.mix.xr.filter (fun r => r.id == id && decide (n < r.k0 + 32))

/-- Binary32 value in force at frame `n`, with RAMP_PARAM and the 32-sample ramp (R231). -/
def State.mv (s : State) (n id : Nat) : F32 :=
  let t := s.frameTime n
  let b : F32 := match s.mix.pramps.find? (fun r => r.id == id) with
    | some r =>
      if r.t0 + r.dur ≤ t then r.tgt else blend r.from_ r.tgt (fRat ((t - r.t0 : Nat) : Int) r.dur)
    | none => BitVec.ofNat 32 (s.mc id)
  match (s.mixXr n id).getLast? with
  | some r => blend (BitVec.ofNat 32 r.from_) b (gone32 r.k0 n)
  | none => b

/-- A switch in force as a factor: 1, 0, or the crossfade between. -/
def State.mSwitch (s : State) (n id : Nat) : F32 :=
  let new : F32 := if s.mc id = 1 then fOne else 0
  match (s.mixXr n id).getLast? with
  | some r => blend r.w new (gone32 r.k0 n)
  | none => new

/-- What a connection names with its factors: those it left on their way to 0, and the one it has (R231). -/
def State.mConn (s : State) (n id : Nat) : List (Nat × F32) :=
  let l := s.mixXr n id
  l.map (fun r => (r.from_, fMul r.w (fSub fOne (gone32 r.k0 n)))) ++ [(s.mc id, (l.getLast?.map (fun r => gone32 r.k0 n)).getD fOne)]

/-- A processor runs: it is enabled, or being switched off (R231). -/
def State.mRuns (s : State) (n id : Nat) : Bool := s.mc id == 1 || !(s.mixXr n id).isEmpty

/-- The fade-in after a processor's memory was cleared (R231). -/
def fadeIn (clear : Option Nat) (n : Nat) : F32 := (clear.map (fun k => gone32 k n)).getD fOne

/-- A change acts at frame `n`: how parameter `id` goes from what it was (R231). -/
def State.mixXfer (s : State) (r : MRamp) (alone : Bool) : State :=
  s.setMix (fun m => { m with xr := (if alone then m.xr.filter (fun x => x.id != r.id) else m.xr) ++ [r] })

/-- Store a value in force; it ends a RAMP_PARAM of the parameter. -/
def State.mixSet (s : State) (id v : Nat) : State :=
  s.setMix (fun m => { m with cur := s.mixStore m.cur id v, pramps := m.pramps.filter (fun r => r.id != id) })

end Sys2Proof.Machine
end

