-- ==== Sys2Proof/Machine/StOps.lean ====
section
/-!
DEFINITION. Self-test results and region tests, which every family that cuts a test short shares (R497 to R501, R525 to R529).
-/
namespace Sys2Proof.Machine

/-- Replace the self-test state. -/
def State.setSt (s : State) (f : SelfTest → SelfTest) : State := { s with st := f s.st }

/-- UNIT of a target code and a part (R525). -/
def stUnit (code part : Nat) : Nat := code + 256 * part
/-- Target code of a UNIT. -/
def unitCode (u : Nat) : Nat := u % 256
/-- Part of a UNIT. -/
def unitPart (u : Nat) : Nat := u / 256 % 16
/-- The UNITs R525 names: a core part, a bank, a channel's span, the references. -/
def unitValid (u : Nat) : Bool :=
  let c := unitCode u
  let p := unitPart u
  decide (u < 4096) && (if c < 20 then decide (p < 3) else if 0x20 ≤ c ∧ c < 0x50 then p == 0
    else if 0x50 ≤ c ∧ c < 0x60 then decide (p < 7) else c == 0x60 && p == 0)

/-- Expected count of one test of a UNIT; of one region for a bank (R526, R499). -/
def unitCount (u : Nat) : Nat :=
  let c := unitCode u
  if c < 20 then (if unitPart u = 0 then 65536 else 327680) else if c < 0x50 then 10240 else if c < 0x60 then 6 else 9

/-- Longest duration of a test in µs; `away`: the channel's span is not the one under test (R526). -/
def unitDur (u : Nat) (away : Bool) : Nat :=
  let c := unitCode u
  if c < 20 then (if unitPart u = 0 then 200 else 330) else if c < 0x50 then 20
  else if c < 0x60 then 290 + (if away then 70 else 0) else 150

/-- Write a result: the record, the counter, the latest result and the flags (R541 to R543). -/
def State.stResult (s : State) (src unit verdict sig count profile : Nat) : State :=
  let s := s.event 0x60 src unit verdict (pay 16 profile + pay 20 (sig % 2 ^ 32) + pay 24 (count % 2 ^ 32))
  let s := ((s.put Reg.ST_LAST_UNIT unit).put Reg.ST_LAST_VERDICT verdict).put Reg.ST_LAST_SIG sig
  let s := s.put Reg.ST_LAST_COUNT count
  match verdict with
  | 1 => s.count Reg.ST_CNT_PASS 1
  | 2 => (s.count Reg.ST_CNT_FAIL 1).set1 Reg.ST_FLAGS_FAIL
  | _ => (s.count Reg.ST_CNT_INCOMPLETE 1).set1 Reg.ST_FLAGS_INCOMPLETE

/-- The holds a verdict makes and ends (R529). (Log: 83 DEDUCED.) -/
def State.stHold (s : State) (unit verdict : Nat) : State :=
  let c := unitCode unit
  let upd (f : Fld) (n : Nat) : State :=
    if verdict = 2 then s.put f (s.get f ||| 2 ^ n)
    else if verdict = 1 ∧ bit (s.get f) n then s.put f (s.get f - 2 ^ n) else s
  if c < 20 then upd Reg.ST_HELD_CORE c else if 0x50 ≤ c ∧ c < 0x60 then upd Reg.ST_HELD_OUT (c - 0x50) else s

/-- Core `c` is held out of service. -/
def State.coreHeld (s : State) (c : Nat) : Bool := bit (s.get Reg.ST_HELD_CORE) c
/-- Channel `n` is held out of service. -/
def State.outHeld (s : State) (n : Nat) : Bool := bit (s.get Reg.ST_HELD_OUT) n

/-- What ST_STAT shows of the engine (R542). -/
def State.stShow (s : State) (active unit region : Nat) : State :=
  ((s.put Reg.ST_STAT_ACTIVE active).put Reg.ST_STAT_UNIT unit).put Reg.ST_STAT_REGION region

/-- The class of a target: 0 core, 1 memory, 2 analogue, 3 references. -/
def unitClass (u : Nat) : Nat :=
  let c := unitCode u
  if c < 20 then 0 else if c < 0x50 then 1 else if c < 0x60 then 2 else 3

/-- The number of positions of each class (R535). -/
def classLen (k : Nat) : Nat :=
  match k with | 0 => 60 | 1 => 6144 | 2 => 112 | _ => 1

/-- Position of class `k`. -/
def State.stPos (s : State) (k : Nat) : Nat := s.st.pos.getD k 0
/-- Set the position of class `k`, around its end. -/
def State.setPos (s : State) (k p : Nat) : State := s.setSt (fun x => { x with pos := x.pos.set k (p % classLen k) })

/-- The record, holds and position of the test in progress, which ends with a verdict; the engine is free (R528, R535). -/
def State.stClose (s : State) (t : StTest) (verdict sig count : Nat) : State :=
  let s := (s.stResult 117 t.unit verdict sig count (if t.raw then 4 else 2)).stHold t.unit verdict
  let s := (s.setSt (fun x => { x with cur := none })).stShow (if s.st.shut.isSome then 2 else 0) 0 0
  let k := unitClass t.unit
  if t.raw ∨ verdict = 3 then s
  else s.setPos k (s.stPos k + (if k = 1 then t.done else 1))

/-- Signature and count of a test cut short: how far it came is open, short of its end (R526). (Log: 83 DEDUCED.) -/
def State.stPartial (s : State) (t : StTest) : Nat × Nat × State :=
  if unitClass t.unit = 1 then (t.sig, 10240 * t.done, s)
  else
    let (n, s) := s.freeNat
    let (w, s) := s.freeWord
    let n := n % unitCount t.unit
    (if 2 ≤ unitClass t.unit then w.toNat % 2 ^ n else w.toNat, n, s)

/-! ### Region tests (R497 to R501) -/

/-- A region's lock copy finds an uncorrectable error: its first spoilt word. -/
def State.regionSpoilt (s : State) (bank region : Nat) : Option Nat := s.sramSpoilt (bank * 0x80000 + region * 0x1000) 0x1000

/-- Single-bit errors of a region found by its lock copy (R490). -/
def State.regionSoft (s : State) (bank region : Nat) : State :=
  let a := bank * 0x80000 + region * 0x1000
  (s.ms.sramSoft.filter (fun w => decide (a ≤ 8 * w ∧ 8 * w < a + 0x1000))).foldl (fun s w => (s.sramTouch (8 * w)).1) s

/-- Lock and redirection of a region; false when its lock copy meets an uncorrectable error and it is not tested (R500).
(Log: 90 DEDUCED.) -/
def State.regionLock (s : State) (bank region : Nat) : State × Bool :=
  let s := s.regionSoft bank region
  match s.regionSpoilt bank region with
  | some w => (s.sramUe (8 * w), false)
  | none =>
    let s := ((s.put Reg.MEM_STAT_REGION region).put Reg.MEM_STAT_BANK bank).set1 Reg.MEM_STAT_TEST_ACTIVE
    let s := (s.set1 Reg.MEM_STAT_REDIRECT).set1 (Reg.MEM_BANK_TEST bank)
    (s.setMs (fun m => { m with test := some ⟨bank, region⟩ }), true)

/-- The restore step: redirection is turned off; the accesses made meanwhile stand (R498, R500). (Log: 90 DEDUCED.) -/
def State.regionRestore (s : State) : State :=
  match s.ms.test with
  | none => s
  | some t =>
    let s := (((s.put Reg.MEM_STAT_REGION 0).put Reg.MEM_STAT_BANK 0).put Reg.MEM_STAT_TEST_ACTIVE 0).put Reg.MEM_STAT_REDIRECT 0
    (s.put (Reg.MEM_BANK_TEST t.bank) 0).setMs (fun m => { m with test := none })

/-- Repair a row at a restore, while the bank has a spare left (R501). -/
def State.repairRow (s : State) (bank row : Nat) : State :=
  let n := s.get (Reg.MEM_BANK_REPAIRS bank)
  if n < Tbl.get 4 s.ms.spares bank then
    let s := s.put (Reg.MEM_BANK_REPAIRS bank) (n + 1)
    (s.setMs (fun m => { m with repaired := (512 * bank + row) :: m.repaired, rowErr := Tbl.put 0 m.rowErr (512 * bank + row) 0 })).event
      0x61 119 (stUnit (0x20 + bank) 0) 2 (pay 16 bank + pay 18 row)
  else (s.set1 (Reg.MEM_BANK_DEGRADED bank)).event 0x61 119 (stUnit (0x20 + bank) 0) 3 (pay 16 bank + pay 18 row)

/-- The repairs of a region: rows that failed, and rows with 16 corrected errors (R501). -/
def State.repairRows (s : State) (bank region fails : Nat) : State :=
  (List.range 4).foldl (fun s i =>
    let row := 4 * region + i
    if bit fails i ∨ 16 ≤ Tbl.get 0 s.ms.rowErr (512 * bank + row) then s.repairRow bank row else s) s

end Sys2Proof.Machine
end

