-- ==== Sys2Proof/Machine/AoOps.lean ====
section
/-!
DEFINITION. The analogue outputs: codes, the slew limiter, channel states, clear, range changes and the end of a channel's
test (R430 to R455).
-/
namespace Sys2Proof.Machine

/-- Channel `n`. -/
def State.aoCh (s : State) (n : Nat) : AoCh := s.ao.chans.getD n ⟨0, 0, false, false, 0, 0, false, [], 0, false⟩
/-- Replace channel `n`. -/
def State.setAo (s : State) (n : Nat) (x : AoCh) : State := { s with ao := { s.ao with chans := s.ao.chans.set n x } }
/-- STATE of channel `n` (R435). -/
def State.aoState (s : State) (n : Nat) : Nat := s.get (Reg.AO_CH_STAT_STATE n)
/-- Set STATE. -/
def State.setAoState (s : State) (n x : Nat) : State := s.put (Reg.AO_CH_STAT_STATE n) x
/-- The pin is driven: ENABLING to DISABLING. -/
def State.aoDriven (s : State) (n : Nat) : Bool := decide (2 ≤ s.aoState n ∧ s.aoState n ≤ 6)

/-! ### Pairs (R447, R448) -/

/-- Channel `n` belongs to a joined pair. -/
def State.aoPaired (s : State) (n : Nat) : Bool := s.on (Reg.AO_CH_CFG_PAIR (n / 2 * 2))
/-- The channels that move with channel `n`. -/
def State.aoGroup (s : State) (n : Nat) : List Nat := if s.aoPaired n then [n / 2 * 2, n / 2 * 2 + 1] else [n]
/-- The channel whose settings channel `n` uses. -/
def State.aoLead (s : State) (n : Nat) : Nat := if s.aoPaired n then n / 2 * 2 else n
/-- -c, with -(-2^23) given as 2^23 - 1 (R448). -/
def negCode (c : Int) : Int := if c = -8388608 then 8388607 else -c

/-! ### Codes and targets (R438 to R441) -/

/-- The clear code. -/
def State.clrCode (s : State) (n : Nat) : Int := toS 24 (s.get (Reg.AO_CH_CLRCODE n))
/-- Clear is active on channel `n` (R441). -/
def State.clrActive (s : State) (n : Nat) : Bool :=
  let l := s.aoLead n
  bit (s.get Reg.AO_SWCLR) l || (s.on Reg.AO_STAT_CLR_PIN && bit (s.get Reg.AO_CLRPIN_EN) l)

/-- What the route entries give channel `n`, with the changes not yet over. -/
def State.aoFeeds (s : State) (n : Nat) : List Feed := s.mix.feeds.filter (fun x => x.dst == 0x2000 + n)
/-- The newest frame at `t` tu, counted 16 on: frame k reaches the limiter at t_k + 16 / fs (R237). -/
def State.aoQ (s : State) (t : Nat) : Nat := t / s.fper
/-- The route entry that names channel `n` at the frame that reaches the limiter now. -/
def State.aoEntry (s : State) (n : Nat) : Option Feed :=
  (s.aoFeeds n).reverse.find? (fun x => decide (16 ≤ s.aoQ s.tu) && x.names (s.aoQ s.tu - 16))

/-- When a value stored at frame `k` through an entry with ALIGN `a` reaches the limiter, in tu (R237, R439).
(Log: 68 DEDUCED.) -/
def State.aoReach (s : State) (k a : Nat) : Nat := s.frameTime (k + a + 16)

/-- The stored values that have reached the channel by `t` tu, oldest first. -/
def State.aoPast (s : State) (n a t : Nat) : List (Nat × Int) :=
  (s.aoCh n).vals.filter (fun e => decide (s.aoReach e.1 a ≤ t))

/-- Channel `n` is fed now (R439). -/
def State.aoFed (s : State) (n : Nat) : Bool :=
  match s.aoEntry (s.aoLead n) with
  | none => false
  | some r => if rType r.src = 4 then !(s.aoPast (s.aoLead n) r.align s.tu).isEmpty else s.schState == 2

/-- The value at its destination, channel `n`, of the frame that reaches the limiter at count `q`, by itself: the stored
values through their entries, with the changes of R235; none where a bus has a part in it. (Log: 68 DEDUCED.) -/
def State.aoSum (s : State) (n q : Nat) : Option F32 :=
  let k := q - 16
  (s.aoFeeds n).foldl (fun (a : Option F32) x =>
    if !x.on k then a
    else if rType x.src ≠ 4 then (if fLe (x.fade.val k) 0 || fLe (x.gain.val k) 0xC2F00000 then a else none)
    else
      match ((s.aoCh n).vals.filter (fun e => decide (e.1 + x.align + 16 ≤ q))).getLast? with
      | some e => a.map (fun y => fAdd y (x.scale k (fRat e.2 (2 ^ 23))))
      | none => a) (some 0)

/-- The signal at `t` tu of a channel that is fed by itself: the code of its value (R236); where a bus feeds it the value
between the frames is open, since the interpolation filter's response is not stated. (Log: 69 DEDUCED.) -/
def State.aoOwnSignal (s : State) (n t : Nat) : Option Int :=
  let q := s.aoQ t
  if q < 16 ∨ !(s.aoFeeds n).any (fun x => x.on (q - 16)) then some (s.clrCode n)
  else (s.aoSum n q).map (fun v => (toCode v).1)

/-- The code channel `n` would present in RUN at `t` tu: its clear code while clear is active or it is not fed. -/
def State.aoRunLead (s : State) (n t : Nat) : Option Int :=
  if s.clrActive n || !s.on (Reg.AO_CH_STAT_FED n) then some (s.clrCode n) else s.aoOwnSignal n t

/-- The limiter's target at `t` tu for a channel that leads (R437, R438, R441, R445). -/
def State.aoTargetLead (s : State) (n t : Nat) : Option Int :=
  let x := s.aoCh n
  match s.aoState n with
  | 2 => if x.back then s.aoRunLead n t else some (s.clrCode n)
  | 3 => s.aoRunLead n t
  | 4 => some (s.clrCode n)
  | 5 => if x.ph = 4 then s.aoRunLead n t else some 0
  | _ => some 0

/-- The limiter's target of channel `n`. -/
def State.aoTarget (s : State) (n t : Nat) : Option Int :=
  if s.aoPaired n ∧ n % 2 = 1 then (s.aoTargetLead (n - 1) t).map negCode else s.aoTargetLead n t

/-- Limiter updates a second by SLEW_RATE (R440). -/
def slewHz (r : Nat) : Nat := match r with | 0 => 1536000 | 1 => 192000 | 2 => 24000 | _ => 3000

/-- One move of at most `d` toward a target. -/
def toward (c x : Int) (d : Nat) : Int := if c ≤ x then min x (c + d) else max x (c - d)

/-- Updates from the limiter's base time to `t`, both in tu. (Log: 75 DEDUCED.) -/
def State.slewUpd (s : State) (n t0 t : Nat) : Nat := (t - t0) * slewHz (s.get (Reg.AO_CH_CFG_SLEW_RATE n)) / 441000000000

/-- Insert a number in order, once. -/
def insNat (x : Nat) : List Nat → List Nat
  | [] => [x]
  | y :: l => if x = y then y :: l else if x < y then x :: y :: l else y :: insNat x l

/-- The frames at which what a feed gives may change for reasons of its own. -/
def Feed.turns (x : Feed) : List Nat :=
  let ramp (r : Ramp32) : List Nat := if r.a = r.b then [] else (List.range 33).map (fun i => r.k0 + i)
  x.k0 :: x.n0 :: x.k1.toList ++ x.till.toList ++ ramp x.fade ++ ramp x.gain

/-- The counts between two at which the value of channel `n` may change, in order. -/
def State.aoTurns (s : State) (n q0 q : Nat) : List Nat :=
  let l := (s.aoFeeds n).flatMap (fun x => (x.turns ++ (s.aoCh n).vals.map (fun e => e.1 + x.align)).map (fun k => k + 16))
  (l.filter (fun x => decide (q0 < x ∧ x ≤ q))).foldl (fun m x => insNat x m) []

/-- The times between two, in tu, at which the value of channel `n` may change, in order. -/
def State.aoSteps (s : State) (n t0 t : Nat) : List Nat := (s.aoTurns n (s.aoQ t0) (s.aoQ t)).map s.frameTime

/-- The code the limiter presents at `t` tu for a channel that leads: from its base toward a target that moves only where a
stored value arrives; none where the value is open. -/
def State.aoLimited (s : State) (n t : Nat) : Option Int :=
  let x := s.aoCh n
  let step := max 1 (s.get (Reg.AO_CH_CFG_SLEW_STEP n))
  let cuts := s.aoSteps n x.t0 t
  let go (acc : Option Int × Nat) (b : Nat) : Option Int × Nat :=
    match acc.1, s.aoTargetLead n acc.2 with
    | some c, some y => (some (toward c y (step * (s.slewUpd n x.t0 b - s.slewUpd n x.t0 acc.2))), b)
    | _, _ => (none, b)
  ((cuts ++ [t]).foldl go (some x.code, x.t0)).1

/-- The code a leading channel presents at `t` tu (R437 to R441). -/
def State.aoCodeLead (s : State) (n t : Nat) : Option Int :=
  let st := s.aoState n
  if st < 2 ∨ st = 7 ∨ (st = 5 ∧ (s.aoCh n).ph = 2) then some 0
  else if (s.aoCh n).ramp ∨ (st = 3 ∧ s.on (Reg.AO_CH_CFG_SLEW_SIG n)) then s.aoLimited n t
  else s.aoTargetLead n t

/-- The code channel `n` presents at `t` tu; none where it is open. (Log: 69 DEDUCED.) -/
def State.aoCode (s : State) (n t : Nat) : Option Int :=
  if s.aoPaired n ∧ n % 2 = 1 then (s.aoCodeLead (n - 1) t).map negCode else s.aoCodeLead n t

/-- An open code, of 24 bits. (Log: 69 DEDUCED.) -/
def State.freeCode (s : State) : Int × State :=
  let (w, s) := s.freeWord
  (toS 24 w.toNat, s)

/-- The code channel `n` presents now. -/
def State.aoNow (s : State) (n : Nat) : Int × State :=
  match s.aoCode n s.tu with
  | some c => (c, s)
  | none => s.freeCode

/-- NEG_CLIP: a negative code or target on a driven unipolar span (R433). -/
def State.aoNeg (s : State) (n : Nat) : State :=
  let neg (o : Option Int) : Bool := match o with | some c => decide (c < 0) | none => false
  if 4 ≤ s.get (Reg.AO_CH_STAT_SPAN_ACTIVE n) ∧ s.aoDriven n ∧ (neg (s.aoTarget n s.tu) ∨ neg (s.aoCode n s.tu)) then
    s.set1 (Reg.AO_CH_FLAGS_NEG_CLIP n)
  else s

/-- Take the code presented now as the limiter's base, before anything its target or step depends on changes. -/
def State.aoBase (s : State) (n : Nat) : State :=
  let (c, s) := s.aoNow n
  s.setAo n { s.aoCh n with code := c, t0 := s.tu }

/-- Look back over the frames of channel `n` since the last look: those that a direct entry gave and that were clamped are
counted (R236); a new code below 0 on a driven unipolar span sets NEG_CLIP (R433). (Log: 94 DEDUCED.) -/
def State.aoClips (s : State) (n : Nat) : State :=
  let q1 := s.aoQ s.tu
  let q0 := (s.aoCh n).clipQ
  let code (q : Nat) : Option (Int × Bool) := if q < 16 then none else (s.aoSum n q).map toCode
  let clamped (a b : Nat) : Nat := if ((code a).map (fun c => c.2)).getD false then b - a else 0
  let (cnt, low, a) := (s.aoTurns n q0 q1).foldl (fun (m : Nat × Bool × Nat) b =>
    (m.1 + clamped m.2.2 b, m.2.1 || ((code b).map (fun c => decide (c.1 < 0))).getD false, b)) (0, false, q0 + 1)
  let direct := (s.aoFeeds n).any (fun x => rType x.src == 4)
  let neg := low && s.aoState n == 3 && s.on (Reg.AO_CH_STAT_FED n) && !s.clrActive n && decide (4 ≤ s.get (Reg.AO_CH_STAT_SPAN_ACTIVE n))
  let s := (s.setAo n { s.aoCh n with clipQ := q1 }).clip (0x2000 + n) (if direct then cnt + clamped a (q1 + 1) else 0)
  if neg then s.set1 (Reg.AO_CH_FLAGS_NEG_CLIP n) else s

/-- Move the limiter's base to its latest update, with the code presented. (Log: 75 DEDUCED.) -/
def State.aoAdvance (s : State) (n : Nat) : State :=
  let hz := slewHz (s.get (Reg.AO_CH_CFG_SLEW_RATE n))
  let t0 := (s.aoCh n).t0
  let (c, s) := s.aoNow n
  s.setAo n { s.aoCh n with code := c, t0 := t0 + (s.slewUpd n t0 s.tu * 441000000000 + hz - 1) / hz }

/-- Drop the stored values of channel `n` that a later one has overtaken for every ALIGN, and its ended feeds, a millisecond
after they have gone out of use. -/
def State.aoPrune (s : State) (n : Nat) : State :=
  let s := s.aoClips n
  let old := (s.aoCh n).vals.filter (fun e => decide (s.aoReach e.1 4095 + nsTu 1000000 ≤ s.tu))
  let gone (x : Feed) : Bool := x.dst == 0x2000 + n && (x.k1.map (fun k => decide (s.aoReach k 0 + nsTu 1000000 ≤ s.tu))).getD false
  if old.length ≤ 1 ∧ !s.mix.feeds.any gone then s
  else
    let s := if s.aoDriven n then s.aoAdvance n else s
    let s := s.setMix (fun m => { m with feeds := m.feeds.filter (fun x => !gone x) })
    s.setAo n { s.aoCh n with vals := (s.aoCh n).vals.drop (old.length - 1) }

/-! ### Records -/

/-- µV at the sense point for an ADC code (R450). -/
def adcMicro (r : Int) : Nat := ofS 32 (400 * r)
/-- An OUT record of channel `n` (R459). -/
def State.outRec (s : State) (n reason : Nat) (reading : Int) : State :=
  s.event 0x40 (72 + n) n reason (pay 16 (adcMicro reading) + pay 20 (s.get (Reg.AO_CH_STAT_SPAN_ACTIVE n)))
/-- An OUT record with the latest reading. -/
def State.outRecL (s : State) (n reason : Nat) : State := s.outRec n reason (toS 16 (s.get (Reg.AO_CH_SENSE_LAST n)))

/-! ### States (R435 to R438) -/

/-- The power state drives the outputs: RUN or IDLE (R455). (Log: 75 DEDUCED.) -/
def State.aoPower (s : State) : Bool := decide (s.get Reg.PWR_STAT_STATE ≤ 1)

/-- Channel `n` enters RUN or CLEAR (R437, R444, R445): a fed channel joins its signal by a ramp. -/
def State.aoEnter (s : State) (n : Nat) (join : Bool) : State :=
  let clr := s.clrActive n
  (s.setAoState n (if clr then 4 else 3)).setAo n
    { s.aoCh n with ramp := join && !clr && s.on (Reg.AO_CH_STAT_FED n), back := false, ph := 0, since := s.ns }

/-- Channel `n` enters OFF: a held span is applied (R445, R446). -/
def State.aoOff (s : State) (n : Nat) : State :=
  ((s.setAoState n 0).put (Reg.AO_CH_STAT_SPAN_ACTIVE n) (s.get (Reg.AO_CH_CFG_SPAN n))).setAo n
    { s.aoCh n with code := 0, t0 := s.tu, ramp := false, back := false, ph := 0 }

/-- Start the enable sequence of the channels of `n`'s group that stand in OFF and may (R435, R437, R529). (Log: 70 DEDUCED.) -/
def State.aoTry (s : State) (n : Nat) : State :=
  let g := s.aoGroup n
  if g.all (fun k => s.aoState k == 0 && s.on (Reg.AO_CH_CFG_EN k) && s.on (Reg.AO_CH_STAT_CAL_DONE k) && !s.outHeld k)
      && s.on Reg.AO_STAT_RAILS_OK && s.aoPower then
    g.foldl (fun s k =>
      ((s.setAoState k 2).setAo k { s.aoCh k with code := 0, t0 := s.tu, ramp := true, back := false, ph := 0 }).aoNeg k) s
  else s

/-- A driven channel ramps to 0 V (R438). -/
def State.aoDown (s : State) (n : Nat) : State :=
  if s.aoDriven n ∧ s.aoState n ≠ 6 then
    let s := s.aoBase n
    (s.setAoState n 6).setAo n { s.aoCh n with ramp := true, back := false, ph := 0 }
  else s

/-- EN = 1 in DISABLING reverses the ramp (R438). (Log: 70 DEDUCED.) -/
def State.aoReverse (s : State) (n : Nat) : State :=
  if s.aoState n = 6 then
    let s := s.aoBase n
    (s.setAoState n 2).setAo n { s.aoCh n with ramp := true, back := true, ph := 0 }
  else s

/-- Start a range change: step 1 of R445 from the code presented. -/
def State.aoRange (s : State) (n : Nat) : State :=
  let s := s.aoBase n
  (s.setAoState n 5).setAo n { s.aoCh n with ramp := true, back := false, ph := 1 }

/-- A SPAN that has been written to channel `n` (R445, R446). (Log: 75 DEDUCED.) -/
def State.aoSpan (s : State) (n : Nat) : State :=
  match s.aoState n with
  | 2 | 3 | 4 => s.aoRange n
  | 5 => match (s.aoCh n).ph with
    | 4 => s.aoRange n
    | _ => s
  | 6 => s
  | _ => s.put (Reg.AO_CH_STAT_SPAN_ACTIVE n) (s.get (Reg.AO_CH_CFG_SPAN n))

/-- The clear state of channel `n` has changed (R441, R444). -/
def State.aoClear (s : State) (n : Nat) : State :=
  let x := s.aoCh n
  match s.aoState n, s.clrActive n with
  | 3, true =>
    let s := s.setAoState n 4
    let now := s.on (Reg.AO_CH_CFG_CLR_STEP n)
    (s.setAo n { x with ramp := !now, since := s.ns, code := if now then (s.aoTarget n s.tu).getD 0 else x.code }).aoNeg n
  | 4, false => ((s.setAoState n 3).setAo n { x with ramp := true, since := s.ns }).aoNeg n
  | _, _ => s.aoNeg n

/-- Change what clear depends on, with the channels' response. -/
def State.aoClearBy (s : State) (f : State → State) : State :=
  let was := (List.range 16).map s.clrActive
  let s := (List.range 16).foldl (fun s n => if s.aoDriven n then s.aoBase n else s) s
  let s := f s
  (List.range 16).foldl (fun s n => if was.getD n false != s.clrActive n then s.aoClear n else s) s

/-! ### Tests (R454, R538) -/

/-- The channel whose test is in progress. (Log: 73 DEDUCED.) -/
def State.aoTested (s : State) : Option (Nat × StTest) :=
  match s.st.cur with
  | some t => if unitClass t.unit = 2 then some (unitCode t.unit - 0x50, t) else none
  | none => none

/-- A channel's test has ended: it goes to OFF, its bench is returned, and it is enabled again where EN = 1. -/
def State.aoReturn (s : State) (n : Nat) : State :=
  let g := s.aoGroup n
  let s := g.foldl (fun s k => if s.aoState k = 7 then (s.aoOff k).event 0x61 121 (stUnit (0x50 + k) 0) 5 (pay 16 k) else s) s
  s.aoTry n

/-- Cut short a test of channel `n`: INCOMPLETE, with the flags and the record of R454. (Log: 73 DEDUCED.) -/
def State.aoCut (s : State) (n : Nat) : State :=
  match s.aoTested with
  | some (k, t) =>
    if (s.aoGroup n).contains k then
      let (sig, cnt, s) := s.stPartial t
      let (sig, cnt) := if t.start.isNone then (0, 0) else (sig, cnt)
      let s := (s.stClose t 3 sig cnt).set1 Reg.ST_FLAGS_ABORTED
      (s.set1 (Reg.AO_CH_FLAGS_TEST_ABORT n)).outRecL n 5
    else s
  | none => s

/-- A request aimed at channel `n` cuts its test short and then acts: `f` on a channel that has left TEST (R454). -/
def State.aoService (s : State) (n : Nat) (f : State → State) : State :=
  match s.aoTested with
  | some (k, _) =>
    if (s.aoGroup n).contains k then
      let s := s.aoCut n
      let s := (s.aoGroup n).foldl (fun s j =>
        if s.aoState j = 7 then (s.aoOff j).event 0x61 121 (stUnit (0x50 + j) 0) 5 (pay 16 j) else s) s
      let s := (s.aoGroup n).foldl (fun s j => if s.aoState j = 6 ∧ s.on (Reg.AO_CH_CFG_EN j) then s.aoReverse j else s) s
      (f s).aoTry n
    else f s
  | none => f s

/-! ### Values and routes -/

/-- Insert a stored value by frame, after equals. (Log: 68 DEDUCED.) -/
def insVal (e : Nat × Int) : List (Nat × Int) → List (Nat × Int)
  | [] => [e]
  | y :: l => if e.1 < y.1 then e :: y :: l else y :: insVal e l

/-- ALIGN of the direct entry that names channel `n`; 0 where none does. -/
def State.aoAlign (s : State) (n : Nat) : Nat := match s.aoEntry n with
  | some r => if rType r.src = 4 then r.align else 0
  | none => 0

/-- A value stored on channel `n`, or on the other of its pair, has come to its frame since the test began: the test is cut short, whatever
feeds the channel (R11, R333, R454, R539). (Log: 73 DEDUCED.) -/
def State.aoArrive (s : State) (n : Nat) : State :=
  match s.aoTested with
  | some (k, t) =>
    let came (j : Nat) : Bool := (s.aoPast j (s.aoAlign j) s.tu).any (fun e => decide (nsTu (t.start.getD 0) < s.aoReach e.1 (s.aoAlign j)))
    if (s.aoGroup n).contains k ∧ (s.aoGroup n).any came then s.aoService n id else s
  | none => s

/-- OUT_SET stores a value on channel `n` at frame `k` (R234, R333). (Log: 68 DEDUCED.) -/
def State.aoStore (s : State) (n k : Nat) (v : Int) : State :=
  let s := ((s.setAo n { s.aoCh n with vals := insVal (k, v) (s.aoCh n).vals }).aoPrune n).aoArrive n
  match (s.aoFeeds n).reverse.find? (fun x => x.names k) with
  | some r => if rType r.src = 4 then s.emit (.direct n (k + r.align) (ofS 32 v)) else s
  | none => s

/-- A route entry has been applied: feeds that have ended are dropped; one with an analogue destination cuts a test of the
channel short (R454). (Log: 73 DEDUCED.) -/
def State.aoRouted (s : State) (dst : Nat) : State :=
  let past (x : Feed) : Bool := rType x.dst != 2 && (x.k1.map (fun k => decide (k + 8192 ≤ s.aoQ s.tu))).getD false
  let s := s.setMix (fun m => { m with feeds := m.feeds.filter (fun x => !past x) })
  let s := (List.range 16).foldl State.aoPrune s
  if rType dst = 2 then s.aoService (rIdx dst) id else s

/-- FED follows what feeds the channels; a change in RUN is made by a join ramp (R439). -/
def State.aoFeed (s : State) (n : Nat) : State :=
  let now := s.aoFed n
  (s.aoGroup n).foldl (fun s k =>
    if now = s.on (Reg.AO_CH_STAT_FED k) then s
    else
      let s := if s.aoDriven k then s.aoBase k else s
      let s := s.put (Reg.AO_CH_STAT_FED k) (b2n now)
      (if s.aoState k = 3 then s.setAo k { s.aoCh k with ramp := true } else s).aoNeg k) s

/-- Codes delivered to an analogue destination: a negative one on a unipolar span sets NEG_CLIP (R433). -/
def State.aoHeard (s : State) (dst : Nat) (l : List Int) : State :=
  let n := rIdx dst
  if rType dst = 2 ∧ s.aoState n = 3 ∧ s.on (Reg.AO_CH_STAT_FED n) ∧ !s.clrActive n ∧ 4 ≤ s.get (Reg.AO_CH_STAT_SPAN_ACTIVE n)
      ∧ l.any (fun c => decide (c < 0)) then
    s.set1 (Reg.AO_CH_FLAGS_NEG_CLIP n)
  else s

end Sys2Proof.Machine
end

