-- ==== Sys2Proof/Machine/Analogue.lean ====
section
/-!
DEFINITION. The commands of the analogue outputs (14_analogue_outputs.md).
-/
namespace Sys2Proof.Machine

/-! ### Channel settings (R435 to R448) -/

/-- The settings an odd channel of a pair takes from the even one (R448). -/
def aoShared : List (Nat → Fld) :=
  [Reg.AO_CH_CFG_EN, Reg.AO_CH_CFG_SPAN, Reg.AO_CH_CFG_SLEW_SIG, Reg.AO_CH_CFG_CLR_STEP, Reg.AO_CH_CFG_SLEW_RATE, Reg.AO_CH_CFG_SLEW_STEP]

/-- The span part of a write: refused for 7 and for a unipolar span of a pair (R432, R445, R447). -/
def State.aoCfgSpan (s : State) (n sp : Nat) : State :=
  if sp = 7 ∨ (s.aoPaired n ∧ 4 ≤ sp) then s.set1 (Reg.AO_CH_FLAGS_CFG_REFUSED n)
  else if sp = s.get (Reg.AO_CH_CFG_SPAN n) then s
  else (s.aoGroup n).foldl (fun s k => (s.put (Reg.AO_CH_CFG_SPAN k) sp).aoSpan k) s

/-- The PAIR part of a write to an even channel (R447, R448). (Log: 74 DEDUCED.) -/
def State.aoCfgPair (s : State) (n p : Nat) : State :=
  if n % 2 = 1 ∨ p = s.get (Reg.AO_CH_CFG_PAIR n) then s
  else if s.aoState n = 0 ∧ s.aoState (n + 1) = 0 ∧ s.get (Reg.AO_CH_CFG_SPAN n) < 4 then
    let s := s.put (Reg.AO_CH_CFG_PAIR n) p
    let s := if p = 1 then
        (aoShared.foldl (fun s f => s.put (f (n + 1)) (s.get (f n))) s).put (Reg.AO_CH_STAT_SPAN_ACTIVE (n + 1)) (s.get (Reg.AO_CH_CFG_SPAN n))
      else s
    (s.aoFeed n).aoFeed (n + 1)
  else s.set1 (Reg.AO_CH_FLAGS_CFG_REFUSED n)

/-- The CAL part of a write (R436, R448). (Log: 74 DEDUCED.) -/
def State.aoCfgCal (s : State) (n : Nat) : State :=
  if (s.aoGroup n).all (fun k => s.aoState k == 0) then
    (s.aoGroup n).foldl (fun s k =>
      ((s.setAoState k 1).put (Reg.AO_CH_STAT_CAL_DONE k) 0).setAo k { s.aoCh k with cald := false }) s
  else s.set1 (Reg.AO_CH_FLAGS_CFG_REFUSED n)

/-- The fields of a write that no state change follows from at once. -/
def State.aoCfgPlain (s : State) (n v : Nat) : State :=
  (s.aoGroup n).foldl (fun s k =>
    let s := if s.aoDriven k then s.aoBase k else s
    (((s.put (Reg.AO_CH_CFG_SLEW_SIG k) (bits v 5 1)).put (Reg.AO_CH_CFG_CLR_STEP k) (bits v 6 1)).put (Reg.AO_CH_CFG_SLEW_RATE k)
      (bits v 8 2)).put (Reg.AO_CH_CFG_SLEW_STEP k) (bits v 16 16)) s

/-- EN for the channels that move with `n` (R437, R438). -/
def State.aoCfgEn (s : State) (n : Nat) (en : Bool) : State :=
  if en = s.on (Reg.AO_CH_CFG_EN n) then s
  else
    let s := (s.aoGroup n).foldl (fun s k =>
      let s := s.put (Reg.AO_CH_CFG_EN k) (b2n en)
      if en then s.aoReverse k else s.aoDown k) s
    if en then s.aoTry n else s

/-- A write of AO_CHn_CFG, its channel out of TEST. (Log: 74 DEDUCED.) -/
def State.aoCfg (s : State) (n v : Nat) : State :=
  let s := (s.put (Reg.AO_CH_CFG_BENCH_OK n) (bits v 11 1)).put (Reg.AO_CH_CFG_WIN_ACT n) (bits v 12 2)
  let odd := s.aoPaired n && n % 2 == 1
  let s := if odd then s
    else
      let s := s.aoCfgPlain n v
      let s := if bit v 0 then s else s.aoCfgEn n false
      (s.aoCfgSpan n (bits v 1 3)).aoCfgPair n (bits v 4 1)
  let s := if bit v 10 then s.aoCfgCal n else s
  if !odd && bit v 0 then s.aoCfgEn n true else s

/-- A write of AO_CHn_CFG (R454: it cuts a test of the channel short). -/
def State.writeAoCfg (s : State) (n v : Nat) : State := s.aoService n (fun s => s.aoCfg n v)

/-- CHANNEL_ENABLE: a write of AO_CHn_CFG with EN = 1 (R437). -/
def execChannelEnable (n : Fin 16) (v : BitVec 32) (s : State) : Host.Outcome State Fault Refusal := ok (s.writeAoCfg n.val (v.toNat ||| 1))
/-- CHANNEL_DISABLE: a write of AO_CHn_CFG with EN = 0 (R438). -/
def execChannelDisable (n : Fin 16) (v : BitVec 32) (s : State) : Host.Outcome State Fault Refusal := ok (s.writeAoCfg n.val (v.toNat / 2 * 2))
/-- SPAN_WRITE: a write of AO_CHn_CFG (R445). -/
def execSpanWrite (n : Fin 16) (v : BitVec 32) (s : State) : Host.Outcome State Fault Refusal := ok (s.writeAoCfg n.val v.toNat)
/-- CAL: a write of AO_CHn_CFG with CAL = 1 (R436). -/
def execCal (n : Fin 16) (v : BitVec 32) (s : State) : Host.Outcome State Fault Refusal := ok (s.writeAoCfg n.val (v.toNat ||| 0x400))
/-- PAIR_WRITE: a write of AO_CHn_CFG (R447). -/
def execPairWrite (n : Fin 16) (v : BitVec 32) (s : State) : Host.Outcome State Fault Refusal := ok (s.writeAoCfg n.val v.toNat)

/-- The calibration of channel `n` is done; a pair waits for both (R436, R448). -/
def State.aoCalDone (s : State) (n : Nat) : State :=
  if s.aoState n = 1 then
    let s := s.setAo n { s.aoCh n with cald := true }
    let g := s.aoGroup n
    if g.all (fun k => (s.aoCh k).cald) then
      (g.foldl (fun s k => if s.aoState k = 1 then (s.put (Reg.AO_CH_STAT_CAL_DONE k) 1).aoOff k else s) s).aoTry n
    else s
  else s
/-- CALIBRATION_DONE (R436). -/
def execCalibrationDone (n : Fin 16) (s : State) : Host.Outcome State Fault Refusal := ok (s.aoCalDone n.val)

/-! ### Ramps and range changes (R437, R438, R445) -/

/-- The slew-limited ramp of one channel reaches its target. -/
def State.aoRampEnd (s : State) (n : Nat) : State :=
  let x := s.aoCh n
  if !x.ramp then s
  else
    let (c, s) := match s.aoTarget n s.tu with
      | some c => (c, s)
      | none => s.freeCode
    let s := s.setAo n { s.aoCh n with code := c, t0 := s.tu, ramp := false }
    match s.aoState n with
    | 2 => ((s.aoEnter n (!x.back)).outRecL n 3).aoNeg n
    | 5 => match x.ph with
      | 4 => ((s.put (Reg.AO_CH_STAT_SPAN_ACTIVE n) (s.get (Reg.AO_CH_CFG_SPAN n))).aoEnter n false |>.outRecL n 4).aoNeg n
      | _ => s.setAo n { s.aoCh n with ph := 2 }
    | 6 => s.aoOff n
    | _ => s

/-- A channel whose ramp to 0 V was for its test enters TEST, and the budget begins (R538). -/
def State.aoBench (s : State) (n : Nat) : State :=
  match s.aoTested with
  | some (k, t) =>
    if (s.aoGroup n).contains k ∧ t.start.isNone ∧ (s.aoGroup n).all (fun j => s.aoState j == 0) then
      let s := (s.aoGroup n).foldl (fun s j => (s.setAoState j 7).event 0x61 121 (stUnit (0x50 + j) 0) 4 (pay 16 j)) s
      s.setSt (fun x => { x with cur := some { t with start := some s.ns } })
    else s
  | none => s

/-- The ramp of channel `n` and of its pair is complete. -/
def State.aoRampDone (s : State) (n : Nat) : State :=
  let g := s.aoGroup n
  let down := g.any (fun k => s.aoState k == 6 && (s.aoCh k).ramp)
  let s := g.foldl (fun s k => s.aoRampEnd k) s
  if down then s.aoBench n else s
/-- SLEW_RAMP_COMPLETE (R437). -/
def execSlewRampComplete (n : Fin 16) (s : State) : Host.Outcome State Fault Refusal := ok (s.aoRampDone n.val)

/-- Settling at 0 V ends: step 4 of R445. -/
def State.aoSettled (s : State) (n : Nat) : State :=
  (s.aoGroup n).foldl (fun s k =>
    if s.aoState k = 5 ∧ (s.aoCh k).ph = 2 then
      (s.setAo k { s.aoCh k with code := 0, t0 := s.tu, ramp := true, ph := 4 }).aoNeg k
    else s) s
/-- RANGE_SETTLED (R445). -/
def execRangeSettled (n : Fin 16) (s : State) : Host.Outcome State Fault Refusal := ok (s.aoSettled n.val)

/-- FEED_CHANGE (R439). -/
def execFeedChange (n : Fin 16) (s : State) : Host.Outcome State Fault Refusal := ok ((s.aoArrive n.val).aoFeed n.val)

/-! ### Clear (R441 to R444) -/

/-- A write of AO_CHn_CLRCODE (R439, R441). -/
def State.writeClrCode (s : State) (n v : Nat) : State :=
  s.aoService n (fun s =>
    let g := if s.aoPaired n ∧ n % 2 = 1 then [] else s.aoGroup n
    let s := g.foldl (fun s k => if s.aoDriven k then s.aoBase k else s) s
    let s := s.put (Reg.AO_CH_CLRCODE n) (v % 2 ^ 24)
    g.foldl (fun s k =>
      let st := s.aoState k
      let s := if (st = 3 ∧ !s.on (Reg.AO_CH_STAT_FED k)) ∨ (st = 4 ∧ !s.on (Reg.AO_CH_CFG_CLR_STEP k)) then
          s.setAo k { s.aoCh k with ramp := true }
        else if st = 4 then s.setAo k { s.aoCh k with ramp := false, code := (s.aoTarget k s.tu).getD 0 }
        else s
      s.aoNeg k) s)
/-- CLRCODE_WRITE (R441). -/
def execClrcodeWrite (n : Fin 16) (v : BitVec 32) (s : State) : Host.Outcome State Fault Refusal := ok (s.writeClrCode n.val v.toNat)

/-- A write of AO_SWCLR (R441, R442, R454). -/
def State.writeSwClr (s : State) (v : Nat) : State :=
  let old := s.get Reg.AO_SWCLR
  let new := v % 2 ^ 16
  let go (s : State) : State := s.aoClearBy (fun s => s.put Reg.AO_SWCLR new)
  let s := match s.aoTested with
    | some (k, _) => if (s.aoGroup k).any (fun j => bit old j != bit new j) then s.aoService k go else go s
    | none => go s
  if (List.range 16).any (fun n => bit new n && !bit old n) then s.event 0x45 91 0 4 0 else s
/-- SWCLR_WRITE (R441). -/
def execSwclrWrite (v : BitVec 32) (s : State) : Host.Outcome State Fault Refusal := ok (s.writeSwClr v.toNat)

/-- A write of AO_CLRPIN_EN changes which channels an asserted pin clears (R441). -/
def State.writeClrPinEn (s : State) (v : Nat) : State := s.aoClearBy (fun s => s.put Reg.AO_CLRPIN_EN v)

/-- OUT_CLR_N is asserted, after its filter (R442, R454). -/
def State.clrPinLow (s : State) : State :=
  if s.on Reg.AO_STAT_CLR_PIN then s
  else
    let go (s : State) : State := s.aoClearBy (fun s => s.set1 Reg.AO_STAT_CLR_PIN)
    let s := match s.aoTested with
      | some (k, _) => if bit (s.get Reg.AO_CLRPIN_EN) (s.aoLead k) then s.aoService k go else go s
      | none => go s
    { s with ao := { s.ao with clrAt := some s.ns } }.event 0x45 90 0 1 0
/-- OUT_CLR_N_ASSERT (R442). -/
def execOutClrNAssert (s : State) : Host.Outcome State Fault Refusal := ok s.clrPinLow

/-- OUT_CLR_N is released, after its filter (R442). -/
def State.clrPinHigh (s : State) : State :=
  if s.on Reg.AO_STAT_CLR_PIN then
    let s := s.aoClearBy (fun s => s.put Reg.AO_STAT_CLR_PIN 0)
    { s with ao := { s.ao with clrAt := none } }.event 0x45 90 0 2 0
  else s
/-- OUT_CLR_N_RELEASE (R442). -/
def execOutClrNRelease (s : State) : Host.Outcome State Fault Refusal := ok s.clrPinHigh

/-- OUT_CLR_N has been held 1 s: once per assertion (R443). -/
def State.clrHeld (s : State) : State :=
  match s.ao.clrAt with
  | some t =>
    if t + 1000000000 ≤ s.ns then
      ({ s with ao := { s.ao with clrAt := none } }.set1 Reg.AO_FLAGS_CLEAR_HELD).event 0x45 90 0 3 0
    else s
  | none => s
/-- CLEAR_HELD (R443). -/
def execClearHeld (s : State) : Host.Outcome State Fault Refusal := ok s.clrHeld

/-! ### Read-back (R449 to R453) -/

/-- Full scale of a span, in µV. -/
def spanMicro (sp : Nat) : Int :=
  match sp with | 0 => 2500000 | 1 => 5000000 | 2 => 10000000 | 3 => 12000000 | 4 => 5000000 | 5 => 10000000 | _ => 12000000

/-- Round a quotient by a positive number to the nearest integer. -/
def roundDiv (a b : Int) : Int := (2 * a + b) / (2 * b)

/-- The ADC code of the voltage of a code on a span (R432, R450). (Log: 71 DEDUCED.) -/
def adcOf (sp : Nat) (c : Int) : Int := satS 16 (roundDiv (spanMicro sp * (if 4 ≤ sp then max c 0 else c)) (400 * 8388608))

/-- The expected code: of the code presented 1.2 µs before (R451). -/
def State.aoExpect (s : State) (n : Nat) : Option Int :=
  (s.aoCode n (s.tu - 441 * 12 / 10)).map (adcOf (s.get (Reg.AO_CH_STAT_SPAN_ACTIVE n)))

/-- The reading of channel `n` is judged (R450, R451, R453). -/
def State.aoJudged (s : State) (n : Nat) : Bool :=
  let m := s.get (Reg.AO_CH_WIN_MODE n)
  (s.aoState n == 3 || s.aoState n == 4) && s.on Reg.AO_CTRL_MON_EN && s.on Reg.AO_STAT_MON_TRUST && (m == 1 || m == 2)
    && decide ((s.aoCh n).since + 20000 ≤ s.ns)

/-- A reading of channel `n` is in its window; none where the expected code is open (R451). -/
def State.aoInWin (s : State) (n : Nat) (r : Int) : Option Bool :=
  if s.get (Reg.AO_CH_WIN_MODE n) = 2 then
    some (decide (toS 16 (s.get (Reg.AO_CH_WIN_ABS_LO n)) ≤ r ∧ r ≤ toS 16 (s.get (Reg.AO_CH_WIN_ABS_HI n))))
  else (s.aoExpect n).map (fun e => decide ((r - e).natAbs ≤ s.get (Reg.AO_CH_WIN_TOL n)))

/-- Note a reading of channel `n` and what was expected. -/
def State.aoSense (s : State) (n : Nat) (r : BitVec 16) : State :=
  let s := s.put (Reg.AO_CH_SENSE_LAST n) r.toNat
  if s.get (Reg.AO_CH_WIN_MODE n) ≠ 1 then s
  else match s.aoExpect n with
    | some e => s.put (Reg.AO_CH_SENSE_EXP n) (ofS 16 e)
    | none =>
      let (w, s) := s.freeWord
      s.put (Reg.AO_CH_SENSE_EXP n) w.toNat

/-- What a channel does on leaving its window; for a pair it applies to both (R448, R452). (Log: 71 DEDUCED.) -/
def State.winAct (s : State) (n : Nat) : State :=
  match s.get (Reg.AO_CH_CFG_WIN_ACT n) with
  | 1 => s.aoClearBy (fun s => (s.aoGroup n).foldl (fun s k => s.put Reg.AO_SWCLR (s.get Reg.AO_SWCLR ||| 2 ^ k)) s)
  | 2 => s.aoCfgEn n false
  | _ => s

/-- The last of COUNT consecutive readings outside the window (R451). -/
def State.winLeave (s : State) (n : Nat) (r : BitVec 16) : State :=
  let s := s.aoSense n r
  if s.aoJudged n ∧ !(s.aoCh n).ep ∧ s.aoInWin n r.toInt ≠ some true then
    let s := (s.set1 (Reg.AO_CH_FLAGS_WIN n)).put (Reg.AO_CH_STAT_IN_WIN n) 0
    ((s.setAo n { s.aoCh n with ep := true }).outRec n 1 r.toInt).winAct n
  else s
/-- WINDOW_LEAVE (R451). -/
def execWindowLeave (n : Fin 16) (reading : BitVec 16) (s : State) : Host.Outcome State Fault Refusal := ok (s.winLeave n.val reading)

/-- The last of COUNT consecutive readings inside the window (R451). (Log: 71 DEDUCED.) -/
def State.winReturn (s : State) (n : Nat) (r : BitVec 16) : State :=
  let s := s.aoSense n r
  if s.aoJudged n ∧ s.aoInWin n r.toInt ≠ some false then
    let ep := (s.aoCh n).ep
    let s := (s.set1 (Reg.AO_CH_STAT_IN_WIN n)).setAo n { s.aoCh n with ep := false }
    if ep then s.outRec n 2 r.toInt else s
  else s
/-- WINDOW_RETURN (R451). -/
def execWindowReturn (n : Fin 16) (reading : BitVec 16) (s : State) : Host.Outcome State Fault Refusal := ok (s.winReturn n.val reading)

/-- A write of AO_CHn_WIN or AO_CHn_WIN_ABS: the counts restart and an episode ends without a record (R458). -/
def State.writeAoWin (s : State) (n : Nat) (abs : Bool) (v : Nat) : State :=
  let old := (s.word (Reg.AO_CH_WIN_MODE n).off, s.word (Reg.AO_CH_WIN_ABS_LO n).off)
  let s := if abs then (s.put (Reg.AO_CH_WIN_ABS_LO n) (bits v 0 16)).put (Reg.AO_CH_WIN_ABS_HI n) (bits v 16 16)
    else ((s.put (Reg.AO_CH_WIN_MODE n) (bits v 0 2)).put (Reg.AO_CH_WIN_COUNT n) (bits v 8 8)).put (Reg.AO_CH_WIN_TOL n) (bits v 16 16)
  if old = (s.word (Reg.AO_CH_WIN_MODE n).off, s.word (Reg.AO_CH_WIN_ABS_LO n).off) then s
  else s.setAo n { s.aoCh n with ep := false }

/-- The fixed window of a reference, in µV (R453). -/
def refWin (r : Nat) : Int × Int :=
  match r with
  | 0 => (-2000, 2000)
  | 1 => (4995000, 5005000)
  | 2 => (2495000, 2505000)
  | 3 => (3562500, 3937500)
  | 4 => (-3937500, -3562500)
  | 5 => (3135000, 3465000)
  | 6 => (1710000, 1890000)
  | _ => (-1000, 1000)

/-- A reading of reference `r` is in its window. -/
def refIn (r : Nat) (x : Int) : Bool := decide ((refWin r).1 ≤ 400 * x ∧ 400 * x ≤ (refWin r).2)

/-- A MONITOR record (R453). -/
def State.monRec (s : State) (r reason : Nat) (x : Int) : State := s.event 0x44 (88 + r / 4) r reason (pay 16 (adcMicro x))

/-- RAILS_OK and MON_TRUST from the references (R453, R458). -/
def State.monStat (s : State) : State :=
  let w (r : Nat) : Bool := s.on (Reg.AO_REF_IN_WIN r)
  (s.put Reg.AO_STAT_RAILS_OK (b2n (w 3 && w 4))).put Reg.AO_STAT_MON_TRUST (b2n (w 2 && w 7))

/-- A rail fault: every channel opens its switch and clamps; EN stays as written (R453, R507). (Log: 72 DEDUCED.) -/
def State.railFault (s : State) (r : Nat) (x : Int) : State :=
  let s := match s.aoTested with
    | some (_, t) =>
      let (sig, cnt, s) := s.stPartial t
      s.stClose t 3 sig cnt
    | none => s
  let s := (List.range 16).foldl (fun s n => s.aoOff n) s
  let s := (s.set1 Reg.AO_FLAGS_RAIL_FAULT).set1 Reg.PWR_FLAGS_RAIL_FAULT
  s.event 0x6A 124 (5 + r) 3 (pay 16 (ofS 32 (x * 16 / 10)))

/-- A reference leaves its window on one reading (R453). (Log: 71 DEDUCED.) -/
def State.refLeave (s : State) (r : Nat) (x : BitVec 16) : State :=
  if s.on Reg.AO_CTRL_MON_EN then
    let s := s.put (Reg.AO_REF_READING r) x.toNat
    if s.on (Reg.AO_REF_IN_WIN r) ∧ !refIn r x.toInt then
      let s := ((s.put (Reg.AO_REF_IN_WIN r) 0).set1 Reg.AO_FLAGS_REF_WIN).monRec r 1 x.toInt
      let s := { s with ao := { s.ao with refEp := s.ao.refEp.set r true } }.monStat
      if r = 3 ∨ r = 4 then s.railFault r x.toInt else s
    else s
  else s
/-- REF_WINDOW_LEAVE (R453). -/
def execRefWindowLeave (r : Fin 8) (reading : BitVec 16) (s : State) : Host.Outcome State Fault Refusal := ok (s.refLeave r.val reading)

/-- The rails are good: channels with no calibration, and after a fault those with EN = 1, are calibrated (R436, R453). -/
def State.railsGood (s : State) : State :=
  (List.range 16).foldl (fun s n =>
    if s.aoState n = 0 ∧ (!s.on (Reg.AO_CH_STAT_CAL_DONE n) ∨ s.on (Reg.AO_CH_CFG_EN n)) then
      ((s.setAoState n 1).put (Reg.AO_CH_STAT_CAL_DONE n) 0).setAo n { s.aoCh n with cald := false }
    else s) s

/-- The fourth consecutive reading inside the window (R453). -/
def State.refReturn (s : State) (r : Nat) (x : BitVec 16) : State :=
  if s.on Reg.AO_CTRL_MON_EN then
    let s := s.put (Reg.AO_REF_READING r) x.toNat
    if !s.on (Reg.AO_REF_IN_WIN r) ∧ refIn r x.toInt then
      let rails := s.on Reg.AO_STAT_RAILS_OK
      let s := s.set1 (Reg.AO_REF_IN_WIN r)
      let s := if s.ao.refEp.getD r false then s.monRec r 2 x.toInt else s
      let s := { s with ao := { s.ao with refEp := s.ao.refEp.set r false } }.monStat
      if !rails ∧ s.on Reg.AO_STAT_RAILS_OK then s.railsGood else s
    else s
  else s
/-- REF_WINDOW_RETURN (R453). -/
def execRefWindowReturn (r : Fin 8) (reading : BitVec 16) (s : State) : Host.Outcome State Fault Refusal := ok (s.refReturn r.val reading)

/-- The stage limits its current, or falls back (R449, R458). -/
def State.curLimit (s : State) (n : Nat) (on : Bool) : State :=
  let s := s.put (Reg.AO_CH_STAT_CUR_LIMIT n) (b2n on)
  if on then s.set1 (Reg.AO_CH_FLAGS_CUR_LIMIT n) else s
/-- CUR_LIMIT (R449). -/
def execCurLimit (n : Fin 16) (on : Bool) (s : State) : Host.Outcome State Fault Refusal := ok (s.curLimit n.val on)

end Sys2Proof.Machine
end

