-- ==== Sys2Proof/Machine/CoreOps.lean ====
section
/-!
DEFINITION. The chisel cores as the scheduler and the power logic see them: state, interrupt lines, service
(R251, R252, R271, R280, R281, R283).
-/
namespace Sys2Proof.Machine

/-- Core `c`. -/
def State.core (s : State) (c : Nat) : Core := s.cores.getD c Core.zero
/-- Replace core `c`. -/
def State.setCore (s : State) (c : Nat) (x : Core) : State := { s with cores := s.cores.set c x }
/-- CHn_STAT.STATE: 0 RESET, 1 RUN, 2 WAIT, 3 HALTED, 4 FAULTED, 5 BENCHED, 6 OFF. -/
def State.chState (s : State) (c : Nat) : Nat := s.get (Reg.CH_STAT_STATE c)
/-- The cores are clocked: RUN, PLL 0 locked, no global debug halt, a reference (R36, R512, R513). (Log: 130 DEDUCED.) -/
def State.coreClock (s : State) : Bool :=
  s.get Reg.PWR_STAT_STATE == 0 && bit (s.get Reg.PWR_CLK_STAT_PLL) 0 && !s.pw.halt && s.pw.down == .no
/-- The counter of CHn_CYC (R282). -/
def State.coreCyc (s : State) (c : Nat) : Nat := (s.core c).cyc % 2 ^ 64

/-- Raise an interrupt line of a core that can take it: a core off, benched or in reset takes none (R271, R276). -/
def State.raise (s : State) (c line : Nat) : State :=
  let st := s.chState c
  if st = 0 ∨ st = 5 ∨ st = 6 then s
  else s.setCore c { s.core c with ip := (s.core c).ip ||| 2 ^ line }

/-- A CORE_STATE record (R359). -/
def State.coreRec (s : State) (c reason : Nat) : State := s.event 0x21 (40 + c) c reason 0

/-- Voice core `c` is one the scheduler waits for: it renders (R280). -/
def State.renders (s : State) (c : Nat) : Bool := s.chState c == 1 || s.chState c == 2

/-- Cluster E cores in service (R241). -/
def State.coresE (s : State) : List Nat := [16, 17, 18, 19].filter s.renders

/-- A core is halted or faulted: the scheduler no longer waits for it (R280). -/
def State.unwait (s : State) (c : Nat) : State :=
  { s with sch := { s.sch with cur := s.sch.cur.map (fun b => { b with
      waiting := b.waiting.filter (fun x => x != c), waitE := b.waitE.filter (fun x => x != c) }) } }

/-! ### Debug access (R284, R547, R550) -/

/-- A service session whose scope holds a bit is open, or the state is BLANK or DEVELOP: 0 DEBUG, 1 RAWTEST (R547). -/
def State.lifeOpen (s : State) (b : Nat) : Bool :=
  let st := s.get Reg.LC_STAT_STATE
  st == 0 || st == 1 || (st == 3 && bit (s.get Reg.LC_STAT_SCOPE) b)
/-- Core debug is open (R284). -/
def State.debugOpen (s : State) : Bool := s.lifeOpen 0

/-- The BOUNDARY of block `j` (R281): BLK and TIER are set on every core in service that has written its BDONE, and line 0
raised, with line 1 where `cmd` says that commands wait for its voices; the cores to wait for. -/
def State.boundaryLines (s : State) (j tier : Nat) (cmd : Nat → Bool) : State × List Nat :=
  (List.range 20).foldl (fun (acc : State × List Nat) c =>
    let s := acc.1
    let st := s.chState c
    if (st = 1 ∨ st = 2 ∨ st = 3) ∧ !(s.core c).owed then
      let s := s.setCore c { s.core c with blk := j % 2 ^ 32, tier := tier, owed := true }
      let s := s.raise c 0
      let s := if cmd c then s.raise c 1 else s
      (s, if st ≠ 3 then acc.2 ++ [c] else acc.2)
    else acc) (s, [])

/-- A double fault on an updated core fails the update; where its cluster is reset, the cluster comes back with the old
program (R575). -/
def State.updFault (s : State) (c : Nat) (reset : Bool) : State :=
  match s.upd with
  | some u =>
    if u.done.any (fun l => l.contains c) then
      let k := c / 4
      let u := { u with failed := true }
      if reset then { s with
        upd := some { u with done := u.done.filter (fun l => !l.any (fun x => x / 4 == k)) }
        fw0 := s.fw0.set k (u.old.getD k []) }
      else { s with upd := some u }
    else s
  | none => s

end Sys2Proof.Machine
end

