-- ==== Sys2Proof/Machine/FabOps.lean ====
section
/-!
DEFINITION. Links, frames, root, roles, addresses and forwarding of the fabric switch (R360 to R396).
-/
namespace Sys2Proof.Machine

/-! ### Bytes -/

/-- `n` bytes of a payload from byte `b`, little-endian. -/
def pfield (l : List (BitVec 8)) (b n : Nat) : Nat := leNat ((l.drop b).take n)

/-- A hello's payload as fields (R365). -/
def parseHello (l : List (BitVec 8)) : Hello :=
  { uid := pfield l 0 8, bootgen := pfield l 8 2, vmin := pfield l 10 1 % 16, vmax := pfield l 10 1 / 16
    port := pfield l 11 1 % 4, caps := pfield l 12 2
    addr := if bit (pfield l 14 2) 15 then some (pfield l 14 2 % 4096) else none
    valid := bit (pfield l 16 1) 0, desig := bit (pfield l 16 1) 1, rpri := pfield l 17 1, hops := pfield l 18 2 % 4096
    ruid := pfield l 20 8, raddr := pfield l 28 2 % 4096, upuid := pfield l 32 8 }

/-- CAPS of this module: PCIe link up, in TRANSIT, migration, spill (R365). -/
def State.caps (s : State) : Nat :=
  s.get Reg.HI_STAT_LINK_UP + 2 * b2n (s.get Reg.PWR_STAT_STATE == 3) + 4 + 8

/-- ADDR with its VALID bit (R365, R378). (Log: 114 DEDUCED.) -/
def State.addrWord (s : State) : Nat := match s.addr with
  | some a => a + 32768
  | none => 0

/-- The hello this module sends on port `p` (R365). -/
def State.helloBytes (s : State) (p : Nat) : List (BitVec 8) :=
  leBytes 8 s.uid ++ leBytes 2 (s.get Reg.FSW_BOOTGEN)
    ++ leBytes 1 (s.get Reg.ID_IFVER_FAB_MIN + 16 * s.get Reg.ID_IFVER_FAB_MAX) ++ leBytes 1 p ++ leBytes 2 s.caps
    ++ leBytes 2 s.addrWord ++ leBytes 1 (s.get Reg.FSW_STAT_ROOT_VALID + 2 * s.get Reg.FSW_STAT_DESIG)
    ++ leBytes 1 (s.get Reg.FSW_ROOT_INFO_PRI) ++ leBytes 2 (s.get Reg.FSW_ROOT_INFO_HOPS)
    ++ leBytes 8 (s.get64 Reg.FSW_ROOT_UID_LO Reg.FSW_ROOT_UID_HI) ++ leBytes 2 (s.get Reg.FSW_ROOT_INFO_ADDR)
    ++ leBytes 2 0 ++ leBytes 8 s.sw.upUid ++ leBytes 2 256 ++ leBytes 6 0

/-! ### Records -/

/-- A LINK record of port `p` (R359). -/
def State.linkRec (s : State) (p reason : Nat) : State :=
  let lo := s.get (Reg.FP_NB_INFO_VMIN p)
  s.event 0x10 (16 + 4 * p) p reason (pay 16 (s.get (Reg.FP_STAT_VER p)) + pay 17 lo + pay 18 (s.get (Reg.FP_NB_INFO_VMAX p))
    + pay 20 (s.get (Reg.FP_STAT_NB_ADDR p)) + pay 24 (s.get64 (Reg.FP_NB_UID_LO p) (Reg.FP_NB_UID_HI p)))

/-- Count a happening of a summarising record (R359). -/
def State.summary (s : State) (src reason n : Nat) : State :=
  s.sumUp (256 * src + reason) n

/-- A TOPOLOGY record (R359). -/
def State.topoRec (s : State) (unit reason : Nat) : State :=
  s.event 0x18 32 unit reason (pay 16 (s.get Reg.FSW_ROOT_INFO_ADDR) + pay 18 (s.get Reg.FSW_STAT_ADDR)
    + pay 24 (s.get64 Reg.FSW_ROOT_UID_LO Reg.FSW_ROOT_UID_HI))

/-- A NODE record (R380). -/
def State.nodeRec (s : State) (n : Node) (reason : Nat) : State :=
  s.event 0x1A 34 0 reason (pay 16 n.addr + pay 18 n.bootgen + pay 24 n.uid)

/-! ### TOPO (R376) -/

/-- Every learned entry with a port direction becomes FLOOD (R376). -/
def State.flush (s : State) : State :=
  (List.range 4096).foldl (fun s a =>
    let d := s.get (Reg.FSW_FWD_DIR a)
    if 1 ≤ d ∧ d ≤ 4 ∧ !s.on (Reg.FSW_FWD_STATIC a) then s.put (Reg.FSW_FWD_DIR a) 6 else s) s

/-- What a TOPO frame does where it is sent or received: the flush, and an announcement of this module (R376). -/
def State.topoAct (s : State) : State :=
  let s := s.flush
  match s.addr with
  | some a => s.setSw (fun w => { w with annDue := some (s.ns + 10000 + 2000 * (a % 64)) })
  | none => s

/-- Originate a TOPO frame on every UP port: reason 1 link down, 2 role change, 3 root change (R376). -/
def State.sendTopo (s : State) (reason : Nat) : State :=
  let f := { s.mkFrame 1 2 0 (leBytes 8 s.uid ++ leBytes 2 s.addrWord ++ leBytes 1 reason ++ leBytes 1 0) with bcast := true }
  (s.queueFrame ((List.range 4).filter s.isUp) f false none).topoAct

/-! ### Root and roles (R373 to R375) -/

/-- Rank of a vector, the lower the better (R373). (Log: 113 DEDUCED.) -/
def vecRank (desig : Bool) (rpri ruid hops nbUid port : Nat) : List Nat :=
  [b2n (!desig), 255 - rpri, ruid, hops, nbUid, port]

/-- The ports a vector can be taken from, with their hellos (R374). -/
def State.vectors (s : State) : List (Nat × Hello) :=
  (List.range 4).filterMap (fun p => match (s.port p).nb with
    | some h => if s.isUp p && h.valid && decide (h.hops + 1 < 4095) && h.upuid != s.uid then some (p, h) else none
    | none => none)

/-- Rank of the vector port `p` supplies. -/
def Hello.rank (h : Hello) (p : Nat) : List Nat := vecRank h.desig h.rpri h.ruid (h.hops + 1) h.uid p

/-- The best vector that can be taken. -/
def State.bestVector (s : State) : Option (Nat × Hello) := argminV (fun e => e.2.rank e.1) s.vectors
where
  /-- Lexicographic order. -/
  lt : List Nat → List Nat → Bool
    | [], [] => false
    | [], _ :: _ => true
    | _ :: _, [] => false
    | a :: as, b :: bs => a < b || (a == b && lt as bs)
  /-- The element with the least rank. -/
  argminV (rank : Nat × Hello → List Nat) : List (Nat × Hello) → Option (Nat × Hello)
    | [] => none
    | x :: xs => match argminV rank xs with
      | none => some x
      | some y => if lt (rank y) (rank x) then some y else some x

/-- The module's own candidate vector beats another (R373). (Log: 113 DEDUCED.) -/
def State.ownBeats (s : State) (e : Nat × Hello) : Bool :=
  State.bestVector.lt (vecRank (s.on Reg.FSW_CTRL_ROOT_DESIG) (s.get Reg.FSW_CTRL_ROOT_PRI) s.uid 0 s.uid 0) (e.2.rank e.1)

/-- RUID now held, none while the vector is not valid. -/
def State.rootNow (s : State) : Option Nat :=
  if s.on Reg.FSW_STAT_ROOT_VALID then some (s.get64 Reg.FSW_ROOT_UID_LO Reg.FSW_ROOT_UID_HI) else none

/-- Take the module's own candidate: it is root (R373). -/
def State.becomeRoot (s : State) : State :=
  let was := s.on Reg.FSW_STAT_ROOT
  let s := (((s.set1 Reg.FSW_STAT_ROOT).set1 Reg.FSW_STAT_ROOT_VALID).put Reg.FSW_STAT_DESIG (s.get Reg.FSW_CTRL_ROOT_DESIG)).put
    Reg.FSW_STAT_UP_VALID 0
  let s := (s.put64 Reg.FSW_ROOT_UID_LO Reg.FSW_ROOT_UID_HI s.uid).put Reg.FSW_ROOT_INFO_HOPS 0
  let s := (s.put Reg.FSW_ROOT_INFO_PRI (s.get Reg.FSW_CTRL_ROOT_PRI)).put Reg.FSW_ROOT_INFO_ADDR (s.addr.getD 0)
  let s := s.setSw (fun w => { w with upUid := 0, held := true })
  if was then s
  else (s.setSw (fun w => { w with binds := (s.addr.toList).map (fun a => (s.uid, a, none)), bindReady := false })).gainRoot

/-- Give up root status (R374). -/
def State.dropRoot (s : State) : State :=
  if s.on Reg.FSW_STAT_ROOT then
    ((s.put Reg.FSW_STAT_ROOT 0).setSw (fun w => { w with binds := [], bindReady := false })).loseRoot
  else s

/-- Take the vector port `p` supplies (R374). -/
def State.takeVector (s : State) (p : Nat) (h : Hello) : State :=
  let s := s.dropRoot
  let old := if s.on Reg.FSW_STAT_UP_VALID then some (s.get Reg.FSW_STAT_UP_PORT) else none
  let s := ((s.set1 Reg.FSW_STAT_ROOT_VALID).put Reg.FSW_STAT_DESIG (b2n h.desig)).put Reg.FSW_STAT_UP_PORT p
  let s := (s.set1 Reg.FSW_STAT_UP_VALID).put64 Reg.FSW_ROOT_UID_LO Reg.FSW_ROOT_UID_HI h.ruid
  let s := ((s.put Reg.FSW_ROOT_INFO_ADDR h.raddr).put Reg.FSW_ROOT_INFO_HOPS (h.hops + 1)).put Reg.FSW_ROOT_INFO_PRI h.rpri
  let s := s.setSw (fun w => { w with upUid := h.uid, held := true })
  let s := if h.desig && s.on Reg.FSW_CTRL_ROOT_DESIG && h.ruid != s.uid then s.set1 Reg.FSW_FLAGS_DESIG_CONFLICT else s
  if old = some p then s
  else
    let s := s.setPort p { s.port p with nDelay := 0, delays := [], pair := none, syncAt := s.ns }
    s.event 0x1B 35 p 1 (pay 16 (ofS 64 (toS 32 (s.get Reg.TB_OFFSET))))

/-- The vector becomes not valid (R374). -/
def State.loseVector (s : State) : State :=
  let s := s.dropRoot
  let s := ((s.put Reg.FSW_STAT_ROOT_VALID 0).put Reg.FSW_STAT_UP_VALID 0).put Reg.FSW_STAT_DESIG 0
  s.setSw (fun w => { w with upUid := 0 })

/-- The role of an UP port (R375). -/
def State.roleOf (s : State) (p : Nat) : Nat :=
  if s.on (Reg.FP_CTRL_BLOCK p) ∨ (s.port p).hellos < 2 then 3
  else if s.on Reg.FSW_STAT_UP_VALID ∧ s.get Reg.FSW_STAT_UP_PORT = p then 1
  else match (s.port p).nb with
    | none => 3
    | some h =>
      let hops := if s.on Reg.FSW_STAT_ROOT_VALID then s.get Reg.FSW_ROOT_INFO_HOPS else 4095
      let nh := if h.valid then h.hops else 4095
      if h.upuid = s.uid ∨ hops < nh ∨ (hops = nh ∧ s.uid < h.uid) then 2 else 3

/-- Set the roles of the UP ports; a change to or from BLOCKED is recorded (R375). The flag says that one changed. -/
def State.setRoles (s : State) : State × Bool :=
  (List.range 4).foldl (fun (acc : State × Bool) p =>
    let s := acc.1
    if !s.isUp p then acc
    else
      let old := s.get (Reg.FP_STAT_ROLE p)
      let new := s.roleOf p
      if old = new then acc
      else
        let s := s.put (Reg.FP_STAT_ROLE p) new
        let s := if new = 3 ∧ old ≠ 0 then s.topoRec p 2 else if old = 3 then s.topoRec p 3 else s
        (s, true)) (s, false)

/-- Choose the root vector and the roles again (R373 to R376). -/
def State.elect (s : State) : State :=
  let r0 := s.rootNow
  let h0 := (s.get Reg.FSW_ROOT_INFO_HOPS, s.sw.upUid)
  let s := match s.bestVector with
    | some e => if s.ownBeats e then s.becomeRoot else s.takeVector e.1 e.2
    | none =>
      if s.on Reg.FSW_STAT_ROOT ∨ !s.sw.held then s.becomeRoot
      else if s.on Reg.FSW_STAT_ROOT_VALID then s.loseVector else s
  let changed := decide (s.rootNow ≠ r0 ∨ (s.get Reg.FSW_ROOT_INFO_HOPS, s.sw.upUid) ≠ h0)
  let s := if s.rootNow ≠ r0 ∧ s.rootNow.isSome then s.topoRec 0 1 else s
  let (s, roles) := s.setRoles
  if changed then s.sendTopo 3 else if roles then s.sendTopo 2 else s

/-! ### Receive buffers and credits (R385 to R388) -/

/-- Units a frame occupies. -/
def frameUnits (f : Frame) : Nat := (16 + f.payload.length + 31) / 32

/-- Free the units of a frame at its arrival port. -/
def State.freeUnits (s : State) (p : Nat) (f : Frame) : State :=
  if p < 4 then
    let c := f.tc.toNat
    let x := s.port p
    (s.setPort p { x with freed := x.freed.set c ((x.freed.getD c 0 + frameUnits f) % 65536) }).put (Reg.FP_CRED_RX p c)
      (s.get (Reg.FP_CRED_RX p c) - frameUnits f)
  else s

/-- Remove frames that are neither to be sent nor to be taken, freeing their units; a FABRIC_SEND whose frame goes this way
has found no route (R337). -/
def State.sweep (s : State) : State :=
  let dead := s.sw.buf.filter (fun b => b.out.isEmpty && !b.here)
  let s := s.setSw (fun w => { w with buf := w.buf.filter (fun b => !(b.out.isEmpty && !b.here)) })
  dead.foldl (fun s b =>
    let s := s.freeUnits b.port b.f
    match b.fl with
    | some fl => s.complete fl s.ns 0x0E 0 0
    | none => s) s

/-- Take the oldest frame for this module that arrived on port `p` and that a predicate names. -/
def State.takeRx (s : State) (p : Nat) (q : Frame → Bool) : Option (Frame × State) :=
  let rec go : List BufF → Option (Frame × List BufF)
    | [] => none
    | b :: l =>
      if b.port = p ∧ b.here ∧ q b.f then some (b.f, { b with here := false } :: l)
      else match go l with
        | some (f, l) => some (f, b :: l)
        | none => none
  match go s.sw.buf with
  | some (f, l) => some (f, (s.setSw (fun w => { w with buf := l })).sweep)
  | none => none

/-- Units held for sending class `c` on port `p` (R386). -/
def State.credits (s : State) (p c : Nat) : Nat :=
  let x := s.port p
  256 - (x.sent.getD c 0 + 65536 - x.got.getD c 0) % 65536

/-- Show the units held in FPn_CREDc. -/
def State.showCred (s : State) (p c : Nat) : State := s.put (Reg.FP_CRED_TX p c) (s.credits p c)

/-- Discard frames waiting for port `p` (R388). -/
def State.dropOut (s : State) (p : Nat) : State :=
  (s.setSw (fun w => { w with buf := w.buf.map (fun b => { b with out := b.out.filter (fun q => q != p) }) })).sweep

/-! ### Link states (R363) -/

/-- Port `p` leaves for a state below UP. (Log: 112 DEDUCED.) -/
def State.linkDown (s : State) (p st : Nat) : State :=
  let up := s.isUp p
  let s := ((s.put (Reg.FP_STAT_LSTATE p) st).put (Reg.FP_STAT_ROLE p) 0).put (Reg.FP_STAT_VER p) 0
  let s := ((s.put (Reg.FP_STAT_NB_ADDR_VALID p) 0).setPort p { s.port p with nb := none, hellos := 0, hbuf := [] }).dropOut p
  if up then
    let s := (s.count (Reg.FP_CNT_DOWN p) 1).linkRec p 2
    let s := s.setSw (fun w => { w with buf := w.buf.map (fun b => if b.port = p then
      { b with port := 4, f := if b.f.srcrt then b.f else { b.f with hop := b.f.hop + 1 } } else b) })
    let s := s.elect
    s.sendTopo 1
  else s

/-- Port `p` enters DETECT, or DISABLED while it is not enabled. -/
def State.retrain (s : State) (p : Nat) : State :=
  s.linkDown p (if s.on (Reg.FP_CTRL_EN p) && s.on Reg.FSW_CTRL_EN then 1 else 0)

/-- Port `p` comes UP at version `v`: BLOCKED, with full credits (R363, R375, R385). -/
def State.linkUp (s : State) (p v : Nat) : State :=
  let s := ((s.put (Reg.FP_STAT_LSTATE p) 5).put (Reg.FP_STAT_VER p) v).put (Reg.FP_STAT_ROLE p) 3
  let s := s.setPort p { s.port p with sent := [0, 0, 0, 0], got := [0, 0, 0, 0], freed := [0, 0, 0, 0], delays := [], nDelay := 0
                                       pair := none, mark := none, dreq := none }
  let s := (List.range 4).foldl (fun s c => (s.showCred p c).put (Reg.FP_CRED_RX p c) 0) s
  s.linkRec p 1

/-- A write of FPn_CTRL (R363, R398). -/
def State.writeFpCtrl (s : State) (p v : Nat) : State :=
  let was := s.on (Reg.FP_CTRL_EN p)
  let blk := s.get (Reg.FP_CTRL_BLOCK p)
  let s := ((s.put (Reg.FP_CTRL_EN p) (bits v 0 1)).put (Reg.FP_CTRL_EQ p) (bits v 2 2)).put (Reg.FP_CTRL_BLOCK p) (bits v 4 1)
  let s :=
    if !bit v 0 then (if s.get (Reg.FP_STAT_LSTATE p) = 0 then s else s.linkDown p 0)
    else if !was then (if s.get (Reg.FP_STAT_LSTATE p) = 0 then s.retrain p else s)
    else if bit v 1 && s.isUp p then s.retrain p else s
  if bits v 4 1 ≠ blk ∧ s.isUp p then
    let (s, ch) := s.setRoles
    if ch then s.sendTopo 2 else s
  else s

/-- A write of FSW_CTRL (R396). -/
def State.writeFswCtrl (s : State) (v : Nat) : State :=
  let was := s.on Reg.FSW_CTRL_EN
  let s := ((s.put Reg.FSW_CTRL_EN (bits v 0 1)).put Reg.FSW_CTRL_ROOT_DESIG (bits v 1 1)).put Reg.FSW_CTRL_RRST_EN (bits v 2 1)
  let s := (s.put Reg.FSW_CTRL_MGMT (bits v 3 2)).put Reg.FSW_CTRL_ROOT_PRI (bits v 8 8)
  let s :=
    if !bit v 0 then (List.range 4).foldl (fun s p => if s.get (Reg.FP_STAT_LSTATE p) = 0 then s else s.linkDown p 0) s
    else if !was then (List.range 4).foldl (fun s p => if s.on (Reg.FP_CTRL_EN p) then s.retrain p else s) s
    else s
  if s.sw.held then s.elect else s

/-! ### Hellos (R365 to R367) -/

/-- The neighbour's registers show its latest hello (R397). -/
def State.showNb (s : State) (p : Nat) (h : Hello) : State :=
  let s := (s.put64 (Reg.FP_NB_UID_LO p) (Reg.FP_NB_UID_HI p) h.uid).put (Reg.FP_NB_INFO_BOOTGEN p) h.bootgen
  let s := ((s.put (Reg.FP_NB_INFO_VMIN p) h.vmin).put (Reg.FP_NB_INFO_VMAX p) h.vmax).put (Reg.FP_NB_INFO_PORT p) h.port
  let s := (s.put (Reg.FP_NB_CAPS p) h.caps).put (Reg.FP_STAT_NB_ADDR_VALID p) (b2n h.addr.isSome)
  s.put (Reg.FP_STAT_NB_ADDR p) (h.addr.getD 0)

/-- The highest version in both ranges, none if they do not overlap (R5, R366). -/
def State.commonVer (s : State) (h : Hello) : Option Nat :=
  let lo := max h.vmin (s.get Reg.ID_IFVER_FAB_MIN)
  let hi := min h.vmax (s.get Reg.ID_IFVER_FAB_MAX)
  if lo ≤ hi then some hi else none

/-- A hello of port `p` is handled (R363, R366, R374, R375). -/
def State.hello (s : State) (p : Nat) (h : Hello) : State :=
  let st := s.get (Reg.FP_STAT_LSTATE p)
  let s := (s.setPort p { s.port p with nb := some h, hellos := (s.port p).hellos + 1 }).showNb p h
  match st with
  | 4 =>
    if (s.port p).hellos < 2 then s
    else match s.commonVer h with
      | some v => ((s.linkUp p v).setPort p { (s.linkUp p v).port p with hellos := 2 }).elect
      | none => ((s.put (Reg.FP_STAT_LSTATE p) 6).set1 (Reg.FP_FLAGS_VER_REFUSED p)).linkRec p 5
  | 5 => s.elect
  | 6 => match s.commonVer h with
    | some v => (s.linkUp p v).elect
    | none => s
  | _ => s

/-! ### Arrival and forwarding (R370 to R372, R381 to R384) -/

/-- TC listed for a KIND (R369). -/
def kindTc (kind tc : Nat) : Bool :=
  match kind with
  | 1 | 2 | 3 | 6 | 10 => tc == 1
  | 4 | 9 | 11 => tc == 3
  | 5 => tc == 1 || tc == 3
  | 7 => tc == 0
  | 8 => tc == 2
  | _ => false

/-- The frame is a reply (R380): management, migration, spill. -/
def frameIsReply (f : Frame) : Bool :=
  match f.kind.toNat with
  | 4 =>
    let rlen := pfield f.payload 0 2
    let o := 4 * ((2 + (rlen + 3) / 4 + 3) / 4)
    bit (pfield f.payload o 1) 7
  | 9 => [2, 3, 5].contains (pfield f.payload 0 1)
  | 10 => [2, 3, 6].contains (pfield f.payload 0 1)
  | _ => false

/-- The frame comes from an earlier boot of its sender (R380). -/
def State.isStale (s : State) (f : Frame) : Bool :=
  frameIsReply f && (s.sw.nodes.any (fun n => n.addr == f.src.toNat))
    && decide (f.sgen.toNat ≠ s.get (Reg.FSW_FWD_BOOTGEN f.src.toNat) % 256)

/-- The 2-bit route entry `i` (R381). (Log: 109 DEDUCED.) -/
def routePort (l : List (BitVec 8)) (i : Nat) : Nat := (l.getD (2 + i / 4) 0).toNat / 4 ^ (i % 4) % 4
/-- Write a 2-bit route entry. (Log: 115 DEDUCED.) -/
def setRoutePort (l : List (BitVec 8)) (i v : Nat) : List (BitVec 8) :=
  let b := (l.getD (2 + i / 4) 0).toNat
  let w := 4 ^ (i % 4)
  l.set (2 + i / 4) (BitVec.ofNat 8 (b - b / w % 4 * w + v * w))

/-- A FORWARD record, of each reason at most one in 1 ms (R382). -/
def State.fwdRecord (s : State) (reason payload : Nat) : State :=
  let ok := match s.sw.fwdRec.getD (reason - 1) none with
    | some t => decide (t + 1000000 ≤ s.ns)
    | none => true
  if ok then
    (s.setSw (fun w => { w with fwdRec := w.fwdRec.set (reason - 1) (some s.ns) })).event 0x19 33 0 reason payload
  else s

/-- A frame dropped for an entry NONE (R382). (Log: 112 DEDUCED.) -/
def State.noEntry (s : State) (f : Frame) : State := s.dropRoute.fwdRecord 2 (pay 16 f.dst.toNat)

/-- Where an arrived frame goes: ports, whether it is for this module, and the frame as it goes on (R370, R381, R382). -/
def State.steer (s : State) (p : Nat) (f : Frame) : State × List Nat × Bool × Frame :=
  if f.kind = 7 then (s, [], true, f)
  else if f.srcrt then
    let rlen := pfield f.payload 0 2
    if f.hop.toNat = rlen then (s, [], true, f)
    else
      let q := routePort f.payload f.hop.toNat
      let f' := { f with payload := setRoutePort f.payload f.hop.toNat p, hop := f.hop + 1 }
      if s.isUp q then (s, [q], false, f') else (s.dropRoute, [], false, f')
  else if f.hop = 4095 ∧ (f.bcast ∨ s.addr ≠ some f.dst.toNat) then
    ((s.count Reg.FSW_CNT_TTL 1).set1 Reg.FSW_FLAGS_TTL_DROP, [], f.bcast, f)
  else if f.bcast then
    let (ps, s) := s.carry (s.floodPorts p) f
    (s, ps, true, f)
  else match s.route f.dst.toNat p with
    | none => (s.noEntry f, [], false, f)
    | some ps =>
      let (ps, s) := s.carry ps f
      (s, ps, s.dir f.dst.toNat == 5, f)

/-- A port that is BLOCKED takes hellos, TOPO and source-routed frames only (R375). (Log: 112 DEDUCED.) -/
def State.blockedTakes (s : State) (p : Nat) (f : Frame) : Bool :=
  s.get (Reg.FP_STAT_ROLE p) != 3 || f.srcrt || f.kind == 2

/-- The units of a frame that an UP link's receiver discards return at once; hellos use none (R365, R371, R386).
(Log: 112 DEDUCED.) -/
def State.returnUnits (s : State) (p : Nat) (f : Frame) : State :=
  if s.isUp p ∧ f.kind ≠ 0 then
    let c := f.tc.toNat
    let x := s.port p
    s.setPort p { x with freed := x.freed.set c ((x.freed.getD c 0 + frameUnits f) % 65536) }
  else s

/-- A frame arrives on port `p` with the results of its two checks; `aborted` = it ended with ABORT (R365, R368 to R372). -/
def State.arrive (s : State) (p : Nat) (f : Frame) (hcrc crc aborted : Bool) : State :=
  let st := s.get (Reg.FP_STAT_LSTATE p)
  if st < 4 then s
  else
    let s := s.count (Reg.FP_CNT_RXF p) 1
    let gone := s.returnUnits p f
    let fcs := ((gone.count (Reg.FP_CNT_FCS p) 1).set1 (Reg.FP_FLAGS_FCS_ERR p)).summary (17 + 4 * p) 2 1
    if !hcrc then fcs
    else if f.srcrt && f.bcast then gone
    else if 2032 < f.payload.length then (gone.set1 (Reg.FP_FLAGS_OVERSIZE p)).summary (17 + 4 * p) 4 1
    else if aborted then gone
    else if !crc then fcs
    else if f.kind = 0 then
      let x := s.port p
      let h := if 2 ≤ x.hbuf.length then x.hbuf.drop 1 else x.hbuf
      s.setPort p { x with hbuf := h ++ [f.payload] }
    else if st ≠ 5 ∨ !kindTc f.kind.toNat f.tc.toNat ∨ !s.blockedTakes p f then gone
    else
      let (s, ps, here, f') := s.steer p f
      if here ∧ s.isStale f then
        let s := ((s.count Reg.FSW_CNT_STALE 1).set1 Reg.FSW_FLAGS_STALE).returnUnits p f
        if f.kind = 10 then s.count Reg.AL_CNT_STALE 1 else s
      else if ps.isEmpty ∧ !here then s.returnUnits p f
      else
        let s := s.put (Reg.FP_CRED_RX p f.tc.toNat) (s.get (Reg.FP_CRED_RX p f.tc.toNat) + frameUnits f')
        s.setSw (fun w => { w with buf := w.buf ++ [⟨p, f', ps, here, s.ns, none⟩] })

/-- Rank of a frame for an output port (R384). (Log: 111 DEDUCED.) -/
def State.sendRank (s : State) (b : BufF) : Nat :=
  if b.f.kind = 0 then 1
  else match b.f.tc.toNat with
  | 0 => 0
  | 3 => if b.t + 100000 ≤ s.ns then 2 else 5
  | c => c + 2

/-- The first frame of least rank that waits for port `p` and finds its credits (R383, R384). -/
def State.nextOut (s : State) (p : Nat) : Option BufF :=
  let l := s.sw.buf.filter (fun b => b.out.contains p && (b.f.kind == 0 || decide (frameUnits b.f ≤ s.credits p b.f.tc.toNat)))
  -- of each class only the oldest waiting frame may leave
  let l := l.filter (fun b => (s.sw.buf.find? (fun x => x.out.contains p && x.f.tc == b.f.tc && (x.f.kind == 0) == (b.f.kind == 0))) == some b)
  l.foldl (fun (acc : Option BufF) b => match acc with
    | none => some b
    | some a => if s.sendRank b < s.sendRank a then some b else some a) none

/-- Send the next frame of port `p` (R381, R383, R385); a FABRIC_SEND completes with `done`. -/
def State.transmit (s : State) (p : Nat) (done : State → Flight → State) : State :=
  if s.get (Reg.FP_STAT_LSTATE p) < 4 then s
  else match s.nextOut p with
    | none => s
    | some b =>
      let c := b.f.tc.toNat
      let f := if b.port < 4 ∧ !b.f.srcrt then { b.f with hop := b.f.hop + 1 } else b.f
      let s := (s.count (Reg.FP_CNT_TXF p) 1).emit (.frame p f)
      let x := s.port p
      let s := if f.kind = 0 then s
        else (s.setPort p { x with sent := x.sent.set c ((x.sent.getD c 0 + frameUnits f) % 65536) }).showCred p c
      let s := if b.port < 4 then s.count Reg.FSW_CNT_FWD 1 else s
      let rec go : List BufF → List BufF
        | [] => []
        | y :: l => if y = b then { y with out := y.out.filter (fun q => q != p), fl := none } :: l else y :: go l
      let s := (s.setSw (fun w => { w with buf := go w.buf })).sweep
      match b.fl with
      | some fl => done s fl
      | none => s

/-! ### Addresses and nodes (R378 to R380) -/

/-- Take an address (R379). -/
def State.takeAddr (s : State) (a : Nat) : State :=
  let s := (s.put Reg.FSW_STAT_ADDR a).set1 Reg.FSW_STAT_ADDR_VALID
  let s := if s.on Reg.FSW_STAT_ROOT then s.put Reg.FSW_ROOT_INFO_ADDR a else s
  s.topoRec 0 4

/-- The address the root gives a UID (R379); `pref` is its preferred address. -/
def State.chooseAddr (s : State) (uid : Nat) (pref : Option Nat) : Option Nat :=
  match s.sw.binds.find? (fun b => b.1 == uid) with
  | some b => some b.2.1
  | none =>
    let free (a : Nat) : Bool := !s.sw.binds.any (fun b => b.2.1 == a)
    match pref with
    | some a => if free a then some a else (List.range 4096).find? free
    | none => (List.range 4096).find? free

/-- The root grants an address: the binding, and the broadcast (R379). (Log: 114 DEDUCED.) -/
def State.grant (s : State) (uid : Nat) (pref : Option Nat) : State :=
  match s.chooseAddr uid pref with
  | none => s
  | some a =>
    let s := s.setSw (fun w => { w with binds := w.binds.filter (fun b => b.1 != uid) ++ [(uid, a, none)] })
    if uid = s.uid then s.takeAddr a else s.sendAll 1 3 (leBytes 8 uid ++ leBytes 2 a)

/-- FSW_ADDR_PREF as a preference. -/
def State.ownPref (s : State) : Option Nat :=
  if s.on Reg.FSW_ADDR_PREF_VALID then some (s.get Reg.FSW_ADDR_PREF_ADDR) else none

/-- Learn the port of an address (R382). -/
def State.learn (s : State) (a p : Nat) : State :=
  if s.on (Reg.FSW_FWD_STATIC a) ∨ s.get (Reg.FSW_FWD_DIR a) = p + 1 then s
  else (s.put (Reg.FSW_FWD_DIR a) (p + 1)).fwdRecord 1 (pay 16 a + pay 18 p)

/-- REQ_TMO in ns (R395). -/
def State.reqTmo (s : State) : Nat := 100000 * max 1 (s.get Reg.FSW_TIMING_REQ_TMO)

end Sys2Proof.Machine
end

