-- ==== Sys2Proof/Machine/CmdOps.lean ====
section
/-!
DEFINITION. Timed commands: when they are on time, how they end, answers that wait for several voices (R195, R201 to
R203, R321, R330).
-/
namespace Sys2Proof.Machine

/-- LANE: the blocks by which a spill-lane command runs ahead of this module's own (R186): SL + 2. -/
def Org.lead : Org → Option Nat
  | .spillCast _ _ _ l => some l
  | .spillCmd _ _ _ l => some l
  | _ => none

/-- The lane block that corresponds to this module's block `m`; the block itself outside a lane. -/
def State.laneBlk (s : State) (o : Org) (m : Nat) : Nat := match o.lead with
  | some l => m + l - s.slack
  | none => m
/-- This module's block at which a time's block is rendered: R195, moved by the lane. -/
def State.cmdBlk (s : State) (c : TCmd) : Nat := match c.org.lead with
  | some l => s.blockOf c.exec + s.slack - l
  | none => s.blockOf c.exec

/-- Blocks between the boundary that takes a command and its own block: one for a cast or resume (R199), three for a
MIGRATE that sends (R414). -/
def TCmd.early (c : TCmd) : Nat :=
  if c.isCast then 1 else if c.fl.op == 0x20 && c.u 27 1 % 4 == 0 then 3 else 0

/-- The command's boundary has come at block `m`, or it asks for as soon as possible. -/
def State.isDue (s : State) (c : TCmd) (m : Nat) : Bool := !c.done && (c.exec == 0 || decide (s.cmdBlk c ≤ m + c.early))

/-- The command is late at the boundary of block `m` when it is to be taken `k` blocks early (R201, R203): its boundary
has gone by, or it was accepted after the boundary opened. -/
def State.isLateBy (s : State) (c : TCmd) (m k : Nat) : Bool :=
  c.exec != 0 && (decide (s.cmdBlk c < m + k) || decide (s.opening (s.cmdBlk c - k) < c.acc))

/-- The command is late at the boundary of block `m` (R201, R203, R414). -/
def State.isLate (s : State) (c : TCmd) (m : Nat) : Bool := s.isLateBy c m c.early

/-- The time a command taken at the boundary of block `m` acts at, in tu (R203): P_(m+1) for a cast or resume that is
late or as soon as possible, P_m for others, shifted in a spill lane. -/
def State.effTime (s : State) (c : TCmd) (m : Nat) : Nat :=
  if c.exec == 0 || s.isLate c m then s.playStart (s.laneBlk c.org (if c.isCast then m + 1 else m)) else nsTu c.exec

/-- OK or LATE. -/
def State.okStatus (s : State) (c : TCmd) (m : Nat) : Nat := if s.isLate c m then 1 else 0

/-- A CAST_ANSWER of a served partnership: HANDLE and STATUS (R423). -/
def State.castAnswer (s : State) (node pid num handle status : Nat) : State :=
  (s.sendTo 1 10 node (leBytes 1 6 ++ leBytes 1 pid ++ leBytes 2 num ++ leBytes 4 handle ++ leBytes 1 status ++ leBytes 7 0) none).1

/-- End a timed command: LATE ones are counted, and the answer goes where the command came from (R203, R321). -/
def State.finishX (s : State) (c : TCmd) (time status detail handle x : Nat) : State :=
  let s := if status = 1 then s.count (if c.isCast then Reg.AL_CNT_LATE else Reg.AL_SCH_CNT_LATECMD) 1 else s
  match c.org with
  | .ring => s.completeX c.fl time status detail handle x
  | .spillCast node pid num _ => (s.castAnswer node pid num handle status).forget c.fl.seq
  | .cm _ => (if status = 3 ∨ status = 4 then s.count Reg.UART_CM_CNT_BAD 1 else s).forget c.fl.seq
  | _ => s.forget c.fl.seq

/-- End a timed command with no opcode-specific bytes. -/
def State.finish (s : State) (c : TCmd) (time status detail handle : Nat) : State := s.finishX c time status detail handle 0

/-- R323: NOT_FOUND when no voice was acted on, else OK or LATE with the count in DETAIL for AMODE 1 to 3. -/
def State.finishN (s : State) (c : TCmd) (m n : Nat) : State :=
  let t := tuNs (s.effTime c m)
  if n = 0 then s.finish c t 5 0 0
  else s.finish c t (s.okStatus c m) (if c.u 16 1 = 0 then 0 else n) 0

/-! ### Answers that wait for several voices (R330) -/

/-- Start an answer for `n` voices. (Log: 144 DEDUCED.) -/
def State.track (s : State) (c : TCmd) (n ok time : Nat) : State :=
  { s with sch := { s.sch with tracks := s.sch.tracks ++ [⟨c, n, 0, none, 0, ok, time, n⟩] } }

/-- One voice of an answer is done: its status, its handle, a cause for byte 24; the last one completes the command.
(Log: 144 DEDUCED.) -/
def State.trackDone (s : State) (seq status handle cause : Nat) : State :=
  match s.sch.tracks.find? (fun k => k.cmd.fl.seq == seq) with
  | none => s
  | some k =>
    let good := status == 0 || status == 1
    let k' := { k with
      left := k.left - 1
      good := if good then k.good + 1 else k.good
      bad := if good then k.bad else match k.bad with
        | some b => some b
        | none => some (status, cause)
      handle := if good then handle else k.handle
      ok := if status = 1 then 1 else k.ok }
    if k'.left = 0 then
      let s := { s with sch := { s.sch with tracks := s.sch.tracks.filter (fun x => x.cmd.fl.seq != seq) } }
      let (st, cs) := k'.bad.getD (k'.ok, 0)
      if k.cmd.u 16 1 = 1 then s.finishX k.cmd k.time st k.n k'.good cs else s.finishX k.cmd k.time st 0 k'.handle cs
    else { s with sch := { s.sch with tracks := updWhere (fun x => x.cmd.fl.seq == seq) (fun _ => k') s.sch.tracks } }

/-- Set the timestamp of an answer: a MIGRATE that waits moves its overlap (R414, R422). (Log: 144 DEDUCED.) -/
def State.trackTime (s : State) (seq time ok : Nat) : State :=
  { s with sch := { s.sch with tracks := updWhere (fun x => x.cmd.fl.seq == seq) (fun k => { k with time := time, ok := max k.ok ok }) s.sch.tracks } }

end Sys2Proof.Machine
end

