-- ==== Sys2Proof/Machine/Context.lean ====
section
/-!
DEFINITION. Voice contexts (R302, R303). The layout of the armature's STATE is internal to the ROM, so what its bytes
say is left open: two constants with no body.
-/
namespace Sys2Proof.Config

/-- The STATE bytes of a voice's sound and parameters (R302: a layout internal to the ROM). -/
opaque ctxState : Machine.Voice → List (BitVec 8)
/-- The voice that STATE bytes carry; none where the layout is not this ROM's. -/
opaque ctxLoad : List (BitVec 8) → Option Machine.Voice
/-- The state bytes of a stage at an instance (R302). -/
opaque ctxStage : Machine.Voice → Nat → List (BitVec 8)

end Sys2Proof.Config

namespace Sys2Proof.Machine

/-- A list cut or filled with zeros to `n` bytes. -/
def padTo (n : Nat) (l : List (BitVec 8)) : List (BitVec 8) := (l ++ List.replicate n 0).take n

/-- Parameter that selects the stage of instance `i`: oscillators 0 to 3, filters 4 and 5, shaper 6 (R302). -/
def stageSel (i : Nat) : Nat × Nat := if i < 4 then (256 * i, 1) else if i < 6 then (0x1000 + 256 * (i - 4), 2) else (0x2000, 3)

/-- UID of the stage in use at instance `i`, 0 for none (R302). -/
def State.stageUid (s : State) (v : Voice) (i : Nat) : Nat :=
  let (id, hook) := stageSel i
  match ((List.range 16).filterMap s.prog).find? (fun p => p.kind == 2 && p.hook == hook && p.hookVal == v.raw id) with
  | some p => if v.prog = 0 then p.uid else 0
  | none => 0

/-- STATE_BYTES of a voice's maquette, all of STATE for the armature (R288, R302). -/
def State.stateBytes (s : State) (v : Voice) : Nat :=
  if v.prog = 0 then 1472 else ((s.progByUid v.prog).map (fun p => leNat ((p.image.drop 42).take 2))).getD 0

/-- The context of a voice at a version (R302, R303). (Log: 175 DESIGN CHOICE.) -/
def State.context (s : State) (v : Voice) (ver : Nat) : List (BitVec 8) :=
  let rel := v.relT
  let v3 := decide (ver = 3)
  leBytes 1 ver ++ leBytes 1 ((if v3 then b2n v.coherent else 0) + 2 * b2n rel.isSome) ++ leBytes 2 0
    ++ leBytes 4 (if v3 then v.prog else 0) ++ leBytes 4 v.nid ++ leBytes 1 v.group ++ leBytes 1 v.vpri ++ leBytes 2 0
    ++ leBytes 8 (tuNs v.bornT) ++ leBytes 8 (match rel with | some t => tuNs t | none => 2 ^ 64 - 1)
    ++ leBytes 8 (if v3 && v.coherent then v.epoch else 0) ++ leBytes 4 v.seed.toNat ++ leBytes 4 v.key.toNat
    ++ leBytes 4 v.vel.toNat ++ leBytes 4 v.relVel.toNat ++ leBytes 8 0
    ++ padTo 1472 ((Config.ctxState v).take (s.stateBytes v))
    ++ padTo 512 (if v3 then (List.range 7).flatMap (fun i => padTo 64
        (leBytes 4 (s.stageUid v i) ++ (if s.stageUid v i = 0 then [] else Config.ctxStage v i))) else [])

/-- A voice can be written at version 2 (R303). -/
def State.fitsV2 (s : State) (v : Voice) : Bool := v.prog == 0 && (List.range 7).all (fun i => s.stageUid v i == 0)

/-- `n` bytes of a context from byte `b`. -/
def ctxField (l : List (BitVec 8)) (b n : Nat) : Nat := leNat ((l.drop b).take n)

/-- PROGRAM_UID: 0 in version 2 (R303). -/
def ctxProg (l : List (BitVec 8)) : Nat := if ctxField l 0 1 = 2 then 0 else ctxField l 4 4

/-- R304: the context's program and stages are loaded here; else the UID that is missing. -/
def State.ctxMissing (s : State) (l : List (BitVec 8)) : Option Nat :=
  let p := ctxProg l
  if p ≠ 0 ∧ ¬ (s.progByUid p).any (fun q => q.live && q.unl.isNone) then some p
  else if ctxField l 0 1 = 2 then none
  else (List.range 7).findSome? (fun i =>
    let u := ctxField l (1536 + 64 * i) 4
    if u ≠ 0 ∧ !((List.range 16).filterMap s.prog).any (fun q =>
      q.uid == u && q.kind == 2 && q.hook == (stageSel i).2 && q.live && q.unl.isNone) then some u else none)

/-- The voice a context carries, without its place in the table (R302, R303). (Log: 175 DESIGN CHOICE.) -/
def ctxVoice (l : List (BitVec 8)) : Voice :=
  let v3 := decide (ctxField l 0 1 ≠ 2)
  let v := (Config.ctxLoad ((l.drop 64).take 1472)).getD (Voice.free 0)
  let rel := ctxField l 24 8
  { v with
    st := 0, retrig := [], ramps := [], why := .none, spill := none, acts := [], loud := none, tailOf := 0
    nid := ctxField l 8 4, group := ctxField l 12 1 % 64, vpri := ctxField l 13 1 % 8, castT := nsTu (ctxField l 16 8)
    bornT := nsTu (ctxField l 16 8), relT := if rel = 2 ^ 64 - 1 then none else some (nsTu rel)
    coherent := v3 && bit (ctxField l 1 1) 0, epoch := if v3 then ctxField l 32 8 else 0
    seed := BitVec.ofNat 32 (ctxField l 40 4), key := BitVec.ofNat 32 (ctxField l 44 4)
    vel := BitVec.ofNat 32 (ctxField l 48 4), relVel := BitVec.ofNat 32 (ctxField l 52 4), prog := ctxProg l }

end Sys2Proof.Machine
end

