-- ==== Sys2Proof/Machine/ServiceOps.lean ====
section
/-!
DEFINITION. Voice migration and spill over the fabric (R183 to R189, R413 to R426).
-/
namespace Sys2Proof.Machine

/-- Replace the services' state. -/
def State.setSv (s : State) (f : Services → Services) : State := { s with sv := f s.sv }

/-- Block of a time in ns that names a frame boundary, rounded to the nearest frame: a STAMP or T_X (R409, R413). -/
def State.stampFrame (s : State) (ns : Nat) : Nat := (nsTu ns + s.fper / 2) / s.fper
/-- The block such a time starts. -/
def State.stampBlk (s : State) (ns : Nat) : Nat := s.stampFrame ns / s.blockLen

/-- A frame boundary of a module at `rate` that a time in ns names, in tu (R409, R413). -/
def State.stampTu (s : State) (rate ns : Nat) : Nat :=
  let fper := if rate = 0 then s.fper else 441000000000 / rate
  (nsTu ns + fper / 2) / fper * fper

/-! ### Migration messages (R413) -/

/-- A MIGRATE frame to `peer`. -/
def State.migMsg (s : State) (peer msg part session srcH dstH tx tsnap dgroup flags status ctx : Nat)
    (body : List (BitVec 8)) : State :=
  (s.sendTo 3 9 peer (leBytes 1 msg ++ leBytes 1 part ++ leBytes 2 session ++ leBytes 4 srcH ++ leBytes 4 dstH ++ leBytes 8 tx
    ++ leBytes 8 tsnap ++ leBytes 1 dgroup ++ leBytes 1 flags ++ leBytes 1 status ++ leBytes 1 ctx ++ body) none).1

/-- A MIGRATION record (R359). -/
def State.migRec (s : State) (reason handle nid peer cause : Nat) : State :=
  s.event 0x1C 36 0 reason (pay 16 handle + pay 20 nid + pay 24 peer + pay 26 cause)

/-- SRC_HANDLE of a source session. -/
def MigSrc.handle (x : MigSrc) : Nat := x.ent + 2 ^ 16 * x.gen
/-- t_x in tu. -/
def State.migTx (s : State) (x : MigSrc) : Nat := s.playStart x.jx
/-- t_snap in tu. -/
def State.migSnap (s : State) (x : MigSrc) : Nat := s.playStart (x.jx - 3)

/-- Send a message of a source session. -/
def State.srcMsg (s : State) (x : MigSrc) (msg part : Nat) (ctx : Nat) (body : List (BitVec 8)) : State :=
  s.migMsg x.peer msg part x.session x.handle (x.dst.getD 0) (tuNs (s.migTx x)) (if x.parked then 0 else tuNs (s.migSnap x))
    x.dgroup (b2n x.noSteal + 2 * b2n x.parked) 0 ctx body

/-- Send a message of a destination session. -/
def State.dstMsg (s : State) (y : MigDst) (msg part status ctx : Nat) (body : List (BitVec 8)) : State :=
  s.migMsg y.peer msg part y.session y.src (match y.ent with | some (e, g) => e + 2 ^ 16 * g | none => 0) y.tx y.tsnap y.dgroup
    y.flags status ctx body

/-- Replace a source session. -/
def State.setSrc (s : State) (x : MigSrc) : State :=
  s.setSv (fun v => { v with src := updWhere (fun y => y.session == x.session) (fun _ => x) v.src })
/-- End a source session. -/
def State.delSrc (s : State) (x : MigSrc) : State := s.setSv (fun v => { v with src := v.src.filter (fun y => y.session != x.session) })
/-- Replace a destination session. -/
def State.setDst (s : State) (x : MigDst) : State :=
  s.setSv (fun v => { v with dst := updWhere (fun y => y.session == x.session && y.peer == x.peer) (fun _ => x) v.dst })
/-- End a destination session. -/
def State.delDst (s : State) (x : MigDst) : State :=
  s.setSv (fun v => { v with dst := v.dst.filter (fun y => !(y.session == x.session && y.peer == x.peer)) })

/-- The voice of a source session is still in its entry. -/
def State.srcLive (s : State) (x : MigSrc) : Bool := (s.ent x.ent).gen == x.gen && (s.ent x.ent).st != 0

/-! ### Commands carried between the copies (R418) -/

/-- Forward a command to the other copy of a migrating voice. (Log: 122 DEDUCED.) -/
def State.forward (s : State) (e desc : Nat) : State :=
  let v := s.ent e
  if v.st = 6 then
    match s.sv.src.find? (fun x => x.ent == e && x.gen == v.gen && x.sent.isSome && !x.ended) with
    | some x => s.srcMsg x 7 1 0 (leBytes 64 desc)
    | none => s
  else if v.st = 7 then
    match s.sv.dst.find? (fun y => y.ent == some (e, v.gen)) with
    | some y => s.dstMsg y 7 1 0 0 (leBytes 64 desc)
    | none => s
  else s

/-- The descriptor of a CHOKE of a handle at a time in ns. -/
def chokeDesc (handle t : Nat) : Nat := 3 + t * 2 ^ 64 + handle * 2 ^ 160

/-- Choke an entry at `t` and carry the choke to the other copy of a migrating voice (R180, R184, R418). -/
def State.choke (s : State) (e t : Nat) : State × Bool :=
  let v := s.ent e
  (if v.st = 6 ∨ v.st = 7 then s.forward e (chokeDesc (s.handle e) (tuNs t)) else s).chokeEnt e t

/-! ### Changes that wait for a boundary (R7, R8, R157) -/

/-- The reservation of entry `e` for an arriving voice is released (R416). -/
def State.unreserve (s : State) (e g : Nat) : State :=
  let v := s.ent e
  if v.gen = g ∧ v.st = 7 then (s.parkRec 5 v.group (e + 2 ^ 16 * g) v.nid 0).setEnt e (Voice.free g) else s

/-- Make such a change at the boundary of the block that starts at `p`: an ABORT's ramp begins where R419 says, a release-end ramp at its
own time, a choke with the block. A voice that a roll chokes is reported STOLEN, so its end is not reported again (R193, R572).
(Log: 167 DEDUCED.) -/
def State.makeLater (s : State) (p : Nat) (x : Later) : State :=
  let is (e g : Nat) : Bool := (s.ent e).gen == g && (s.ent e).st != 0
  match x with
  | .choke e g => if is e g then (s.choke e p).1 else s
  | .drain e g =>
    let v := s.ent e
    if is e g ∧ (active v.st ∨ ((v.st = 6 ∨ v.st = 7) ∧ v.why = .none)) then
      let s := (s.voiceRec (tuNs p) 1 v.group (s.handle e) v.nid).laneEnd v (s.handle e) 2
      if v.st = 1 then s.freeEnt e
      else
        let s := (s.choke e p).1
        s.setEnt e { s.ent e with why := .shed }
    else s
  | .limit e g t => if is e g ∧ (s.ent e).st = 3 then s.endInPlace e (max t p) .limit else s
  | .abort e g t =>
    if !is e g then s
    else match (s.ent e).st with
      | 2 => s.endInPlace e t .migrate
      | 3 => s.endInPlace e t .migrate
      | 5 => s.freeEnt e
      | 7 => s.freeEnt e
      | _ => s
  | .unreserve e g => s.unreserve e g
  | .back e g =>
    let v := s.ent e
    if is e g ∧ v.st = 6 then s.setEnt e { v with st := if v.prevSt = 0 then 2 else v.prevSt } else s
  | .gone e g => if is e g ∧ (s.ent e).st = 6 then s.freeEnt e else s
  | .keep e g => if is e g ∧ (s.ent e).st = 7 then s.setEnt e { s.ent e with st := 5 } else s

/-- A change waits for the next boundary; with none to come, while the scheduler is STOPPED or WAITING, it is made at once.
(Log: 167 DEDUCED.) -/
def State.postpone (s : State) (x : Later) : State :=
  if s.schState < 2 then s.makeLater s.tu x else { s with al := { s.al with later := s.al.later ++ [x] } }

/-! ### Sessions that end, and the context versions (R303, R416, R419) -/

/-- A source session fails with a cause: the voice returns to its previous state, ABORT follows a COMMIT, and the
MIGRATE completes MIGRATE_FAILED (R416, R419). (Log: 122 DEDUCED, 167 DEDUCED.) -/
def State.migFail (s : State) (x : MigSrc) (cause : Nat) : State :=
  let v := s.ent x.ent
  let s := if s.srcLive x ∧ v.st = 6 then s.postpone (.back x.ent x.gen) else s
  let s := if x.dst.isSome then s.srcMsg x 6 0 0 [] else s
  let s := s.migRec 4 x.handle v.nid x.peer cause
  (s.delSrc x).trackDone x.seq 0x0F 0 cause

/-- The context version for a node: the highest both read (R303, R414, R419); none if the voice cannot be written. -/
def State.ctxVer (s : State) (v : Voice) (peer : Nat) : Option Nat :=
  match s.sv.ctxRange.find? (fun r => r.1 == peer && r.2.1 == s.get (Reg.FSW_FWD_BOOTGEN peer)) with
  | some (_, _, _, hi) => if 3 ≤ hi then some 3 else if 2 ≤ hi && s.fitsV2 v then some 2 else none
  | none => some 3

/-- The port an OFFER to a node leaves by. -/
def State.offerPort (s : State) (peer : Nat) : Nat := ((s.route peer 4).getD []).headD 4

/-! ### The context store (R182, R183, R487, R490) -/

/-- Queued commands that name the voice `h` by its handle complete DISCARDED_RESET (R191, R323). (Log: 150 DEDUCED.) -/
def State.dropFor (s : State) (h : Nat) : State :=
  let named (c : TCmd) : Bool := !c.done && !c.isCast && [2, 3, 4, 6, 0x20].contains c.fl.op && c.u 16 1 == 0 && c.u 20 4 == h
  (s.sch.queue.filter named).foldl (fun s c => (s.take c).finish c s.ns 0x0D 0 0) s

/-- A context move reads parked entry `p`'s words of the context store: single-bit errors are corrected; a double-bit error loses the voice,
as a reset of its slot would (R191, R490). Whether it did. -/
def State.readContext (s : State) (p : Nat) : State × Bool :=
  let a := 0x1700000 + 0x800 * p
  match s.sramSpoilt a 0x800 with
  | none => (s.sramFix a 0x800, false)
  | some w =>
    let v := s.park p
    let h := s.handle (256 + p)
    ((((s.sramUe (8 * w)).voiceRec s.ns 3 v.group h v.nid).freeEnt (256 + p)).dropFor h, true)

/-- Send the OFFER of a session whose boundary has come: the snapshot (R414, R421), held back by R422. -/
def State.migOffer (s : State) (m : Nat) (x : MigSrc) : State :=
  let v := s.ent x.ent
  if !s.srcLive x ∨ (x.parked ∧ v.st ≠ 5) ∨ (!x.parked ∧ v.st ≠ 2 ∧ v.st ≠ 3) then (s.delSrc x).trackDone x.seq 5 0 0
  else
    let p := s.offerPort x.peer
    let recent := s.sv.offers.filter (fun o => decide (s.ns < o.2 + 1000000))
    let s := s.setSv (fun w => { w with offers := recent })
    if 16 ≤ (recent.filter (fun o => o.1 == p)).length then
      let x := { x with jx := (if x.parked then m else m + 3) + 1, late := true }
      (s.setSrc x).trackTime x.seq (tuNs (s.migTx x)) 1
    else
      let x := if x.parked then { x with jx := m, sent := some s.ns }
        else { x with jx := m + 3, sent := some s.ns, late := x.late || decide (x.jx ≠ m + 3) }
      match s.ctxVer v x.peer with
      | none => (s.setSrc x).migFail x 0x11
      | some ver =>
        let ctx := s.context v ver
        let (s, lost) := if x.parked then s.readContext (x.ent - 256) else (s, false)
        if lost then (s.delSrc x).trackDone x.seq 0x0D 0 0
        else
        let s := ((s.setSrc x).trackTime x.seq (tuNs (s.migTx x)) (b2n x.late)).setEnt x.ent { v with st := 6, prevSt := v.st }
        let s := s.setSv (fun w => { w with offers := (p, s.ns) :: w.offers })
        let s := (s.srcMsg x 1 0 ver (ctx.take 1024)).srcMsg x 1 1 ver ((ctx.drop 1024).take 1024)
        s.migRec 1 x.handle v.nid x.peer 0

/-- The outcome of a session at O of the overlap block (R416, R417), and the entry freed one boundary later.
(Log: 122 DEDUCED.) -/
def State.migOutcome (s : State) (m : Nat) (x : MigSrc) : State :=
  if x.ended then
    let v := s.ent x.ent
    (if s.srcLive x && v.st == 6 then s.freeEnt x.ent else s).delSrc x
  else if x.sent.isNone ∨ x.parked ∨ m < x.jx then s
  else if x.acked then
    let v := s.ent x.ent
    let s := s.setEnt x.ent { v with ramps := ⟨s.migTx x, s.blockT, false, true⟩ :: v.ramps }
    let s := s.migRec 3 x.handle v.nid x.peer 0
    (s.setSrc { x with ended := true }).trackDone x.seq (b2n x.late) (x.dst.getD 0) 0
  else s.migFail x (match x.bad with | some c => c | none => if x.dst.isSome then 0x01 else 0x0E)

/-- The source's outcomes at a boundary. -/
def State.migOutcomes (s : State) (m : Nat) : State := s.sv.src.foldl (fun s x => s.migOutcome m x) s
/-- The boundary of a session's OFFER has come. -/
def State.offerDue (_s : State) (m : Nat) (x : MigSrc) : Bool := x.sent.isNone && (if x.parked then decide (x.jx ≤ m) else decide (x.jx ≤ m + 3))
/-- The OFFERs that have waited for this boundary. -/
def State.migOffers (s : State) (m : Nat) : State := s.sv.src.foldl (fun s x => if s.offerDue m x then s.migOffer m x else s) s

/-- Open sessions for the voices a MIGRATE of MODE 0 names; those whose boundary this is send their OFFERs (R166, R414, R419, R421, R330). -/
def State.migStart (s : State) (c : TCmd) (m : Nat) (es : List Nat) : State :=
  let peer := c.u 24 2 % 4096
  let es := es.filter (fun e => (s.ent e).st == 2 || (s.ent e).st == 3 || (s.ent e).st == 5)
  let late := s.isLate c m
  let jx := if c.exec = 0 ∨ late then m + 3 else s.blockOf c.exec
  let t := tuNs (s.playStart jx)
  if es.isEmpty then s.finish c t 5 0 0
  else
    let s := s.track c es.length 0 t
    es.foldl (fun s e =>
      let v := s.ent e
      let parked := v.st == 5
      let plate := s.isLateBy c m 0
      let x : MigSrc := { session := s.sv.nextSession, seq := c.fl.seq, ent := e, gen := v.gen, peer := peer, dgroup := c.u 26 1 % 64
                          noSteal := bit (c.u 27 1) 2, parked := parked
                          jx := if parked then (if c.exec = 0 ∨ plate then m else s.blockOf c.exec) else jx
                          late := if parked then plate else late, sent := none, dst := none, acked := false, bad := none, ended := false }
      let s := s.setSv (fun w => { w with nextSession := (w.nextSession + 1) % 65536, src := w.src ++ [x] })
      if s.addr = some peer then s.migFail x 0x03
      else if s.offerDue m x then s.migOffer m x else s) s

/-! ### The destination (R415, R416, R418) -/

/-- Release a reservation, at a boundary (R416). -/
def State.releaseRes (s : State) (y : MigDst) : State :=
  (match y.ent with
  | none => s
  | some (e, g) => s.unreserve e g).delDst y

/-- Release a reservation between boundaries: its session ends now, its entry at the next boundary (R157, R419, R426).
(Log: 167 DEDUCED.) -/
def State.dropRes (s : State) (y : MigDst) : State :=
  (match y.ent with
  | none => s
  | some (e, g) => s.postpone (.unreserve e g)).delDst y

/-- Refuse an OFFER with a cause (R415, R419). -/
def State.refuse (s : State) (y : MigDst) (cause ctx : Nat) : State :=
  ((s.dstMsg y 3 0 cause ctx []).migRec 4 y.src 0 y.peer cause).delDst y

/-- The slot of an arriving voice: as a cast into the group, without a steal under NO_STEAL (R184). -/
def State.placeArriving (s : State) (g : Nat) (key : F32) (noSteal : Bool) : Place :=
  match s.place g key with
  | .steal v => if noSteal then .none else .steal v
  | p => p

/-- Decide an OFFER whose two parts have arrived (R303, R304, R415, R421); `m` = the block whose render begins, none
while no boundary comes. -/
def State.decideOffer (s : State) (m : Option Nat) (y : MigDst) : State :=
  match y.part0, y.part1 with
  | some a, some b =>
    if y.ent.isSome then s
    else
      let l := a ++ b
      let lo := s.get Reg.ID_IFVER_CTX_MIN
      let hi := s.get Reg.ID_IFVER_CTX_MAX
      let ver := ctxField l 0 1
      let late := match m with
        | some j => !bit y.flags 1 && decide (s.stampBlk y.tx ≤ j)
        | none => false
      if ver < lo ∨ hi < ver then s.refuse y 0x11 (lo + 16 * hi)
      else match s.ctxMissing l with
        | some uid => (s.event 0x78 127 0 5 (pay 16 uid)).refuse y 0x10 0
        | none =>
          if late then s.refuse y 0x01 0
          else
            let v := { ctxVoice l with group := y.dgroup % 64, progSlot := s.slotOfUid (ctxProg l) }
            let accept (s : State) (e : Nat) : State :=
              let g := (s.ent e).gen
              let s := s.setEnt e { v with st := 7, gen := g, prevSt := if v.relT.isSome then 3 else 2 }
              let y := { y with ent := some (e, g) }
              let s := s.setDst y
              let s := s.dstMsg y 2 0 0 0 []
              (s.parkRec 4 v.group (e + 2 ^ 16 * g) v.nid 0).migRec 2 (e + 2 ^ 16 * g) v.nid y.peer 0
            if bit y.flags 1 then
              match (List.range 64).find? (fun p => (s.park p).st == 0) with
              | some p => accept s (256 + p)
              | none => s.refuse y 0x0A 0
            else match s.placeArriving v.group v.key (bit y.flags 0) with
              | .free e => accept s e
              | .steal e => accept (s.steal e (nsTu y.tx)) e
              | .none => s.refuse y 0x06 0
  | _, _ => s

/-- A voice that arrives from a module at another sample rate (R99, R420): its phases stand at the snapshot, `t` in tu, as they do at a
cast there; residuals, resamplers and the path delay start from zero, and its increments are formed anew.
(Log: 177 DEDUCED.) -/
def Voice.rerate (v : Voice) (c : Env0) (t : Nat) : Voice :=
  let d := deltaOf c.fper ((t + c.fper - 1) / c.fper) t
  let v := v.oscTo { c with rate := v.snd.rate } t 0
  let v := { v with snd := { v.snd with xin := [[], []], xin2 := [[], []], down := [[], [], []], rate := c.rate } }
  let v := v.mapOsc (fun n o => { v.tuned c t n o with tail := [], ltail := [], todo := d })
  v.mapLfo (fun n l =>
    let inc := incOf (v.eff t (0x4001 + 256 * n)) c.rate
    { l with inc := inc, a := modA ((l.a : Int) + l.inc - inc * ((sub24 - d : Nat) : Int) / (sub24 : Int)) })

/-- Catch up a committed voice, silent, from its snapshot, `t0` in tu, to the start of block `m` of `B` frames (R415).
(Log: 177 DEDUCED.) -/
def Voice.catchUp (v : Voice) (c : Env0) (B t0 m tier : Nat) : Voice :=
  let k0 := (t0 + c.fper - 1) / c.fper
  let v := { v with snd := { v.snd.retier tier with rate := c.rate } }
  (List.range (m * B - k0)).foldl (fun v x => (v.sample c (k0 + x) ((k0 + x) % B) B).1) v

/-- The destination's part of the boundary of block `m`: committed voices sound, reservations without a COMMIT are
released (R415 to R417). (Log: 177 DEDUCED.) -/
def State.migSound (s : State) (m : Nat) (env : Nat → Env0) (tier : Nat) : State :=
  s.sv.dst.foldl (fun s y =>
    match y.ent with
    | none => s
    | some (e, g) =>
      if bit y.flags 1 ∨ m < s.stampBlk y.tx then s
      else if y.committed then
        let v := s.ent e
        if v.gen = g ∧ v.st = 7 then
          let c := env v.group
          let t0 := s.stampTu v.snd.rate y.tsnap
          let v := if v.snd.rate = c.rate ∨ v.snd.rate = 0 then v else v.rerate c t0
          let v := v.catchUp c s.blockLen t0 m tier
          let v := { v with st := v.prevSt, ramps := ⟨nsTu y.tx, (nsTu y.tx - nsTu y.tsnap) / 3, true, true⟩ :: v.ramps }
          (s.setEnt e v).delDst y
        else s.delDst y
      else s.releaseRes y) s

/-- The OFFERs decided at the boundary of block `m` (R415). -/
def State.migDecide (s : State) (m : Nat) : State :=
  s.sv.dst.foldl (fun s y => s.decideOffer (some m) y) s

/-! ### Spill (R185 to R189, R423 to R425) -/

/-- A SPILL record (R359). (Log: 31 DEDUCED.) -/
def State.spillRec (s : State) (g reason node nid : Nat) : State := s.event 0x31 61 g reason (pay 16 node + pay 20 nid)

/-- Replace `n` bytes from byte `b` of a descriptor. -/
def dset (d b n v : Nat) : Nat := d - dfield d b n * 2 ^ (8 * b) + v % 2 ^ (8 * n) * 2 ^ (8 * b)

/-- The active partnership of a group (R185). -/
def State.partnerOf (s : State) (g : Nat) : Option Partner :=
  s.sv.partners.find? (fun p => p.active && p.node == (s.group g).spillNode)
/-- A partnership by its number. -/
def State.partner (s : State) (pid : Nat) : Option Partner := s.sv.partners.find? (fun p => p.pid == pid)

/-- A cast of group `g` can spill (R185). -/
def State.canSpill (s : State) (g : Nat) (coherent : Bool) : Bool :=
  (s.group g).spillMode != 0 && (s.partnerOf g).isSome && !coherent && decide (s.sv.recs.length < 256)

/-- Send a cast to the partner, its times later by L blocks (R186). (Log: 31 DEDUCED.) -/
def State.spillCast (s : State) (c : TCmd) (g t : Nat) : State :=
  match s.partnerOf g, (List.range 256).find? (fun n => !s.sv.recs.any (fun r => r.num == n)) with
  | some p, some n =>
    let lat := (s.group g).spillLat
    let t' := tuNs (t + lat * s.blockT)
    let d := dset (dset c.desc 8 8 t') 16 1 (s.group g).spillGroup
    let s := s.setSv (fun w => { w with recs := w.recs ++ [⟨n, p.pid, g, c.u 20 4, BitVec.ofNat 32 (c.u 24 4), lat, none, some (c, t'), t', s.ns⟩] })
    s.spillMsg p.node 5 p.pid n (s.boundUid g) 0 0 0 0 0 (leBytes 64 d)
  | _, _ => s

/-- Remove a record of the spill table. -/
def State.delRec (s : State) (n : Nat) : State := s.setSv (fun w => { w with recs := w.recs.filter (fun r => r.num != n) })

/-- The spilled voices an address names (R186): AMODE 0 by the partner's handle, 1 NID, 2 group and key, 3 group. -/
def State.spilled (s : State) (amode group target : Nat) : List SpillRec :=
  s.sv.recs.filter (fun r => match amode with
    | 0 => r.handle == some target && (s.lookup target).isNone
    | 1 => r.nid == target
    | 2 => r.group == group && r.key == BitVec.ofNat 32 target
    | _ => r.group == group)

/-- Send a later command of a spilled voice, its time later by L (R186, R423). -/
def State.spillCmd (s : State) (r : SpillRec) (desc t : Nat) : State :=
  match s.partner r.pid with
  | some p => s.spillMsg p.node 7 p.pid r.num (r.handle.getD 0) 0 0 0 0 0 (leBytes 64 (dset desc 8 8 (tuNs (t + r.lat * s.blockT))))
  | none => s

/-- A return block of a partnership that has not arrived when block `j` needs it: SPILL_LATE, while an accepted voice of the
partnership has started (R188, R425). (Log: 121 DEDUCED.) -/
def State.spillLate (s : State) (j : Nat) : State :=
  s.sv.partners.foldl (fun s p =>
    match s.sv.recs.find? (fun r => r.pid == p.pid && r.handle.isSome && decide (s.blockOf r.start ≤ j)) with
    | some r =>
      if p.active && (Tbl.get 0 s.sv.ret ((256 * p.pid) * 2 ^ 40 + j * s.blockLen) == 0) then s.spillRec r.group 2 p.node r.nid else s
    | none => s) s

/-- A partnership this module asked for ends: its pending requests complete NODE_LOST, its voices are reported VOICE_LOST
when `lost` (R188, R424, R426). -/
def State.dropPartner (s : State) (p : Partner) (lost : Bool) : State :=
  let recs := s.sv.recs.filter (fun r => r.pid == p.pid)
  let s := s.setSv (fun w => { w with recs := w.recs.filter (fun r => r.pid != p.pid), partners := w.partners.filter (fun q => q.pid != p.pid) })
  let s := recs.foldl (fun s r =>
    match r.cmd with
    | some (c, t) => if lost then s.finish c t 0x0E 0 0 else (s.spillRec r.group 1 p.node r.nid).finish c t 0x09 0 0
    | none => if lost then s.voiceRec s.ns 3 r.group (r.handle.getD 0) r.nid else s) s
  let s := match p.cmd with
    | some (c, t, _) => s.finish c t 0x0E 0 0
    | none => s
  if p.active then s.spillRec 0 4 p.node 0 else s

/-- The voices of a served partnership are choked, at the next boundary, and its lane freed (R7, R8, R424). -/
def State.dropLane (s : State) (l : Lane) : State :=
  let s := allEnts.foldl (fun s e => match (s.ent e).spill with
    | some (n, p, _) => if n = l.node ∧ p = l.pid then s.postpone (.choke e (s.ent e).gen) else s
    | none => s) s
  s.setSv (fun w => { w with lanes := w.lanes.filter (fun x => !(x.node == l.node && x.pid == l.pid)) })

/-! ### Lost and rebooted peers (R188, R426) -/

/-- A peer is lost or rebooted: its sessions and partnerships end at once (R426). -/
def State.peerServices (s : State) (a : Nat) : State :=
  let s := (s.sv.src.filter (fun x => x.peer == a && !x.ended)).foldl (fun s x => s.migFail x 0x0E) s
  let s := (s.sv.dst.filter (fun y => y.peer == a && !y.committed)).foldl (fun s y => s.dropRes y) s
  let s := s.setSv (fun w => { w with dst := w.dst.filter (fun y => y.peer != a || y.committed) })
  let s := (s.sv.partners.filter (fun p => p.node == a)).foldl (fun s p => s.dropPartner p true) s
  let s := (s.sv.lanes.filter (fun l => l.node == a)).foldl (fun s l => s.dropLane l) s
  s.setSv (fun w => { w with ctxRange := w.ctxRange.filter (fun r => r.1 != a) })

end Sys2Proof.Machine
end

