-- ==== Sys2Proof/Machine/ProgOps.lean ====
section
/-!
DEFINITION. Program slots: binding, unloading and use (R286, R287, R290 to R293, R305).
-/
namespace Sys2Proof.Machine

/-- Replace program slot `n`. -/
def State.setProg (s : State) (n : Nat) (p : Option Program) : State := { s with progs := Tbl.put none s.progs n p }

/-- A MAQ record (R305). -/
def State.maqRec (s : State) (reason slot uid x : Nat) : State := s.event 0x78 127 slot reason (pay 16 uid + pay 20 x)

/-- A voice uses the maquette of slot `n`: its program, or a stage that one of its selectors names (R286, R293). -/
def Voice.uses (v : Voice) (n : Nat) (p : Program) : Bool :=
  v.st != 0 && (if p.kind = 1 then v.prog == p.uid && v.progSlot == n
    else p.kind == 2 && v.prog == 0 && (List.range 7).any (fun i => (stageSel i).2 == p.hook && (v.raw (stageSel i).1 == p.hookVal
      || v.acts.any (fun a => match a.2 with | .set id x _ => id == (stageSel i).1 && x == p.hookVal | _ => false))))

/-- Some slot, tail, parked entry or effect instance uses the maquette of slot `n`. -/
def State.progUsed (s : State) (n : Nat) (p : Program) : Bool :=
  allEnts.any (fun e => (s.ent e).uses n p) || (List.range 64).any (fun k => (s.tail k).uses n p)
    || (p.kind == 3 && (List.range 8).any (fun e => s.mixRaw s.mix.cur (0xC000 + 256 * e) == n))

/-- Put the voice maquette's or the armature's binding on a group: its patch holds the program's defaults (R287, R326). -/
def State.bindGroup (s : State) (g slot : Nat) : State := s.setGroup g { s.group g with bind := slot, patch := [], pramps := [] }

/-- A load that has not come to its boundary goes, with the place that its checks have given it (R212, R294, R342). -/
def State.dropLoad (s : State) (c : TCmd) : State :=
  let placed := s.loads.any (fun l => l.cmd.fl.seq == c.fl.seq && l.res == some 0)
  let s := { s with loads := s.loads.filter (fun l => l.cmd.fl.seq != c.fl.seq) }
  if placed then s.setProg (c.u 16 1) none else s

/-- Step 5 of R292 for a load whose checks passed. -/
def State.bindLoad (s : State) (c : TCmd) (m : Nat) : State :=
  let n := c.u 16 1
  let s := { s with loads := s.loads.filter (fun l => l.cmd.fl.seq != c.fl.seq) }
  match s.prog n with
  | some p =>
    let mask := c.u 32 8
    let s := s.setProg n (some { p with live := true })
    let s := if p.kind = 1 then (List.range 64).foldl (fun s g => if bit mask g then s.bindGroup g n else s) s else s
    (s.maqRec 1 n p.uid 0).finish c (tuNs (s.effTime c m)) (s.okStatus c m) 0 0
  | none => s.finish c (tuNs (s.effTime c m)) 0x05 0 0

/-- UNLOAD_MAQUETTE at its boundary (R293, R294); `busy` while an update runs (R574). -/
def State.unload (s : State) (c : TCmd) (m : Nat) (busy : Bool) : State :=
  let n := c.u 16 1
  let t := tuNs (s.effTime c m)
  if n = 0 ∨ busy then s.finish c t 0x19 0 0
  else match s.prog n with
    | none => s.finish c t 0x05 0 0
    | some p =>
      if p.unl.isSome ∨ !p.live then s.finish c t 0x19 0 0
      else
        let used := allEnts.filter (fun e => (s.ent e).uses n p)
        let s := s.setProg n (some { p with unl := some (c, t, s.okStatus c m) })
        let s := (List.range 64).foldl (fun s g => if (s.group g).bind = n then s.bindGroup g 0 else s) s
        let s := (List.range 8).foldl (fun s e =>
          let id := 0xC000 + 256 * e
          if s.mixRaw s.mix.par id = n then
            s.setMix (fun x => { x with par := s.mixStore x.par id 0, fxFade := Tbl.put 0 x.fxFade e (m * s.blockLen + 1) })
          else s) s
        if bit (c.u 17 1) 0 then used.foldl (fun s e => (s.choke e (s.effTime c m)).1) s else s

/-- Free the granules of the maquettes that unload and that nothing uses any more (R293). -/
def State.unloadFree (s : State) : State :=
  (List.range 16).foldl (fun s n =>
    match s.prog n with
    | some p => match p.unl with
      | some (c, t, st) => if s.progUsed n p then s else ((s.setProg n none).maqRec 2 n p.uid 0).finish c t st 0 0
      | none => s
    | none => s) s

/-- The values a voice of group `g` starts with: its program's defaults under the group's patch (R326). -/
def State.patchPar (s : State) (g : Nat) : Tbl (Option Nat) :=
  let uid := s.boundUid g
  let put (t : Tbl (Option Nat)) (id v : Nat) : Tbl (Option Nat) :=
    Tbl.put none t id (if v = dfltParam armParam id then none else some v)
  let t : Tbl (Option Nat) :=
    if uid ≠ 0 then match s.progByUid uid with
      | some p => p.params.foldl (fun t e => put t e.id e.dflt) []
      | none => []
    else (List.range 16).foldl (fun t n => match s.prog n with
      | some p => if p.kind = 2 then (List.range (hookCount p.hook)).foldl (fun t i =>
          p.params.foldl (fun t e => put t (0x7000 + 256 * n + 64 * i + e.id) e.dflt) t) t else t
      | none => t) []
  (s.group g).patch.foldl (fun t e => match e.2 with | some v => put t e.1 v | none => t) t

/-- The patch value of a parameter (R326). -/
def State.patchRaw (s : State) (g id : Nat) : Nat :=
  (Tbl.get none (s.group g).patch id).getD (dfltParam (s.voiceParams (s.boundUid g)) id)
/-- The patch value at a time with RAMP_PARAM (R327). -/
def State.patchAt (s : State) (g id t : Nat) : F32 :=
  match (s.group g).pramps.find? (fun r => r.id == id) with
  | some r =>
    if r.t0 + r.dur ≤ t then r.tgt
    else if t < r.t0 then r.from_
    else fAdd r.from_ (fMul (fSub r.tgt r.from_) (fRat ((t - r.t0 : Nat) : Int) r.dur))
  | none => BitVec.ofNat 32 (s.patchRaw g id)
/-- Store a patch value; a running ramp of it is cancelled (R326). -/
def State.setPatch (s : State) (g id v : Nat) : State :=
  let gr := s.group g
  s.setGroup g { gr with
    patch := Tbl.put none gr.patch id (if v = dfltParam (s.voiceParams (s.boundUid g)) id then none else some v)
    pramps := gr.pramps.filter (fun r => r.id != id) }

end Sys2Proof.Machine
end

