-- ==== Sys2Proof/Machine/CmdApply.lean ====
section
/-!
DEFINITION. What a timed command does when it is applied at its boundary (R161, R166 step 3, R178 to R182, R199 step 5,
R325 to R333).
-/
namespace Sys2Proof.Machine

/-- What a voice of group `g` reads from the module (R143, R144, R150, R474). -/
def State.env (s : State) (g : Nat) : Env0 :=
  { fper := s.fper, rate := s.rate, gc := (s.group g).gc, node := s.al.node
    cm := fun c => BitVec.ofNat 32 (s.get (Reg.UART_CM_VAL c)), lib := ⟨s.dram, s.ms.dramBad⟩
    stage := fun h x => (((List.range 16).filterMap s.prog).find? (fun p => p.kind == 2 && p.hook == h && p.hookVal == x)).elim 0 Program.uid }

/-- Send a command of spilled voices on to their partners (R186); how many. -/
def State.toSpilled (s : State) (c : TCmd) (t : Nat) : State × Nat :=
  let rs := s.spilled (c.u 16 1) (c.u 18 1) (c.u 20 4)
  (rs.foldl (fun s r => s.spillCmd r c.desc t) s, rs.length)

/-- The entries a command addresses (R323). (Log: 34 DEDUCED.) -/
def State.addressed (s : State) (c : TCmd) : State × List Nat :=
  let (s', es) := s.address (c.u 16 1) (c.u 18 1) (c.u 20 4)
  if c.u 16 1 = 0 ∧ !(s.spilled 0 0 (c.u 20 4)).isEmpty then (s, []) else (s', es)

/-! ### RELEASE, CHOKE -/

/-- RELEASE (R178, R179, R325, R418). (Log: 30 DEDUCED.) -/
def State.applyRelease (s : State) (c : TCmd) (m : Nat) : State :=
  let t := s.effTime c m
  let (s, es) := s.addressed c
  let (s, n) := s.eachEnt es (fun s e =>
    let s := if (s.ent e).st = 6 then s.forward e c.desc else s
    s.releaseEnt e t (BitVec.ofNat 32 (c.u 24 4)) c.fl.seq)
  let (s, k) := s.toSpilled c t
  s.finishN c m (n + k)

/-- CHOKE (R180, R184, R325): the addressing of RELEASE. -/
def State.applyChoke (s : State) (c : TCmd) (m : Nat) : State :=
  let t := s.effTime c m
  let (s, es) := s.addressed c
  let es := if c.u 16 1 = 2 then es.filter (fun e => (s.ent e).st != 3) else es
  let (s, n) := s.eachEnt es (fun s e => s.choke e t)
  let (s, k) := s.toSpilled c t
  s.finishN c m (n + k)

/-! ### SET_PARAM, RAMP_PARAM (R326, R327, R596) -/

/-- A voice whose parameters a command changes: CASTING, SOUNDING, RELEASING or MIGRATING_OUT. -/
def takesParam (st : Nat) : Bool := active st || st == 6

/-- Parameter changes at `t` by the command accepted as number `seq`; the voice takes them at their sample, and those up to its
first sample as its first values (R69, R118, R596). -/
def Voice.setAt (v : Voice) (t seq : Nat) (l : List (Nat × Nat)) : Voice := l.foldl (fun v p => v.addAct t (.set p.1 p.2 seq)) v

/-- The programs whose tables check a command: those of the addressed voices, and the group's for AMODE 3. -/
def State.checkUids (s : State) (c : TCmd) (es : List Nat) : List Nat :=
  ((if c.u 16 1 = 3 then [s.boundUid (c.u 18 1)] else []) ++ es.map (fun e => (s.ent e).prog)).eraseDups

/-- The first failure of a list of checks. -/
def firstBad (l : List (Except (Nat × Nat) (List (Nat × Nat)))) : Option (Nat × Nat) :=
  l.findSome? (fun r => match r with | .error e => some e | .ok _ => none)

/-- The values of checked pairs. -/
def pairsOf (r : Except (Nat × Nat) (List (Nat × Nat))) : List (Nat × Nat) := match r with | .ok l => l | .error _ => []

/-- End a parameter command that acted on `n` voices; AMODE 3 always finds the patch. -/
def State.finishParam (s : State) (c : TCmd) (m n : Nat) : State :=
  if c.u 16 1 = 3 then s.finish c (tuNs (s.effTime c m)) (s.okStatus c m) n 0 else s.finishN c m n

/-- SET_PARAM of the mix section (R230, R326). -/
def State.applyMixSet (s : State) (c : TCmd) (m d cnt : Nat) : State :=
  let t := s.effTime c m
  match s.mixPairs d 24 cnt 0 s.mix.par [] with
  | .error (i, st) => s.finish c (tuNs t) st i 0
  | .ok (par, l) =>
    let f := (t + s.fper - 1) / s.fper
    let s := l.foldl (fun s p => s.mixAct f (.par p.1 p.2)) (s.setMix (fun x => { x with par := par }))
    s.finish c (tuNs t) (s.okStatus c m) 0 0

/-- SET_PARAM of pairs held at byte 24 of `d` (R326). -/
def State.applySet (s : State) (c : TCmd) (m d cnt : Nat) : State :=
  if c.u 16 1 = 4 then s.applyMixSet c m d cnt
  else
    let t := s.effTime c m
    let g := c.u 18 1
    let (s, es) := s.addressed c
    let es := es.filter (fun e => takesParam (s.ent e).st)
    let uids := s.checkUids c es
    match firstBad (uids.map (fun u => s.checkPairs u d 24 cnt 0)) with
    | some (i, st) => s.finish c (tuNs t) st i 0
    | none =>
      let s := if c.u 16 1 = 3 then
          (pairsOf (s.checkPairs (s.boundUid g) d 24 cnt 0)).foldl (fun s p => s.setPatch g p.1 p.2) s
        else s
      let s := es.foldl (fun s e =>
        let v := s.ent e
        let v' := v.setAt t c.fl.seq (pairsOf (s.checkPairs v.prog d 24 cnt 0))
        let s' := s.setEnt e v'
        if v.st = 6 then s'.forward e c.desc else s') s
      let (s, k) := s.toSpilled c t
      s.finishParam c m (es.length + k)

/-- Check a ramp of a parameter against a table: an enumeration is refused (R327). (Log: 35 DEDUCED.) -/
def rampCheck (f : Nat → Option PSpec) (id v : Nat) : PRes :=
  match f id with
  | none => .badParam
  | some p => match p.kind with
    | .real _ _ => checkParam f id v
    | .strict _ _ => checkParam f id v
    | _ => .badValue

/-- RAMP_PARAM with a duration (R327). (Log: 35 DEDUCED.) -/
def State.applyRamp (s : State) (c : TCmd) (m : Nat) : State :=
  let t := s.effTime c m
  let id := c.u 24 2
  let dur := nsTu (c.u 32 8)
  let g := c.u 18 1
  let fail (s : State) (r : PRes) : State := s.finish c (tuNs t) (match r with | .badParam => 4 | _ => 3) 0 0
  if c.u 16 1 = 4 then
    match rampCheck (s.mixParam s.mix.par) id (c.u 28 4) with
    | .ok v =>
      let f := (t + s.fper - 1) / s.fper
      ((s.setMix (fun x => { x with par := s.mixStore x.par id v })).mixAct f (.ramp id (BitVec.ofNat 32 v) t dur)).finish c
        (tuNs t) (s.okStatus c m) 0 0
    | r => fail s r
  else
    let (s, es) := s.addressed c
    let es := es.filter (fun e => takesParam (s.ent e).st)
    let chk (u : Nat) : PRes := rampCheck (s.voiceParams u) id (c.u 28 4)
    match (s.checkUids c es).findSome? (fun u => match chk u with | .ok _ => none | r => some r) with
    | some r => fail s r
    | none =>
      let val (u : Nat) : F32 := match chk u with | .ok v => BitVec.ofNat 32 v | _ => 0
      let s := if c.u 16 1 = 3 then
          let tgt := val (s.boundUid g)
          let t0 := rampT0 s.fper t id
          let f := s.patchAt g id t0
          let s := s.setPatch g id tgt.toNat
          s.setGroup g { s.group g with pramps := ⟨id, f, tgt, t0, dur⟩ :: (s.group g).pramps }
        else s
      let s := es.foldl (fun s e =>
        let v := s.ent e
        let s' := s.setEnt e (v.addAct t (.ramp id (val v.prog) dur c.fl.seq))
        if v.st = 6 then s'.forward e c.desc else s') s
      let (s, k) := s.toSpilled c t
      s.finishParam c m (es.length + k)

/-- The ID of a RAMP_PARAM is refused (R327). (Log: 35 DEDUCED.) -/
def State.rampBad (s : State) (c : TCmd) : Bool :=
  let id := c.u 24 2
  let bad (r : PRes) : Bool := match r with | .ok _ => false | _ => true
  if c.u 16 1 = 4 then bad (rampCheck (s.mixParam s.mix.par) id (c.u 28 4))
  else
    let es := (s.addressed c).2.filter (fun e => takesParam (s.ent e).st)
    (s.checkUids c es).any (fun u => bad (rampCheck (s.voiceParams u) id (c.u 28 4)))

/-! ### SET_GROUP (R161, R328) -/

/-- A GROUP record (R193). -/
def State.groupRec (s : State) (g reason : Nat) : State :=
  s.event 0x33 63 g reason (pay 16 (s.gcount g) + pay 18 (s.group g).limit)

/-- SET_GROUP at its boundary; a HOLD that ends releases the HELD voices at its own time (R179). -/
def State.applyGroup (s : State) (c : TCmd) (m : Nat) : State :=
  let t := s.effTime c m
  let g := c.u 16 1
  let old := s.group g
  let s := s.setGroup g { old with
    cfg0 := c.u 20 4, cfg1 := c.u 24 4, gc := (List.range 8).map (fun i => BitVec.ofNat 32 (c.u (28 + 4 * i) 4)) }
  let s := (s.put (Reg.AL_GRP_CFG0 g) (c.u 20 4)).put (Reg.AL_GRP_CFG1 g) (c.u 24 4)
  let s := if old.hold ∧ !(s.group g).hold then
      allEnts.foldl (fun s e =>
        let v := s.ent e
        if v.held ∧ v.group = g then (s.releaseEnt e t v.heldVel c.fl.seq).1 else s) s
    else s
  let s := s.groupRec g 1
  let s := if (s.group g).limit < old.limit ∧ (s.group g).limit < s.gcount g then s.groupRec g 2 else s
  s.finish c (tuNs t) (s.okStatus c m) 0 0

/-! ### Parking (R181, R182) -/

/-- Parked entries that parks in progress will take. -/
def State.parksDue (s : State) : Nat :=
  (allSlots.filter (fun v => match (s.slot v).why with | .park _ false => (s.slot v).st == 4 | _ => false)).length

/-- A park: each SOUNDING or RELEASING voice ramps out towards a parked entry. -/
def State.applyPark (s : State) (c : TCmd) (m : Nat) : State :=
  let t := s.effTime c m
  let (s, es) := s.addressed c
  let es := es.filter (fun e => (s.ent e).st == 2 || (s.ent e).st == 3)
  if es.isEmpty then s.finish c (tuNs t) 5 0 0
  else
    let s := s.track c es.length (s.okStatus c m) (tuNs t)
    es.foldl (fun s e =>
      let free := ((List.range 64).filter (fun p => (s.park p).st == 0)).length
      if free ≤ s.parksDue then
        (s.parkRec 1 (s.ent e).group (s.handle e) (s.ent e).nid 0x0A).trackDone c.fl.seq 0x0A 0 0
      else s.endInPlace e t (.park c.fl.seq false)) s

/-- The context of parked entry `p` is copied into the context store (R182, R487). -/
def State.storeContext (s : State) (p : Nat) : State := s.sramWriteAll (0x1700000 + 0x800 * p) (s.context (s.park p) 3)

/-- A park ramp is complete: the context moves into a parked entry, or the slot is just freed when the park was
cancelled (R182). (Log: 142 DEDUCED.) -/
def State.parkDone (s : State) (e seq : Nat) (cancelled : Bool) : State :=
  let v := s.ent e
  if cancelled then ((s.parkRec 1 v.group (s.handle e) v.nid 0x0B).freeEnt e).trackDone seq 0x0B 0 0
  else match (List.range 64).find? (fun p => (s.park p).st == 0) with
    | some p =>
      let s := s.setPark p { v with st := 5, gen := (s.park p).gen, ramps := [], why := .none, retrig := [], block := 0 }
      let s := (s.freeEnt e).storeContext p
      let h := s.handle (256 + p)
      (s.parkRec 1 v.group h v.nid 0).trackDone seq 0 h 0
    | none => (s.freeEnt e).trackDone seq 0x0A 0 0

/-! ### SPILL_CFG (R331, R424) -/

/-- SPILL_CFG establish at its execution time: ESTABLISH is sent. -/
def State.applyEstablish (s : State) (c : TCmd) (m : Nat) : State :=
  let t := tuNs (s.effTime c m)
  let n := c.u 17 1
  match (List.range 8).find? (fun p => !s.sv.partners.any (fun q => q.pid == p)) with
  | none => s.finish c t 0x16 0 0
  | some pid =>
    let node := c.u 18 2 % 4096
    let p : Partner := { pid := pid, node := node, buses := (List.range n).map (fun i => c.u (20 + i) 1), active := false
                         cmd := some (c, t, s.okStatus c m), sent := s.ns }
    (s.setSv (fun w => { w with partners := w.partners ++ [p] })).spillMsg node 1 pid 0 0 0 s.fs (s.get Reg.AL_SCH_CTRL_BLOCK)
      s.slack n []

/-- SPILL_CFG dissolve: the spilled voices are choked there, the records leave the table (R331). -/
def State.applyDissolve (s : State) (c : TCmd) (m : Nat) : State :=
  let t := tuNs (s.effTime c m)
  match s.sv.partners.find? (fun p => p.node == c.u 18 2 % 4096) with
  | none => s.finish c t 5 0 0
  | some p =>
    let s := s.spillMsg p.node 4 p.pid 0 0 0 0 0 0 0 []
    (s.dropPartner p false).finish c t (s.okStatus c m) 0 0

/-! ### STREAM_MAP, OUT_SET (R332, R333) -/

/-- STREAM_MAP: the entry applies at the frame of its time (R233, R235). -/
def State.applyMap (s : State) (c : TCmd) (m : Nat) : State :=
  let t := s.effTime c m
  let r := parseRoute (c.u 32 16)
  ((s.applyRoute (c.u 16 2) ((t + s.fper - 1) / s.fper) r).aoRouted r.dst).finish c (tuNs t) (s.okStatus c m) 0 0

/-- OUT_SET: the values are stored at the frame of its time (R234). -/
def State.applyOut (s : State) (c : TCmd) (m : Nat) : State :=
  let t := s.effTime c m
  let f := (t + s.fper - 1) / s.fper
  let s := (List.range (c.u 16 1)).foldl (fun s i => s.aoStore (c.u (24 + 8 * i) 1) f (toS 32 (c.u (28 + 8 * i) 4))) s
  s.finish c (tuNs t) (s.okStatus c m) 0 0

/-! ### Dispatch by opcode -/

/-- What a timed command does at the boundary of block `m` (R199 step 5); `busy` while an update runs. -/
def State.applyOp (s : State) (m : Nat) (busy : Bool) (c : TCmd) : State :=
  match c.fl.op with
  | 0x02 => s.applyRelease c m
  | 0x03 => s.applyChoke c m
  | 0x04 => s.applySet c m c.desc (c.u 17 1)
  | 0x05 => s.applyGroup c m
  | 0x06 => if c.u 32 8 = 0 ∧ !s.rampBad c then s.applySet c m c.desc 1 else s.applyRamp c m
  | 0x10 => s.bindLoad c m
  | 0x11 => s.unload c m busy
  | 0x20 => if c.u 27 1 % 4 = 1 then s.applyPark c m else
      let (s, es) := s.addressed c
      s.migStart c m es
  | 0x21 => if c.u 16 1 = 0 then s.applyEstablish c m else s.applyDissolve c m
  | 0x30 => s.applyMap c m
  | 0x31 => s.applyOut c m
  | _ => s

/-- A descriptor addressed anew to one handle. -/
def retarget (d handle : Nat) : Nat := dset (dset (dset d 16 1 0) 18 1 0) 20 4 handle

/-- A forwarded command acts on the migrating voice's other copy (R418): a MIGRATING_IN copy takes it as the state it will
sound in; a choke ramps either copy. -/
def State.applyFwd (s : State) (m : Nat) (busy : Bool) (c : TCmd) (h : Nat) : State :=
  match s.lookup h with
  | none => s.forget c.fl.seq
  | some e =>
    let v := s.ent e
    if c.fl.op = 3 then ((s.chokeEnt e (s.effTime c m)).1).forget c.fl.seq
    else
      let c := { c with desc := retarget c.desc h }
      if v.st = 7 then
        let s := (s.setEnt e { v with st := v.prevSt }).applyOp m busy c
        s.setEnt e { s.ent e with st := 7, prevSt := (s.ent e).st }
      else s.applyOp m busy c

/-- Apply a timed command, at the voice its origin names where it has one. -/
def State.applyCmd (s : State) (m : Nat) (busy : Bool) (c : TCmd) : State :=
  let s := s.take c
  match c.org with
  | .fwd h => s.applyFwd m busy c h
  | .spillCmd node pid num _ =>
    match allEnts.find? (fun e => (s.ent e).st != 0 && (s.ent e).spill == some (node, pid, num)) with
    | some e => s.applyOp m busy { c with desc := retarget c.desc (s.handle e) }
    | none => s.forget c.fl.seq
  | _ => s.applyOp m busy c

end Sys2Proof.Machine
end

