-- ==== Sys2Proof/Machine/Cast.lean ====
section
/-!
DEFINITION. Decisions at a boundary: casts, retrigger lookups, resumes, relocations (R127, R165 to R172, R174, R177, R180,
R183, R185, R186, R324, R572).
-/
namespace Sys2Proof.Machine

/-! ### Retriggers (R177) -/

/-- The voice a cast retriggers: the newest of the group, with the cast's NID in mode 1. (Log: 29 DEDUCED.) -/
def State.retrigTarget (s : State) (g mode nid : Nat) : Option Nat :=
  let c := allSlots.filter (fun v => active (s.slot v).st && (s.slot v).group == g && (mode == 2 || (s.slot v).nid == nid))
  let last := c.foldl (fun m v => max m (s.slot v).castT) 0
  argmin (fun v => [last - (s.slot v).castT, 256 - v]) c

/-- The lookup of a cast that finds entry `e`: the pairs are checked and the voice is marked (R177, R324). -/
def State.markRetrig (s : State) (c : TCmd) (m e : Nat) : State :=
  let t := s.effTime c m
  let v := s.ent e
  match s.checkPairs v.prog c.desc 48 (c.u 44 1) 0 with
  | .error (i, st) => s.finish c (tuNs t) st i 0
  | .ok l =>
    let r : Retrig := ⟨(c.exec, c.fl.seq), t, BitVec.ofNat 32 (c.u 24 4), BitVec.ofNat 32 (c.u 28 4), c.u 18 1, c.u 20 4⟩
    (s.setEnt e ({ v with retrig := v.retrig ++ [r] }.setAt t c.fl.seq l)).finish c (tuNs t) (s.okStatus c m) 0 (s.handle e)

/-- A pending retrigger applies at the boundary of its block `m`, at the start of the block where it is late (R177, R203).
(Log: 29 DEDUCED.) -/
def State.applyRetrig (s : State) (m e : Nat) (r : Retrig) : State :=
  let v := s.ent e
  if v.retrig.isEmpty then s
  else
    let v := { v with retrig := v.retrig.filter (fun x => x.ord != r.ord), vpri := r.vpri, nid := r.nid, relT := none, held := false
                      st := if v.st = 3 then 2 else v.st, prevSt := if v.prevSt = 3 then 2 else v.prevSt }
    s.setEnt e (v.addAct (max r.t (s.playStart m)) (.retrig r.key r.vel r.ord.2))

/-! ### A new voice (R93, R127, R165, R324, R596) -/

/-- The voice of a cast, with its random value, before it has a slot. Its pairs are its first changes, and the pitch it would glide from
waits for its start (R127, R324, R596). -/
def State.newVoice (s : State) (c : TCmd) (m : Nat) (l : List (Nat × Nat)) (r : BitVec 32) : Voice :=
  let g := c.u 16 1
  let t := s.effTime c m
  let coh := bit (c.u 17 1) 0
  let v : Voice := { Voice.free 0 with
    st := 1, group := g, vpri := c.u 18 1, nid := c.u 20 4, castT := t, bornT := t, block := m + 1
    key := BitVec.ofNat 32 (c.u 24 4), vel := BitVec.ofNat 32 (c.u 28 4), coherent := coh, epoch := c.u 32 8
    seed := if coh then BitVec.ofNat 32 (c.u 40 4) else r, prog := s.boundUid g, progSlot := (s.group g).bind
    par := s.patchPar g, pramps := (s.group g).pramps, acts := [(t, .start)]
    spill := match c.org with | .spillCast node pid num _ => some (node, pid, num) | _ => none }
  { (v.setAt t c.fl.seq l) with snd := { v.snd with glide := (c.lastKey.getD v.key, t, 0) } }

/-- Put a voice into slot `e`, which is FREE; it keeps the slot's generation. -/
def State.intoSlot (s : State) (e : Nat) (v : Voice) : State := s.setEnt e { v with gen := (s.ent e).gen }

/-- A cast decided into slot `e`. -/
def State.castInto (s : State) (c : TCmd) (m e : Nat) (l : List (Nat × Nat)) : State :=
  let (r, s) := if bit (c.u 17 1) 0 then (0, s) else s.freeWord
  let s := (s.intoSlot e (s.newVoice c m l r)).count Reg.AL_CNT_CAST 1
  s.finish c (tuNs (s.effTime c m)) (s.okStatus c m) 0 (s.handle e)

/-- The chokes a cast into group `g` makes before it is counted (R180). -/
def State.castChoke (s : State) (g t : Nat) : State :=
  let gr := s.group g
  if gr.chokeEn then
    (allSlots.filter (fun v => ((s.slot v).st == 2 || (s.slot v).st == 3) && (s.slot v).group == gr.chokeTgt)).foldl
      (fun s e => (s.choke e t).1) s
  else s

/-- Decide a cast at the boundary of block `m` (R165 to R172, R177, R180, R185). (Log: 38 DEDUCED.) -/
def State.decideCast (s : State) (c : TCmd) (m : Nat) : State :=
  let g := c.u 16 1
  let t := s.effTime c m
  let mode := c.u 17 1 / 2 % 4
  match (if mode = 0 then none else s.retrigTarget g mode (c.u 20 4)) with
  | some e => s.markRetrig c m e
  | none =>
    if !s.on Reg.AL_CTRL_CAST_EN then s.finish c (tuNs t) 7 0 0
    else match s.checkPairs (s.boundUid g) c.desc 48 (c.u 44 1) 0 with
      | .error (i, st) => s.finish c (tuNs t) st i 0
      | .ok l =>
        let full (s : State) : State := (s.count Reg.AL_CNT_REFUSED 1).finish c (tuNs t) 6 0 0
        let key : F32 := BitVec.ofNat 32 (c.u 24 4)
        let spill := s.canSpill g (bit (c.u 17 1) 0) && c.org.lead.isNone
        if (s.group g).limit = 0 then full s
        else
          let s1 := s.castChoke g t
          if spill && (s.group g).spillMode == 1 && s1.needSteal g then s.spillCast c g t
          else match s1.place g key with
            | .free e => s1.castInto c m e l
            | .steal e => (s1.steal e t).castInto c m e l
            | .none => if spill && (s.group g).spillMode == 2 then s.spillCast c g t else full s

/-! ### Resume (R183, R304) -/

/-- Decide the resume of parked entry `e`: its status and new handle. -/
def State.resumeEnt (s : State) (e m t late : Nat) : State × Nat × Nat :=
  let v := s.ent e
  let h := s.handle e
  let refuse (s : State) (st : Nat) : State × Nat × Nat := (s.parkRec 3 v.group h v.nid st, st, 0)
  if !s.on Reg.AL_CTRL_CAST_EN then refuse s 7
  else if v.prog ≠ 0 ∧ (s.progByUid v.prog).isNone then refuse (s.event 0x78 127 0 5 (pay 16 v.prog)) 0x10
  else if v.doneAt t then ((s.parkRec 3 v.group h v.nid 0x0B).endEnt e (tuNs (min t (v.doneTime t))), 0x0B, 0)
  else if (s.readContext (e - 256)).2 then ((s.readContext (e - 256)).1.parkRec 3 v.group h v.nid 0x0D, 0x0D, 0)
  else
    let s := (s.readContext (e - 256)).1
    let go (s : State) (k : Nat) : State × Nat × Nat :=
      let s := s.freeEnt e
      let g := ((s.slot k).gen + 1) % 2 ^ 16
      let x : Voice := { v with st := 1, gen := g, castT := t, block := m + 1, why := .none, ramps := [⟨t, (s.group v.group).ramp, true, false⟩] }
      let s := s.setSlot k x
      (s.parkRec 2 v.group (s.handle k) v.nid late, late, s.handle k)
    match s.place v.group v.pkey with
    | .free k => go s k
    | .steal k => go (s.steal k t) k
    | .none => refuse s 6

/-- Decide a MIGRATE of MODE 2. -/
def State.decideResume (s : State) (c : TCmd) (m : Nat) : State :=
  let t := s.effTime c m
  let (s, es) := s.addressed c
  let es := es.filter (fun e => (s.ent e).st == 5)
  if es.isEmpty then s.finish c (tuNs t) 5 0 0
  else
    let s := s.track c es.length (s.okStatus c m) (tuNs t)
    es.foldl (fun s e =>
      let (s, st, h) := s.resumeEnt e m t (s.okStatus c m)
      s.trackDone c.fl.seq st h 0) s

/-! ### Relocation (R572) -/

/-- Relocate the voice of slot `e` off its draining core at block `m`: false where no slot is free without a steal. -/
def State.relocate (s : State) (e : Nat) : State × Bool :=
  match s.freeSlot with
  | none => (s, false)
  | some k =>
    let v := s.ent e
    let s := s.freeEnt e
    let s := s.setSlot k { v with gen := ((s.slot k).gen + 1) % 2 ^ 16 }
    (s.migRec 3 (s.handle k) v.nid (s.addr.getD 0) 0, true)

/-- Up to four voices of each core in `cs` move at a boundary. -/
def State.relocateAll (s : State) (cs : List Nat) : State :=
  cs.foldl (fun s c =>
    let es := ((List.range 16).map (fun i => 16 * c + i)).filter (fun e =>
      ((s.slot e).st == 1 || (s.slot e).st == 2 || (s.slot e).st == 3) && (s.slot e).retrig.isEmpty)
    (es.take 4).foldl (fun s e => (s.relocate e).1) s) s

end Sys2Proof.Machine
end

