-- ==== Sys2Proof/Machine/Accept.lean ====
section
/-!
DEFINITION. Acceptance into the timed command queue (R127, R161, R198, R212).
-/
namespace Sys2Proof.Machine

/-- Entries taken in the queue: a command keeps its entry until its completion is written (R215, R351). (Log: 103 DEDUCED.) -/
def State.queueLen (s : State) : Nat := s.sch.queue.length

/-- QUEUE_FULL is set and recorded once per episode (R198). (Log: 103 DEDUCED.) -/
def State.queueFull (s : State) : State :=
  if s.queueLen < 4096 then { s with sch := { s.sch with fullEp := false } }
  else if s.sch.fullEp then s
  else (({ s with sch := { s.sch with fullEp := true } }).set1 Reg.AL_SCH_FLAGS_QUEUE_FULL).event 0x3F 71 0 0 0

/-- Accept a timed command (R198, R320): a CAST notes its group's last key and replaces it, a SET_GROUP clears it; while
STOPPING it completes STOPPED (R212). -/
def State.accept (s : State) (fl : Flight) (org : Org) (desc : Nat) : State :=
  let g := dfield desc 16 1 % 64
  let c : TCmd := { fl := fl, org := org, exec := dfield desc 8 8, acc := s.tu, lastKey := (s.group g).lastKey, desc := desc, done := false }
  let s := if fl.op = 1 then s.setGroup g { s.group g with lastKey := some (BitVec.ofNat 32 (dfield desc 24 4)) }
    else if fl.op = 5 then s.setGroup g { s.group g with lastKey := none }
    else s
  if s.schState = 3 then s.finish c s.ns 0x0C 0 0
  else ({ s with sch := { s.sch with queue := s.sch.queue ++ [c] } }).queueFull

/-- A command of the module's own (R472, R475, R423). -/
def State.acceptOwn (s : State) (org : Org) (desc : Nat) : State :=
  let fl : Flight := ⟨s.hi.nextSeq, 0, 0, dfield desc 0 1, 0, true⟩
  ({ s with hi := { s.hi with nextSeq := s.hi.nextSeq + 1 } }).accept fl org desc

end Sys2Proof.Machine
end

