-- ==== Sys2Proof/Machine/CtlMap.lean ====
section
/-!
DEFINITION. The control map and auto-cast (R471 to R475).
-/
namespace Sys2Proof.Machine

/-- Replace the serial block. -/
def State.setSer (s : State) (f : Ser → Ser) : State := { s with ser := f s.ser }

/-- PORT. -/
def CmEnt.port (e : CmEnt) : Nat := bits e.cfg 0 4
/-- KIND. -/
def CmEnt.kind (e : CmEnt) : Nat := bits e.cfg 4 4
/-- CHAN. -/
def CmEnt.chan (e : CmEnt) : Nat := bits e.cfg 8 4
/-- INDEX. -/
def CmEnt.index (e : CmEnt) : Nat := bits e.cfg 12 10
/-- GROUP. -/
def CmEnt.group (e : CmEnt) : Nat := bits e.cfg 22 6
/-- TGT_EN. -/
def CmEnt.tgt (e : CmEnt) : Bool := bit e.cfg 28
/-- VPRI. -/
def CmEnt.vpri (e : CmEnt) : Nat := bits e.cfg 29 3

/-- Entry `n` in force. -/
def State.cmEnt (s : State) (n : Nat) : CmEnt := Tbl.get CmEnt.off s.ser.cm n

/-- UART `u`. -/
def State.uart (s : State) (u : Nat) : Uart := s.ser.uarts.getD u ⟨[], 0, [], 0, [], none, none, 0, [], [], [none, none]⟩
/-- MODE in force of UART `u` (R335, R461): 3 acts as 0. -/
def State.uMode (s : State) (u : Nat) : Nat :=
  let m := match (s.uart u).keep with
    | some k => k.1
    | none => s.get (Reg.UART_CTRL_MODE u)
  if m = 3 then 0 else m

/-- The entry acts: its KIND suits its PORT and its INDEX is in range (R473). -/
def State.cmOn (s : State) (e : CmEnt) : Bool :=
  let mode (m : Nat) : Bool := decide (e.port < 4) && s.uMode e.port == m
  match e.kind with
  | 1 => mode 1 && decide (1 ≤ e.index ∧ e.index ≤ 512)
  | 2 => mode 1 && decide (1 ≤ e.index ∧ e.index ≤ 511)
  | 3 => mode 2 && decide (e.index ≤ 127)
  | 4 => mode 2 && decide (e.index ≤ 31)
  | 5 => mode 2
  | 6 => mode 2
  | 7 => mode 2
  | 8 => (e.port == 4 || e.port == 5) && decide (e.index ≤ 15)
  | _ => false

/-- A SET_PARAM descriptor of one pair. -/
def setDesc (amode group target id : Nat) (v : F32) (exec : Nat) : Nat :=
  4 + exec * 2 ^ 64 + amode * 2 ^ 128 + 1 * 2 ^ 136 + group * 2 ^ 144 + target * 2 ^ 160 + id * 2 ^ 192 + v.toNat * 2 ^ 224

/-- The entry's value becomes `v`; a change drives its target, a newer value replacing a pending one (R474, R475).
(Log: 80 DEDUCED.) -/
def State.cmSet (s : State) (n : Nat) (v : F32) : State :=
  let e := s.cmEnt n
  let old := s.get (Reg.UART_CM_VAL n)
  let s := s.put (Reg.UART_CM_VAL n) v.toNat
  if old = v.toNat ∨ !e.tgt ∨ e.kind = 7 then s
  else
    let d := setDesc 3 e.group 0 (e.param % 2 ^ 16) (fAdd e.offset (fMul e.scale v)) 0
    if s.sch.queue.any (fun c => c.org == .cm n && !c.done) then
      { s with sch := { s.sch with queue := updWhere (fun c => c.org == .cm n && !c.done) (fun c => { c with desc := d }) s.sch.queue } }
    else s.acceptOwn (.cm n) d

/-- Committed entries take effect at a boundary (R473). (Log: 44 DEDUCED.) -/
def State.cmBoundary (s : State) : State :=
  let l := s.ser.cmNext
  s.setSer (fun x => { x with cmNext := [], cm := l.foldl (fun t e => Tbl.put CmEnt.off t e.1 e.2) x.cm })

/-- KIND 8: the slot's last input sample of the block, at the boundary of block `j` (R474). (Log: 44 DEDUCED.) -/
def State.cmTdm (s : State) (j : Nat) : State :=
  s.ser.cm.foldl (fun s x =>
    if x.2.kind = 8 ∧ s.cmOn x.2 then
      let c := Tbl.get 0 s.mix.tdm ((16 * (x.2.port - 4) + x.2.index) * 2 ^ 40 + ((j + 1) * s.blockLen - 1 - (s.slack + 2) * s.blockLen))
      if c = 0 then s else s.cmSet x.1 (codeVal c)
    else s) s

/-- A write of UART_CMc_CFG commits the entry's four words; its value is reset to 0 (R473). -/
def State.cmCommit (s : State) (n v : Nat) : State :=
  let s := ([Reg.UART_CM_CFG_PORT n, Reg.UART_CM_CFG_KIND n, Reg.UART_CM_CFG_CHAN n, Reg.UART_CM_CFG_INDEX n, Reg.UART_CM_CFG_GROUP n,
    Reg.UART_CM_CFG_TGT_EN n, Reg.UART_CM_CFG_VPRI n]).foldl (fun s f => s.put f (bits v f.lsb f.w)) s
  let e : CmEnt := ⟨v, s.get (Reg.UART_CM_PARAM n), BitVec.ofNat 32 (s.get (Reg.UART_CM_SCALE n)), BitVec.ofNat 32 (s.get (Reg.UART_CM_OFFSET n))⟩
  (s.put (Reg.UART_CM_VAL n) 0).setSer (fun x => { x with
    cmNext := x.cmNext.filter (fun p => p.1 != n) ++ [(n, e)], cm14 := Tbl.put 0 x.cm14 n 0 })

/-- NID of a MIDI note (R472). -/
def midiNid (port chan note : Nat) : Nat := 0x4D000000 + 0x10000 * port + 0x100 * chan + note

/-- A finite value in a range. -/
def inRangeF (lo hi x : F32) : Bool := fFinite x && fLe lo x && fLe x hi

/-- Auto-cast of one matching entry (R472): `msg` 9 note on, 8 note off, 10 key pressure, with its two data bytes. -/
def State.autoCast (s : State) (e : CmEnt) (port chan msg d1 d2 tmsg : Nat) : State :=
  let exec := tmsg + 1000 * s.get (Reg.UART_AC_LEAD port)
  let nid := midiNid port chan d1
  if msg = 9 ∧ 1 ≤ d2 then
    let key := fAdd (fInt d1) e.offset
    if inRangeF 0xC3000000 0x437F0000 key ∧ e.param / 2 ^ 16 % 4 ≠ 3 then
      s.acceptOwn .silent (1 + exec * 2 ^ 64 + e.group * 2 ^ 128 + (2 * (e.param / 2 ^ 16 % 4)) * 2 ^ 136 + e.vpri * 2 ^ 144
        + nid * 2 ^ 160 + key.toNat * 2 ^ 192 + (fRat d2 127).toNat * 2 ^ 224)
    else s
  else if msg = 8 ∨ msg = 9 then
    s.acceptOwn .silent (2 + exec * 2 ^ 64 + 1 * 2 ^ 128 + nid * 2 ^ 160 + (fRat (if msg = 8 then d2 else 64) 127).toNat * 2 ^ 192)
  else s.acceptOwn .silent (setDesc 1 0 nid 0x6006 (fRat d2 127) exec)

/-- A channel message acts on entry `n` (R472, R474). -/
def State.cmMidi (s : State) (n port msg chan d1 d2 tmsg : Nat) : State :=
  let e := s.cmEnt n
  if !s.cmOn e ∨ e.port ≠ port ∨ e.chan ≠ chan then s
  else match e.kind with
    | 3 => if msg = 11 ∧ d1 = e.index then s.cmSet n (fRat d2 127) else s
    | 4 =>
      if msg = 11 ∧ (d1 = e.index ∨ d1 = e.index + 32) then
        let w := Tbl.get 0 s.ser.cm14 n
        let w := if d1 = e.index then 128 * d2 else w / 128 * 128 + d2
        (s.setSer (fun x => { x with cm14 := Tbl.put 0 x.cm14 n w })).cmSet n (fRat w 16383)
      else s
    | 5 => if msg = 13 then s.cmSet n (fRat d1 127) else s
    | 6 => if msg = 14 then s.cmSet n (fRat ((d1 + 128 * d2 : Nat) : Int) 16383) else s
    | 7 => if msg = 8 ∨ msg = 9 ∨ msg = 10 then s.autoCast e port chan msg d1 d2 tmsg else s
    | _ => s

/-- A completed packet drives entry `n` (R474): `slot k` reads slot k. -/
def State.cmDmx (s : State) (n port : Nat) (slot : Nat → Nat) : State :=
  let e := s.cmEnt n
  if !s.cmOn e ∨ e.port ≠ port then s
  else match e.kind with
    | 1 => s.cmSet n (fRat (slot e.index) 255)
    | 2 => s.cmSet n (fRat ((256 * slot e.index + slot (e.index + 1) : Nat) : Int) 65535)
    | _ => s

end Sys2Proof.Machine
end

