-- ==== Sys2Proof/Machine/MixDsp.lean ====
section
/-!
DEFINITION. The work of cluster E on a block: bus channels, delay lines, the reverb, effect instances, changes at their frames
(R205, R218 to R231, R238, R240, R243, R297).
-/
namespace Sys2Proof.Machine

/-- Paths crossfaded one into the next, oldest first: path i is being left from frame `ks i` on (R231). (Log: 171 DEDUCED.) -/
def crossAll (n : Nat) (ks : List Nat) (ys : List F32) : F32 :=
  (ks.zip ys.tail).foldl (fun a e => cross a e.2 (gone32 e.1 n)) (ys.headD 0)

/-! ### Faults of processors (R243) -/

/-- A state is non-finite (3) or beyond 2^20 (2). (Log: 141 DEDUCED.) -/
def fxBad (x : F32) : Option Nat := if !fFinite x then some 3 else if fLt 0x49800000 (fAbsol x) then some 2 else none
/-- Such a state is cleared. -/
def fxClean (x : F32) : F32 := if (fxBad x).isSome then 0 else x

/-- FX_FAULT of processor `k`, named `unit`, at most once a second (R243). (Log: 141 DEDUCED.) -/
def State.fxFault (s : State) (k unit reason : Nat) : State :=
  let due := match Tbl.get none s.mix.fxSeen k with
    | some t => decide (t + 1000000000 ≤ s.ns)
    | none => true
  if due then (s.event 0x2A 58 unit reason 0).setMix (fun m => { m with fxSeen := Tbl.put none m.fxSeen k (some s.ns) }) else s

/-- A fault, if there is one. (Log: 141 DEDUCED.) -/
def State.fxFault? (s : State) (k unit : Nat) (bad : Option Nat) : State :=
  match bad with
  | some r => s.fxFault k unit r
  | none => s

/-! ### The bus channel (R222 to R224) -/

/-- cos(2 pi x). -/
def cos2Pi (x : F32) : F32 := fSin2Pi (fAdd x 0x3E800000)

/-- Biquad coefficients b0 b1 b2 a0 a1 a2 of a band (R223). (Log: 143 PRESUMED.) -/
def bandCoef (typ : Nat) (freq gain q : F32) (fs : Nat) : List F32 :=
  let f := fClamp 0x41200000 (fMul 0x3EE66666 (fInt fs)) freq
  let x := fDiv f (fInt fs)
  let sn := fSin2Pi x
  let cs := cos2Pi x
  let al := fDiv sn (fMul fTwo q)
  let a := fDb (fMul fHalf gain)
  let m2c := fMul 0xC0000000 cs
  match typ with
  | 1 => [fAdd fOne (fMul al a), m2c, fSub fOne (fMul al a), fAdd fOne (fDiv al a), m2c, fSub fOne (fDiv al a)]
  | 2 | 3 =>
    let cs := if typ = 2 then cs else fNegate cs
    let sg := if typ = 2 then fTwo else 0xC0000000
    let sq := fMul (fMul fTwo (fSqrt a)) al
    let p := fAdd a fOne
    let m := fSub a fOne
    [fMul a (fAdd (fSub p (fMul m cs)) sq), fMul (fMul sg a) (fSub m (fMul p cs)), fMul a (fSub (fSub p (fMul m cs)) sq),
      fAdd (fAdd p (fMul m cs)) sq, fMul (fNegate sg) (fAdd m (fMul p cs)), fSub (fAdd p (fMul m cs)) sq]
  | 4 =>
    let h := fMul fHalf (fAdd fOne cs)
    [h, fMul 0xC0000000 h, h, fAdd fOne al, m2c, fSub fOne al]
  | _ =>
    let h := fMul fHalf (fSub fOne cs)
    [h, fMul fTwo h, h, fAdd fOne al, m2c, fSub fOne al]

/-- One biquad in transposed direct form II. (Log: 143 PRESUMED.) -/
def biquad (c : List F32) (z : F32 × F32) (x : F32) : (F32 × F32) × F32 :=
  let a0 := c.getD 3 fOne
  let n (i : Nat) : F32 := fDiv (c.getD i 0) a0
  let y := fAdd (fMul (n 0) x) z.1
  ((fAdd (fSub (fMul (n 1) x) (fMul (n 4) y)) z.2, fSub (fMul (n 2) x) (fMul (n 5) y)), y)

/-- One sample of a path of a band; TYPE 0 passes it. -/
def bandRun (fs typ : Nat) (p : F32 × F32 × F32) (z : F32 × F32) (x : F32) : (F32 × F32) × F32 :=
  if typ = 0 then (z, x) else biquad (bandCoef typ p.1 p.2.1 p.2.2 fs) z x

/-- TYPE of band `i` of bus `b`, and its FREQ, GAIN and Q at frame `n`. -/
def State.bandPar (s : State) (n b i : Nat) : Nat × F32 × F32 × F32 :=
  let id := 0x8010 + 256 * b + 4 * i
  (s.mc id, s.mv n (id + 1), s.mv n (id + 2), s.mv n (id + 3))

/-- One sample of a band: the paths being left run on beside the new one (R223, R231). -/
def bandStep (fs n : Nat) (p : Nat × F32 × F32 × F32) (b : Band) (x : F32) : Band × F32 :=
  let olds := (b.olds.filter (fun o => decide (n < o.k0 + 32))).map (fun o => (o, bandRun fs o.typ o.par o.z x))
  let (z, y) := bandRun fs p.1 p.2 b.z x
  (⟨z, olds.map (fun e => { e.1 with z := e.2.1 })⟩, crossAll n (olds.map (fun e => e.1.k0)) (olds.map (fun e => e.2.2) ++ [y]))

/-- The states of a band. -/
def Band.states (b : Band) : List F32 := b.z.1 :: b.z.2 :: b.olds.flatMap (fun o => [o.z.1, o.z.2])
/-- Bad states cleared (R243). -/
def Band.clean (b : Band) : Band :=
  ⟨(fxClean b.z.1, fxClean b.z.2), b.olds.map (fun o => { o with z := (fxClean o.z.1, fxClean o.z.2) })⟩

/-- One sample of the equaliser of bus `b`, with its fault: silent for it (R223, R231, R243). -/
def State.eqStep (s : State) (n b : Nat) (c : Chain) (x : F32) : Chain × F32 × Option Nat :=
  let id := 0x8003 + 256 * b
  if !s.mRuns n id then (c, x, none)
  else
    let (bands, y) := (List.range 4).foldl (fun (acc : List Band × F32) i =>
      let (q, y) := bandStep s.rate n (s.bandPar n b i) (acc.1.getD i ⟨(0, 0), []⟩) acc.2
      (acc.1.set i q, y)) (c.bands, x)
    let bad := (bands.flatMap Band.states).findSome? fxBad
    ({ c with bands := bands.map Band.clean }, cross x (if bad.isSome then 0 else y) (s.mSwitch n id), bad)

/-- L of R224 in dBFS. -/
def compLevel (x : F32) : F32 := fMul 0x40C0A8C1 (fLog2 (fMaxV (fAbsol x) 0x358637BD))

/-- rs after one sample at level L (R224). (Log: 170 DEDUCED.) -/
def compRs (v : Nat → F32) (fs : Nat) (l rs : F32) : F32 :=
  let o := fSub l (v 0x20)
  let knee := v 0x24
  let k := fSub fOne (fDiv fOne (v 0x21))
  let two := fMul fTwo o
  let r : F32 :=
    if fLt two (fNegate knee) then 0
    else if fLe (fAbsol two) knee && fLt 0 knee then
      let h := fAdd o (fMul fHalf knee)
      fDiv (fMul k (fMul h h)) (fMul fTwo knee)
    else fMul k o
  let tau := if fLt rs r then v 0x22 else v 0x23
  let a := fSub fOne (fExp (fNegate (fDiv fOne (fMul tau (fInt fs)))))
  fAdd rs (fMul a (fSub r rs))

/-- A parameter of bus `b` at frame `n`. -/
def State.busV (s : State) (n b pp : Nat) : F32 := s.mv n (0x8000 + 256 * b + pp)
/-- The compressor of bus `b` runs. -/
def State.compOn (s : State) (n b : Nat) : Bool := s.mRuns n (0x8004 + 256 * b)

/-- What the compressor of bus `b` makes of `x` with its rs: silent where rs is bad (R224, R231, R243). -/
def State.compOut (s : State) (n b : Nat) (rs x : F32) : F32 :=
  if !s.compOn n b then x
  else cross x (if (fxBad rs).isSome then 0 else fMul x (fDb (fSub (s.busV n b 0x25) rs))) (s.mSwitch n (0x8004 + 256 * b))

/-- A path of a bus channel at one sample. -/
structure PathRun where
  /-- ORDER. -/
  ord : Nat
  /-- Its chain. -/
  ch : Chain
  /-- The frame from which it is being left. -/
  k0 : Nat
  /-- The sample so far. -/
  x : F32
  /-- The equaliser's fault. -/
  bad : Option Nat
deriving DecidableEq, Repr

/-- Bus channel `b`. -/
def State.bus (s : State) (b : Nat) : BusCh := s.mix.buses.getD b ⟨⟨List.replicate 4 ⟨(0, 0), []⟩, 0⟩, []⟩

/-- The equaliser in a path. -/
def State.pathEq (s : State) (n b : Nat) (p : PathRun) : PathRun :=
  let (c, y, bad) := s.eqStep n b p.ch p.x
  { p with ch := c, x := y, bad := bad }

/-- The paths of bus `b` with the sum `x`, oldest first, up to the compressor (R222, R231). -/
def State.pathsIn (s : State) (n b : Nat) (x : F32) : List PathRun :=
  let c := s.bus b
  let olds : List PathRun := (c.olds.filter (fun o => decide (n < o.2.2 + 32))).map (fun o => ⟨o.1, o.2.1, o.2.2, x, none⟩)
  let new : PathRun := ⟨s.mc (0x8005 + 256 * b), c.ch, 0, x, none⟩
  (olds ++ [new]).map (fun p => if p.ord = 0 then s.pathEq n b p else p)

/-- A path from its compressor on, with rs as it stands after the sample. -/
def State.pathOut (s : State) (n b : Nat) (rs : F32) (p : PathRun) : PathRun :=
  let p := { p with ch := { p.ch with rs := fxClean rs }, x := s.compOut n b rs p.x }
  if p.ord = 0 then p else s.pathEq n b p

/-- The level that the paths of a bus show their compressor: that of the newest. -/
def levelOf (l : List PathRun) : F32 := (l.getLast?.map (fun p => compLevel p.x)).getD 0
/-- rs of the newest path. -/
def rsOf (l : List PathRun) : F32 := (l.getLast?.map (fun p => p.ch.rs)).getD 0

/-- What the faults of a bus channel are named by is open. (Log: 174 DESIGN CHOICE.) -/
def State.chainFault (s : State) (b comp : Nat) (bad : Option Nat) : State :=
  s.fxFault? (64 + 2 * b + comp) (Config.chainUnit b comp).toNat bad

/-- The paths of bus `b` once they have run: the channel, and what leaves it (R222, R231, R243). -/
def State.busEnd (s : State) (n b : Nat) (rs : PathRun → F32) (l : List PathRun) : State × F32 :=
  let out := l.map (fun p => s.pathOut n b (rs p) p)
  let s := (s.chainFault b 0 (out.findSome? (fun p => p.bad))).chainFault b 1
    (if s.compOn n b then l.findSome? (fun p => fxBad (rs p)) else none)
  let olds := out.dropLast
  let c : BusCh := ⟨(out.getLast?.map (fun p => p.ch)).getD (s.bus b).ch, olds.map (fun p => (p.ord, p.ch, p.k0))⟩
  (s.setMix (fun m => { m with buses := m.buses.set b c }), crossAll n (olds.map (fun p => p.k0)) (out.map (fun p => p.x)))

/-- The chain of a bus that is not linked. -/
def State.chain1 (s : State) (n b : Nat) (x : F32) : State × F32 :=
  s.busEnd n b (fun p => if s.compOn n b then compRs (s.busV n b) s.rate (compLevel p.x) p.ch.rs else p.ch.rs) (s.pathsIn n b x)

/-- The chains of a linked pair run together: one L and one rs, which follows the lower bus's parameters and goes on from its rs
(R224). (Log: 170 DEDUCED.) -/
def State.chain2 (s : State) (n b : Nat) (x0 x1 : F32) : State × F32 × F32 :=
  let l0 := s.pathsIn n b x0
  let l1 := s.pathsIn n (b + 1) x1
  let rs := if s.compOn n b || s.compOn n (b + 1) then
      compRs (s.busV n b) s.rate (fMaxV (levelOf l0) (levelOf l1)) (rsOf l0)
    else rsOf l0
  let (s, y0) := s.busEnd n b (fun _ => rs) l0
  let (s, y1) := s.busEnd n (b + 1) (fun _ => rs) l1
  (s, y0, y1)

/-- What a processor's input connection brings from the bus outputs `y` of the frame. -/
def State.mixIn (s : State) (n id : Nat) (y : Nat → F32) : F32 := (s.mConn n id).foldl (fun a e => fAdd a (fMul e.2 (y e.1))) 0
/-- What its output connection takes to the buses. -/
def State.mixOut (s : State) (n id : Nat) (v : F32) : List (Nat × F32) := (s.mConn n id).map (fun e => (e.1, fMul v e.2))
/-- The highest bus that input connections name. -/
def State.topIn (s : State) (n : Nat) (ids : List Nat) : Nat := (ids.flatMap (fun id => (s.mConn n id).map (fun e => e.1))).foldl max 0

/-- The words of a window put to 0 (R231, R240). -/
def State.winClear (s : State) (w : Nat) : State := (List.range (s.win w 3)).foldl (fun s o => s.winWrite w (o : Nat) 0) s

/-! ### Delay lines (R226, R227) -/

/-- Delay line `d`. (Log: 91 DEDUCED.) -/
def State.dline (s : State) (d : Nat) : DLine := s.mix.lines.getD d ⟨0, none, [], none⟩
/-- Replace delay line `d`. -/
def State.setDline (s : State) (d : Nat) (x : DLine) : State := s.setMix (fun m => { m with lines := m.lines.set d x })

/-- A delay within the limits of line `d`'s window (R227). -/
def State.delayLim (s : State) (d : Nat) (x : F32) : F32 := fClamp fTwo (fInt ((s.win (s.mc (0xA003 + 256 * d)) 3 : Int) - 4)) x

/-- D of line `d` at frame `n`: TIME's value, or on the way to it (R227). -/
def State.delayNow (s : State) (n d : Nat) : F32 :=
  let tgt := s.delayLim d (fMul (s.mv n (0xA004 + 256 * d)) (fInt s.rate))
  match (s.dline d).glide with
  | some (f, k, g) =>
    let x := fDiv (fInt (n - k : Nat)) g
    if fLe fOne x then tgt else blend f tgt x
  | none => tgt

/-- The four words, by offset from the window's base, that a read `dl` samples back from sample `i` of the block takes, newest
first (R226). -/
def State.delayTaps (s : State) (w i : Nat) (dl : F32) : List Int :=
  [-1, 0, 1, 2].map (fun o => (s.win w 4 : Int) + (i : Int) - fFloorI dl - o)

/-- The line's memory `dl` samples back, by four-point Lagrange (R226). (Log: 91 DEDUCED.) -/
def State.delayRead (s : State) (w i : Nat) (dl : F32) : F32 :=
  let f := fSub dl (fInt (fFloorI dl))
  let f1 := fSub f fOne
  let f2 := fSub f fTwo
  let fp := fAdd f fOne
  let c := [fNegate (fDiv (fMul (fMul f f1) f2) 0x40C00000), fDiv (fMul (fMul fp f1) f2) fTwo,
    fNegate (fDiv (fMul (fMul fp f) f2) fTwo), fDiv (fMul (fMul fp f) f1) 0x40C00000]
  match (c.zip (s.delayTaps w i dl)).map (fun e => fMul e.1 (s.winRead w e.2)) with
  | y :: l => l.foldl fAdd y
  | [] => 0

/-- 1 - e^(-2 pi f / fs). -/
def dampC (f : F32) (fs : Nat) : F32 := fSub fOne (fExp (fNegate (fDiv (fMul 0x40C90FDB f) (fInt fs))))
/-- c of a delay line: 1 at or above 0.45 fs (R226). -/
def delayC (f : F32) (fs : Nat) : F32 := if fLe (fMul 0x3EE66666 (fInt fs)) f then fOne else dampC f fs

/-- What delay line `d` gives at frame `n`, sample `i` of the block, and its z; both come from samples before the frame. A line whose
window has EN = 0 has no memory. (Log: 91 DEDUCED.) -/
def State.delayRun (s : State) (n i d : Nat) : State × List (Nat × F32) :=
  let w := s.mc (0xA003 + 256 * d)
  let x := s.dline d
  if s.win w 0 = 0 then (s.fxFault d d 1, [])
  else
    let steps := x.steps.filter (fun e => decide (n < e.2 + 32))
    let ds := (steps.map (fun e => e.1) ++ [s.delayNow n d]).map (s.delayLim d)
    let yd := crossAll n (steps.map (fun e => e.2)) (ds.map (s.delayRead w i))
    let z := fAdd x.z (fMul (delayC (s.mv n (0xA007 + 256 * d)) s.rate) (fSub yd x.z))
    let taps := ds.flatMap (s.delayTaps w i)
    let bad := (taps.findSome? (fun o => fxBad (s.winRead w o))).or (fxBad z)
    let s := (taps.foldl (fun s o => if (fxBad (s.winRead w o)).isSome then s.winWrite w o 0 else s) s).setDline d
      { x with z := fxClean z, steps := steps }
    let g := fMul (fMul (dbGain (s.mv n (0xA008 + 256 * d))) (s.mSwitch n (0xA000 + 256 * d))) (fadeIn x.clear n)
    (s.fxFault? d d bad, if bad.isSome then [] else s.mixOut n (0xA002 + 256 * d) (fMul yd g))

/-- Delay line `d` takes its input from the bus outputs `y`: what it writes, and whether that is a fault (R226, R243).
(Log: 91 DEDUCED.) -/
def State.delayTake (s : State) (n i d : Nat) (y : Nat → F32) : State × Bool :=
  let w := s.mc (0xA003 + 256 * d)
  if s.win w 0 = 0 then (s, false)
  else
    let v := fAdd (s.mixIn n (0xA001 + 256 * d) y) (fMul (s.mv n (0xA006 + 256 * d)) (s.dline d).z)
    ((s.winWrite w ((s.win w 4 : Int) + (i : Int)) (fxClean v)).fxFault? d d (fxBad v), (fxBad v).isSome)

/-! ### The reverb (R228, R229) -/

/-- Base lengths. -/
def revBase : List Nat := [1117, 1187, 1279, 1361, 1447, 1531, 1613, 1697, 1783, 1871, 1949, 2039, 2111, 2213, 2293, 2381]
/-- N_i = round(base_i x SIZE x fs / 48000), at frame `n`. -/
def State.revN (s : State) (n i : Nat) : Nat :=
  (fNearScaled (fDiv (fMul (s.mv n 0xB006) (fInt (revBase.getD i 0 * s.rate : Nat))) 0x473B8000) 0).toNat
/-- round(PREDELAY x fs). -/
def State.revPre (s : State) (n : Nat) : Nat := (fNearScaled (fMul (s.mv n 0xB009) (fInt s.rate)) 0).toNat
/-- The 16 lengths. -/
def State.revLens (s : State) (n : Nat) : List Nat := (List.range 16).map (s.revN n)
/-- M fits the window, which is in use (R229). (Log: 91 DEDUCED.) -/
def State.revFits (s : State) (n : Nat) : Bool :=
  s.on (Reg.MEM_WIN_CTRL_EN (s.mc 0xB005)) && decide ((s.revLens n).sum + 2 * (s.revPre n + 4) ≤ s.win (s.mc 0xB005) 3)

/-- Where in its window line `i` has the sample it reads and then writes: the lines follow one another, each a ring.
(Log: 172 DESIGN CHOICE.) -/
def State.revAt (s : State) (n i : Nat) : Int := ((((s.revLens n).take i).sum + s.mix.rev.pos % s.revN n i : Nat) : Int)
/-- Where in the window the predelay of input `side`, 0 left and 1 right, has its sample `back` samples before the newest: two rings
after the lines. (Log: 172 DESIGN CHOICE.) -/
def State.revPreAt (s : State) (n side back : Nat) : Int :=
  let p := s.revPre n + 4
  (((s.revLens n).sum + side * p + (s.mix.rev.pos + p - back) % p : Nat) : Int)

/-- Hadamard row sum: 1/4 sum of (-1)^popcount(i and j) x_j (R228). -/
def hadamard (x : List F32) (i : Nat) : F32 :=
  fMul 0x3E800000 ((List.range 16).foldl (fun a j =>
    let odd := (Nat.land i j % 2 + Nat.land i j / 2 % 2 + Nat.land i j / 4 % 2 + Nat.land i j / 8 % 2) % 2 == 1
    let v := x.getD j 0
    fAdd a (if odd then fNegate v else v)) 0)

/-- The reverb's memory is cleared at frame `n`; its output fades in (R231). -/
def State.revClear (s : State) (n : Nat) : State :=
  (s.winClear (s.mc 0xB005)).setMix (fun m => { m with rev := ⟨List.replicate 16 0, 0, [], some n⟩ })

/-- A RAMP_PARAM that has changed a length of the reverb has cleared its memory (R231). (Log: 171 DEDUCED.) -/
def State.revKeep (s : State) (n : Nat) : State :=
  let key := s.mc 0xB005 :: s.revPre n :: s.revLens n
  if s.mix.rev.key = key then s
  else (if s.mix.rev.key = [] then s else s.revClear n).setMix (fun m => { m with rev := { m.rev with key := key } })

/-- What the reverb gives at frame `n`, and its d_i; both come from samples before the frame (R228, R243). -/
def State.revRun (s : State) (n : Nat) : State × List (Nat × F32) :=
  let s := s.revKeep n
  if !s.revFits n then (s.fxFault 16 16 1, [])
  else
    let c := dampC (s.mv n 0xB008) s.rate
    let d := (List.range 16).map (fun i =>
      let di := s.mix.rev.d.getD i 0
      fAdd di (fMul c (fSub (s.winRead (s.mc 0xB005) (s.revAt n i)) di)))
    let bad := d.findSome? fxBad
    let s := s.setMix (fun m => { m with rev := { m.rev with d := d.map fxClean } })
    let sum (par : Nat) : F32 := fMul 0x3E800000 ((List.range 8).foldl (fun a i => fAdd a (d.getD (2 * i + par) 0)) 0)
    let k := fMul (fMul (dbGain (s.mv n 0xB00A)) (s.mSwitch n 0xB000)) (fadeIn s.mix.rev.clear n)
    (s.fxFault? 16 16 bad,
      if bad.isSome then [] else s.mixOut n 0xB003 (fMul (sum 0) k) ++ s.mixOut n 0xB004 (fMul (sum 1) k))

/-- g_i d_i (R228). -/
def State.revG (s : State) (n : Nat) : List F32 :=
  (List.range 16).map (fun i => fMul (fDb (fNegate (fDiv (fMul 0x42700000 (fInt (s.revN n i))) (fMul (s.mv n 0xB007) (fInt s.rate)))))
    (s.mix.rev.d.getD i 0))

/-- The reverb takes its inputs from the bus outputs `y`: what its lines and predelays write, and whether that is a fault (R228, R243). -/
def State.revTake (s : State) (n : Nat) (y : Nat → F32) : State × Bool :=
  if !s.revFits n then (s, false)
  else
    let w := s.mc 0xB005
    let inL := s.mixIn n 0xB001 y
    let inR := s.mixIn n 0xB002 y
    let s := (s.winWrite w (s.revPreAt n 0 0) (fxClean inL)).winWrite w (s.revPreAt n 1 0) (fxClean inR)
    let pre (i : Nat) : F32 := s.winRead w (s.revPreAt n (i % 2) (s.revPre n))
    let xs := (List.range 16).map (fun i => fAdd (hadamard (s.revG n) i) (fMul 0x3E800000 (pre i)))
    let bad := (inL :: inR :: xs).findSome? fxBad
    let s := (List.range 16).foldl (fun s i => s.winWrite w (s.revAt n i) (fxClean (xs.getD i 0))) s
    ((s.setMix (fun m => { m with rev := { m.rev with pos := m.rev.pos + 1 } })).fxFault? 16 16 bad, bad.isSome)

/-! ### Effect instances (R297, R298) -/

/-- What effect instance `e` gives at frame `n`: what its program leaves in its output buffers is open.
(Log: 10 DESIGN CHOICE, 92 DEDUCED.) -/
def State.fxRun (s : State) (n e : Nat) : State × List (Nat × F32) :=
  let id := 0xC000 + 256 * e
  match s.fxProg s.mix.cur e with
  | none => (s, [])
  | some p =>
    let v0 := Config.effectOut p.uid e 0 n
    let v1 := Config.effectOut p.uid e 1 n
    let bad := (fxBad v0).or (fxBad v1)
    let f := Tbl.get 0 s.mix.fxFade e
    let c := Tbl.get 0 s.mix.fxClear e
    let k := fMul (fMul (s.mSwitch n (id + 1)) (if f = 0 then fOne else fSub fOne (gone32 (f - 1) n))) (if c = 0 then fOne else gone32 (c - 1) n)
    (s.fxFault? (32 + e) (32 + e) bad, if bad.isSome then [] else s.mixOut n (id + 4) (fMul v0 k) ++ s.mixOut n (id + 5) (fMul v1 k))

/-! ### Inputs (R188, R238, R411) -/

/-- A stream input channel belongs to an enabled receive stream (R408). -/
def State.rxOn (s : State) (idx : Nat) : Bool :=
  let n := idx / 128
  let ch := idx % 128
  (List.range 8).any (fun k => let w := s.strm false n k
    bit w 0 && decide (bits w 1 7 ≤ ch) && decide (ch ≤ bits w 1 7 + bits w 8 7))

/-- An input frame through its hold-fade. -/
def State.inFrame (s : State) (key : Nat) (v : Option F32) : State × F32 :=
  match Tbl.get none s.mix.inHold key, v with
  | none, none => (s, 0)
  | o, v =>
    let (h, y) := (o.getD ⟨0, 0, none⟩).frame s.blockLen v
    (s.setMix (fun m => { m with inHold := Tbl.put none m.inHold key (some h) }), y)

/-- Value of the route-map input of entry `e` at frame `n` (R238). -/
def State.inputAt (s : State) (n e src align : Nat) : State × F32 :=
  let look (t : Tbl Nat) (k : Nat) : Option F32 := let c := Tbl.get 0 t k; if c = 0 then none else some (codeVal c)
  if rType src = 2 then
    let k := n - (s.slack + 2) * s.blockLen - align
    (s, (look s.mix.tdm (rIdx src * 2 ^ 40 + k)).getD 0)
  else if !s.rxOn (rIdx src) then (s, 0)
  else s.inFrame (src + 65536 * (4096 * e + align)) (look s.sv.rx (rIdx src * 2 ^ 40 + (n - align)))

/-! ### A frame of the buses (R219, R220, R222, R225) -/

/-- The frame being mixed. -/
structure MixAcc where
  /-- Voice partials, spill returns and route-map inputs, summed by bus. -/
  base : List F32
  /-- Bus sends to each bus, in ascending source bus. -/
  sends : List (Nat × F32)
  /-- What the processors give: processor, bus, value; delay lines 0 to 15 in ascending order, the reverb 16, effect instances 32 on. -/
  fx : List (Nat × Nat × F32)
  /-- Processors that a fault silences (R243). -/
  silent : List Nat
  /-- Outputs y_b of the buses done. -/
  y : List F32
  /-- Pre-fader tap of the upper bus of a linked pair. -/
  tap : F32
deriving DecidableEq, Repr

/-- Sum of bus `b`, one running sum in the order of R219. -/
def MixAcc.sum (a : MixAcc) (b : Nat) : F32 :=
  ((a.sends.filter (fun e => e.1 == b)).map (fun e => e.2)
    ++ (a.fx.filter (fun e => e.2.1 == b && !a.silent.contains e.1)).map (fun e => e.2.2)).foldl fAdd (a.base.getD b 0)

/-- Partial sum of a core from shared SRAM (R301). -/
def State.partialSum (s : State) (c j b i : Nat) : F32 :=
  BitVec.ofNat 32 (s.sram.nat (0x1680000 + 0x4000 * c + 0x2000 * (j % 2) + 0x100 * b + 4 * i) 4)

/-- What core `c` contributes to bus `b` at sample `i` of block `j`: its partial sum, on its way to 0 while its cluster is being reset;
of a core that wrote none and whose cluster is being reset, the last sample it gave, fading (R191, R280).
(Log: 173 DEDUCED.) -/
def State.corePart (s : State) (j i c b : Nat) : Option F32 :=
  let x := s.sch
  let B := s.blockLen
  if (x.cur.map (fun q => q.wrote)).getD [] |>.contains c then
    let v := s.partialSum c j b i
    some (if x.resets.contains (c / 4) then fMul (fadeDown i B) v else v)
  else if x.heard.contains c ∧ (x.resets.contains (c / 4) ∨ x.fading.contains (c / 4)) then
    some (fMul (fadeDown i B) (s.partialSum c x.heardJ b (B - 1)))
  else none

/-- Add `v` to the sum of bus `b`. -/
def addSum (l : List F32) (b : Nat) (v : F32) : List F32 := l.set b (fAdd (l.getD b 0) v)

/-- The partners with return channels, in ascending order of their channels (R186, R219). -/
def State.returns (s : State) : List (Nat × Nat) :=
  (s.sv.partners.foldl (fun l p => (l.takeWhile (fun q => decide (q.pid < p.pid))) ++ p :: l.dropWhile (fun q => decide (q.pid < p.pid)))
    ([] : List Partner)).flatMap (fun p => ((List.range p.buses.length).zip p.buses).map (fun e => (256 * p.pid + e.1, e.2)))

/-- Items 1 to 3 of R219 for sample `i` of block `j`, frame `n`. -/
def State.mixBase (s : State) (j i n : Nat) : State × List F32 :=
  let part := (List.range 32).map (fun b => ((List.range 16).filterMap (fun c => s.corePart j i c b)).foldl fAdd 0)
  let (s, base) := s.returns.foldl (fun (acc : State × List F32) e =>
    let c := Tbl.get 0 acc.1.sv.ret (e.1 * 2 ^ 40 + n)
    let (s, v) := acc.1.inFrame (2 ^ 40 + e.1) (if c = 0 then none else some (codeVal c))
    (s, addSum acc.2 e.2 v)) (s, part)
  (List.range 256).foldl (fun (acc : State × List F32) k =>
    (acc.1.mix.feeds.filter (fun x => x.entry == k && rType x.dst == 1 && x.on n)).foldl (fun (acc : State × List F32) x =>
      let (s, v) := acc.1.inputAt n k x.src x.align
      (s, addSum acc.2 (rIdx x.dst) (x.scale n v))) acc) (s, base)

/-- What the processors that run give at frame `n`, sample `i`, in the order of R219. (Log: 92 DEDUCED.) -/
def State.mixFx (s : State) (n i : Nat) : State × List (Nat × Nat × F32) :=
  let put (u : Nat) (acc : State × List (Nat × Nat × F32)) (r : State × List (Nat × F32)) : State × List (Nat × Nat × F32) :=
    (r.1, acc.2 ++ r.2.map (fun e => (u, e.1, e.2)))
  let a := (List.range 16).foldl (fun acc d => if acc.1.mRuns n (0xA000 + 256 * d) then put d acc (acc.1.delayRun n i d) else acc) (s, [])
  let a := if a.1.mRuns n 0xB000 then put 16 a (a.1.revRun n) else a
  (List.range 8).foldl (fun acc e => if acc.1.mRuns n (0xC001 + 256 * e) then put (32 + e) acc (acc.1.fxRun n e) else acc) a

/-- The processors whose highest input bus is `b` take their inputs (R220). -/
def State.mixTakes (s : State) (n i b : Nat) (a : MixAcc) : State × MixAcc :=
  let y (k : Nat) : F32 := a.y.getD k 0
  let hush (u : Nat) (a : MixAcc) (r : State × Bool) : State × MixAcc := (r.1, if r.2 then { a with silent := u :: a.silent } else a)
  let (s, a) := (List.range 16).foldl (fun (acc : State × MixAcc) d =>
    if acc.1.mRuns n (0xA000 + 256 * d) ∧ acc.1.topIn n [0xA001 + 256 * d] = b then hush d acc.2 (acc.1.delayTake n i d y) else acc) (s, a)
  if s.mRuns n 0xB000 ∧ s.topIn n [0xB001, 0xB002] = b then hush 16 a (s.revTake n y) else (s, a)

/-- A bus whose chain has run: fader, sends and the processors it completes (R222, R225). (Log: 92 DEDUCED.) -/
def State.busOut (s : State) (n i b : Nat) (tap : F32) (a : MixAcc) : State × MixAcc :=
  let id := 0x8000 + 256 * b
  let y := fMul tap (fMul (dbGain (s.mv n (id + 1))) (fSub fOne (s.mSwitch n (id + 2))))
  let l := (List.range 4).flatMap (fun k =>
    let x := fMul (if s.mc (id + 0x32 + 4 * k) = 1 then tap else y) (dbGain (s.mv n (id + 0x31 + 4 * k)))
    (s.mixOut n (id + 0x30 + 4 * k) x).filterMap (fun e => if e.1 = 0 then none else some (e.1 - 1, e.2)))
  s.mixTakes n i b { a with y := a.y.set b y, sends := a.sends ++ l }

/-- Buses `b` and its neighbour are a linked pair (R224). -/
def State.linked (s : State) (b : Nat) : Bool := s.mc (0x8006 + 256 * (b - b % 2)) == 1 && s.mc (0x8006 + 256 * (b - b % 2 + 1)) == 1

/-- Bus `b` of the frame (R222). -/
def State.mixBus (s : State) (n i b : Nat) (a : MixAcc) : State × MixAcc :=
  let trim (b : Nat) : F32 := fMul (a.sum b) (dbGain (s.busV n b 0))
  if s.linked b then
    if b % 2 = 0 then
      let (s, t0, t1) := s.chain2 n b (trim b) (trim (b + 1))
      s.busOut n i b t0 { a with tap := t1 }
    else s.busOut n i b a.tap a
  else
    let (s, t) := s.chain1 n b (trim b)
    s.busOut n i b t a

/-- One frame of every bus: frame `n`, sample `i` of block `j`; the outputs y. -/
def State.mixFrame (s : State) (j i n : Nat) : State × List F32 :=
  let (s, base) := s.mixBase j i n
  let (s, fx) := s.mixFx n i
  let (s, a) := (List.range 32).foldl (fun (acc : State × MixAcc) b => acc.1.mixBus n i b acc.2)
    (s, ⟨base, [], fx, [], List.replicate 32 0, 0⟩)
  (s, a.y)

/-! ### Changes at their frame (R231) -/

/-- How a change of a mix parameter behaves (R231). -/
inductive MixKind where
  /-- Stepped. -/
  | step
  /-- A ramp of 32 samples. -/
  | ramp
  /-- A path switched on or off. -/
  | switch
  /-- A connection. -/
  | conn
  /-- TIME. -/
  | time
  /-- Memory cleared. -/
  | clear
  /-- An equaliser band. -/
  | band
  /-- ORDER. -/
  | order
deriving DecidableEq, Repr

/-- The behaviour of parameter `id`. -/
def mixKind (id : Nat) : MixKind :=
  let pp := id % 256
  if id < 0xA000 then
    if pp = 0 ∨ pp = 1 ∨ pp = 0x25 then .ramp
    else if pp = 2 ∨ pp = 3 ∨ pp = 4 then .switch
    else if pp = 5 then .order
    else if 0x10 ≤ pp ∧ pp < 0x20 then .band
    else if 0x30 ≤ pp ∧ pp % 4 = 1 then .ramp
    else if 0x30 ≤ pp ∧ pp % 4 = 0 then .conn
    else .step
  else if id < 0xB000 then
    match pp with | 0 => .switch | 1 | 2 => .conn | 3 => .clear | 4 => .time | 8 => .ramp | _ => .step
  else if id < 0xC000 then
    match pp with | 0 => .switch | 1 | 2 | 3 | 4 => .conn | 5 | 6 | 9 => .clear | 0x0A => .ramp | _ => .step
  else
    match pp with | 1 => .switch | 2 | 3 | 4 | 5 => .conn | 6 => .clear | _ => .step

/-- Clear the memory of the processor that `id` belongs to at frame `n`; its output fades in (R231). (Log: 171 DEDUCED.) -/
def State.mixClear (s : State) (n id : Nat) : State :=
  let u := id / 256 % 16
  if id < 0xB000 then (s.winClear (s.mc (0xA003 + 256 * u))).setDline u { s.dline u with z := 0, clear := some n }
  else if id < 0xC000 then s.revClear n
  else (s.winClear (s.mc (0xC006 + 256 * u))).setMix (fun m => { m with fxClear := Tbl.put 0 m.fxClear u (n + 1) })

/-- The mix memory cleared by a reset of cluster E (R240). (Log: 36 DEDUCED.) -/
def State.clearMix (s : State) : State :=
  let s := ((List.range 16).foldl (fun s d => s.winClear (s.mc (0xA003 + 256 * d))) s).winClear (s.mc 0xB005)
  s.setMix (fun m => { m with
    buses := List.replicate 32 BusCh.zero
    rev := { m.rev with d := List.replicate 16 0, pos := 0 }, lines := m.lines.map (fun x => { x with z := 0 }) })

/-- Band `i` of every path of bus `b` is left at frame `n`, its state carried over (R231). (Log: 171 DEDUCED.) -/
def State.leaveBand (s : State) (n b i : Nat) : State :=
  let p := s.bandPar n b i
  let leave (c : Chain) : Chain :=
    let q := c.bands.getD i ⟨(0, 0), []⟩
    { c with bands := c.bands.set i { q with olds := q.olds.filter (fun o => decide (n < o.k0 + 32)) ++ [⟨p.1, p.2, q.z, n⟩] } }
  let c := s.bus b
  s.setMix (fun m => { m with buses := m.buses.set b ⟨leave c.ch, c.olds.map (fun o => (o.1, leave o.2.1, o.2.2))⟩ })

/-- The chain of bus `b` with its present ORDER is left at frame `n`. (Log: 171 DEDUCED.) -/
def State.leaveOrder (s : State) (n b : Nat) : State :=
  let c := s.bus b
  let c := { c with olds := c.olds.filter (fun o => decide (n < o.2.2 + 32)) ++ [(s.mc (0x8005 + 256 * b), c.ch, n)] }
  s.setMix (fun m => { m with buses := m.buses.set b c })

/-- TIME of line `d` changes at frame `n`: D moves over GLIDE, or steps (R227). (Log: 171 DEDUCED.) -/
def State.leaveTime (s : State) (n d : Nat) : State :=
  let x := s.dline d
  let now := s.delayNow n d
  let g := fMul (s.mv n (0xA005 + 256 * d)) (fInt s.rate)
  s.setDline d (if fIsZero g then { x with glide := none, steps := x.steps.filter (fun e => decide (n < e.2 + 32)) ++ [(now, n)] }
    else { x with glide := some (now, n, g) })

/-- A change reaches its frame `n` (R231). (Log: 171 DEDUCED.) -/
def State.mixTake (s : State) (n : Nat) (a : MixAct) : State :=
  match a with
  | .par id v =>
    let old := s.mc id
    let was := (s.mv n id).toNat
    let same := old = v ∧ !s.mix.pramps.any (fun r => r.id == id)
    match mixKind id with
    | .ramp => (s.mixSet id v).mixXfer ⟨id, was, 0, n⟩ true
    | .switch => if same then s else (s.mixXfer ⟨id, old, s.mSwitch n id, n⟩ true).mixSet id v
    | .conn => if same then s
      else (s.mixXfer ⟨id, old, ((s.mConn n id).getLast?.map (fun e => e.2)).getD 0, n⟩ false).mixSet id v
    | .time => (s.leaveTime n (id / 256 % 16)).mixSet id v
    | .clear => if same then s else (s.mixSet id v).mixClear n id
    | .band => if same then s else (s.leaveBand n (id / 256 - 0x80) ((id % 256 - 0x10) / 4)).mixSet id v
    | .order => if same then s else (s.leaveOrder n (id / 256 - 0x80)).mixSet id v
    | .step => s.mixSet id v
  | .ramp id tgt t0 dur =>
    let from_ := s.mv n id
    (s.mixSet id tgt.toNat).setMix (fun m => { m with
      xr := m.xr.filter (fun r => r.id != id), pramps := m.pramps ++ [⟨id, from_, tgt, t0, dur⟩] })

/-- Take the changes due at frame `n`, and drop those that are over; an effect instance whose program has faded out is set to none
(R231, R293). -/
def State.mixActs (s : State) (n : Nat) : State :=
  let due := s.mix.acts.filter (fun e => decide (e.1 ≤ n))
  let s := due.foldl (fun s e => s.mixTake e.1 e.2) (s.setMix (fun m => { m with acts := m.acts.filter (fun e => decide (n < e.1)) }))
  let gone := s.mix.fxFade.filter (fun e => decide (e.2 + 31 ≤ n))
  s.setMix (fun m => { m with
    cur := gone.foldl (fun t e => s.mixStore t (0xC000 + 256 * e.1) 0) m.cur
    fxFade := m.fxFade.filter (fun e => decide (n < e.2 + 31))
    xr := m.xr.filter (fun r => decide (n < r.k0 + 32)) })

/-! ### A block -/

/-- Block `j`: its frames are mixed, and kept for the destinations (R206, R219 to R237). -/
def State.mixBlock (s : State) (j : Nat) : State :=
  ((List.range s.blockLen).foldl (fun s i =>
    let n := j * s.blockLen + i
    let (s, y) := (s.mixActs n).mixFrame j i n
    s.setMix (fun m => { m with hist := Tbl.put [] m.hist n y })) s).mixPrune

end Sys2Proof.Machine
end

