-- ==== Sys2Proof/Machine/Bench.lean ====
section
/-!
DEFINITION. The bench list and cluster resets as the boundary applies them (R10, R190, R191, R240 to R242, R252, R280).
-/
namespace Sys2Proof.Machine

/-! ### The cost of the mix (R242, R300) -/

/-- Cycles per frame, in units of 1/64 cycle: C of R242 with the loaded effects' declared cost. -/
def State.mixCost (s : State) : Nat :=
  let n (l : List Nat) (p : Nat → Bool) : Nat := (l.filter p).length
  let on (id : Nat) : Bool := s.mc id == 1
  let buses := List.range 32
  let eq := buses.foldl (fun a b => a + (if on (0x8003 + 256 * b) then n (List.range 4) (fun i => s.mc (0x8010 + 256 * b + 4 * i) != 0) else 0)) 0
  let sends := buses.foldl (fun a b => a + n (List.range 4) (fun k => s.mc (0x8030 + 256 * b + 4 * k) != 0)) 0
  let routes := n (List.range 256) (fun k => let r := s.routeEnt k; rType r.src != 0 && rType r.dst != 0)
  let fx := (List.range 16).foldl (fun a k => a + match s.prog k with
    | some p => if p.kind = 3 ∧ p.live then leNat ((p.image.drop 52).take 2) + leNat ((p.image.drop 58).take 2) / s.blockLen else 0
    | none => 0) 0
  64 * (320 + 512 + 8 * eq + 40 * n buses (fun b => on (0x8004 + 256 * b)) + 2 * sends
    + 30 * n (List.range 16) (fun d => on (0xA000 + 256 * d)) + (if on 0xB000 then 1200 else 0) + 5 * routes + fx)
    + 3000 * 64 / s.blockLen

/-- The other cluster E cores can carry the load without core `c` (R241, R242). -/
def State.canSpareE (s : State) (c : Nat) : Bool :=
  let n := (s.coresE.filter (fun x => x != c)).length
  decide (1 ≤ n) && decide (s.mixCost * s.rate ≤ 64 * n * 1000000000)

/-! ### Going on the bench and coming back (R10, R190) -/

/-- Voices and tails of core `c`. -/
def State.coreEmpty (s : State) (c : Nat) : Bool :=
  s.coreUsed c == 0 && (List.range 4).all (fun i => (s.tail (4 * c + i)).st == 0)

/-- Core `c` carries nothing, so a bench can be confirmed: voices and tails for a voice core, mix work for one of cluster E. -/
def State.benchFree (s : State) (c : Nat) : Bool :=
  if c < 16 then s.coreEmpty c else s.schState == 0 || s.canSpareE c

/-- A bench record: CORE_STATE `cr`, CLUSTER_E `ce` for cores of cluster E, ST_EVENT `ev` on source 120, in order of source (R9, R359). -/
def State.benchRec (s : State) (c ev cr ce : Nat) : State :=
  let s := s.coreRec c cr
  (if 16 ≤ c then s.event 0x2B 59 c ce 0 else s).event 0x61 120 c ev 0

/-- Core `c` leaves HALTED, if it was: RESUME (R285). -/
def State.leaveHalt (s : State) (c : Nat) : State := if s.chState c = 3 then s.coreRec c 2 else s

/-- Core `c` is BENCHED. -/
def State.benchGo (s : State) (c : Nat) : State :=
  (((s.leaveHalt c).put (Reg.CH_STAT_STATE c) 5).unwait c).benchRec c 4 3 3

/-- The confirmations of a boundary (R10, R199 step 2). -/
def State.benchConfirm (s : State) : State :=
  s.al.draining.foldl (fun s c => if (s.renders c || s.chState c == 3 || s.chState c == 4) && s.benchFree c then s.benchGo c else s) s

/-- Ask for the bench of core `c`: its AVAIL bit clears, line 6 names it; with no scheduler running it is granted at once.
(Log: 37 DEDUCED.) -/
def State.benchAsk (s : State) (c : Nat) : State :=
  if s.al.draining.contains c then s
  else
    let s := ({ s with al := { s.al with draining := s.al.draining ++ [c] } }).raise c 6
    if s.schState = 0 ∨ s.schState = 1 then s.benchConfirm else s

/-- Reset the registers and memories of core `c` and load its IMEM from the program store (R252, R290,
R291, R572). -/
def State.coreReset (s : State) (c : Nat) : State :=
  let imem : Memory := (List.range 16).foldl (fun m n => match s.prog n with
    | some p =>
      if (p.kind = 3) = (16 ≤ c) then
        m.setBytes p.code ((p.image.drop (leNat ((p.image.drop 20).take 4))).take (leNat ((p.image.drop 24).take 4)))
      else m
    | none => m) (Memory.setBytes [] 0 (s.fw0.getD (c / 4) []))
  let dmem : Memory := (List.range 16).foldl (fun m n => match s.prog n with
    | some p =>
      if (p.kind = 3) = (16 ≤ c) then
        m.setBytes p.data ((p.image.drop (leNat ((p.image.drop 28).take 4))).take (leNat ((p.image.drop 32).take 4)))
      else m
    | none => m) []
  s.setCore c { Core.zero with imem := imem, dmem := dmem }

/-- The contexts of core `c`'s resident slots and tails stand in its DMEM, where the allocator moves them while the core does not
render (R248). (Log: 46 DEDUCED.) -/
def State.putContexts (s : State) (c : Nat) : State :=
  let put (m : Memory) (a : Nat) (v : Voice) : Memory := if v.st = 0 then m else m.setBytes a (s.context v 3)
  let k := s.core c
  let m := (List.range 16).foldl (fun m i => put m (0x18000 + 0x800 * i) (s.slot (16 * c + i))) k.dmem
  s.setCore c { k with dmem := (List.range 4).foldl (fun m i => put m (0x16000 + 0x800 * i) (s.tail (4 * c + i))) m }

/-- Core `c` returns to service (R190, R252). -/
def State.benchReturn (s : State) (c : Nat) : State :=
  let s := { s with al := { s.al with draining := s.al.draining.filter (fun x => x != c), moving := s.al.moving.filter (fun x => x != c) } }
  if s.chState c = 5 then ((s.coreReset c).put (Reg.CH_STAT_STATE c) 1).benchRec c 5 4 4 else s

/-! ### Cluster resets (R191, R240) -/

/-- Free slot `v` with VOICE_LOST; its pending commands complete DISCARDED_RESET (R191, R419). -/
def State.loseSlot (s : State) (v : Nat) : State :=
  let x := s.slot v
  if x.st = 0 then s
  else
    let h := s.handle v
    let s := (((s.voiceRec s.ns 3 x.group h x.nid).laneEnd x h 3).freeEnt v).dropFor h
    let s := match x.why with
      | .park q _ => if x.st = 4 then s.trackDone q 0x0D 0 0 else s
      | _ => s
    let s := match s.sv.src.find? (fun y => y.ent == v && y.gen == x.gen && !y.ended) with
      | some y =>
        let s := if y.dst.isSome then s.srcMsg y 6 0 0 [] else s
        (s.delSrc y).trackDone y.seq 0x0D 0 0
      | none => s
    match s.sv.dst.find? (fun y => y.ent == some (v, x.gen)) with
    | some y => if y.committed then s.delDst y else s.refuse y 0x0D 0
    | none => s

/-- Free every slot and tail of cluster `k`, 0 to 3. (Log: 36 DEDUCED.) -/
def State.loseCluster (s : State) (k : Nat) : State :=
  let s := ((List.range 64).map (fun i => 64 * k + i)).foldl (fun s v => s.loseSlot v) s
  ((List.range 16).map (fun i => 16 * k + i)).foldl (fun s t => s.setTail t (Voice.free 0)) s

/-- A cluster reset is taken (R191, R240, R252): the cores go to RESET; voice clusters are freed at the next boundary, or at
once where no boundary comes; cluster E does the block it is at once more when it is back. (Log: 36 DEDUCED.) -/
def State.clusterReset (s : State) (k : Nat) : State :=
  let s := [4 * k, 4 * k + 1, 4 * k + 2, 4 * k + 3].foldl (fun s c =>
    (((s.leaveHalt c).setCore c Core.zero).put (Reg.CH_STAT_STATE c) 0).unwait c) s
  let s := if k = 4 then s else { s with al := { s.al with away := s.al.away ++ [4 * k, 4 * k + 1, 4 * k + 2, 4 * k + 3] } }
  if k = 4 then
    let s := s.setSch (fun x => { x with cur := x.cur.map (fun b => { b with mixOn := false }) })
    (s.setMix (fun m => { m with out := true })).clearMix.event 0x2B 59 16 1 0
  else if s.schState < 2 then s.loseCluster k
  else { s with sch := { s.sch with resets := s.sch.resets ++ [k] } }

/-- The cluster is back in service (R252). -/
def State.clusterBack (s : State) (k : Nat) : State :=
  let s := [4 * k, 4 * k + 1, 4 * k + 2, 4 * k + 3].foldl (fun s c =>
    if s.chState c = 0 then (s.coreReset c).put (Reg.CH_STAT_STATE c) 1 else s) s
  let s := { s with al := { s.al with away := s.al.away.filter (fun c => c / 4 != k) } }
  if k = 4 then
    let s := s.setSch (fun x => { x with cur := x.cur.map (fun b => if b.mixOn ∨ !b.waiting.isEmpty then b else { b with mixFrom := s.tu }) })
    (s.setMix (fun m => { m with out := false })).event 0x2B 59 16 2 0
  else s

/-- Step 2 of R199. -/
def State.benchBoundary (s : State) : State :=
  let s := s.sch.resets.foldl (fun s k => s.loseCluster k) s
  let s := s.setSch (fun x => { x with
    resets := [], faded := [], fading := x.fading ++ x.resets.filter (fun k => !x.faded.contains k) })
  s.benchConfirm

end Sys2Proof.Machine
end

