-- ==== Sys2Proof/Machine/Flags.lean ====
section
/-!
DEFINITION. The values and flags of the chisel datapath: binary32 and Q1.31 results with the sticky flags they raise
(R250, R253 to R255, R260, R261).
-/
namespace Sys2Proof.Machine

/-- Sticky flags an operation raises, as the bits of BS (R250): 1 INV, 2 OVF, 3 UNF, 4 SAT. -/
abbrev FBits := Nat

/-- INV, OVF and UNF as bits of BS. -/
def FFlags.bits (f : FFlags) : FBits := 2 * b2n f.inv + 4 * b2n f.ovf + 8 * b2n f.unf
/-- The SAT bit. (Log: 48 DEDUCED.) -/
def satBit (b : Bool) : FBits := 16 * b2n b

/-- A value with the bits it raises. -/
abbrev FRes := BitVec 32 × FBits

/-- A binary32 result. -/
def FRes.of (r : F32 × FFlags) : FRes := (r.1, r.2.bits)
/-- An invalid operation (R253). -/
def FRes.inv : FRes := FRes.of fInvalid

/-- A subnormal input is replaced by zero of its sign (R253). (Log: 140 DEDUCED.) -/
def fFlush (x : F32) : F32 := if fIsZero x then fZero (fSign x) else x

/-! ### Sums of products, rounded once (R258, R261) -/

/-- The sign of a product, turned when it is subtracted. -/
def prodNeg (p : Bool × F32 × F32) : Bool := (fSign p.2.1 != fSign p.2.2) != p.1
/-- One factor is infinite. -/
def prodInf (p : Bool × F32 × F32) : Bool := fIsInf p.2.1 || fIsInf p.2.2
/-- A NaN factor, or infinity times zero. -/
def prodBad (p : Bool × F32 × F32) : Bool :=
  fIsNaN p.2.1 || fIsNaN p.2.2 || (fIsInf p.2.1 && fIsZero p.2.2) || (fIsZero p.2.1 && fIsInf p.2.2)

/-- The exact sum of products ±a x b, rounded once; an exact zero is -0 only when every term is negative. -/
def fDot (ps : List (Bool × F32 × F32)) : F32 × FFlags :=
  let infs := ps.filter prodInf
  if ps.any prodBad then fInvalid
  else match infs with
    | p :: rest => if rest.any (fun q => prodNeg q != prodNeg p) then fInvalid else (fInf (prodNeg p), noFlags)
    | [] =>
      let e := ps.foldl (fun (m : Int) p => min m (fE p.2.1 + fE p.2.2)) 1000
      let m := ps.foldl (fun (a : Int) p =>
        let x := fMant p.2.1 * fMant p.2.2 * 2 ^ (fE p.2.1 + fE p.2.2 - e).toNat
        if p.1 then a - x else a + x) 0
      if m = 0 then (fZero (ps.all prodNeg), noFlags) else fRoundI m e

/-! ### Q1.31 (R254, R255) -/

/-- An integer held to Q1.31 with its SAT bit. (Log: 48 DEDUCED.) -/
def qSat (n : Int) : FRes := (BitVec.ofInt 32 (satS 32 n), satBit (satS 32 n != n))
/-- n / 2^k rounded, ties upward. -/
def qRound (n : Int) (k : Nat) : Int := if k = 0 then n else (n + 2 ^ (k - 1)) / 2 ^ k
/-- c ± a x b rounded and saturated to Q1.31. (Log: 48 DEDUCED.) -/
def qFma (neg : Bool) (a b c : BitVec 32) : FRes :=
  let p := a.toInt * b.toInt
  qSat (qRound (c.toInt * 2 ^ 31 + (if neg then -p else p)) 31)

/-- A Q9.63 accumulator part: an exact integer, saturated, with its SAT bit (R254). -/
def accSat (n : Int) : BitVec 72 × FBits := (BitVec.ofInt 72 (satS 72 n), satBit (satS 72 n != n))

/-- An accumulator part after a sum of products by MODE (R254, R261). -/
def macPart (q : Bool) (acc : Option (BitVec 72)) (ps : List (Bool × BitVec 32 × BitVec 32)) : BitVec 72 × FBits :=
  if q then
    let n := ps.foldl (fun (a : Int) p =>
      let x : Int := 2 * (p.2.1.toInt * p.2.2.toInt)
      if p.1 then a - x else a + x) (match acc with | some v => v.toInt | none => 0)
    accSat n
  else
    let ts := match acc with
      | some v => (false, v.setWidth 32, fOne) :: ps
      | none => ps
    let r := fDot ts
    (r.1.setWidth 72, r.2.bits)

/-- An accumulator part moved to a G register with shift `sh` (R255). (Log: 48 DEDUCED.) -/
def moveAcc (q : Bool) (v : BitVec 72) (sh : Int) : FRes :=
  if q then qSat (qRound v.toInt (32 - sh).toNat)
  else
    let x : F32 := v.setWidth 32
    if fIsNaN x then FRes.inv
    else if fIsInf x then (x, 0)
    else FRes.of (fRound (fSign x) (fMant x).natAbs (fE x + sh))

/-! ### FPU functions (R260) -/

/-- FMIN and FMAX: a NaN operand yields the other; which of two zeros of different sign is open.
(Log: 13 DEDUCED, 47 DEDUCED.) -/
def fMinMax (max : Bool) (a b : F32) : FRes :=
  if fIsNaN a && fIsNaN b then FRes.inv
  else if fIsNaN a then (fFlush b, 2)
  else if fIsNaN b then (fFlush a, 2)
  else
    let lt := fLt a b
    let gt := fLt b a
    (fFlush (if !lt && !gt then (if Config.zeroPick then a else b) else if lt == max then b else a), 0)

/-- 1 or 0 by a comparison; a NaN gives 0. (Log: 47 DEDUCED.) -/
def fTest (a b : F32) (r : Bool) : FRes := if fIsNaN a || fIsNaN b then (0, 2) else (BitVec.ofNat 32 (b2n r), 0)

/-- A finite value times 2^k to the nearest integer, ties to even. -/
def fToInt (x : F32) (k : Int) : Int :=
  let e := fE x + k
  let n : Nat := if 0 ≤ e then (fMant x).natAbs * 2 ^ e.toNat else shiftRne (fMant x).natAbs (-e).toNat
  if fSign x then -(n : Int) else n

/-- FTOI (k = 0) and FTOQ (k = 31): ties to even, saturating; a NaN gives 0. (Log: 48 DEDUCED.) -/
def fToFix (x : F32) (k : Int) : FRes :=
  if fIsNaN x then (0, 2)
  else if fIsInf x then qSat (if fSign x then -(2 ^ 40) else 2 ^ 40)
  else qSat (fToInt x k)

/-- floor. -/
def fFloor (x : F32) : FRes :=
  if fIsNaN x then FRes.inv
  else if fIsInf x || fIsZero x then (fFlush x, 0)
  else FRes.of (fRoundI (fFloorI x) 0)

/-- x - floor(x). -/
def fFract (x : F32) : FRes :=
  if fIsNaN x || fIsInf x then FRes.inv else FRes.of (fAddF x (fNegate (fFloor x).1))

/-- The neighbour of a normal value that an open choice picks, where a bound admits it. (Log: 13 DEDUCED.) -/
def fPick (rn : F32) (k : Nat) (good : F32 → Bool) : F32 :=
  let c := rn + BitVec.ofNat 32 (k % 3) - 1
  if fExpo rn ≠ 0 ∧ fFinite rn ∧ fExpo c ≠ 0 ∧ fFinite c ∧ good c then c else rn

/-- FRCP: error at most 1 ulp. (Log: 13 DEDUCED.) -/
def fRcp (a : F32) : FRes :=
  let r := fDivF fOne a
  (fPick r.1 (Config.coreFn 0x20 a).toNat (fun c =>
    let x := (fMant c).natAbs
    let y := (fMant a).natAbs
    let one := 2 ^ (-(fE c + fE a)).toNat
    decide (x * y ≤ one + y ∧ one ≤ x * y + y)), r.2.bits)

/-- 1/√a of a normal positive value, to 2^-60 of itself. -/
def rsqOf (a : F32) : Approx :=
  let odd := (fE a) % 2 = 1
  let m := (fMant a).natAbs * (if odd then 2 else 1)
  let e := if odd then fE a - 1 else fE a
  ⟨natSqrt (2 ^ 180 / m) 90 0, -90 - e / 2⟩

/-- FRSQ: error at most 1 ulp. (Log: 13 DEDUCED.) -/
def fRsq (a : F32) : FRes :=
  if fIsNaN a then FRes.inv
  else if fIsZero a then (fInf (fSign a), 0)
  else if fSign a then FRes.inv
  else if fIsInf a then (0, 0)
  else let r := rsqOf a; (r.held r.ulp (Config.coreFn 0x21 a), 0)

/-- FEXP2: the limits by R253, between them a value within 2 ulp. (Log: 12 DESIGN CHOICE.) -/
def fExp2Core (a : F32) : FRes :=
  if fIsNaN a then FRes.inv
  else if fIsInf a then (if fSign a then 0 else a, 0)
  else if !fLt a 0x43000000 then (fInf false, 4)
  else if fLt a 0xC2FC0000 then (0, 8)
  else (exp2Val a (Config.coreFn 0x22 a), 0)

/-- FLOG2, within 2 ulp. (Log: 12 DESIGN CHOICE.) -/
def fLog2Core (a : F32) : FRes :=
  if fIsNaN a then FRes.inv
  else if fIsZero a then (fInf true, 0)
  else if fSign a then FRes.inv
  else if fIsInf a then (a, 0)
  else (log2Val a (Config.coreFn 0x23 a), 0)

/-- FSIN2P, absolute error below 2^-23. (Log: 12 DESIGN CHOICE.) -/
def fSinCore (a : F32) : FRes := if fIsNaN a || fIsInf a then FRes.inv else (sin2PiOf (fFlush a) (Config.coreFn 0x24 (fFlush a)), 0)

/-- FTANP: 0 to 0.49, relative error below 2^-23, else invalid. (Log: 12 DESIGN CHOICE.) -/
def fTanCore (a : F32) : FRes :=
  let inside := fFinite a && decide (0 ≤ fMant a) && decide (fMant a * 100 * 2 ^ (fE a + 150).toNat ≤ 49 * 2 ^ 150)
  if inside then (tanPiOf (fFlush a) (Config.coreFn 0x25 (fFlush a)), 0) else FRes.inv

end Sys2Proof.Machine
end

