-- ==== Sys2Proof/Machine/Operands.lean ====
section
/-!
DEFINITION. The operand forms of the chisel core: registers, results in flight, addressing modes, loads and stores,
the store buffer and the DMA port (R245 to R251, R262 to R268, R487, R490, R496).
-/
namespace Sys2Proof.Machine

/-! ### Registers of the current bank and results in flight (R249, R264 to R267) -/

/-- Change core `c`. -/
def State.modCore (s : State) (c : Nat) (f : Core → Core) : State := s.setCore c (f (s.core c))

/-- Bank `b` of a core. -/
def Core.bankOf (k : Core) (b : Nat) : Bank := k.banks.getD b Bank.zero
/-- The current bank. -/
def Core.cur (k : Core) : Bank := k.bankOf k.bank
/-- Change bank `b`. -/
def Core.modBank (k : Core) (b : Nat) (f : Bank → Bank) : Core := { k with banks := k.banks.set b (f (k.bankOf b)) }
/-- Register Gi. -/
def Core.g (k : Core) (i : Nat) : BitVec 32 := k.cur.g.getD i 0
/-- Register Ai. -/
def Core.a (k : Core) (i : Nat) : BitVec 32 := k.cur.a.getD i 0
/-- System register `n` of the bank: BS, LC0, LS0, LE0, LC1, LS1, LE1. -/
def Core.bs (k : Core) (n : Nat) : Nat := (k.cur.bs.getD n 0).toNat
/-- Write one of them. -/
def Core.setBs (k : Core) (n v : Nat) : Core := k.modBank k.bank (fun b => { b with bs := b.bs.set n (BitVec.ofNat 32 v) })
/-- MODE of the current bank: Q1.31. -/
def Core.q (k : Core) : Bool := bit (k.bs 0) 0
/-- Set sticky flags in the current bank's BS. (Log: 49 DEDUCED.) -/
def Core.raiseFlags (k : Core) (f : Nat) : Core := if f = 0 then k else k.setBs 0 (k.bs 0 ||| f)

/-- A result that lands `lat` issue cycles after its instruction (R264). -/
def Core.put (k : Core) (lat dst : Nat) (v : BitVec 72) : Core := { k with land := k.land ++ [⟨lat, k.bank, dst, v⟩] }
/-- A result for Gd. -/
def Core.wrG (k : Core) (lat d : Nat) (v : BitVec 32) : Core := k.put lat d (v.setWidth 72)
/-- A result for Ai. -/
def Core.wrA (k : Core) (lat i : Nat) (v : BitVec 32) : Core := k.put lat (32 + i) (v.setWidth 72)
/-- A part of an accumulator as MVA sees it. -/
def Core.accSeen (k : Core) (p : Nat) : BitVec 72 := k.cur.acc.getD p 0
/-- A part as the accumulation chain sees it: the latest result in flight, else the part (R267). -/
def Core.accChain (k : Core) (p : Nat) : BitVec 72 :=
  match (k.land.filter (fun l => l.bank == k.bank && l.dst == 40 + p)).getLast? with
  | some l => l.v
  | none => k.accSeen p
/-- A chain result for a part. -/
def Core.wrAcc (k : Core) (p : Nat) (v : BitVec 72) : Core := k.put 3 (40 + p) v

/-- A result lands. -/
def Core.landOne (k : Core) (l : Land) : Core :=
  k.modBank l.bank (fun b =>
    if l.dst < 32 then { b with g := b.g.set l.dst (l.v.setWidth 32) }
    else if l.dst < 40 then { b with a := b.a.set (l.dst - 32) (l.v.setWidth 32) }
    else { b with acc := b.acc.set (l.dst - 40) l.v })

/-- Two results for one register. -/
def Land.same (x y : Land) : Bool := x.bank == y.bank && x.dst == y.dst

/-- Registers that two or more of the results reach: the bank of each (R266). (Log: 62 DEDUCED.) -/
def collisions : List Land → List Nat
  | [] => []
  | l :: t => if (t.filter (fun x => x.same l)).length = 1 then l.bank :: collisions t else collisions t

/-- One issue cycle passes over the results in flight: those due land in issue order, so that the one issued last is kept,
and WCOLL is set in the bank of each collision; the number of collisions (R264, R266). -/
def Core.advance (k : Core) : Core × Nat :=
  let ls := k.land.map (fun l => { l with left := l.left - 1 })
  let due := ls.filter (fun l => l.left == 0)
  let k := due.foldl Core.landOne { k with land := ls.filter (fun l => l.left != 0) }
  let cs := collisions due
  (cs.foldl (fun k b => k.modBank b (fun x => { x with bs := x.bs.set 0 (x.bs.getD 0 0 ||| 0x20) })) k, cs.length)

/-- Note collisions in CHn_WCOLL and CHn_FLAGS (R266, R282). (Log: 62 DEDUCED.) -/
def State.noteColl (s : State) (c n : Nat) : State :=
  if n = 0 then s else (s.countSat (Reg.CH_WCOLL c) n).set1 (Reg.CH_FLAGS_WCOLL c)

/-- One cycle of the results of core `c`. -/
def State.advance (s : State) (c : Nat) : State :=
  let (k, n) := (s.core c).advance
  (s.setCore c k).noteColl c n

/-- Every result in flight lands: an interrupt, a fault, a halt or a WAIT (R265, R275). -/
def State.landAll (s : State) (c : Nat) : State :=
  (List.range 6).foldl (fun s _ => s.advance c) s

/-! ### Cycles: the counter, the timer, freezes (R246, R250) -/

/-- The countdown over `n` cycles: the new TMR, and whether it reached 0. -/
def timerRun (tmr ld n : Nat) : Nat × Bool :=
  if tmr = 0 ∨ n = 0 then (tmr, false)
  else if n < tmr then (tmr - n, false)
  else (if ld = 0 then 0 else ld - (n - tmr) % ld, true)

/-- `n` core cycles pass on core `c`. (Log: 51 DEDUCED.) -/
def State.cycles (s : State) (c n : Nat) : State :=
  s.modCore c (fun k =>
    let (t, hit) := timerRun k.tmr k.tmrld n
    { k with cyc := k.cyc + n, tmr := t, ip := if hit then k.ip ||| 8 else k.ip })

/-- Core `c` is frozen for `n` cycles (R246). (Log: 51 DEDUCED.) -/
def State.freeze (s : State) (c n : Nat) : State := (s.countSat (Reg.CH_FREEZE c) n).cycles c n
/-- A freeze of at least `n` cycles; how many more is open (R245, R488). (Log: 51 DEDUCED, 147 DESIGN CHOICE.) -/
def State.freezeFrom (s : State) (c n : Nat) : State :=
  let (x, s) := s.freeNat
  s.freeze c (n + x)

/-! ### Corrected errors of IMEM and DMEM (R277, R359) -/

/-- A word of core `c` is corrected: counted, and in its summarising record. (Log: 64 DEDUCED.) -/
def State.coreCe (s : State) (c : Nat) : State :=
  (s.countSat (Reg.CH_ECC_CE c) 1).sumUp (256 * (40 + c) + 1) 1
/-- A read of `n` bytes of DMEM by another port than the core's own corrects every single-bit error it meets.
(Log: 64 DEDUCED.) -/
def State.dmemFix (s : State) (c a n : Nat) : State :=
  ((s.core c).dmemSoft.filter (fun w => decide (a < 8 * w + 8 ∧ 8 * w < a + n))).foldl (fun s w =>
    (s.coreCe c).modCore c (fun k => { k with dmemSoft := k.dmemSoft.filter (fun x => x != w) })) s

/-! ### The core DMA port (R496) -/

/-- An idle port. -/
def CoreDma.idle : CoreDma := ⟨0, false, false, false, 0⟩
/-- Port of core `c`. -/
def State.dmaPort (s : State) (c : Nat) : CoreDma := s.ms.dma.getD c CoreDma.idle
/-- Replace it. -/
def State.setDma (s : State) (c : Nat) (d : CoreDma) : State := s.setMs (fun m => { m with dma := m.dma.set c d })
/-- Where the ports lie. -/
def dmaBase : Nat := 0x177F800
/-- STATUS. -/
def CoreDma.status (d : CoreDma) : Nat := b2n d.busy + 2 * b2n d.done + 4 * b2n d.error + 16 * d.cause
/-- The 32 bytes of a port as a number. -/
def CoreDma.word (d : CoreDma) : Nat := d.regs % 2 ^ 176 + 2 ^ 224 * d.status
/-- SRC, DST and LEN. -/
def CoreDma.src (d : CoreDma) : Nat := bits d.regs 0 64
/-- DST. -/
def CoreDma.dst (d : CoreDma) : Nat := bits d.regs 64 64
/-- LEN. -/
def CoreDma.len (d : CoreDma) : Nat := bits d.regs 128 32

/-- Whether a range of a DMA space is outside it: the cause, 0 if none. (Log: 60 DEDUCED.) -/
def State.dmaRange (s : State) (sp a n : Nat) : Nat :=
  if a % 8 ≠ 0 then 3
  else match sp with
    | 0 => if a + n ≤ 0x20000 then 0 else 1
    | 1 => if a + n ≤ 46 * 0x80000 ∧ s.bankOn (bankOf a) ∧ s.bankOn (bankOf (a + n - 1)) then 0 else 1
    | 2 => if a + n ≤ dramBytes then 0 else 1
    | _ => 1

/-- The end of a transfer: DONE, or ERROR with its cause; DMA_DONE is raised. -/
def State.dmaEnd (s : State) (c cause : Nat) : State :=
  (s.setDma c { s.dmaPort c with busy := false, done := cause == 0, error := cause != 0, cause := cause }).raise c 2

/-- A store to GO. (Log: 60 DEDUCED.) -/
def State.dmaGo (s : State) (c : Nat) : State :=
  let d := s.dmaPort c
  if d.busy then s
  else
    let n := d.len
    let r1 := s.dmaRange (bits d.regs 160 8) d.src n
    let r2 := s.dmaRange (bits d.regs 168 8) d.dst n
    let cause := if n % 8 ≠ 0 ∨ r1 = 3 ∨ r2 = 3 then 3 else if n < 8 ∨ 65536 < n ∨ r1 = 1 ∨ r2 = 1 then 1 else 0
    if cause = 0 then s.setDma c { d with busy := true } else s.dmaEnd c cause

/-- A load of STATUS clears DONE, ERROR, the cause and the line. -/
def State.dmaStatusRead (s : State) (c : Nat) : State :=
  let d := s.dmaPort c
  (s.setDma c { d with done := false, error := false, cause := 0 }).modCore c (fun k => { k with ip := k.ip &&& 0xFFFB })

/-- A store into the core's own port, `n` bytes at offset `o`. -/
def State.dmaStore (s : State) (c o : Nat) (b : List (BitVec 8)) : State :=
  let d := s.dmaPort c
  let m := (Memory.setBytes [] 0 (leBytes 32 d.regs)).setBytes o b
  let s := s.setDma c { d with regs := m.nat 0 22 }
  if o < 28 ∧ 24 < o + b.length then s.dmaGo c else s

/-- Bytes of DMA space `sp` with the first spoilt word's address (R490, R503). -/
def State.dmaRead (s : State) (c sp a n : Nat) : List (BitVec 8) × Option Nat :=
  match sp with
  | 0 => ((s.core c).dmem.bytes a n,
      ((s.core c).dmemBad.filter (fun w => decide (a ≤ 8 * w ∧ 8 * w < a + n))).foldl (fun m w => some (match m with | some x => min x w | none => w)) none)
  | 1 => (s.sram.bytes a n, s.sramSpoilt a n)
  | _ => (s.dram.bytes a n, s.dramSpoilt a n)

/-- Write bytes into DMEM: a full word removes its error (R244). -/
def Core.dmemWrite (k : Core) (a : Nat) (b : List (BitVec 8)) : Core :=
  let full (w : Nat) : Bool := decide (a ≤ 8 * w ∧ 8 * w + 8 ≤ a + b.length)
  { k with dmem := k.dmem.setBytes a b, dmemBad := k.dmemBad.filter (fun w => !full w), dmemSoft := k.dmemSoft.filter (fun w => !full w) }

/-- Write bytes into a DMA space. -/
def State.dmaWrite (s : State) (c sp a : Nat) (b : List (BitVec 8)) : State :=
  match sp with
  | 0 => s.modCore c (fun k => k.dmemWrite a b)
  | 1 => s.sramWriteAll a b
  | _ => s.dramWrite a b

/-- The transfer of core `c` ends: what was read before a spoilt word is written. -/
def State.dmaDone (s : State) (c : Nat) : State :=
  let d := s.dmaPort c
  if !d.busy then s
  else
    let ss := bits d.regs 160 8
    let (b, bad) := s.dmaRead c ss d.src d.len
    let n := match bad with | some w => 8 * w - d.src | none => d.len
    let s := if ss = 1 then s.sramFix d.src n else if ss = 2 then s.dramFix d.src n else s.dmemFix c d.src n
    match bad with
    | none => (s.dmaWrite c (bits d.regs 168 8) d.dst b).dmaEnd c 0
    | some w =>
      let s := if ss = 1 then s.sramUe (8 * w) else if ss = 2 then s.dramUe (8 * w) else s.countSat (Reg.CH_ECC_UE c) 1
      (s.dmaWrite c (bits d.regs 168 8) d.dst (b.take (8 * w - d.src))).dmaEnd c 2

/-! ### Loads (R245 to R247, R487, R490) -/

/-- What an access or an instruction comes to: a fault of R277, or done. -/
inductive LRes where
  /-- The fault's code; the state holds what was counted on the way. -/
  | fault (code : Nat) (s : State)
  /-- Done, with the value read. -/
  | ok (s : State) (v : Nat)

/-- Space and address within it of a data address: 0 DMEM, 1 SRAM, 2 DRAM (R245). -/
def Core.place (k : Core) (a n : Nat) : Option (Nat × Nat) :=
  if a + n ≤ 0x20000 then some (0, a)
  else if 0x1000000 ≤ a ∧ a + n ≤ 0x2800000 then some (1, a - 0x1000000)
  else if 0x40000000 ≤ a ∧ a + n ≤ 0x80000000 then some (2, k.drb * 2 ^ 30 + (a - 0x40000000))
  else none

/-- The bytes of the store buffer laid over bytes read (R247). (Log: 50 DESIGN CHOICE.) -/
def overlay (sp a : Nat) (b : List (BitVec 8)) (st : List (Nat × Nat × List (BitVec 8))) : List (BitVec 8) :=
  st.foldl (fun b e =>
    if e.1 = sp then
      (b.zip (List.range b.length)).map (fun x =>
        if e.2.1 ≤ a + x.2 ∧ a + x.2 < e.2.1 + e.2.2.length then e.2.2.getD (a + x.2 - e.2.1) 0 else x.1)
    else b) b

/-- Buffered stores cover the `n` bytes at an address. -/
def covered (sp a n : Nat) (st : List (Nat × Nat × List (BitVec 8))) : Bool :=
  (List.range n).all (fun i => st.any (fun e => decide (e.1 = sp ∧ e.2.1 ≤ a + i ∧ a + i < e.2.1 + e.2.2.length)))

/-- Load `n` bytes, which lie within one 64-bit word; what buffered stores cover is not read from memory (R247).
(Log: 57 PRESUMED.) -/
def State.loadAt (s : State) (c sp a n : Nat) : LRes :=
  let k := s.core c
  match sp with
  | 0 =>
    let w := a / 8
    let s := if k.dmemSoft.contains w then
        (s.coreCe c).modCore c (fun k => { k with dmemSoft := k.dmemSoft.filter (fun x => x != w) })
      else s
    if k.dmemBad.contains w then .fault 3 (s.countSat (Reg.CH_ECC_UE c) 1) else .ok s (k.dmem.nat a n)
  | 1 =>
    if dmaBase ≤ a ∧ a + n ≤ dmaBase + 640 then
      let m := (a - dmaBase) / 32
      let o := (a - dmaBase) % 32
      let v := bits (s.dmaPort m).word (8 * o) (8 * n)
      .ok ((if 28 < o + n then s.dmaStatusRead m else s).freezeFrom c 4) v
    else if !s.bankOn (bankOf a) then .fault 2 s
    else if covered 1 a n k.stores then .ok (s.freezeFrom c 4) (leNat (overlay 1 a (List.replicate n 0) k.stores))
    else
      let (s, bad) := s.sramTouch a
      if bad then .fault 3 s
      else
        let s := if 0x16C0000 ≤ a ∧ a < 0x1700000 then s.modCore c (fun k => { k with ip := k.ip &&& 0xFFDF }) else s
        .ok (s.freezeFrom c 4) (leNat (overlay 1 a (s.sram.bytes a n) k.stores))
  | _ =>
    if covered 2 a n k.stores then .ok (s.freezeFrom c 60) (leNat (overlay 2 a (List.replicate n 0) k.stores))
    else
      let (s, bad) := s.dramTouch a
      .ok (s.freezeFrom c 60) (leNat (overlay 2 a (if bad then List.replicate n 0 else s.dram.bytes a n) k.stores))

/-! ### Stores (R245 to R247, R487) -/

/-- Does R487 allow core `c` to store at an SRAM address? -/
def State.mayStore (s : State) (c a n : Nat) : Bool :=
  if dmaBase + 32 * c ≤ a ∧ a + n ≤ dmaBase + 32 * c + 32 then true
  else s.bankOn (bankOf a) && (decide (a + n ≤ 0x16C0000) || decide (0x1780000 ≤ a))

/-- The fault a store raises, if any. -/
def State.storeFault (s : State) (c sp a n : Nat) : Option Nat :=
  if sp = 1 ∧ !s.mayStore c a n then some 2 else none

/-- Write one buffered store to its memory. (Log: 50 DESIGN CHOICE.) -/
def State.drainStore (s : State) (e : Nat × Nat × List (BitVec 8)) : State :=
  if e.1 = 1 then s.sramWrite e.2.1 e.2.2 else s.dramWrite e.2.1 e.2.2

/-- Every buffered store of core `c` is written, in program order (R247). (Log: 50 DESIGN CHOICE.) -/
def State.flushStores (s : State) (c : Nat) : State :=
  ((s.core c).stores.foldl State.drainStore s).modCore c (fun k => { k with stores := [] })

/-- Store bytes that an access may store. (Log: 50 DESIGN CHOICE.) -/
def State.storeAt (s : State) (c sp a : Nat) (b : List (BitVec 8)) : State :=
  if sp = 0 then s.modCore c (fun k => k.dmemWrite a b)
  else if sp = 1 ∧ dmaBase + 32 * c ≤ a ∧ a + b.length ≤ dmaBase + 32 * c + 32 then
    (s.flushStores c).dmaStore c (a - dmaBase - 32 * c) b
  else
    let k := s.core c
    let s := match k.stores with
      | e :: rest =>
        if k.stores.length < 4 then s
        else ((s.drainStore e).modCore c (fun k => { k with stores := rest })).freezeFrom c 1
      | [] => s
    s.modCore c (fun k => { k with stores := k.stores ++ [(sp, a, b)] })

/-! ### Addressing (R262, R263) -/

/-- The pieces an instruction accesses, each a space, an address and its bytes, and the value written back to Ai. -/
structure Ea where
  /-- Pieces. -/
  pieces : List (Nat × Nat × Nat)
  /-- Written back. -/
  back : Option (BitVec 32)
deriving DecidableEq, Repr

/-- The address of a memory instruction, or its fault's code; `z` is the access size in bytes. (Log: 53 DEDUCED.) -/
def State.ea (s : State) (c : Nat) (ai mode : Nat) (circ : Bool) (slot : Nat) (imm : BitVec 12) (z : Nat) : Except Nat Ea :=
  let k := s.core c
  let base := k.a ai
  if circ then
    let wm := k.wmap.getD slot 0
    let w := wm % 64
    if !bit wm 31 ∨ s.win w 0 ≠ 1 then .error 2
    else
      let len : Int := (max 1 (s.win w 3) : Nat)
      let b : Int := base.toNat
      let n : Int := z / 4
      let d : Int := if mode = 2 then (k.g (imm.toNat % 32)).toInt * n else imm.toInt * n
      let o := if mode = 0 ∨ mode = 3 then b + d else b
      let p (i : Nat) : Nat × Nat × Nat := let x := s.winAddr w (o + i); (x.1 + 1, x.2, 4)
      .ok ⟨(List.range (z / 4)).map p, if mode = 0 then none else some (BitVec.ofInt 32 ((b + d) % len))⟩
  else
    let d : BitVec 32 := (if mode = 2 then k.g (imm.toNat % 32) else imm.signExtend 32) * BitVec.ofNat 32 z
    let a := if mode = 0 ∨ mode = 3 then base + d else base
    if a.toNat % z ≠ 0 then .error 1
    else match k.place a.toNat z with
      | none => .error 2
      | some (sp, x) => .ok ⟨[(sp, x, z)], if mode = 0 then none else some (base + d)⟩

/-- Load every piece, the first in the low bytes. -/
def State.loadEa (s : State) (c : Nat) : List (Nat × Nat × Nat) → LRes
  | [] => .ok s 0
  | (sp, a, n) :: rest =>
    match s.loadAt c sp a n with
    | .fault k s => .fault k s
    | .ok s v => match s.loadEa c rest with
      | .fault k s => .fault k s
      | .ok s w => .ok s (v + 2 ^ (8 * n) * w)

/-- Store a value over the pieces, or the fault of the first that may not be stored. -/
def State.storeEa (s : State) (c : Nat) (ps : List (Nat × Nat × Nat)) (v : Nat) : LRes :=
  match ps.findSome? (fun p => s.storeFault c p.1 p.2.1 p.2.2) with
  | some k => .fault k s
  | none => .ok (ps.foldl (fun (x : State × Nat) p => (x.1.storeAt c p.1 p.2.1 (leBytes p.2.2 x.2), x.2 / 2 ^ (8 * p.2.2))) (s, v)).1 0

end Sys2Proof.Machine
end

