-- ==== Sys2Proof/Machine/Render.lean ====
section
/-!
DEFINITION. What a voice core does with its block, and what leaves when a block is complete (R99, R113, R186, R205, R219,
R281, R300, R301, R409, R410, R425).
-/
namespace Sys2Proof.Machine

/-! ### The voices of a core (R219, R281, R301) -/

/-- A state that renders: SOUNDING, RELEASING, STEALING, MIGRATING_OUT (R156). -/
def renderSt (st : Nat) : Bool := st == 2 || st == 3 || st == 4 || st == 6

/-- What a voice of core `c` reports after its block: spoilt DRAM words that it read, its directory faults, and the first filter
reset since its cast (R89, R99, R113, R503). -/
def State.voiceFaults (s : State) (c handle : Nat) (v : Voice) (bad : Option Nat) : State × Voice :=
  let s := v.snd.ue.foldl (fun s w => s.dramUe (8 * w)) s
  let s := v.snd.faults.foldl (fun s f => s.event 0x23 (40 + c) c 1 (pay 16 handle + pay 20 f.1 + pay 21 f.2.2 + pay 22 f.2.1)) s
  let v := { v with snd := { v.snd with faults := [], ue := [] } }
  match bad with
  | some n => if v.snd.filFault then (s, v)
    else (s.event 0x23 (40 + c) c 2 (pay 16 handle + pay 20 n), { v with snd := { v.snd with filFault := true } })
  | none => (s, v)

/-! ### Command lists (R298, R299) -/

/-- The frame at or after `t` (R68). -/
def frameNum (fper t : Nat) : Nat := (t + fper - 1) / fper

/-- The entry of a command list for an event at `t` in the block that starts at frame `k0`; `own` gives the list's own ID and table entry
of a parameter, none where the list does not carry it (R299). (Log: 166 DEDUCED.) -/
def listEntry (fper k0 t : Nat) (own : Nat → Option (Nat × PEntry)) (a : VAct) : Option ListEntry :=
  let k := frameNum fper t
  let d := deltaOf fper k t / 256
  let step (e : Nat × PEntry) (kind val aux : Nat) : ListEntry :=
    { kind := kind, id := e.1, value := val, aux := min aux 0xFFFFFFFF, frame := k - k0, delta := if bit e.2.flags 1 then d else 0 }
  match a with
  | .start => none
  | .set id val _ => (own id).map (fun e => if bit e.2.flags 2 then step e 2 val (tuNs (32 * fper)) else step e 1 val 0)
  | .ramp id tgt dur _ => (own id).map (fun e => step e 2 tgt.toNat (tuNs dur))
  | .release rv _ => some { kind := 3, id := 0, value := 0, aux := rv.toNat, frame := k - k0, delta := d }
  | .retrig key vel _ => some { kind := 4, id := 0, value := key.toNat, aux := vel.toNat, frame := k - k0, delta := d }

/-- Insert in order of frame, after equals (R299). -/
def insFrame (e : ListEntry) : List ListEntry → List ListEntry
  | [] => [e]
  | x :: l => if e.frame < x.frame then e :: x :: l else x :: insFrame e l

/-- The command list of the events of a block: ascending frames, acceptance order within one (R299). -/
def cmdList (fper k0 : Nat) (own : Nat → Option (Nat × PEntry)) (acts : List (Nat × VAct)) : List ListEntry :=
  ((acts.foldl (fun l e => insSeq e l) []).filterMap (fun e => listEntry fper k0 e.1 own e.2)).foldl (fun l e => insFrame e l) []

/-- The events that a command list of a block of `B` frames from frame `k0` can carry: those whose frames lie in it, and of a voice that
starts in it those after the values it starts with (R299, R596). (Log: 166 DEDUCED.) -/
def Voice.blockActs (v : Voice) (fper k0 B : Nat) : List (Nat × VAct) :=
  let due := v.acts.filter (fun e => decide (frameNum fper e.1 < k0 + B))
  if v.snd.live then due
  else match due.find? (fun e => e.2 == .start) with
    | some st => due.filter (fun e => !(e.2.change && decide (frameNum fper e.1 ≤ frameNum fper st.1)))
    | none => []

/-- A stage that voice `v` uses in its block at instance `i`: its slot and program (R286, R298). (Log: 166 DEDUCED.) -/
def State.stageAt (s : State) (v : Voice) (acts : List (Nat × VAct)) (i : Nat) : Option (Nat × Program) :=
  let sel := stageSel i
  (List.range 16).findSome? (fun n => (s.prog n).bind (fun p =>
    if p.kind = 2 ∧ p.hook = sel.2 ∧ (v.raw sel.1 = p.hookVal ∨ acts.any (fun a => match a.2 with
      | .set id x _ => id == sel.1 && x == p.hookVal
      | _ => false)) then some (n, p) else none))

/-- The list's own ID of parameter `id` in the list of instance `i`, whose stage is `p` in slot `n`: its PP (R296, R299). -/
def stageOwn (i n : Nat) (p : Program) (id : Nat) : Option (Nat × PEntry) :=
  let base := 0x7000 + 256 * n + 64 * (if i < 4 then i else if i < 6 then i - 4 else 0)
  if base ≤ id ∧ id < base + 64 then (p.params.find? (fun e => e.id == id - base)).map (fun e => (e.id, e)) else none

/-- The command lists of a voice for its block of frames from `k0`, each with its number: 0 its maquette's, 1 + i that of the stage at
instance i (R298, R299). (Log: 166 DEDUCED.) -/
def State.cmdLists (s : State) (v : Voice) (k0 : Nat) : List (Nat × ListEntry) :=
  let acts := v.blockActs s.fper k0 s.blockLen
  if v.prog ≠ 0 then
    let tab := ((s.progByUid v.prog).map Program.params).getD []
    (cmdList s.fper k0 (fun id => (tab.find? (fun e => e.id == id)).map (fun e => (e.id, e))) acts).map (fun e => (0, e))
  else (List.range 7).flatMap (fun i => match s.stageAt v acts i with
    | some (n, p) => (cmdList s.fper k0 (stageOwn i n p) acts).map (fun e => (1 + i, e))
    | none => [])

/-- The bytes of a command list: a count word, then 16 bytes an entry (R299). -/
def listBytes (l : List ListEntry) : List (BitVec 8) :=
  leBytes 4 l.length ++ l.flatMap (fun e => leBytes 1 e.kind ++ leBytes 1 0 ++ leBytes 2 e.id ++ leBytes 4 e.value ++ leBytes 4 e.aux
    ++ leBytes 2 e.frame ++ leBytes 2 e.delta)

/-- What a maquette's voice holds after the events of its block of `B` frames from `k0` (R299). -/
def Voice.takeList (v : Voice) (fper k0 B : Nat) : Voice :=
  let now (e : Nat × VAct) : Bool := decide (frameNum fper e.1 < k0 + B)
  let due := v.acts.filter now
  if !v.snd.live ∧ !due.any (fun e => e.2 == .start) then v
  else (due.foldl (fun l e => insSeq e l) []).foldl (fun v e => match e.2 with
    | .start => { v with snd := { v.snd with live := true } }
    | .set id val _ => v.store id val
    | .ramp id tgt dur _ => { v.store id tgt.toNat with pramps := ⟨id, v.base e.1 id, tgt, e.1, dur⟩ :: v.pramps.filter (fun r => r.id != id) }
    | .retrig key vel _ => { v with key := key, vel := vel }
    | .release rv _ => { v with relVel := rv }) { v with acts := v.acts.filter (fun e => !now e) }

/-- The cost of RENDER calls of the programs `used` names is measured: how long each took is open; one that took too long is
reported once per load (R300). (Log: 139 DEDUCED.) -/
def State.renderCost (s : State) (used : Program → Bool) : State :=
  (List.range 16).foldl (fun s n => match s.prog n with
    | some q =>
      if used q then
        let (dear, s) := s.freeBool
        if dear ∧ !q.costSeen then
          let (cyc, s) := s.freeNat
          (s.setProg n (some { q with costSeen := true })).maqRec 4 n q.uid (cyc % 2 ^ 32)
        else s
      else s
    | none => s) s

/-- One RENDER call of a voice maquette for block `j` (R298 to R300): what it sends, its LOUD, its end and its cost are left free.
(Log: 10 DESIGN CHOICE, 42 DESIGN CHOICE.) -/
def State.renderMaq (s : State) (v : Voice) (j : Nat) (p : Tbl F32) : State × Voice × Tbl F32 :=
  let (k, s) := s.freeNat
  let (loud, s) := s.freeWord
  let (ovr, s) := s.freeBool
  let part := (List.range 32).foldl (fun p b => (List.range s.blockLen).foldl (fun p i =>
    addBus p i [(b, Config.voiceOut v.prog k b i)]) p) p
  let s := s.renderCost (fun q => q.uid == v.prog && q.kind == 1)
  (s, { v.takeList s.fper (j * s.blockLen) s.blockLen with loud := some loud, ended := ovr }, part)

/-- Add a spilled voice's sends to its lane: those of a bus that a return channel carries (R186).
(Log: 11 DESIGN CHOICE, 38 DEDUCED.) -/
def State.laneAdd (s : State) (node pid : Nat) (part : Tbl F32) : State :=
  s.setSv (fun w => { w with lanes := w.lanes.map (fun l =>
    if l.node = node ∧ l.pid = pid then
      { l with any := true, sums := (List.range l.nret).foldl (fun t ch =>
          (List.range 64).foldl (fun t i =>
            Tbl.put 0 t (64 * ch + i) (fAdd (Tbl.get 0 t (64 * ch + i)) (Tbl.get 0 part (64 * Config.laneBus node pid ch + i)))) t) l.sums }
    else l) })

/-- Render one voice of core `c` through block `j`: its entry's new contents and the partial sums.
(Log: 46 DEDUCED, 139 DEDUCED.) -/
def State.renderOne (s : State) (c j tier handle : Nat) (v : Voice) (part : Tbl F32) : State × Voice × Tbl F32 :=
  let lane := v.spill.bind (fun x => s.sv.lanes.find? (fun l => l.node == x.1 && l.pid == x.2.1))
  let jv := match lane with
    | some l => j + l.lead - s.slack
    | none => j
  let p0 : Tbl F32 := if v.spill.isSome then [] else part
  let v := { v with lists := s.cmdLists v (jv * s.blockLen) }
  let (s, v, p) :=
    if v.prog ≠ 0 then s.renderMaq v jv p0
    else
      let (v, p, bad) := v.render (s.env v.group) jv s.blockLen tier p0
      let (s, v) := s.voiceFaults c handle v bad
      (s.renderCost (fun q => q.kind == 2 && v.uses 0 q), v, p)
  match v.spill with
  | some (node, pid, _) => (s.laneAdd node pid p, v, part)
  | none => (s, v, p)

/-- Write the partial sums of core `c` for block `j` into its bus area (R301). -/
def State.writePartials (s : State) (c j : Nat) (part : Tbl F32) : State :=
  (List.range 32).foldl (fun s b => s.sramWriteAll (0x1680000 + 0x4000 * c + 0x2000 * (j % 2) + 0x100 * b)
    ((List.range s.blockLen).flatMap (fun i => leBytes 4 (Tbl.get 0 part (64 * b + i)).toNat))) s

/-- Core `c` writes BDONE for its block (R281): a voice core's slots, then its tails, have been rendered, and its partial sums
are in shared SRAM. A second BDONE is ignored. (Log: 46 DEDUCED.) -/
def State.bdone (s : State) (c : Nat) : State :=
  let k := s.core c
  if !k.owed then s
  else
    let s := s.setCore c { k with owed := false, ip := k.ip - k.ip % 128 / 64 * 64 }
    match s.sch.cur with
    | none => s
    | some b =>
      if 16 ≤ c then { s with sch := { s.sch with cur := some { b with waitE := b.waitE.filter (fun x => x != c) } } }
      else if !b.waiting.contains c then s
      else
        let tier := min 2 b.level
        let (s, part) := (List.range 16).foldl (fun (acc : State × Tbl F32) i =>
          let e := 16 * c + i
          let v := acc.1.slot e
          if renderSt v.st then
            let (s, v, p) := acc.1.renderOne c b.j tier (acc.1.handle e) v acc.2
            (s.setSlot e v, p)
          else acc) (s, [])
        let (s, part) := (List.range 4).foldl (fun (acc : State × Tbl F32) i =>
          let e := 4 * c + i
          let v := acc.1.tail e
          if v.st = 0 then acc
          else
            let (s, v, p) := acc.1.renderOne c b.j tier v.tailOf v acc.2
            (s.setTail e v, p)) (s, part)
        let s := (s.writePartials c b.j part).putContexts c
        { s with sch := { s.sch with cur := some { b with
            waiting := b.waiting.filter (fun x => x != c), wrote := b.wrote ++ [c], lastBdone := s.tu } } }

/-! ### Streams of a completed block (R409, R410, R425) -/

/-- The 24-byte header of a stream frame and its samples (R409). -/
def streamBytes (sid fs ch0 nch nfr bseq stamp : Nat) (codes : List Int) : List (BitVec 8) :=
  leBytes 1 sid ++ leBytes 1 fs ++ leBytes 1 ch0 ++ leBytes 1 nch ++ leBytes 2 nfr ++ leBytes 2 bseq ++ leBytes 8 stamp ++ leBytes 8 0
    ++ codes.flatMap (fun c => leBytes 3 (ofS 24 c))

/-- Send a block of `cnt` channels as frames of at most floor(669 / B) channels: `code ch i` is channel ch's frame i. -/
def State.sendStream (s : State) (bcast : Bool) (dst sid j cnt bseq : Nat) (code : Nat → Nat → Int) : State :=
  let B := s.blockLen
  let per := 669 / B
  (List.range ((cnt + per - 1) / per)).foldl (fun s k =>
    let ch0 := k * per
    let nch := min per (cnt - ch0)
    let bytes := streamBytes sid s.fs ch0 nch B bseq (tuNs (s.playStart j))
      ((List.range B).flatMap (fun i => (List.range nch).map (fun x => code (ch0 + x) i)))
    if bcast then s.sendAll 2 8 bytes else (s.sendTo 2 8 dst bytes none).1) s

/-- The transmit streams of a completed block (R410). -/
def State.streamsOut (s : State) (b : Block) : State :=
  let s := (List.range 32).foldl (fun s x =>
    let n := x / 8
    let k := x % 8
    let w := s.strm true n k
    if bit w 0 then
      let first := bits w 1 7
      let cnt := bits w 8 7 + 1
      let code (ch i : Nat) : Int × Bool := toCode (s.destAt (0x4000 + 128 * n + first + ch) (b.j * s.blockLen + i))
      let s' := (List.range cnt).foldl (fun t ch =>
        t.clip (0x4000 + 128 * n + first + ch) ((List.range s.blockLen).filter (fun i => (code ch i).2)).length) s
      s'.sendStream (bit w 15) (bits w 20 12) (k + 8 * n) b.j cnt s.sv.bseq (fun ch i => (code ch i).1)
    else s) s
  s.setSv (fun w => { w with bseq := (w.bseq + 1) % 65536 })

/-- The return streams of the lanes whose partnership had a voice in the block (R425). -/
def State.lanesOut (s : State) (j : Nat) : State :=
  let s := s.sv.lanes.foldl (fun s l =>
    if l.any then s.sendStream false l.node (l.pid + 32) (j + l.lead - s.slack) l.nret l.bseq (fun ch i => (toCode (Tbl.get 0 l.sums (64 * ch + i))).1)
    else s) s
  s.setSv (fun w => { w with lanes := w.lanes.map (fun l => { l with any := false, sums := [], bseq := if l.any then (l.bseq + 1) % 65536 else l.bseq }) })

/-! ### Playing a block (R205, R236) -/

/-- Output frames of TDM port `n` that a block sends as hold-fade, or as 0 for want of a clock, while the scheduler is RUNNING
(R478). -/
def State.tdmUnder (s : State) (n lost : Nat) : State :=
  let k := if s.get (Reg.TDM_STAT_CLK n) = 1 then lost else s.blockLen
  if s.schState = 2 ∧ s.on (Reg.TDM_CTRL_EN n) ∧ s.on (Reg.TDM_CTRL_DOUT_EN n) ∧ k ≠ 0 then
    (s.set1 (Reg.TDM_FLAGS_OUT_UND n)).sumUp (256 * (102 + n) + 2) k
  else s

/-- What the outputs get of block `j` is settled: a frame is played when the block completed at least 1 us before t_k, else replaced
(R205). `undr` = replaced frames count as an underrun. (Log: 94 DEDUCED.) -/
def State.playBlock (s : State) (j : Nat) (b : Option Block) (undr : Bool) : State :=
  let B := s.blockLen
  let lost := ((List.range B).filter (fun i => match b.bind (fun x => x.complete) with
    | some t => decide (s.frameTime (j * B + i) < t + nsTu 1000)
    | none => true)).length
  let s := (s.markDead (j * B) (j * B + lost) false).keepHold
  let s := s.playDsts.foldl (fun s d =>
    let s := s.deliver d j
    match s.out with
    | .codes _ _ l :: _ => s.aoHeard d l
    | _ => s) s
  let s := (s.tdmUnder 0 lost).tdmUnder 1 lost
  if undr then s.underrun j (j * B) lost else s

end Sys2Proof.Machine
end

