-- ==== Sys2Proof/Machine/CoreIssue.lean ====
section
/-!
DEFINITION. Issue on a chisel core: fetch, faults, interrupts, delay slots, loops, halts (R257, R265, R269 to R280, R283).
-/
namespace Sys2Proof.Machine

/-- What an instruction comes to at its issue. -/
inductive IRes where
  /-- It raises a fault and has no effect; the state holds what was counted on the way. -/
  | fault (code : Nat) (s : State)
  /-- Its effect, and the PC of the next instruction where it sets one itself. -/
  | next (s : State) (pc : Option Nat)

/-! ### Instruction words (R257) -/

/-- Format A. -/
def wA (op d a b f : Nat) : Nat := op * 2 ^ 26 + d * 2 ^ 21 + a * 2 ^ 16 + b * 2 ^ 11 + f
/-- Format I. -/
def wI (op d a imm : Nat) : Nat := op * 2 ^ 26 + d * 2 ^ 21 + a * 2 ^ 16 + imm
/-- Format F. -/
def wF (op d a b c z : Nat) : Nat := op * 2 ^ 26 + d * 2 ^ 21 + a * 2 ^ 16 + b * 2 ^ 11 + c * 2 ^ 6 + z
/-- Format M. -/
def wM (op g ai mode circ slot imm : Nat) : Nat :=
  op * 2 ^ 26 + g * 2 ^ 21 + ai * 2 ^ 18 + mode * 2 ^ 16 + circ * 2 ^ 15 + slot * 2 ^ 12 + imm
/-- Format X. -/
def wX (op k x y f z : Nat) : Nat := op * 2 ^ 26 + k * 2 ^ 24 + x * 2 ^ 19 + y * 2 ^ 14 + f * 2 ^ 8 + z
/-- Format V. -/
def wV (op d k part sh z : Nat) : Nat := op * 2 ^ 26 + d * 2 ^ 21 + k * 2 ^ 19 + part * 2 ^ 18 + sh * 2 ^ 14 + z
/-- Format T. -/
def wT (op k ai aj dir z : Nat) : Nat := op * 2 ^ 26 + k * 2 ^ 24 + ai * 2 ^ 21 + aj * 2 ^ 18 + dir * 2 ^ 17 + z
/-- Format B. -/
def wB (op cond z a ofs : Nat) : Nat := op * 2 ^ 26 + cond * 2 ^ 22 + z * 2 ^ 21 + a * 2 ^ 16 + ofs
/-- Format L. -/
def wL (op level len src cnt : Nat) : Nat := op * 2 ^ 26 + level * 2 ^ 25 + len * 2 ^ 15 + src * 2 ^ 14 + cnt
/-- Format S: register in [25:21], number in [15:10], core in [4:0], and the bits between them. -/
def wS (op r u n v m : Nat) : Nat := op * 2 ^ 26 + r * 2 ^ 21 + u * 2 ^ 16 + n * 2 ^ 10 + v * 2 ^ 5 + m

/-! ### Halts (R280, R283) -/

/-- Core `c` halts: results land, its voices are not waited for. (Log: 58 DEDUCED.) -/
def State.haltCore (s : State) (c : Nat) : State :=
  (((s.landAll c).put (Reg.CH_STAT_STATE c) 3).unwait c).coreRec c 1

/-! ### Faults (R277 to R279) -/

/-- A FAULT record (R285). -/
def State.faultRec (s : State) (c code pc bank : Nat) (dbl : Bool) : State :=
  s.event 0x20 (40 + c) c code (pay 16 pc + pay 18 bank + pay 19 (b2n dbl))

/-- CHn_FAULT and CHn_FAULT_PC. -/
def State.noteFault (s : State) (c code pc bank : Nat) (dbl : Bool) : State :=
  ((((s.put (Reg.CH_FAULT_CODE c) code).put (Reg.CH_FAULT_DOUBLE c) (b2n dbl)).put (Reg.CH_FAULT_BANK c) bank).set1
    (Reg.CH_FAULT_VALID c)).put (Reg.CH_FAULT_PC c) pc

/-- Enter the handler: EPC, EBANK, ECAUSE, GIE := 0, bank B3 (R272, R278). -/
def State.enterHandler (s : State) (c epc cause target : Nat) : State :=
  ((s.landAll c).modCore c (fun k => { k with
    epc := epc, ebank := k.bank, ecause := cause, ie := k.ie % 2 ^ 31, bank := 3, slot := none, reti := false, resumed := false
    pc := (k.vbase + target) % 2 ^ 16 })).cycles c 2

/-- A fault of the instruction at PC. (Log: 58 DEDUCED.) -/
def State.takeFault (s : State) (c code : Nat) : State :=
  let k := s.core c
  if k.bank = 3 then
    let s := ((((s.noteFault c code k.pc 3 true).landAll c).put (Reg.CH_STAT_STATE c) 4).unwait c).faultRec c code k.pc 3 true
    if s.on (Reg.CH_CTRL_FAULT_ACT c) ∧ s.debugOpen then s.updFault c false else (s.updFault c true).clusterReset (c / 4)
  else
    let s := s.noteFault c code k.pc k.bank false
    if code = 4 ∧ s.debugOpen ∧ s.on (Reg.CH_CTRL_BRK_EN c) then s.haltCore c
    else
      (s.faultRec c code k.pc k.bank false).enterHandler c (match k.slot with | some (b, _) => b | none => k.pc) (16 + code)
        (0x400 + 0x40 * code)

/-! ### Interrupts (R271 to R275) -/

/-- Lines pending and enabled. -/
def Core.lines (k : Core) : Nat := (k.ip &&& k.ie) % 2 ^ 16
/-- GIE. -/
def Core.gie (k : Core) : Bool := bit k.ie 31
/-- The lowest line of a set. -/
def lowLine (l : Nat) : Nat := ((List.range 16).find? (fun i => bit l i)).getD 0
/-- A line can be accepted now (R272 to R274). -/
def Core.canAccept (k : Core) : Bool := k.lines != 0 && k.gie && k.bank != 3 && k.slot.isNone && !k.resumed

/-- Accept the lowest line; SOFT is cleared on entry (R271, R272). -/
def State.acceptLine (s : State) (c : Nat) : State :=
  let l := lowLine (s.core c).lines
  (s.modCore c (fun k => if l = 7 then { k with ip := k.ip &&& 0xFF7F } else k)).enterHandler c (s.core c).pc l (0x40 * l)

/-! ### Loops and branches (R269, R270) -/

/-- Level `l` of the current bank is active. -/
def Core.loopOn (k : Core) (l : Nat) : Bool := k.bs (1 + 3 * l) != 0
/-- LS of a level. -/
def Core.ls (k : Core) (l : Nat) : Nat := k.bs (2 + 3 * l) % 2 ^ 16
/-- LE of a level. -/
def Core.le (k : Core) (l : Nat) : Nat := k.bs (3 + 3 * l) % 2 ^ 16

/-- Loop-end processing of one level after the instruction at `pc`; the next PC when it decides it. (Log: 55 DEDUCED.) -/
def Core.loopStep (k : Core) (l pc : Nat) : Core × Option Nat :=
  if k.loopOn l ∧ k.le l = pc then
    if 1 < k.bs (1 + 3 * l) then (k.setBs (1 + 3 * l) (k.bs (1 + 3 * l) - 1), some (k.ls l))
    else (k.setBs (1 + 3 * l) 0, none)
  else (k, none)

/-- The PC after the instruction at `pc` that is no taken branch's delay slot: the inner level first. -/
def Core.nextPc (k : Core) (pc : Nat) : Core × Nat :=
  match k.loopStep 1 pc with
  | (k, some t) => (k, t)
  | (k, none) => match k.loopStep 0 pc with
    | (k, some t) => (k, t)
    | (k, none) => (k, (pc + 4) % 2 ^ 16)

/-- `pc` is one of the last two positions of an active body. -/
def Core.atTail (k : Core) (pc : Nat) : Bool :=
  [0, 1].any (fun l => k.loopOn l && (k.le l == pc || k.le l == (pc + 4) % 2 ^ 16))

/-- A branch, jump, CALL, RETI or LOOP may not stand here (R269, R270). -/
def Core.badPlace (k : Core) : Bool := k.slot.isSome || k.atTail k.pc

/-- A taken branch to `t` ends each active loop whose body does not hold it. -/
def Core.leaveLoops (k : Core) (t : Nat) : Core :=
  [0, 1].foldl (fun k l => if k.loopOn l ∧ (t < k.ls l ∨ k.le l < t) then k.setBs (1 + 3 * l) 0 else k) k

/-- A branch at PC: its delay slot follows; the target when taken. -/
def Core.branch (k : Core) (t : Option Nat) : Core :=
  let k := match t with | some t => k.leaveLoops t | none => k
  { k with slot := some (k.pc, t) }

/-! ### Issue -/

/-- The end of an issue: PC, delay slot, RETI's return, results, cycle, and a HALT that waited (R264, R269, R270, R274, R283).
(Log: 49 DEDUCED, 55 DEDUCED, 63 DEDUCED.) -/
def State.afterIssue (s : State) (c : Nat) (old : Core) (npc : Option Nat) : State :=
  let s := s.modCore c (fun k =>
    match old.slot with
    | some (_, t) =>
      let k := { k with slot := none, resumed := false, passed := none }
      if old.reti then
        { k with reti := false, bank := k.ebank % 4, ie := k.ie % 2 ^ 31 + 2 ^ 31, pc := k.epc % 2 ^ 16 / 4 * 4, resumed := true }
      else match t with
        | some t => { k with pc := t }
        | none => let (k, p) := k.nextPc old.pc; { k with pc := p }
    | none =>
      let k := { k with resumed := false, passed := none }
      match npc with
      | some p => { k with pc := p }
      | none => if k.slot.isSome then { k with pc := (old.pc + 4) % 2 ^ 16 } else let (k, p) := k.nextPc old.pc; { k with pc := p })
  let s := (s.advance c).cycles c 1
  if s.on (Reg.CH_CTRL_HALT c) ∧ (s.core c).slot.isNone ∧ s.debugOpen ∧ s.renders c then s.haltCore c else s

/-- A breakpoint stands at PC (R277, R283). -/
def State.breaksAt (s : State) (c : Nat) : Bool :=
  let k := s.core c
  s.on (Reg.CH_CTRL_BRK_EN c) && s.debugOpen && k.passed != some k.pc
    && [0, 1, 2, 3].any (fun m => s.on (Reg.CH_BRK_EN c m) && s.get (Reg.CH_BRK_PC c m) * 4 == k.pc)

/-- Fetch at PC: the word, or a fault (R244, R247, R277). (Log: 45 DEDUCED.) -/
def State.fetch (s : State) (c : Nat) : LRes :=
  let k := s.core c
  let w := k.pc / 4
  let s := if k.imemSoft.contains w then
      (s.coreCe c).modCore c (fun k => { k with imemSoft := k.imemSoft.filter (fun x => x != w) })
    else s
  if k.imemBad.contains w then .fault 3 (s.countSat (Reg.CH_ECC_UE c) 1)
  else if s.breaksAt c then .fault 4 s
  else .ok s (k.imem.nat k.pc 4)

/-- One instruction of core `c`, by what it does. (Log: 45 DEDUCED.) -/
def State.runOne (s : State) (c : Nat) (body : State → IRes) : State :=
  match body s with
  | .fault code s => s.takeFault c code
  | .next t npc => t.afterIssue c (s.core c) npc

/-- A word's opcode, and its function where the opcode heads a group, are listed (R257 to R261). -/
def listed (w : Nat) : Bool :=
  match bits w 26 6 with
  | 0x01 => decide (bits w 0 11 ≤ 0x13)
  | 0x18 => decide (bits w 0 11 ≤ 0x25) && !([0x0F, 0x13, 0x14, 0x15, 0x16, 0x17, 0x18, 0x19, 0x1A, 0x1B, 0x1C, 0x1D, 0x1E, 0x1F].contains (bits w 0 11))
  | 0x20 => decide (bits w 8 6 ≤ 8)
  | op => decide (op ≤ 7) || (decide (0x10 ≤ op) && decide (op ≤ 0x16)) || [0x19, 0x1A, 0x21, 0x22, 0x24, 0x25].contains op
    || (decide (0x30 ≤ op) && decide (op ≤ 0x3A)) || op == 0x3E

/-- Issue of the word `w` on core `c`: the core runs, is clocked, and `w` stands at PC in IMEM. Where a word stands there that no
instruction has, the core raises ILLEGAL instead (R257). (Log: 45 DEDUCED.) -/
def State.issue (s : State) (c w : Nat) (body : State → IRes) : State :=
  if s.chState c ≠ 1 ∨ !s.coreClock then s
  else match s.fetch c with
    | .fault code s => s.takeFault c code
    | .ok t v => if v = w then t.runOne c body else if listed v then s else t.takeFault c 0

end Sys2Proof.Machine
end

