-- ==== Sys2Proof/Machine/CoreAlu.lean ====
section
/-!
DEFINITION. The integer instructions of the chisel core (R258, R259).
-/
namespace Sys2Proof.Machine

/-- Leading zeros of a word. -/
def clz32 (x : BitVec 32) : Nat := if x.toNat = 0 then 32 else 31 - x.toNat.log2

/-- A result for Gd after `lat` cycles. -/
def alu (c lat d : Nat) (f : Core → BitVec 32) : State → IRes :=
  fun s => .next (s.modCore c fun k => k.wrG lat d (f k)) none

/-- NOP: nothing, whatever its other bits (R257, R258). -/
def opNop : State → IRes := fun s => .next s none
/-- NOP on core `c`. -/
def execNop (c : Fin 20) (z : BitVec 26) (s : State) : Host.Outcome State Fault Refusal :=
  ok (s.issue c.val z.toNat opNop)
/-- Gd := Ga + Gb (R259). -/
def opAdd (c : Nat) (d : Nat) (a : Nat) (b : Nat) : State → IRes := alu c 1 d fun k => k.g a + k.g b
/-- ADD on core `c`. -/
def execAdd (c : Fin 20) (d : Fin 32) (a : Fin 32) (b : Fin 32) (s : State) : Host.Outcome State Fault Refusal :=
  ok (s.issue c.val (wA 0x01 d.val a.val b.val 0x000) (opAdd c.val d.val a.val b.val))
/-- Gd := Ga - Gb (R259). -/
def opSub (c : Nat) (d : Nat) (a : Nat) (b : Nat) : State → IRes := alu c 1 d fun k => k.g a - k.g b
/-- SUB on core `c`. -/
def execSub (c : Fin 20) (d : Fin 32) (a : Fin 32) (b : Fin 32) (s : State) : Host.Outcome State Fault Refusal :=
  ok (s.issue c.val (wA 0x01 d.val a.val b.val 0x001) (opSub c.val d.val a.val b.val))
/-- Bitwise AND (R259). -/
def opAnd (c : Nat) (d : Nat) (a : Nat) (b : Nat) : State → IRes := alu c 1 d fun k => k.g a &&& k.g b
/-- AND on core `c`. -/
def execAnd (c : Fin 20) (d : Fin 32) (a : Fin 32) (b : Fin 32) (s : State) : Host.Outcome State Fault Refusal :=
  ok (s.issue c.val (wA 0x01 d.val a.val b.val 0x002) (opAnd c.val d.val a.val b.val))
/-- Bitwise OR (R259). -/
def opOr (c : Nat) (d : Nat) (a : Nat) (b : Nat) : State → IRes := alu c 1 d fun k => k.g a ||| k.g b
/-- OR on core `c`. -/
def execOr (c : Fin 20) (d : Fin 32) (a : Fin 32) (b : Fin 32) (s : State) : Host.Outcome State Fault Refusal :=
  ok (s.issue c.val (wA 0x01 d.val a.val b.val 0x003) (opOr c.val d.val a.val b.val))
/-- Bitwise XOR (R259). -/
def opXor (c : Nat) (d : Nat) (a : Nat) (b : Nat) : State → IRes := alu c 1 d fun k => k.g a ^^^ k.g b
/-- XOR on core `c`. -/
def execXor (c : Fin 20) (d : Fin 32) (a : Fin 32) (b : Fin 32) (s : State) : Host.Outcome State Fault Refusal :=
  ok (s.issue c.val (wA 0x01 d.val a.val b.val 0x004) (opXor c.val d.val a.val b.val))
/-- Shift left by Gb[4:0] (R259). -/
def opShl (c : Nat) (d : Nat) (a : Nat) (b : Nat) : State → IRes := alu c 1 d fun k => k.g a <<< ((k.g b).toNat % 32)
/-- SHL on core `c`. -/
def execShl (c : Fin 20) (d : Fin 32) (a : Fin 32) (b : Fin 32) (s : State) : Host.Outcome State Fault Refusal :=
  ok (s.issue c.val (wA 0x01 d.val a.val b.val 0x005) (opShl c.val d.val a.val b.val))
/-- Logical shift right by Gb[4:0] (R259). -/
def opShr (c : Nat) (d : Nat) (a : Nat) (b : Nat) : State → IRes := alu c 1 d fun k => k.g a >>> ((k.g b).toNat % 32)
/-- SHR on core `c`. -/
def execShr (c : Fin 20) (d : Fin 32) (a : Fin 32) (b : Fin 32) (s : State) : Host.Outcome State Fault Refusal :=
  ok (s.issue c.val (wA 0x01 d.val a.val b.val 0x006) (opShr c.val d.val a.val b.val))
/-- Arithmetic shift right by Gb[4:0] (R259). -/
def opSar (c : Nat) (d : Nat) (a : Nat) (b : Nat) : State → IRes := alu c 1 d fun k => (k.g a).sshiftRight ((k.g b).toNat % 32)
/-- SAR on core `c`. -/
def execSar (c : Fin 20) (d : Fin 32) (a : Fin 32) (b : Fin 32) (s : State) : Host.Outcome State Fault Refusal :=
  ok (s.issue c.val (wA 0x01 d.val a.val b.val 0x007) (opSar c.val d.val a.val b.val))
/-- Shift left by the b field (R259). -/
def opShli (c : Nat) (d : Nat) (a : Nat) (b : Nat) : State → IRes := alu c 1 d fun k => k.g a <<< b
/-- SHLI on core `c`. -/
def execShli (c : Fin 20) (d : Fin 32) (a : Fin 32) (b : Fin 32) (s : State) : Host.Outcome State Fault Refusal :=
  ok (s.issue c.val (wA 0x01 d.val a.val b.val 0x008) (opShli c.val d.val a.val b.val))
/-- Logical shift right by the b field (R259). -/
def opShri (c : Nat) (d : Nat) (a : Nat) (b : Nat) : State → IRes := alu c 1 d fun k => k.g a >>> b
/-- SHRI on core `c`. -/
def execShri (c : Fin 20) (d : Fin 32) (a : Fin 32) (b : Fin 32) (s : State) : Host.Outcome State Fault Refusal :=
  ok (s.issue c.val (wA 0x01 d.val a.val b.val 0x009) (opShri c.val d.val a.val b.val))
/-- Arithmetic shift right by the b field (R259). -/
def opSari (c : Nat) (d : Nat) (a : Nat) (b : Nat) : State → IRes := alu c 1 d fun k => (k.g a).sshiftRight b
/-- SARI on core `c`. -/
def execSari (c : Fin 20) (d : Fin 32) (a : Fin 32) (b : Fin 32) (s : State) : Host.Outcome State Fault Refusal :=
  ok (s.issue c.val (wA 0x01 d.val a.val b.val 0x00A) (opSari c.val d.val a.val b.val))
/-- Signed minimum (R259). -/
def opMin (c : Nat) (d : Nat) (a : Nat) (b : Nat) : State → IRes := alu c 1 d fun k => if (k.g a).slt (k.g b) then k.g a else k.g b
/-- MIN on core `c`. -/
def execMin (c : Fin 20) (d : Fin 32) (a : Fin 32) (b : Fin 32) (s : State) : Host.Outcome State Fault Refusal :=
  ok (s.issue c.val (wA 0x01 d.val a.val b.val 0x00B) (opMin c.val d.val a.val b.val))
/-- Signed maximum (R259). -/
def opMax (c : Nat) (d : Nat) (a : Nat) (b : Nat) : State → IRes := alu c 1 d fun k => if (k.g a).slt (k.g b) then k.g b else k.g a
/-- MAX on core `c`. -/
def execMax (c : Fin 20) (d : Fin 32) (a : Fin 32) (b : Fin 32) (s : State) : Host.Outcome State Fault Refusal :=
  ok (s.issue c.val (wA 0x01 d.val a.val b.val 0x00C) (opMax c.val d.val a.val b.val))
/-- Gd := 1 if Ga < Gb signed (R259). -/
def opSlt (c : Nat) (d : Nat) (a : Nat) (b : Nat) : State → IRes := alu c 1 d fun k => if (k.g a).slt (k.g b) then 1 else 0
/-- SLT on core `c`. -/
def execSlt (c : Fin 20) (d : Fin 32) (a : Fin 32) (b : Fin 32) (s : State) : Host.Outcome State Fault Refusal :=
  ok (s.issue c.val (wA 0x01 d.val a.val b.val 0x00D) (opSlt c.val d.val a.val b.val))
/-- Gd := 1 if Ga < Gb unsigned (R259). -/
def opSltu (c : Nat) (d : Nat) (a : Nat) (b : Nat) : State → IRes := alu c 1 d fun k => if (k.g a).ult (k.g b) then 1 else 0
/-- SLTU on core `c`. -/
def execSltu (c : Fin 20) (d : Fin 32) (a : Fin 32) (b : Fin 32) (s : State) : Host.Outcome State Fault Refusal :=
  ok (s.issue c.val (wA 0x01 d.val a.val b.val 0x00E) (opSltu c.val d.val a.val b.val))
/-- Gd := 1 if Ga = Gb (R259). -/
def opSeq (c : Nat) (d : Nat) (a : Nat) (b : Nat) : State → IRes := alu c 1 d fun k => if k.g a = k.g b then 1 else 0
/-- SEQ on core `c`. -/
def execSeq (c : Fin 20) (d : Fin 32) (a : Fin 32) (b : Fin 32) (s : State) : Host.Outcome State Fault Refusal :=
  ok (s.issue c.val (wA 0x01 d.val a.val b.val 0x00F) (opSeq c.val d.val a.val b.val))
/-- Low 32 bits of the product (R259). -/
def opMul (c : Nat) (d : Nat) (a : Nat) (b : Nat) : State → IRes := alu c 3 d fun k => k.g a * k.g b
/-- MUL on core `c`. -/
def execMul (c : Fin 20) (d : Fin 32) (a : Fin 32) (b : Fin 32) (s : State) : Host.Outcome State Fault Refusal :=
  ok (s.issue c.val (wA 0x01 d.val a.val b.val 0x010) (opMul c.val d.val a.val b.val))
/-- Gd := A(b[2:0]) (R259). -/
def opMvag (c : Nat) (d : Nat) (_a : Nat) (b : Nat) : State → IRes := alu c 1 d fun k => k.a (b % 8)
/-- MVAG on core `c`. -/
def execMvag (c : Fin 20) (d : Fin 32) (a : Fin 32) (b : Fin 32) (s : State) : Host.Outcome State Fault Refusal :=
  ok (s.issue c.val (wA 0x01 d.val a.val b.val 0x011) (opMvag c.val d.val a.val b.val))
/-- A(d[2:0]) := Ga (R259). -/
def opMvga (c : Nat) (d : Nat) (a : Nat) (_b : Nat) : State → IRes := fun s => .next (s.modCore c fun k => k.wrA 1 (d % 8) (k.g a)) none
/-- MVGA on core `c`. -/
def execMvga (c : Fin 20) (d : Fin 32) (a : Fin 32) (b : Fin 32) (s : State) : Host.Outcome State Fault Refusal :=
  ok (s.issue c.val (wA 0x01 d.val a.val b.val 0x012) (opMvga c.val d.val a.val b.val))
/-- Leading zeros (R259). -/
def opClz (c : Nat) (d : Nat) (a : Nat) (_b : Nat) : State → IRes := alu c 1 d fun k => BitVec.ofNat 32 (clz32 (k.g a))
/-- CLZ on core `c`. -/
def execClz (c : Fin 20) (d : Fin 32) (a : Fin 32) (b : Fin 32) (s : State) : Host.Outcome State Fault Refusal :=
  ok (s.issue c.val (wA 0x01 d.val a.val b.val 0x013) (opClz c.val d.val a.val b.val))
/-- Gd := Ga + sext(imm16) (R258). -/
def opAddi (c : Nat) (d : Nat) (a : Nat) (imm : BitVec 16) : State → IRes := alu c 1 d fun k => k.g a + imm.signExtend 32
/-- ADDI on core `c`. -/
def execAddi (c : Fin 20) (d : Fin 32) (a : Fin 32) (imm : BitVec 16) (s : State) : Host.Outcome State Fault Refusal :=
  ok (s.issue c.val (wI 0x02 d.val a.val imm.toNat) (opAddi c.val d.val a.val imm))
/-- Gd := Ga AND zext(imm16) (R258). -/
def opAndi (c : Nat) (d : Nat) (a : Nat) (imm : BitVec 16) : State → IRes := alu c 1 d fun k => k.g a &&& imm.setWidth 32
/-- ANDI on core `c`. -/
def execAndi (c : Fin 20) (d : Fin 32) (a : Fin 32) (imm : BitVec 16) (s : State) : Host.Outcome State Fault Refusal :=
  ok (s.issue c.val (wI 0x03 d.val a.val imm.toNat) (opAndi c.val d.val a.val imm))
/-- Gd := Ga OR zext(imm16) (R258). -/
def opOri (c : Nat) (d : Nat) (a : Nat) (imm : BitVec 16) : State → IRes := alu c 1 d fun k => k.g a ||| imm.setWidth 32
/-- ORI on core `c`. -/
def execOri (c : Fin 20) (d : Fin 32) (a : Fin 32) (imm : BitVec 16) (s : State) : Host.Outcome State Fault Refusal :=
  ok (s.issue c.val (wI 0x04 d.val a.val imm.toNat) (opOri c.val d.val a.val imm))
/-- Gd := Ga XOR zext(imm16) (R258). -/
def opXori (c : Nat) (d : Nat) (a : Nat) (imm : BitVec 16) : State → IRes := alu c 1 d fun k => k.g a ^^^ imm.setWidth 32
/-- XORI on core `c`. -/
def execXori (c : Fin 20) (d : Fin 32) (a : Fin 32) (imm : BitVec 16) (s : State) : Host.Outcome State Fault Refusal :=
  ok (s.issue c.val (wI 0x05 d.val a.val imm.toNat) (opXori c.val d.val a.val imm))
/-- Gd := sext(imm16) (R258). -/
def opMovi (c : Nat) (d : Nat) (_a : Nat) (imm : BitVec 16) : State → IRes := alu c 1 d fun _ => imm.signExtend 32
/-- MOVI on core `c`. -/
def execMovi (c : Fin 20) (d : Fin 32) (a : Fin 32) (imm : BitVec 16) (s : State) : Host.Outcome State Fault Refusal :=
  ok (s.issue c.val (wI 0x06 d.val a.val imm.toNat) (opMovi c.val d.val a.val imm))
/-- Gd[31:16] := imm16 (R258). -/
def opMovih (c : Nat) (d : Nat) (_a : Nat) (imm : BitVec 16) : State → IRes := alu c 1 d fun k => imm ++ (k.g d).setWidth 16
/-- MOVIH on core `c`. -/
def execMovih (c : Fin 20) (d : Fin 32) (a : Fin 32) (imm : BitVec 16) (s : State) : Host.Outcome State Fault Refusal :=
  ok (s.issue c.val (wI 0x07 d.val a.val imm.toNat) (opMovih c.val d.val a.val imm))
/-- A(d[2:0]) := A(d[2:0]) + sext(imm16) (R258). -/
def opAdda (c : Nat) (d : Nat) (a : Nat) (imm : BitVec 16) : State → IRes := fun s =>
  if a ≠ 0 then .fault 0 s
  else .next (s.modCore c fun k => k.wrA 1 (d % 8) (k.a (d % 8) + imm.signExtend 32)) none
/-- ADDA on core `c`. -/
def execAdda (c : Fin 20) (d : Fin 32) (a : Fin 32) (imm : BitVec 16) (s : State) : Host.Outcome State Fault Refusal :=
  ok (s.issue c.val (wI 0x16 d.val a.val imm.toNat) (opAdda c.val d.val a.val imm))

end Sys2Proof.Machine
end

