-- ==== Sys2Proof/Machine/CoreFlow.lean ====
section
/-!
DEFINITION. Branches, loops, banks, system registers, signals and waits of the chisel core (R250, R251, R256, R269 to R277).
-/
namespace Sys2Proof.Machine

/-- Does a condition hold of Ga (R269)? -/
def condHolds (cond : Nat) (x : BitVec 32) : Bool :=
  match cond with
  | 0 => true
  | 1 => x == 0
  | 2 => x != 0
  | 3 => x.slt 0
  | 4 => !x.slt 0
  | 5 => (0 : BitVec 32).slt x
  | _ => !(0 : BitVec 32).slt x

/-- PC + 4 x offset. -/
def Core.target (k : Core) (ofs : BitVec 16) : Nat := (k.pc + 4 * ofs.toNat) % 2 ^ 16

/-- The value of system register `n` (R250). -/
def State.sysRead (s : State) (c n : Nat) : Nat :=
  let k := s.core c
  match n with
  | 0x08 => k.bank | 0x09 => k.ie | 0x0A => k.ip | 0x0B => k.epc | 0x0C => k.ebank | 0x0D => k.ecause | 0x0E => k.vbase
  | 0x18 => k.drb | 0x19 => k.tmr | 0x1A => k.tmrld | 0x1B => k.sigsrc | 0x1C => c
  | 0x1D => k.cyc % 2 ^ 32
  | 0x1E => k.cych.getD (k.cyc / 2 ^ 32 % 2 ^ 32)
  | 0x1F => k.blk | 0x20 => k.tier
  | _ => if n < 7 then k.bs n else if 0x10 ≤ n ∧ n < 0x18 then k.wmap.getD (n - 0x10) 0 else 0

/-- What a read of system register `n` does: BLK clears BOUNDARY and CMD, SIGSRC clears itself and SIGNAL, CYCL latches
CYCH, which is read once (R16, R250, R271). -/
def State.sysReadEffect (s : State) (c n : Nat) : State :=
  s.modCore c fun k =>
    match n with
    | 0x1B => { k with sigsrc := 0, ip := k.ip &&& 0xFFEF }
    | 0x1D => { k with cych := some (k.cyc / 2 ^ 32 % 2 ^ 32) }
    | 0x1E => { k with cych := none }
    | 0x1F => { k with ip := k.ip &&& 0xFFFC }
    | _ => k

/-- A write of system register `n` (R250, R271, R281). It takes effect for the next cycle: a value of TMR is one more here, and the
cycle of the write itself takes that off. (Log: 56 DEDUCED.) -/
def State.sysWrite (s : State) (c n : Nat) (x : BitVec 32) : State :=
  let v := x.toNat
  if n = 0x21 then (s.flushStores c).bdone c
  else s.modCore c fun k =>
    match n with
    | 0x00 => k.setBs 0 (k.bs 0 &&& (v ||| 1))
    | 0x09 => { k with ie := v &&& 0x8000FFFF, ip := if bit v 7 && !bit k.ie 7 && !k.gie then k.ip ||| 0x80 else k.ip }
    | 0x0B => { k with epc := v }
    | 0x0C => { k with ebank := v % 4 }
    | 0x0E => { k with vbase := v / 2048 * 2048 }
    | 0x18 => { k with drb := v % 8 }
    | 0x19 => { k with tmr := if v = 0 then 0 else v + 1, ip := k.ip &&& 0xFFF7 }
    | 0x1A => { k with tmrld := v }
    | _ => if 0 < n ∧ n < 7 then k.setBs n v
      else if 0x10 ≤ n ∧ n < 0x18 then { k with wmap := k.wmap.set (n - 0x10) (v &&& 0x8000003F) } else k

/-- Branch when the condition holds (R269). -/
def opB (c : Nat) (cond : Nat) (z : Nat) (a : Nat) (ofs : BitVec 16) : State → IRes := fun s =>
  let k := s.core c
  if 6 < cond ∨ z ≠ 0 ∨ k.badPlace then .fault 0 s
  else .next (s.modCore c fun k => k.branch (if condHolds cond (k.g a) then some (k.target ofs) else none)) none
/-- B on core `c`. -/
def execB (c : Fin 20) (cond : Fin 16) (z : Fin 2) (a : Fin 32) (ofs : BitVec 16) (s : State) : Host.Outcome State Fault Refusal :=
  ok (s.issue c.val (wB 0x30 cond.val z.val a.val ofs.toNat) (opB c.val cond.val z.val a.val ofs))
/-- Jump to Ga after the delay slot (R269). -/
def opJmp (c : Nat) (a : Nat) : State → IRes := fun s =>
  let k := s.core c
  if k.badPlace then .fault 0 s
  else if (k.g a).toNat % 4 ≠ 0 then .fault 1 s
  else .next (s.modCore c fun k => k.branch (some ((k.g a).toNat % 2 ^ 16))) none
/-- JMP on core `c`. -/
def execJmp (c : Fin 20) (d : Fin 32) (a : Fin 32) (b : Fin 32) (f : BitVec 11) (s : State) : Host.Outcome State Fault Refusal :=
  ok (s.issue c.val (wA 0x31 d.val a.val b.val f.toNat) (opJmp c.val a.val))
/-- G31 := PC + 8, and branch (R258, R269). -/
def opCall (c : Nat) (cond : Nat) (z : Nat) (_a : Nat) (ofs : BitVec 16) : State → IRes := fun s =>
  let k := s.core c
  if cond ≠ 0 ∨ z ≠ 0 ∨ k.badPlace then .fault 0 s
  else .next (s.modCore c fun k => (k.wrG 1 31 (BitVec.ofNat 32 (k.pc + 8))).branch (some (k.target ofs))) none
/-- CALL on core `c`. -/
def execCall (c : Fin 20) (cond : Fin 16) (z : Fin 2) (a : Fin 32) (ofs : BitVec 16) (s : State) : Host.Outcome State Fault Refusal :=
  ok (s.issue c.val (wB 0x32 cond.val z.val a.val ofs.toNat) (opCall c.val cond.val z.val a.val ofs))
/-- Start a hardware loop (R270). (Log: 55 DEDUCED.) -/
def opLoop (c : Nat) (level : Nat) (len : BitVec 10) (src : Nat) (cnt : BitVec 14) : State → IRes := fun s =>
  let k := s.core c
  let n := if src = 1 then (k.g (cnt.toNat % 32)).toNat else cnt.toNat
  let ls := (k.pc + 4) % 2 ^ 16
  let le := (k.pc + 4 * (len.toNat + 1)) % 2 ^ 16
  if k.badPlace ∨ k.loopOn level
      ∨ (level = 1 ∧ !(k.loopOn 0 && decide (k.ls 0 ≤ k.pc ∧ k.pc ≤ k.le 0 ∧ ls ≤ le ∧ le ≤ k.le 0))) then .fault 0 s
  else if n = 0 then .next s (some ((le + 4) % 2 ^ 16))
  else .next (s.modCore c fun k => ((k.setBs (1 + 3 * level) n).setBs (2 + 3 * level) ls).setBs (3 + 3 * level) le) none
/-- LOOP on core `c`. -/
def execLoop (c : Fin 20) (level : Fin 2) (len : BitVec 10) (src : Fin 2) (cnt : BitVec 14) (s : State) : Host.Outcome State Fault Refusal :=
  ok (s.issue c.val (wL 0x33 level.val len.toNat src.val cnt.toNat) (opLoop c.val level.val len src.val cnt))
/-- Bank n becomes current (R251). (Log: 54 DEDUCED.) -/
def opSwb (c : Nat) (_r : Nat) (_u : Nat) (n : Nat) (_v : Nat) (_m : Nat) : State → IRes := fun s =>
  if 3 ≤ n ∨ (s.core c).bank = 3 then .fault 0 s
  else .next (s.modCore c fun k => { k with bank := n }) none
/-- SWB on core `c`. -/
def execSwb (c : Fin 20) (r : Fin 32) (u : Fin 32) (n : Fin 64) (v : Fin 32) (m : Fin 32) (s : State) : Host.Outcome State Fault Refusal :=
  ok (s.issue c.val (wS 0x34 r.val u.val n.val v.val m.val) (opSwb c.val r.val u.val n.val v.val m.val))
/-- Gd := a system register (R250). (Log: 54 DEDUCED.) -/
def opMvs (c : Nat) (r : Nat) (_u : Nat) (n : Nat) (_v : Nat) (_m : Nat) : State → IRes := fun s =>
  .next ((s.sysReadEffect c n).modCore c fun k => k.wrG 1 r (BitVec.ofNat 32 (s.sysRead c n))) none
/-- MVS on core `c`. -/
def execMvs (c : Fin 20) (r : Fin 32) (u : Fin 32) (n : Fin 64) (v : Fin 32) (m : Fin 32) (s : State) : Host.Outcome State Fault Refusal :=
  ok (s.issue c.val (wS 0x35 r.val u.val n.val v.val m.val) (opMvs c.val r.val u.val n.val v.val m.val))
/-- A system register := Ga (R250). (Log: 54 DEDUCED.) -/
def opMvt (c : Nat) (r : Nat) (_u : Nat) (n : Nat) (_v : Nat) (_m : Nat) : State → IRes := fun s => .next (s.sysWrite c n ((s.core c).g r)) none
/-- MVT on core `c`. -/
def execMvt (c : Fin 20) (r : Fin 32) (u : Fin 32) (n : Fin 64) (v : Fin 32) (m : Fin 32) (s : State) : Host.Outcome State Fault Refusal :=
  ok (s.issue c.val (wS 0x36 r.val u.val n.val v.val m.val) (opMvt c.val r.val u.val n.val v.val m.val))
/-- Raise line 4 on core m (R276). (Log: 54 DEDUCED.) -/
def opSignal (c : Nat) (_r : Nat) (_u : Nat) (_n : Nat) (_v : Nat) (m : Nat) : State → IRes := fun s =>
  let s := s.flushStores c
  let st := s.chState m
  if 20 ≤ m ∨ st = 0 ∨ st = 5 ∨ st = 6 then .next s none
  else .next ((s.modCore m fun k => { k with sigsrc := k.sigsrc ||| 2 ^ c }).raise m 4) none
/-- SIGNAL on core `c`. -/
def execSignal (c : Fin 20) (r : Fin 32) (u : Fin 32) (n : Fin 64) (v : Fin 32) (m : Fin 32) (s : State) : Host.Outcome State Fault Refusal :=
  ok (s.issue c.val (wS 0x39 r.val u.val n.val v.val m.val) (opSignal c.val r.val u.val n.val v.val m.val))
/-- MODE := bit 10; the accumulators are cleared (R256). -/
def opSetm (c : Nat) (_r : Nat) (_u : Nat) (n : Nat) (_v : Nat) (_m : Nat) : State → IRes := fun s =>
  .next (s.modCore c fun k => (List.range 8).foldl (fun k p => k.wrAcc p 0) (k.setBs 0 (k.bs 0 / 2 * 2 + n % 2))) none
/-- SETM on core `c`. -/
def execSetm (c : Fin 20) (r : Fin 32) (u : Fin 32) (n : Fin 64) (v : Fin 32) (m : Fin 32) (s : State) : Host.Outcome State Fault Refusal :=
  ok (s.issue c.val (wS 0x3A r.val u.val n.val v.val m.val) (opSetm c.val r.val u.val n.val v.val m.val))
/-- Return from the handler after the delay slot (R274). (Log: 63 DEDUCED.) -/
def opReti (c : Nat) : State → IRes := fun s =>
  if (s.core c).badPlace then .fault 0 s
  else .next (s.modCore c fun k => { k with slot := some (k.pc, none), reti := true }) none
/-- RETI on core `c`. -/
def execReti (c : Fin 20) (z : BitVec 26) (s : State) : Host.Outcome State Fault Refusal :=
  ok (s.issue c.val (0x37 * 2 ^ 26 + z.toNat) (opReti c.val))
/-- Stop issue until an enabled line is pending; results in flight land during the wait, if there is one (R275). -/
def opWait (c : Nat) : State → IRes := fun s =>
  if (s.core c).lines = 0 then .next ((s.landAll c).put (Reg.CH_STAT_STATE c) 2) none else .next s none
/-- WAIT on core `c`. -/
def execWait (c : Fin 20) (z : BitVec 26) (s : State) : Host.Outcome State Fault Refusal :=
  ok (s.issue c.val (0x38 * 2 ^ 26 + z.toNat) (opWait c.val))
/-- Raise the BREAK fault (R277). -/
def opBrk (_c : Nat) : State → IRes := fun s => .fault 4 s
/-- BRK on core `c`. -/
def execBrk (c : Fin 20) (z : BitVec 26) (s : State) : Host.Outcome State Fault Refusal :=
  ok (s.issue c.val (0x3E * 2 ^ 26 + z.toNat) (opBrk c.val))
/-- BDONE on core `c`: MVT of system register 0x21 (R281). -/
def execBdone (c : Fin 20) (r u v m : Fin 32) (s : State) : Host.Outcome State Fault Refusal :=
  ok (s.issue c.val (wS 0x36 r.val u.val 0x21 v.val m.val) (opMvt c.val r.val u.val 0x21 v.val m.val))

end Sys2Proof.Machine
end

