-- ==== Sys2Proof/Machine/CoreFpu.lean ====
section
/-!
DEFINITION. The floating-point and Q1.31 instructions of the chisel core (R258, R260).
-/
namespace Sys2Proof.Machine

/-- A result with flags for Gd after `lat` cycles. -/
def fpu (c lat d : Nat) (f : Core → FRes) : State → IRes :=
  fun s => .next (s.modCore c fun k => (k.wrG lat d (f k).1).raiseFlags (f k).2) none

/-- FMA and FMS: by MODE; the bits [5:0] must be 0 (R257, R258). -/
def fma (neg : Bool) (c d a b e : Nat) (z : BitVec 6) : State → IRes :=
  fun s => if z ≠ 0 then .fault 0 s
    else fpu c 3 d (fun k => if k.q then qFma neg (k.g a) (k.g b) (k.g e)
      else FRes.of (fFmaF (if neg then fNegate (k.g a) else k.g a) (k.g b) (k.g e))) s

/-- binary32 addition (R260). -/
def opFadd (c : Nat) (d : Nat) (a : Nat) (b : Nat) : State → IRes := fpu c 3 d fun k => FRes.of (fAddF (k.g a) (k.g b))
/-- FADD on core `c`. -/
def execFadd (c : Fin 20) (d : Fin 32) (a : Fin 32) (b : Fin 32) (s : State) : Host.Outcome State Fault Refusal :=
  ok (s.issue c.val (wA 0x18 d.val a.val b.val 0x000) (opFadd c.val d.val a.val b.val))
/-- binary32 subtraction (R260). -/
def opFsub (c : Nat) (d : Nat) (a : Nat) (b : Nat) : State → IRes := fpu c 3 d fun k => FRes.of (fAddF (k.g a) (fNegate (k.g b)))
/-- FSUB on core `c`. -/
def execFsub (c : Fin 20) (d : Fin 32) (a : Fin 32) (b : Fin 32) (s : State) : Host.Outcome State Fault Refusal :=
  ok (s.issue c.val (wA 0x18 d.val a.val b.val 0x001) (opFsub c.val d.val a.val b.val))
/-- binary32 multiplication (R260). -/
def opFmul (c : Nat) (d : Nat) (a : Nat) (b : Nat) : State → IRes := fpu c 3 d fun k => FRes.of (fMulF (k.g a) (k.g b))
/-- FMUL on core `c`. -/
def execFmul (c : Fin 20) (d : Fin 32) (a : Fin 32) (b : Fin 32) (s : State) : Host.Outcome State Fault Refusal :=
  ok (s.issue c.val (wA 0x18 d.val a.val b.val 0x002) (opFmul c.val d.val a.val b.val))
/-- The smaller; a NaN yields the other (R260). -/
def opFmin (c : Nat) (d : Nat) (a : Nat) (b : Nat) : State → IRes := fpu c 1 d fun k => fMinMax false (k.g a) (k.g b)
/-- FMIN on core `c`. -/
def execFmin (c : Fin 20) (d : Fin 32) (a : Fin 32) (b : Fin 32) (s : State) : Host.Outcome State Fault Refusal :=
  ok (s.issue c.val (wA 0x18 d.val a.val b.val 0x003) (opFmin c.val d.val a.val b.val))
/-- The larger; a NaN yields the other (R260). -/
def opFmax (c : Nat) (d : Nat) (a : Nat) (b : Nat) : State → IRes := fpu c 1 d fun k => fMinMax true (k.g a) (k.g b)
/-- FMAX on core `c`. -/
def execFmax (c : Fin 20) (d : Fin 32) (a : Fin 32) (b : Fin 32) (s : State) : Host.Outcome State Fault Refusal :=
  ok (s.issue c.val (wA 0x18 d.val a.val b.val 0x004) (opFmax c.val d.val a.val b.val))
/-- Clear the sign (R260). -/
def opFabs (c : Nat) (d : Nat) (a : Nat) (_b : Nat) : State → IRes := fpu c 1 d fun k => (fAbsol (k.g a), 0)
/-- FABS on core `c`. -/
def execFabs (c : Fin 20) (d : Fin 32) (a : Fin 32) (b : Fin 32) (s : State) : Host.Outcome State Fault Refusal :=
  ok (s.issue c.val (wA 0x18 d.val a.val b.val 0x005) (opFabs c.val d.val a.val b.val))
/-- Turn the sign (R260). -/
def opFneg (c : Nat) (d : Nat) (a : Nat) (_b : Nat) : State → IRes := fpu c 1 d fun k => (fNegate (k.g a), 0)
/-- FNEG on core `c`. -/
def execFneg (c : Fin 20) (d : Fin 32) (a : Fin 32) (b : Fin 32) (s : State) : Host.Outcome State Fault Refusal :=
  ok (s.issue c.val (wA 0x18 d.val a.val b.val 0x006) (opFneg c.val d.val a.val b.val))
/-- Gd := 1 if Ga < Gb (R260). -/
def opFslt (c : Nat) (d : Nat) (a : Nat) (b : Nat) : State → IRes := fpu c 1 d fun k => fTest (k.g a) (k.g b) (fLt (k.g a) (k.g b))
/-- FSLT on core `c`. -/
def execFslt (c : Fin 20) (d : Fin 32) (a : Fin 32) (b : Fin 32) (s : State) : Host.Outcome State Fault Refusal :=
  ok (s.issue c.val (wA 0x18 d.val a.val b.val 0x007) (opFslt c.val d.val a.val b.val))
/-- Gd := 1 if Ga = Gb (R260). -/
def opFseq (c : Nat) (d : Nat) (a : Nat) (b : Nat) : State → IRes := fpu c 1 d fun k => fTest (k.g a) (k.g b) (fEq (k.g a) (k.g b))
/-- FSEQ on core `c`. -/
def execFseq (c : Fin 20) (d : Fin 32) (a : Fin 32) (b : Fin 32) (s : State) : Host.Outcome State Fault Refusal :=
  ok (s.issue c.val (wA 0x18 d.val a.val b.val 0x008) (opFseq c.val d.val a.val b.val))
/-- To a signed integer, ties to even, saturating (R260). -/
def opFtoi (c : Nat) (d : Nat) (a : Nat) (_b : Nat) : State → IRes := fpu c 3 d fun k => fToFix (k.g a) 0
/-- FTOI on core `c`. -/
def execFtoi (c : Fin 20) (d : Fin 32) (a : Fin 32) (b : Fin 32) (s : State) : Host.Outcome State Fault Refusal :=
  ok (s.issue c.val (wA 0x18 d.val a.val b.val 0x009) (opFtoi c.val d.val a.val b.val))
/-- Signed integer to binary32 (R260). -/
def opItof (c : Nat) (d : Nat) (a : Nat) (_b : Nat) : State → IRes := fpu c 3 d fun k => FRes.of (fRoundI (k.g a).toInt 0)
/-- ITOF on core `c`. -/
def execItof (c : Fin 20) (d : Fin 32) (a : Fin 32) (b : Fin 32) (s : State) : Host.Outcome State Fault Refusal :=
  ok (s.issue c.val (wA 0x18 d.val a.val b.val 0x00A) (opItof c.val d.val a.val b.val))
/-- To Q1.31, ties to even, saturating (R260). -/
def opFtoq (c : Nat) (d : Nat) (a : Nat) (_b : Nat) : State → IRes := fpu c 3 d fun k => fToFix (k.g a) 31
/-- FTOQ on core `c`. -/
def execFtoq (c : Fin 20) (d : Fin 32) (a : Fin 32) (b : Fin 32) (s : State) : Host.Outcome State Fault Refusal :=
  ok (s.issue c.val (wA 0x18 d.val a.val b.val 0x00B) (opFtoq c.val d.val a.val b.val))
/-- Q1.31 to binary32 (R260). -/
def opQtof (c : Nat) (d : Nat) (a : Nat) (_b : Nat) : State → IRes := fpu c 3 d fun k => FRes.of (fRoundI (k.g a).toInt (-31))
/-- QTOF on core `c`. -/
def execQtof (c : Fin 20) (d : Fin 32) (a : Fin 32) (b : Fin 32) (s : State) : Host.Outcome State Fault Refusal :=
  ok (s.issue c.val (wA 0x18 d.val a.val b.val 0x00C) (opQtof c.val d.val a.val b.val))
/-- floor (R260). -/
def opFfloor (c : Nat) (d : Nat) (a : Nat) (_b : Nat) : State → IRes := fpu c 3 d fun k => fFloor (k.g a)
/-- FFLOOR on core `c`. -/
def execFfloor (c : Fin 20) (d : Fin 32) (a : Fin 32) (b : Fin 32) (s : State) : Host.Outcome State Fault Refusal :=
  ok (s.issue c.val (wA 0x18 d.val a.val b.val 0x00D) (opFfloor c.val d.val a.val b.val))
/-- Ga - floor(Ga) (R260). -/
def opFfrac (c : Nat) (d : Nat) (a : Nat) (_b : Nat) : State → IRes := fpu c 3 d fun k => fFract (k.g a)
/-- FFRAC on core `c`. -/
def execFfrac (c : Fin 20) (d : Fin 32) (a : Fin 32) (b : Fin 32) (s : State) : Host.Outcome State Fault Refusal :=
  ok (s.issue c.val (wA 0x18 d.val a.val b.val 0x00E) (opFfrac c.val d.val a.val b.val))
/-- Q1.31 sum, saturating (R260). -/
def opQadd (c : Nat) (d : Nat) (a : Nat) (b : Nat) : State → IRes := fpu c 1 d fun k => qSat ((k.g a).toInt + (k.g b).toInt)
/-- QADD on core `c`. -/
def execQadd (c : Fin 20) (d : Fin 32) (a : Fin 32) (b : Fin 32) (s : State) : Host.Outcome State Fault Refusal :=
  ok (s.issue c.val (wA 0x18 d.val a.val b.val 0x010) (opQadd c.val d.val a.val b.val))
/-- Q1.31 difference, saturating (R260). -/
def opQsub (c : Nat) (d : Nat) (a : Nat) (b : Nat) : State → IRes := fpu c 1 d fun k => qSat ((k.g a).toInt - (k.g b).toInt)
/-- QSUB on core `c`. -/
def execQsub (c : Fin 20) (d : Fin 32) (a : Fin 32) (b : Fin 32) (s : State) : Host.Outcome State Fault Refusal :=
  ok (s.issue c.val (wA 0x18 d.val a.val b.val 0x011) (opQsub c.val d.val a.val b.val))
/-- Q1.31 product, ties upward, saturating (R260). -/
def opQmul (c : Nat) (d : Nat) (a : Nat) (b : Nat) : State → IRes := fpu c 3 d fun k => qSat (qRound ((k.g a).toInt * (k.g b).toInt) 31)
/-- QMUL on core `c`. -/
def execQmul (c : Fin 20) (d : Fin 32) (a : Fin 32) (b : Fin 32) (s : State) : Host.Outcome State Fault Refusal :=
  ok (s.issue c.val (wA 0x18 d.val a.val b.val 0x012) (opQmul c.val d.val a.val b.val))
/-- 1 / Ga (R260). -/
def opFrcp (c : Nat) (d : Nat) (a : Nat) (_b : Nat) : State → IRes := fpu c 6 d fun k => fRcp (k.g a)
/-- FRCP on core `c`. -/
def execFrcp (c : Fin 20) (d : Fin 32) (a : Fin 32) (b : Fin 32) (s : State) : Host.Outcome State Fault Refusal :=
  ok (s.issue c.val (wA 0x18 d.val a.val b.val 0x020) (opFrcp c.val d.val a.val b.val))
/-- 1 / sqrt(Ga) (R260). -/
def opFrsq (c : Nat) (d : Nat) (a : Nat) (_b : Nat) : State → IRes := fpu c 6 d fun k => fRsq (k.g a)
/-- FRSQ on core `c`. -/
def execFrsq (c : Fin 20) (d : Fin 32) (a : Fin 32) (b : Fin 32) (s : State) : Host.Outcome State Fault Refusal :=
  ok (s.issue c.val (wA 0x18 d.val a.val b.val 0x021) (opFrsq c.val d.val a.val b.val))
/-- 2^Ga (R260). -/
def opFexp2 (c : Nat) (d : Nat) (a : Nat) (_b : Nat) : State → IRes := fpu c 6 d fun k => fExp2Core (k.g a)
/-- FEXP2 on core `c`. -/
def execFexp2 (c : Fin 20) (d : Fin 32) (a : Fin 32) (b : Fin 32) (s : State) : Host.Outcome State Fault Refusal :=
  ok (s.issue c.val (wA 0x18 d.val a.val b.val 0x022) (opFexp2 c.val d.val a.val b.val))
/-- log2(Ga) (R260). -/
def opFlog2 (c : Nat) (d : Nat) (a : Nat) (_b : Nat) : State → IRes := fpu c 6 d fun k => fLog2Core (k.g a)
/-- FLOG2 on core `c`. -/
def execFlog2 (c : Fin 20) (d : Fin 32) (a : Fin 32) (b : Fin 32) (s : State) : Host.Outcome State Fault Refusal :=
  ok (s.issue c.val (wA 0x18 d.val a.val b.val 0x023) (opFlog2 c.val d.val a.val b.val))
/-- sin(2 pi Ga) (R260). -/
def opFsin2p (c : Nat) (d : Nat) (a : Nat) (_b : Nat) : State → IRes := fpu c 6 d fun k => fSinCore (k.g a)
/-- FSIN2P on core `c`. -/
def execFsin2p (c : Fin 20) (d : Fin 32) (a : Fin 32) (b : Fin 32) (s : State) : Host.Outcome State Fault Refusal :=
  ok (s.issue c.val (wA 0x18 d.val a.val b.val 0x024) (opFsin2p c.val d.val a.val b.val))
/-- tan(pi Ga) for 0 to 0.49 (R260). -/
def opFtanp (c : Nat) (d : Nat) (a : Nat) (_b : Nat) : State → IRes := fpu c 6 d fun k => fTanCore (k.g a)
/-- FTANP on core `c`. -/
def execFtanp (c : Fin 20) (d : Fin 32) (a : Fin 32) (b : Fin 32) (s : State) : Host.Outcome State Fault Refusal :=
  ok (s.issue c.val (wA 0x18 d.val a.val b.val 0x025) (opFtanp c.val d.val a.val b.val))
/-- Gd := Ge + Ga x Gb, rounded once (R258). -/
def opFma (c : Nat) (d : Nat) (a : Nat) (b : Nat) (e : Nat) (z : BitVec 6) : State → IRes := fma false c d a b e z
/-- FMA on core `c`. -/
def execFma (c : Fin 20) (d : Fin 32) (a : Fin 32) (b : Fin 32) (e : Fin 32) (z : BitVec 6) (s : State) : Host.Outcome State Fault Refusal :=
  ok (s.issue c.val (wF 0x19 d.val a.val b.val e.val z.toNat) (opFma c.val d.val a.val b.val e.val z))
/-- Gd := Ge - Ga x Gb, rounded once (R258). -/
def opFms (c : Nat) (d : Nat) (a : Nat) (b : Nat) (e : Nat) (z : BitVec 6) : State → IRes := fma true c d a b e z
/-- FMS on core `c`. -/
def execFms (c : Fin 20) (d : Fin 32) (a : Fin 32) (b : Fin 32) (e : Fin 32) (z : BitVec 6) (s : State) : Host.Outcome State Fault Refusal :=
  ok (s.issue c.val (wF 0x1A d.val a.val b.val e.val z.toNat) (opFms c.val d.val a.val b.val e.val z))

end Sys2Proof.Machine
end

