-- ==== Sys2Proof/Machine/CoreMac.lean ====
section
/-!
DEFINITION. The accumulators and the filter taps of the chisel core (R255, R261, R267, R268).
-/
namespace Sys2Proof.Machine

/-- A chain step of one part: by MODE, with or without the part's value (R254, R261, R267). -/
def Core.mac (r : Core) (p : Nat) (acc : Bool) (ps : List (Bool × BitVec 32 × BitVec 32)) : Core :=
  let v := macPart r.q (if acc then some (r.accChain p) else none) ps
  (r.wrAcc p v.1).raiseFlags v.2

/-- A complex chain step from two complex values: `sub` subtracts, `conj` conjugates the second. -/
def Core.cmacV (r : Core) (k : Nat) (acc sub conj : Bool) (xr xi yr yi : BitVec 32) : Core :=
  (r.mac (2 * k) acc [(sub, xr, yr), (sub == conj, xi, yi)]).mac (2 * k + 1) acc [(sub != conj, xr, yi), (sub, xi, yr)]

/-- The same from the pairs at Gx and Gy. -/
def Core.cmac (r : Core) (k : Nat) (acc sub conj : Bool) (x y : Nat) : Core :=
  r.cmacV k acc sub conj (r.g x) (r.g (x + 1)) (r.g y) (r.g (y + 1))

/-- A G value as an accumulator part by MODE (R254, R261). -/
def Core.toAcc (r : Core) (v : BitVec 32) : BitVec 72 := if r.q then BitVec.ofInt 72 (v.toInt * 2 ^ 32) else v.setWidth 72

/-- A MAC-group instruction: bits [7:0] must be 0, complex forms name even registers (R257, R261). -/
def macOp (c : Nat) (cplx : Bool) (x y : Nat) (z : BitVec 8) (f : Core → Core) : State → IRes :=
  fun s => if z ≠ 0 ∨ (cplx ∧ (x % 2 = 1 ∨ y % 2 = 1)) then .fault 0 s else .next (s.modCore c f) none

/-- TAP (z = 4) and CTAP (z = 8). (Log: 52 DEDUCED.) -/
def tap (z c k ai aj dir : Nat) (must : BitVec 17) : State → IRes := fun s =>
  let r := s.core c
  let da := (r.a ai).toNat
  let ha := (r.a aj).toNat
  let wa := (r.a ai + BitVec.ofNat 32 z).toNat
  if must ≠ 0 then .fault 0 s
  else if da % z ≠ 0 ∨ ha % z ≠ 0 then .fault 1 s
  else match r.place da z, r.place ha z, r.place wa z with
    | some d, some h, some w =>
      match s.storeFault c w.1 w.2 z with
      | some e => .fault e s
      | none => match s.loadAt c d.1 d.2 z with
        | .fault e s => .fault e s
        | .ok s dv => match s.loadAt c h.1 h.2 z with
          | .fault e s => .fault e s
          | .ok s hv =>
            let s := s.storeAt c w.1 w.2 (leBytes z dv)
            let lo (v : Nat) : BitVec 32 := BitVec.ofNat 32 v
            let hi (v : Nat) : BitVec 32 := BitVec.ofNat 32 (v / 2 ^ 32)
            .next (s.modCore c fun r =>
              let r := if z = 4 then r.mac (2 * k) true [(false, lo hv, lo dv)]
                else r.cmacV k true false false (lo hv) (hi hv) (lo dv) (hi dv)
              let r := r.wrA 1 ai (r.a ai - BitVec.ofNat 32 z)
              r.wrA 1 aj (if dir = 0 then r.a aj - BitVec.ofNat 32 z else r.a aj + BitVec.ofNat 32 z)) none
    | _, _, _ => .fault 2 s

/-- ACCk.re := ACCk.re + Gx x Gy (R261). -/
def opMac (c : Nat) (k : Nat) (x : Nat) (y : Nat) (z : BitVec 8) : State → IRes := macOp c false x y z fun r => r.mac (2 * k) true [(false, r.g x, r.g y)]
/-- MAC on core `c`. -/
def execMac (c : Fin 20) (k : Fin 4) (x : Fin 32) (y : Fin 32) (z : BitVec 8) (s : State) : Host.Outcome State Fault Refusal :=
  ok (s.issue c.val (wX 0x20 k.val x.val y.val 0x00 z.toNat) (opMac c.val k.val x.val y.val z))
/-- ACCk.re := ACCk.re - Gx x Gy (R261). -/
def opMsu (c : Nat) (k : Nat) (x : Nat) (y : Nat) (z : BitVec 8) : State → IRes := macOp c false x y z fun r => r.mac (2 * k) true [(true, r.g x, r.g y)]
/-- MSU on core `c`. -/
def execMsu (c : Fin 20) (k : Fin 4) (x : Fin 32) (y : Fin 32) (z : BitVec 8) (s : State) : Host.Outcome State Fault Refusal :=
  ok (s.issue c.val (wX 0x20 k.val x.val y.val 0x01 z.toNat) (opMsu c.val k.val x.val y.val z))
/-- ACCk := ACCk + X x Y (R261). -/
def opCmac (c : Nat) (k : Nat) (x : Nat) (y : Nat) (z : BitVec 8) : State → IRes := macOp c true x y z fun r => r.cmac k true false false x y
/-- CMAC on core `c`. -/
def execCmac (c : Fin 20) (k : Fin 4) (x : Fin 32) (y : Fin 32) (z : BitVec 8) (s : State) : Host.Outcome State Fault Refusal :=
  ok (s.issue c.val (wX 0x20 k.val x.val y.val 0x02 z.toNat) (opCmac c.val k.val x.val y.val z))
/-- ACCk := ACCk - X x Y (R261). -/
def opCmsu (c : Nat) (k : Nat) (x : Nat) (y : Nat) (z : BitVec 8) : State → IRes := macOp c true x y z fun r => r.cmac k true true false x y
/-- CMSU on core `c`. -/
def execCmsu (c : Fin 20) (k : Fin 4) (x : Fin 32) (y : Fin 32) (z : BitVec 8) (s : State) : Host.Outcome State Fault Refusal :=
  ok (s.issue c.val (wX 0x20 k.val x.val y.val 0x03 z.toNat) (opCmsu c.val k.val x.val y.val z))
/-- ACCk := X x Y (R261). -/
def opCmul (c : Nat) (k : Nat) (x : Nat) (y : Nat) (z : BitVec 8) : State → IRes := macOp c true x y z fun r => r.cmac k false false false x y
/-- CMUL on core `c`. -/
def execCmul (c : Fin 20) (k : Fin 4) (x : Fin 32) (y : Fin 32) (z : BitVec 8) (s : State) : Host.Outcome State Fault Refusal :=
  ok (s.issue c.val (wX 0x20 k.val x.val y.val 0x04 z.toNat) (opCmul c.val k.val x.val y.val z))
/-- ACCk := ACCk + X x conj(Y) (R261). -/
def opCmacj (c : Nat) (k : Nat) (x : Nat) (y : Nat) (z : BitVec 8) : State → IRes := macOp c true x y z fun r => r.cmac k true false true x y
/-- CMACJ on core `c`. -/
def execCmacj (c : Fin 20) (k : Fin 4) (x : Fin 32) (y : Fin 32) (z : BitVec 8) (s : State) : Host.Outcome State Fault Refusal :=
  ok (s.issue c.val (wX 0x20 k.val x.val y.val 0x05 z.toNat) (opCmacj c.val k.val x.val y.val z))
/-- ACCk := 0 (R261). -/
def opClra (c : Nat) (k : Nat) (x : Nat) (y : Nat) (z : BitVec 8) : State → IRes := macOp c false x y z fun r => (r.wrAcc (2 * k) 0).wrAcc (2 * k + 1) 0
/-- CLRA on core `c`. -/
def execClra (c : Fin 20) (k : Fin 4) (x : Fin 32) (y : Fin 32) (z : BitVec 8) (s : State) : Host.Outcome State Fault Refusal :=
  ok (s.issue c.val (wX 0x20 k.val x.val y.val 0x06 z.toNat) (opClra c.val k.val x.val y.val z))
/-- ACCk := (Gx, Gy) (R261). -/
def opMvgacc (c : Nat) (k : Nat) (x : Nat) (y : Nat) (z : BitVec 8) : State → IRes := macOp c false x y z fun r => (r.wrAcc (2 * k) (r.toAcc (r.g x))).wrAcc (2 * k + 1) (r.toAcc (r.g y))
/-- MVGACC on core `c`. -/
def execMvgacc (c : Fin 20) (k : Fin 4) (x : Fin 32) (y : Fin 32) (z : BitVec 8) (s : State) : Host.Outcome State Fault Refusal :=
  ok (s.issue c.val (wX 0x20 k.val x.val y.val 0x07 z.toNat) (opMvgacc c.val k.val x.val y.val z))
/-- ACCk.re := Gx x Gy; ACCk.im := 0 (R261). -/
def opMula (c : Nat) (k : Nat) (x : Nat) (y : Nat) (z : BitVec 8) : State → IRes := macOp c false x y z fun r => (r.mac (2 * k) false [(false, r.g x, r.g y)]).wrAcc (2 * k + 1) 0
/-- MULA on core `c`. -/
def execMula (c : Fin 20) (k : Fin 4) (x : Fin 32) (y : Fin 32) (z : BitVec 8) (s : State) : Host.Outcome State Fault Refusal :=
  ok (s.issue c.val (wX 0x20 k.val x.val y.val 0x08 z.toNat) (opMula c.val k.val x.val y.val z))
/-- Gd := ACCk.part (R255). -/
def opMva (c : Nat) (d : Nat) (k : Nat) (part : Nat) (sh : BitVec 4) (z : BitVec 14) : State → IRes := fun s => if z ≠ 0 then .fault 0 s else fpu c 1 d (fun r => moveAcc r.q (r.accSeen (2 * k + part)) sh.toInt) s
/-- MVA on core `c`. -/
def execMva (c : Fin 20) (d : Fin 32) (k : Fin 4) (part : Fin 2) (sh : BitVec 4) (z : BitVec 14) (s : State) : Host.Outcome State Fault Refusal :=
  ok (s.issue c.val (wV 0x21 d.val k.val part.val sh.toNat z.toNat) (opMva c.val d.val k.val part.val sh z))
/-- Gd := ACCk.re, Gd+1 := ACCk.im (R255). -/
def opMvac (c : Nat) (d : Nat) (k : Nat) (part : Nat) (sh : BitVec 4) (z : BitVec 14) : State → IRes := fun s =>
  if z ≠ 0 ∨ part ≠ 0 ∨ d % 2 = 1 then .fault 0 s
  else .next (s.modCore c fun r =>
    let x := moveAcc r.q (r.accSeen (2 * k)) sh.toInt
    let y := moveAcc r.q (r.accSeen (2 * k + 1)) sh.toInt
    ((r.wrG 1 d x.1).wrG 1 (d + 1) y.1).raiseFlags (x.2 ||| y.2)) none
/-- MVAC on core `c`. -/
def execMvac (c : Fin 20) (d : Fin 32) (k : Fin 4) (part : Fin 2) (sh : BitVec 4) (z : BitVec 14) (s : State) : Host.Outcome State Fault Refusal :=
  ok (s.issue c.val (wV 0x22 d.val k.val part.val sh.toNat z.toNat) (opMvac c.val d.val k.val part.val sh z))
/-- Real filter tap (R268). -/
def opTap (c : Nat) (k : Nat) (ai : Nat) (aj : Nat) (dir : Nat) (z : BitVec 17) : State → IRes := tap 4 c k ai aj dir z
/-- TAP on core `c`. -/
def execTap (c : Fin 20) (k : Fin 4) (ai : Fin 8) (aj : Fin 8) (dir : Fin 2) (z : BitVec 17) (s : State) : Host.Outcome State Fault Refusal :=
  ok (s.issue c.val (wT 0x24 k.val ai.val aj.val dir.val z.toNat) (opTap c.val k.val ai.val aj.val dir.val z))
/-- Complex filter tap (R268). -/
def opCtap (c : Nat) (k : Nat) (ai : Nat) (aj : Nat) (dir : Nat) (z : BitVec 17) : State → IRes := tap 8 c k ai aj dir z
/-- CTAP on core `c`. -/
def execCtap (c : Fin 20) (k : Fin 4) (ai : Fin 8) (aj : Fin 8) (dir : Fin 2) (z : BitVec 17) (s : State) : Host.Outcome State Fault Refusal :=
  ok (s.issue c.val (wT 0x25 k.val ai.val aj.val dir.val z.toNat) (opCtap c.val k.val ai.val aj.val dir.val z))

end Sys2Proof.Machine
end

