-- ==== Sys2Proof/Machine/CoreMem.lean ====
section
/-!
DEFINITION. The loads and stores of the chisel core (R262, R263) and its DMA port (R496).
-/
namespace Sys2Proof.Machine

/-- The address register written back (R262, R263). -/
def Core.back (k : Core) (ai : Nat) (e : Ea) : Core := match e.back with | some v => k.wrA 1 ai v | none => k

/-- A load of `z` bytes; `f` takes the value into flight. -/
def loadOp (z c ai mode circ slot : Nat) (imm : BitVec 12) (f : Core → Nat → Core) : State → IRes := fun s =>
  match s.ea c ai mode (circ == 1) slot imm z with
  | .error e => .fault e s
  | .ok e => match s.loadEa c e.pieces with
    | .fault k s => .fault k s
    | .ok s v => .next (s.modCore c fun k => (f k v).back ai e) none

/-- A store of `z` bytes of a value. -/
def storeOp (z c ai mode circ slot : Nat) (imm : BitVec 12) (f : Core → Nat) : State → IRes := fun s =>
  match s.ea c ai mode (circ == 1) slot imm z with
  | .error e => .fault e s
  | .ok e => match s.storeEa c e.pieces (f (s.core c)) with
    | .fault k s => .fault k s
    | .ok s _ => .next (s.modCore c fun k => k.back ai e) none

/-- Gg := a 32-bit word (R262). -/
def opLd (c : Nat) (g : Nat) (ai : Nat) (mode : Nat) (circ : Nat) (slot : Nat) (imm : BitVec 12) : State → IRes := loadOp 4 c ai mode circ slot imm fun k v => k.wrG 2 g (BitVec.ofNat 32 v)
/-- LD on core `c`. -/
def execLd (c : Fin 20) (g : Fin 32) (ai : Fin 8) (mode : Fin 4) (circ : Fin 2) (slot : Fin 8) (imm : BitVec 12) (s : State) : Host.Outcome State Fault Refusal :=
  ok (s.issue c.val (wM 0x10 g.val ai.val mode.val circ.val slot.val imm.toNat) (opLd c.val g.val ai.val mode.val circ.val slot.val imm))
/-- A 32-bit word := Gg (R262). -/
def opSt (c : Nat) (g : Nat) (ai : Nat) (mode : Nat) (circ : Nat) (slot : Nat) (imm : BitVec 12) : State → IRes := storeOp 4 c ai mode circ slot imm fun k => (k.g g).toNat
/-- ST on core `c`. -/
def execSt (c : Fin 20) (g : Fin 32) (ai : Fin 8) (mode : Fin 4) (circ : Fin 2) (slot : Fin 8) (imm : BitVec 12) (s : State) : Host.Outcome State Fault Refusal :=
  ok (s.issue c.val (wM 0x11 g.val ai.val mode.val circ.val slot.val imm.toNat) (opSt c.val g.val ai.val mode.val circ.val slot.val imm))
/-- Gg:Gg+1 := 64 bits (R262). -/
def opLdp (c : Nat) (g : Nat) (ai : Nat) (mode : Nat) (circ : Nat) (slot : Nat) (imm : BitVec 12) : State → IRes := fun s => if g % 2 = 1 then .fault 0 s
  else loadOp 8 c ai mode circ slot imm (fun k v => (k.wrG 2 g (BitVec.ofNat 32 v)).wrG 2 (g + 1) (BitVec.ofNat 32 (v / 2 ^ 32))) s
/-- LDP on core `c`. -/
def execLdp (c : Fin 20) (g : Fin 32) (ai : Fin 8) (mode : Fin 4) (circ : Fin 2) (slot : Fin 8) (imm : BitVec 12) (s : State) : Host.Outcome State Fault Refusal :=
  ok (s.issue c.val (wM 0x12 g.val ai.val mode.val circ.val slot.val imm.toNat) (opLdp c.val g.val ai.val mode.val circ.val slot.val imm))
/-- 64 bits := Gg:Gg+1 (R262). -/
def opStp (c : Nat) (g : Nat) (ai : Nat) (mode : Nat) (circ : Nat) (slot : Nat) (imm : BitVec 12) : State → IRes := fun s => if g % 2 = 1 then .fault 0 s
  else storeOp 8 c ai mode circ slot imm (fun k => (k.g g).toNat + 2 ^ 32 * (k.g (g + 1)).toNat) s
/-- STP on core `c`. -/
def execStp (c : Fin 20) (g : Fin 32) (ai : Fin 8) (mode : Fin 4) (circ : Fin 2) (slot : Fin 8) (imm : BitVec 12) (s : State) : Host.Outcome State Fault Refusal :=
  ok (s.issue c.val (wM 0x13 g.val ai.val mode.val circ.val slot.val imm.toNat) (opStp c.val g.val ai.val mode.val circ.val slot.val imm))
/-- Load the A register in g[2:0] (R262). -/
def opLda (c : Nat) (g : Nat) (ai : Nat) (mode : Nat) (circ : Nat) (slot : Nat) (imm : BitVec 12) : State → IRes := loadOp 4 c ai mode circ slot imm fun k v => k.wrA 2 (g % 8) (BitVec.ofNat 32 v)
/-- LDA on core `c`. -/
def execLda (c : Fin 20) (g : Fin 32) (ai : Fin 8) (mode : Fin 4) (circ : Fin 2) (slot : Fin 8) (imm : BitVec 12) (s : State) : Host.Outcome State Fault Refusal :=
  ok (s.issue c.val (wM 0x14 g.val ai.val mode.val circ.val slot.val imm.toNat) (opLda c.val g.val ai.val mode.val circ.val slot.val imm))
/-- Store the A register in g[2:0] (R262). -/
def opSta (c : Nat) (g : Nat) (ai : Nat) (mode : Nat) (circ : Nat) (slot : Nat) (imm : BitVec 12) : State → IRes := storeOp 4 c ai mode circ slot imm fun k => (k.a (g % 8)).toNat
/-- STA on core `c`. -/
def execSta (c : Fin 20) (g : Fin 32) (ai : Fin 8) (mode : Fin 4) (circ : Fin 2) (slot : Fin 8) (imm : BitVec 12) (s : State) : Host.Outcome State Fault Refusal :=
  ok (s.issue c.val (wM 0x15 g.val ai.val mode.val circ.val slot.val imm.toNat) (opSta c.val g.val ai.val mode.val circ.val slot.val imm))

/-- CORE_DMA_GO: the port of core `c` takes a store to GO (R496). -/
def execCoreDmaGo (c : Fin 20) (s : State) : Host.Outcome State Fault Refusal := ok ((s.flushStores c.val).dmaGo c.val)
/-- CORE_DMA_DONE (R496). -/
def execCoreDmaDone (c : Fin 20) (s : State) : Host.Outcome State Fault Refusal := ok (s.dmaDone c.val)
/-- CORE_DMA_STATUS_READ: a load of STATUS returns it and clears it (R496). -/
def execCoreDmaStatusRead (c : Fin 20) (s : State) : Host.Outcome State Fault Refusal :=
  ok { (s.dmaStatusRead c.val) with rdata := (s.dmaPort c.val).status }

end Sys2Proof.Machine
end

