-- ==== Sys2Proof/Machine/CoreDecode.lean ====
section
/-!
DEFINITION. What an instruction word of the chisel core does (R257 to R261).
-/
namespace Sys2Proof.Machine

/-- An unlisted opcode or function (R257). -/
def illegal : State → IRes := fun s => .fault 0 s

/-- The meaning of a word on core `c`. (Log: 45 DEDUCED.) -/
def coreWord (c w : Nat) : State → IRes :=
  let d := bits w 21 5
  let a := bits w 16 5
  let b := bits w 11 5
  let e := bits w 6 5
  let imm : BitVec 16 := BitVec.ofNat 16 w
  coreFormats c w (bits w 26 6) d a b e imm
where
  /-- By major opcode, the fields of formats A, I and F read. -/
  coreFormats (c w op d a b e : Nat) (imm : BitVec 16) : State → IRes :=
  match op with
  | 0x00 => opNop
  | 0x01 => (match bits w 0 11 with
    | 0x00 => opAdd c d a b
    | 0x01 => opSub c d a b
    | 0x02 => opAnd c d a b
    | 0x03 => opOr c d a b
    | 0x04 => opXor c d a b
    | 0x05 => opShl c d a b
    | 0x06 => opShr c d a b
    | 0x07 => opSar c d a b
    | 0x08 => opShli c d a b
    | 0x09 => opShri c d a b
    | 0x0A => opSari c d a b
    | 0x0B => opMin c d a b
    | 0x0C => opMax c d a b
    | 0x0D => opSlt c d a b
    | 0x0E => opSltu c d a b
    | 0x0F => opSeq c d a b
    | 0x10 => opMul c d a b
    | 0x11 => opMvag c d a b
    | 0x12 => opMvga c d a b
    | 0x13 => opClz c d a b
    | _ => illegal)
  | 0x02 => opAddi c d a imm
  | 0x03 => opAndi c d a imm
  | 0x04 => opOri c d a imm
  | 0x05 => opXori c d a imm
  | 0x06 => opMovi c d a imm
  | 0x07 => opMovih c d a imm
  | 0x10 => opLd c d (bits w 18 3) (bits w 16 2) (bits w 15 1) (bits w 12 3) (BitVec.ofNat 12 w)
  | 0x11 => opSt c d (bits w 18 3) (bits w 16 2) (bits w 15 1) (bits w 12 3) (BitVec.ofNat 12 w)
  | 0x12 => opLdp c d (bits w 18 3) (bits w 16 2) (bits w 15 1) (bits w 12 3) (BitVec.ofNat 12 w)
  | 0x13 => opStp c d (bits w 18 3) (bits w 16 2) (bits w 15 1) (bits w 12 3) (BitVec.ofNat 12 w)
  | 0x14 => opLda c d (bits w 18 3) (bits w 16 2) (bits w 15 1) (bits w 12 3) (BitVec.ofNat 12 w)
  | 0x15 => opSta c d (bits w 18 3) (bits w 16 2) (bits w 15 1) (bits w 12 3) (BitVec.ofNat 12 w)
  | 0x16 => opAdda c d a imm
  | 0x18 => (match bits w 0 11 with
    | 0x00 => opFadd c d a b
    | 0x01 => opFsub c d a b
    | 0x02 => opFmul c d a b
    | 0x03 => opFmin c d a b
    | 0x04 => opFmax c d a b
    | 0x05 => opFabs c d a b
    | 0x06 => opFneg c d a b
    | 0x07 => opFslt c d a b
    | 0x08 => opFseq c d a b
    | 0x09 => opFtoi c d a b
    | 0x0A => opItof c d a b
    | 0x0B => opFtoq c d a b
    | 0x0C => opQtof c d a b
    | 0x0D => opFfloor c d a b
    | 0x0E => opFfrac c d a b
    | 0x10 => opQadd c d a b
    | 0x11 => opQsub c d a b
    | 0x12 => opQmul c d a b
    | 0x20 => opFrcp c d a b
    | 0x21 => opFrsq c d a b
    | 0x22 => opFexp2 c d a b
    | 0x23 => opFlog2 c d a b
    | 0x24 => opFsin2p c d a b
    | 0x25 => opFtanp c d a b
    | _ => illegal)
  | 0x19 => opFma c d a b e (BitVec.ofNat 6 w)
  | 0x1A => opFms c d a b e (BitVec.ofNat 6 w)
  | 0x20 => (match bits w 8 6 with
    | 0x00 => opMac c (bits w 24 2) (bits w 19 5) (bits w 14 5) (BitVec.ofNat 8 w)
    | 0x01 => opMsu c (bits w 24 2) (bits w 19 5) (bits w 14 5) (BitVec.ofNat 8 w)
    | 0x02 => opCmac c (bits w 24 2) (bits w 19 5) (bits w 14 5) (BitVec.ofNat 8 w)
    | 0x03 => opCmsu c (bits w 24 2) (bits w 19 5) (bits w 14 5) (BitVec.ofNat 8 w)
    | 0x04 => opCmul c (bits w 24 2) (bits w 19 5) (bits w 14 5) (BitVec.ofNat 8 w)
    | 0x05 => opCmacj c (bits w 24 2) (bits w 19 5) (bits w 14 5) (BitVec.ofNat 8 w)
    | 0x06 => opClra c (bits w 24 2) (bits w 19 5) (bits w 14 5) (BitVec.ofNat 8 w)
    | 0x07 => opMvgacc c (bits w 24 2) (bits w 19 5) (bits w 14 5) (BitVec.ofNat 8 w)
    | 0x08 => opMula c (bits w 24 2) (bits w 19 5) (bits w 14 5) (BitVec.ofNat 8 w)
    | _ => illegal)
  | 0x21 => opMva c d (bits w 19 2) (bits w 18 1) (BitVec.ofNat 4 (w / 2 ^ 14)) (BitVec.ofNat 14 w)
  | 0x22 => opMvac c d (bits w 19 2) (bits w 18 1) (BitVec.ofNat 4 (w / 2 ^ 14)) (BitVec.ofNat 14 w)
  | 0x24 => opTap c (bits w 24 2) (bits w 21 3) (bits w 18 3) (bits w 17 1) (BitVec.ofNat 17 w)
  | 0x25 => opCtap c (bits w 24 2) (bits w 21 3) (bits w 18 3) (bits w 17 1) (BitVec.ofNat 17 w)
  | 0x30 => opB c (bits w 22 4) (bits w 21 1) a imm
  | 0x31 => opJmp c a
  | 0x32 => opCall c (bits w 22 4) (bits w 21 1) a imm
  | 0x33 => opLoop c (bits w 25 1) (BitVec.ofNat 10 (w / 2 ^ 15)) (bits w 14 1) (BitVec.ofNat 14 w)
  | 0x34 => opSwb c d a (bits w 10 6) (bits w 5 5) (bits w 0 5)
  | 0x35 => opMvs c d a (bits w 10 6) (bits w 5 5) (bits w 0 5)
  | 0x36 => opMvt c d a (bits w 10 6) (bits w 5 5) (bits w 0 5)
  | 0x37 => opReti c
  | 0x38 => opWait c
  | 0x39 => opSignal c d a (bits w 10 6) (bits w 5 5) (bits w 0 5)
  | 0x3A => opSetm c d a (bits w 10 6) (bits w 5 5) (bits w 0 5)
  | 0x3E => opBrk c
  | _ => illegal

end Sys2Proof.Machine
end

