-- ==== Sys2Proof/Machine/LifeOps.lean ====
section
/-!
DEFINITION. Fuses and keys as the rest of the module sees them (R544 to R547, R557).
-/
namespace Sys2Proof.Machine

/-- Replace the life-cycle block's state. -/
def State.setLife (s : State) (f : Life → Life) : State := { s with life := f s.life }

/-- State fuse `f`, 1 to 3, by majority of its cells (R544). -/
def Life.fuse (l : Life) (f : Nat) : Bool :=
  decide (2 ≤ (((l.cells.drop (3 * (f - 1))).take 3).filter (fun b => b)).length)
/-- The fused state: the highest-numbered fuse that reads blown; 0 BLANK, 1 DEVELOP, 2 FIELD, 4 RETIRED (R544). -/
def Life.fused (l : Life) : Nat := if l.fuse 3 then 4 else if l.fuse 2 then 2 else if l.fuse 1 then 1 else 0
/-- Blow a state fuse. -/
def Life.blow (l : Life) (f : Nat) : Life :=
  { l with cells := (l.cells.set (3 * (f - 1)) true).set (3 * (f - 1) + 1) true |>.set (3 * (f - 1) + 2) true }

/-- A hash field is empty: all zero (R545). -/
def fieldEmpty (b : List (BitVec 8)) : Bool := b.all (fun x => x == 0)
/-- A field is destroyed: all ones. -/
def fieldGone (b : List (BitVec 8)) : Bool := b.all (fun x => x == 0xFF)
/-- SVCKEY and PASSWD of LC_KEYS: 0 empty, 1 programmed, 3 destroyed (R557). -/
def fieldStat (b : List (BitVec 8)) : Nat := if fieldEmpty b then 0 else if fieldGone b then 3 else 1
/-- SLOTk of LC_KEYS: 0 empty, 1 usable, 2 BAD, 3 revoked or destroyed. -/
def Life.slotStat (l : Life) (k : Nat) : Nat :=
  let h := l.slots.getD k []
  if fieldGone h ∨ l.revoked.getD k false then 3
  else if fieldEmpty h then 0
  else if l.bad.getD k false then 2 else 1
/-- LC_KEYS. -/
def Life.keysWord (l : Life) : Nat :=
  (List.range 4).foldl (fun a k => a + l.slotStat k * 4 ^ k) 0 + 256 * fieldStat l.svc + 1024 * fieldStat l.pwd

/-- The public key of slot `k`. -/
def Life.key (l : Life) (k : Nat) : List (BitVec 8) := if k = 0 then Config.romKey else l.keys.getD (k - 1) []

/-- Images signed with slot `k` are accepted in the present state (R546, R547). -/
def State.slotUsable (s : State) (k : Nat) : Bool :=
  let st := s.get Reg.LC_STAT_STATE
  decide (k < 4) && s.life.slotStat k == 1 && (if st = 4 then false else if st = 0 then k == 0 else true)

/-- An image whose last 64 bytes are its signature verifies against slot `k` (R288, R546). -/
def State.imageSigned (s : State) (k : Nat) (img : List (BitVec 8)) : Bool :=
  s.slotUsable k && decide (64 ≤ img.length) && sigOk (s.life.key k) (img.take (img.length - 64)) (img.drop (img.length - 64))

end Sys2Proof.Machine
end

