-- ==== Sys2Proof/Machine/SelfTest.lean ====
section
/-!
DEFINITION. The self-test engine: slices, raw tests, what cuts them short, and SHUTDOWN (18_self_test.md, R497 to R501).
-/
namespace Sys2Proof.Machine

/-! ### Ends of a test (R528, R529, R536 to R539) -/

/-- Return core `c` to service, unless it is held (R529, R537). (Log: 87 DEDUCED.) -/
def State.coreReturn (s : State) (c : Nat) : State := if s.coreHeld c then s else s.benchReturn c

/-- The target of a test that has ended is returned: a core after its last part, or at once after a raw or cut test. -/
def State.stReturn (s : State) (t : StTest) (cut : Bool) : State :=
  let c := unitCode t.unit
  match unitClass t.unit with
  | 0 => if t.raw ∨ cut ∨ unitPart t.unit = 2 then s.coreReturn c else s
  | 2 => s.aoReturn (c - 0x50)
  | _ => s

/-- A test ends with a verdict. -/
def State.stFinish (s : State) (t : StTest) (verdict sig count : Nat) : State := (s.stClose t verdict sig count).stReturn t false

/-- Cut the test in progress short; `service`: by a request of R539. A channel's record stands before the result's (R9).
(Log: 87 DEDUCED.) -/
def State.stStop (s : State) (service : Bool) : State :=
  match s.st.cur with
  | none => s
  | some t =>
    let s := if unitClass t.unit = 1 then s.regionRestore else s
    let (sig, cnt, s) := s.stPartial t
    let (sig, cnt) := if t.start.isNone then (0, 0) else (sig, cnt)
    let s := if service then s.set1 Reg.ST_FLAGS_ABORTED else s
    let s := if service ∧ unitClass t.unit = 2 then
        (s.set1 (Reg.AO_CH_FLAGS_TEST_ABORT (unitCode t.unit - 0x50))).outRecL (unitCode t.unit - 0x50) 5
      else s
    (s.stClose t 3 sig cnt).stReturn t true

/-- A request aimed at core `c` cuts its test short (R539). -/
def State.stCutCore (s : State) (c : Nat) : State :=
  match s.st.cur with
  | some t => if unitClass t.unit = 0 ∧ unitCode t.unit = c then s.stStop true else s
  | none => s

/-- A change of bank `b`'s power cuts its region test short (R491, R500). -/
def State.stCutBank (s : State) (b : Nat) : State :=
  match s.ms.test, s.st.cur with
  | some r, some _ => if r.bank = b then s.stStop false else s
  | some r, none => if r.bank = b then s.regionRestore else s
  | none, _ => s

/-! ### Region tests (R497, R536) -/

/-- BUDGET in µs as it acts (R542). -/
def State.stBudget (s : State) : Nat :=
  let per := min 10000 (max 10 (s.get Reg.ST_PERIOD_PERIOD))
  max 50 (min (s.get Reg.ST_PERIOD_BUDGET) (min 5000 (1000 * per)))

/-- Begin the next region of a memory test; a lock copy with an uncorrectable error ends the test (R500). -/
def State.stRegion (s : State) (t : StTest) : State :=
  let b := unitCode t.unit - 0x20
  let s := (s.setSt (fun x => { x with cur := some t })).stShow (if t.raw then 4 else 3) t.unit t.region
  let (s, ok_) := s.regionLock b t.region
  if ok_ then s else s.stFinish t 3 t.sig (10240 * t.done)

/-- March C- of the region in progress completes: `fails` names its failing rows, `sig` is the signature so far. The region is
restored with its repairs, and the next region begins or the result is reported. -/
def State.regionDone (s : State) (fails : Nat) (sig : Nat) : State :=
  match s.ms.test, s.st.cur with
  | some r, some t =>
    let s := (s.repairRows r.bank r.region fails).regionRestore
    let t := { t with region := t.region + 1, done := t.done + 1, sig := sig, good := t.good && fails == 0 }
    let room : Bool := match t.start with
      | some b => decide (s.ns + 20000 ≤ b + 1000 * s.stBudget)
      | none => true
    if t.region < 128 ∧ (t.raw ∨ room) then s.stRegion t
    else s.stFinish t (if t.good then 1 else 2) t.sig (10240 * t.done)
  | some _, none => s.regionRestore
  | none, _ => s
/-- REGION_TEST_RESTORE (R497). -/
def execRegionTestRestore (fails : BitVec 4) (sig : BitVec 32) (s : State) : Host.Outcome State Fault Refusal :=
  ok (s.regionDone fails.toNat sig.toNat)

/-! ### Starting a test (R530, R535 to R538) -/

/-- Channel `n`, with its pair, can be benched (R454, R538). -/
def State.aoBenchable (s : State) (n : Nat) : Bool :=
  bit (s.get Reg.PWR_DOM_STAT) 15 && (s.aoGroup n).all (fun k =>
    s.aoState k != 1 && s.aoState k != 7 && (!s.on (Reg.AO_CH_CFG_EN k) || s.on (Reg.AO_CH_CFG_BENCH_OK k)))

/-- Begin a test whose target is ready or is being made ready. -/
def State.stBegin (s : State) (unit : Nat) (raw : Bool) : State :=
  let t : StTest := {
    unit := unit
    raw := raw
    start := some s.ns
    region := 0
    done := 0
    sig := 0
    good := true }
  let show_ (s : State) : State := s.stShow (if raw then 4 else 3) unit 0
  match unitClass unit with
  | 1 => s.stRegion { t with region := if raw then 0 else s.stPos 1 % 128 }
  | 2 =>
    let n := unitCode unit - 0x50
    let s := show_ (s.setSt (fun x => { x with cur := some { t with start := none } }))
    let still := (s.aoGroup n).all (fun k => !s.aoDriven k || s.aoCode k s.tu == some 0)
    if still then ((s.aoGroup n).foldl (fun s k => s.aoOff k) s).aoBench n
    else (s.aoGroup n).foldl (fun s k => s.aoDown k) s
  | _ => show_ (s.setSt (fun x => { x with cur := some t }))

/-- A rolling update has taken core `c` (R537, R574). -/
def State.updCore (s : State) (c : Nat) : Bool := match s.upd with | some u => u.unit.contains c | none => false

/-- The next position of class `k` from `p` on whose target is not skipped: banks that are not ON, channels that cannot be
benched, cores of a rolling update. -/
def State.stTarget (s : State) (k : Nat) : Option Nat :=
  let p := s.stPos k
  match k with
  | 0 => if !s.updCore (p / 3) then some p
    else ((List.range 19).map (fun i => 3 * ((p / 3 + 1 + i) % 20))).find? (fun q => !s.updCore (q / 3))
  | 1 => if s.bankOn (p / 128) then some p
    else ((List.range 47).map (fun i => 128 * ((p / 128 + 1 + i) % 48))).find? (fun q => s.bankOn (q / 128))
  | 2 => if s.aoBenchable (p / 7) then some p
    else ((List.range 15).map (fun i => 7 * ((p / 7 + 1 + i) % 16))).find? (fun q => s.aoBenchable (q / 7))
  | _ => some 0

/-- UNIT of a position of class `k`. -/
def posUnit (k p : Nat) : Nat :=
  match k with
  | 0 => stUnit (p / 3) (p % 3)
  | 1 => stUnit (0x20 + p / 128) 0
  | 2 => stUnit (0x50 + p / 7) (p % 7)
  | _ => 0x60

/-- A slice serves class `k`, whose target stands at `p` (R535, R537, R538). -/
def State.stServe (s : State) (k p : Nat) : State :=
  let s := s.setPos k p
  let u := posUnit k p
  if k = 0 ∧ s.chState (p / 3) ≠ 5 then
    if s.st.bench.isSome then s
    else (s.benchAsk (p / 3)).setSt (fun x => { x with bench := some (p / 3, s.ns) })
  else
    let s := if k = 0 then s.setSt (fun x => { x with bench := none }) else s
    s.stBegin u false

/-- A slice begins: the next enabled class that fits the budget is served (R535). -/
def State.stSlice (s : State) : Nat → Nat → State
  | 0, _ => s
  | fuel + 1, k =>
    if !bit (s.get Reg.ST_CTRL_CLASS_EN) k then s.stSlice fuel ((k + 1) % 4)
    else match s.stTarget k with
      | none => s.stSlice fuel ((k + 1) % 4)
      | some p =>
        let u := posUnit k p
        let away := k == 2 && s.get (Reg.AO_CH_CFG_SPAN (p / 7)) != p % 7
        if s.stBudget < unitDur u away then (s.set1 Reg.ST_FLAGS_BUDGET_SHORT).stSlice fuel ((k + 1) % 4)
        else (s.setSt (fun x => { x with turn := (k + 1) % 4 })).stServe k p

/-- A PERIODIC slice may begin. (Log: 87 DEDUCED.) -/
def State.sliceDue (s : State) : Bool :=
  s.on Reg.ST_CTRL_PER_EN && s.get Reg.PWR_STAT_STATE == 0 && s.st.cur.isNone && s.st.shut.isNone

/-- SLICE_START (R535). -/
def execSliceStart (s : State) : Host.Outcome State Fault Refusal := ok (if s.sliceDue then s.stSlice 4 s.st.turn else s)

/-- BUDGET µs after its start a slice ends (R536). (Log: 87 DEDUCED.) -/
def State.sliceEnd (s : State) : State :=
  match s.st.cur with
  | some t =>
    let ovr : Bool := match t.start with
      | some b => decide (b + 1000 * s.stBudget ≤ s.ns)
      | none => false
    if t.raw ∨ !ovr then s
    else match s.aoTested with
      | some (n, _) => if (s.aoArrive n).st.cur.isNone then s.aoArrive n else s.stStop false
      | none => s.stStop false
  | none => s
/-- SLICE_BUDGET_END (R536). -/
def execSliceBudgetEnd (s : State) : Host.Outcome State Fault Refusal := ok s.sliceEnd

/-- The points of a channel's span that are out of tolerance, each with its record (R527). -/
def State.stPoints (s : State) (unit sig : Nat) : State :=
  let n := unitCode unit - 0x50
  (List.range 6).foldl (fun s i =>
    if bit sig i then s else s.event 0x61 118 unit 1 (pay 16 n + pay 18 (8 * unitPart unit + i))) s

/-- A test of a core, a channel or the references runs to its end with what it found (R526 to R528). -/
def State.testDone (s : State) (good : Bool) (sig : Nat) : State :=
  match s.st.cur with
  | some t =>
    let k := unitClass t.unit
    if k = 1 ∨ t.start.isNone ∨ (k = 0 ∧ s.chState (unitCode t.unit) ≠ 5) then s
    else
      let s := if k = 2 then s.aoArrive (unitCode t.unit - 0x50) else s
      if s.st.cur.isNone then s
      else
        let sig := if k = 2 then sig % 64 else if k = 3 then sig % 512 else sig
        let pass := if k = 2 then sig == 0x3F else if k = 3 then sig == 0x1FF else good
        let s := if k = 2 then s.stPoints t.unit sig else s
        s.stFinish t (if pass then 1 else 2) sig (unitCount t.unit)
  | none => s
/-- TEST_COMPLETE (R528). -/
def execTestComplete (good : Bool) (sig : BitVec 32) (s : State) : Host.Outcome State Fault Refusal := ok (s.testDone good sig.toNat)

/-- The bench of a core has not been granted in BENCH_WAIT: it is withdrawn (R537). -/
def State.benchExpire (s : State) : State :=
  let wait := 1000000000 * max 1 (s.get Reg.ST_WAIT)
  let s := match s.st.bench with
    | some (c, b) =>
      if s.chState c ≠ 5 ∧ b + wait ≤ s.ns then
        let s := (s.setSt (fun x => { x with bench := none })).benchReturn c
        (s.stResult 117 (posUnit 0 (s.stPos 0)) 3 0 0 2).setPos 0 (3 * (c + 1))
      else s
    | none => s
  match s.st.cur with
  | some t =>
    let due : Bool := match t.start with
      | some b => decide (b + wait ≤ s.ns)
      | none => false
    if unitClass t.unit = 0 ∧ t.raw ∧ due ∧ s.chState (unitCode t.unit) ≠ 5 then
      (s.stClose t 3 0 0).benchReturn (unitCode t.unit)
    else s
  | none => s
/-- BENCH_WAIT_EXPIRY (R537). -/
def execBenchWaitExpiry (s : State) : Host.Outcome State Fault Refusal := ok s.benchExpire

/-- The life-cycle state permits raw tests (R530, R547, R550). (Log: 85 DEDUCED.) -/
def State.rawOpen (s : State) : Bool :=
  match s.get Reg.LC_STAT_STATE with
  | 0 | 1 => true
  | 3 => bit (s.get Reg.LC_STAT_SCOPE) 1
  | _ => false

/-- A raw test of a UNIT may begin: its target can be benched. (Log: 85 DEDUCED.) -/
def State.rawReady (s : State) (u : Nat) : Bool :=
  unitValid u && s.st.shut.isNone && !(match s.st.cur with | some t => t.raw | none => false)
    && (match unitClass u with
      | 0 => !s.updCore (unitCode u)
      | 1 => s.bankOn (unitCode u - 0x20)
      | 2 => s.aoBenchable (unitCode u - 0x50)
      | _ => true)

/-- A write of ST_RAW_CTRL (R530): in FIELD it is ignored and sets DENIED. (Log: 85 DEDUCED.) -/
def State.writeRaw (s : State) (v : Nat) : State :=
  if !s.rawOpen then s.set1 Reg.ST_FLAGS_DENIED
  else
    let u := bits v 0 16
    let s := s.put Reg.ST_RAW_CTRL_UNIT u
    if !bit v 31 then s
    else if !s.rawReady u then s.set1 Reg.ST_FLAGS_DENIED
    else
      let s := s.stStop true
      let s := if unitClass u = 0 ∧ s.chState (unitCode u) ≠ 5 then s.benchAsk (unitCode u) else s
      s.stBegin u true
/-- RAW_TEST_GO: a write of ST_RAW_CTRL with GO = 1 (R530). -/
def execRawTestGo (v : BitVec 32) (s : State) : Host.Outcome State Fault Refusal := ok (s.writeRaw (v.toNat ||| 0x80000000))

/-- A write of ST_CTRL: clearing PER_EN cuts a running slice short (R535, R540). -/
def State.writeStCtrl (s : State) (v : Nat) : State :=
  let s := (s.put Reg.ST_CTRL_PER_EN (bits v 0 1)).put Reg.ST_CTRL_CLASS_EN (bits v 4 4)
  let s := s.put Reg.ST_STAT_PER_RUN (b2n (bit v 0 && s.get Reg.PWR_STAT_STATE == 0))
  match s.st.cur with
  | some t => if !bit v 0 ∧ !t.raw then s.stStop false else s
  | none => s

/-- PER_EN by MGMT sub-op 0x03 (R540). (Log: 87 DEDUCED.) -/
def State.setPerEn (s : State) (on : Bool) : State := s.writeStCtrl (b2n on + 16 * s.get Reg.ST_CTRL_CLASS_EN)

/-! ### SHUTDOWN and the profiles (R531 to R534) -/

/-- The UNITs of every target, in UNIT order. -/
def allUnits : List Nat :=
  (List.range 20) ++ (List.range 48).map (fun b => 0x20 + b) ++ (List.range 16).map (fun n => 0x50 + n) ++ [0x60]
    ++ [1, 2].flatMap (fun p => (List.range 20).map (fun c => stUnit c p) ++ (List.range 16).map (fun n => stUnit (0x50 + n) p))
    ++ [3, 4, 5, 6].flatMap (fun p => (List.range 16).map (fun n => stUnit (0x50 + n) p))

/-- SHUTDOWN can test a target: an ON bank, a channel that can be benched (R534). -/
def State.shutTests (s : State) (u : Nat) : Bool :=
  match unitClass u with
  | 1 => s.bankOn (unitCode u - 0x20)
  | 2 => s.aoBenchable (unitCode u - 0x50)
  | _ => true

/-- Expected count of a target in a profile: a bank in all its words (R526, R531, R534). -/
def profCount (startup : Bool) (u : Nat) : Nat := if unitClass u = 1 then (if startup then 1310720 else 128 * 10240) else unitCount u

/-- Count of a target's test: the expected one unless it was cut short. -/
def resCount (startup : Bool) (u : Nat) (r : TestRes) : Nat := if r.cut then r.count.toNat else profCount startup u
/-- Verdict of a target (R528); none for one that was not tested. (Log: 84 DEDUCED.) -/
def resVerdict (r : Option TestRes) : Nat := match r with | some r => if r.cut then 3 else if r.good then 1 else 2 | none => 3

/-- The results of the tested targets, in UNIT order, joined to all targets. (Log: 84 DEDUCED.) -/
def joinRes (tested : Nat → Bool) : List Nat → List TestRes → List (Nat × Option TestRes)
  | [], _ => []
  | u :: us, l => if tested u then
      match l with
      | r :: rs => (u, some r) :: joinRes tested us rs
      | [] => (u, none) :: joinRes tested us []
    else (u, none) :: joinRes tested us l

/-- Records and holds of a profile's targets, its own record, and its verdict, signature and count (R529, R531, R543).
(Log: 84 DEDUCED.) -/
def State.profile (s : State) (startup : Bool) (l : List (Nat × Option TestRes)) : State × Nat × Nat × Nat :=
  let code := if startup then 0 else 1
  let vs := l.map (fun e => resVerdict e.2)
  let verdict := if vs.contains 3 then 3 else if vs.contains 2 then 2 else 1
  let rs := l.filterMap (fun e => e.2.map (fun r => (e.1, r)))
  let sig := crc32 (rs.flatMap (fun e => leBytes 4 e.2.sig.toNat))
  let count := rs.foldl (fun a e => a + resCount startup e.1 e.2) 0
  let s := l.foldl (fun s e =>
    let v := resVerdict e.2
    let s := s.stHold e.1 v
    if v = 1 then s else s.stResult 116 e.1 v ((e.2.map (fun r => r.sig.toNat)).getD 0) ((e.2.map (resCount startup e.1)).getD 0) code) s
  (s.stResult 116 0xFF verdict sig count code, verdict, sig, count)

/-- The plinth copy of the result record as 32 bytes (R533). (Log: 86 PRESUMED.) -/
def State.stRecBytes (s : State) : List (BitVec 8) := (List.range 8).flatMap (fun w => leBytes 4 (s.get (Reg.ST_REC w)))

/-- Write the result record to the plinth and to flash (R533). -/
def State.stRecord (s : State) (verdict sig count : Nat) (noSkip : Bool) : State :=
  let seq := s.get (Reg.ST_REC 1) + 1
  let body := leBytes 1 1 ++ leBytes 1 verdict ++ leBytes 1 (b2n noSkip) ++ leBytes 1 (s.get Reg.LC_STAT_STATE) ++ leBytes 4 seq
    ++ leBytes 8 s.ns ++ leBytes 4 sig ++ leBytes 4 count ++ leBytes 4 (s.get Reg.ID_FW_VER)
  let bytes := body ++ leBytes 4 (crc32 body)
  let word (w : Nat) : Nat := leNat ((bytes.drop (4 * w)).take 4)
  let s := (List.range 8).foldl (fun s w => s.put (Reg.ST_REC w) (word w)) s
  s.setSt (fun x => { x with flash := (List.range 8).map word })

/-- SHUTDOWN begins: USED is set, every core goes on the bench (R534); it takes the engine over (R539). -/
def State.shutStart (s : State) (fl : Flight) (noSkip : Bool) : State :=
  if s.schState ≠ 0 ∨ s.st.shut.isSome then s.complete fl s.ns 0x1C 2 0
  else
    let s := (s.stStop true).put (Reg.ST_REC 0) (s.get (Reg.ST_REC 0) ||| 2 ^ 17)
    let s := (s.setSt (fun x => { x with shut := some ⟨fl, noSkip⟩, bench := none })).stShow 2 0xFF 0
    (List.range 20).foldl (fun s c => s.benchAsk c) s

/-- SHUTDOWN is over: the engine is free and the cores are restored and returned (R534). -/
def State.shutClose (s : State) : State :=
  let s := (s.setSt (fun x => { x with shut := none })).stShow 0 0 0
  (List.range 20).foldl (fun s c => s.coreReturn c) s

/-- Channels a profile has tested return from TEST (R437, R454). -/
def State.shutChannels (s : State) (l : List Nat) : State :=
  l.foldl (fun s n => if s.aoDriven n then (s.aoGroup n).foldl (fun s k => s.aoOff k) s |>.aoTry n else s) s

/-- SHUTDOWN ends with what it found; `rows` are the SRAM rows, 512 x bank + row, that its region tests found failing or due for
repair (R501, R534). -/
def State.shutEnd (s : State) (res : List TestRes) (rows : List Nat) : State :=
  match s.st.shut with
  | none => s
  | some x =>
    let chans := (List.range 16).filter s.aoBenchable
    let s := rows.foldl (fun s r => if s.bankOn (r / 512) then s.repairRow (r / 512) (r % 512) else s) s
    let (s, verdict, sig, count) := s.profile false (joinRes s.shutTests allUnits res)
    let s := (s.shutChannels chans).stRecord verdict sig count x.noSkip
    (s.shutClose).complete x.fl s.ns 0 verdict 0
/-- SHUTDOWN_COMPLETE (R534). -/
def execShutdownComplete (res : List TestRes) (rows : List (BitVec 15)) (s : State) : Host.Outcome State Fault Refusal :=
  ok (s.shutEnd res (rows.map BitVec.toNat))

/-- RUN = 1 cuts SHUTDOWN short: its record is INCOMPLETE; what its tests had gathered is open (R534, R11). -/
def State.shutCut (s : State) : State :=
  match s.st.shut with
  | none => s
  | some x =>
    let (sig, s) := s.freeWord
    let (n, s) := s.freeNat
    let s := ((s.stResult 116 0xFF 3 sig.toNat n 1).set1 Reg.ST_FLAGS_ABORTED).stRecord 3 sig.toNat n x.noSkip
    (s.shutClose).complete x.fl s.ns 0 3 0

end Sys2Proof.Machine
end

