-- ==== Sys2Proof/Machine/CoreCtl.lean ====
section
/-!
DEFINITION. Interrupt entry, waits, the timer, and debug access to the chisel cores (R250, R271 to R275, R280, R283, R284).
-/
namespace Sys2Proof.Machine

/-- A pending enabled line is accepted at an issue boundary. -/
def State.interrupt (s : State) (c : Nat) : State :=
  if s.chState c = 1 ∧ s.coreClock ∧ (s.core c).canAccept then s.acceptLine c else s
/-- INTERRUPT_ENTRY (R272). -/
def execInterruptEntry (c : Fin 20) (s : State) : Host.Outcome State Fault Refusal := ok (s.interrupt c.val)

/-- The wait ends: the cycles it took are open, below the timer's expiry; the line is accepted, or issue continues.
(Log: 51 DEDUCED.) -/
def State.waitRelease (s : State) (c : Nat) : State :=
  if s.chState c = 2 ∧ s.coreClock ∧ (s.core c).lines ≠ 0 then
    let (n, s) := s.freeNat
    let t := (s.core c).tmr
    let s := (s.cycles c (if t = 0 then n else n % t)).put (Reg.CH_STAT_STATE c) 1
    if (s.core c).canAccept then s.acceptLine c else s
  else s
/-- WAIT_RELEASE (R275). -/
def execWaitRelease (c : Fin 20) (s : State) : Host.Outcome State Fault Refusal := ok (s.waitRelease c.val)

/-- TMR reaches 0 in cycles without an issue: it counts down, raises line 3 and reloads. -/
def State.timerExpiry (s : State) (c : Nat) : State :=
  let st := s.chState c
  if (st = 1 ∨ st = 2 ∨ st = 3) ∧ s.coreClock then s.cycles c (s.core c).tmr else s
/-- TIMER_EXPIRY (R250). -/
def execTimerExpiry (c : Fin 20) (s : State) : Host.Outcome State Fault Refusal := ok (s.timerExpiry c.val)

/-! ### HALT, resume, STEP (R280, R283, R284) -/

/-- One instruction of a core being stepped. -/
def State.stepWord (s : State) (c : Nat) : State :=
  match s.fetch c with
  | .fault code s => s.takeFault c code
  | .ok s w => s.runOne c (coreWord c w)

/-- Issue one instruction, with its delay slot, on a HALTED core; every result lands, and the core is HALTED again unless it
stopped otherwise. (Log: 58 DEDUCED.) -/
def State.stepCore (s : State) (c : Nat) : State :=
  if s.chState c ≠ 3 then s
  else
    let h := s.get (Reg.CH_CTRL_HALT c)
    let s := ((s.put (Reg.CH_STAT_STATE c) 1).put (Reg.CH_CTRL_HALT c) 0).modCore c fun k => { k with passed := some k.pc }
    let s := s.stepWord c
    let s := if s.renders c ∧ (s.core c).slot.isSome then s.stepWord c else s
    let s := s.put (Reg.CH_CTRL_HALT c) h
    if s.renders c then (s.landAll c).put (Reg.CH_STAT_STATE c) 3 else s

/-- A HALTED core resumes; a breakpoint at its PC is passed over once. (Log: 58 DEDUCED.) -/
def State.resumeCore (s : State) (c : Nat) : State :=
  if s.chState c ≠ 3 then s
  else ((s.put (Reg.CH_STAT_STATE c) 1).modCore c fun k => { k with passed := some k.pc }).coreRec c 2

/-- A write of CHn_CTRL; HALT and STEP cut a test of the core short (R284, R539). (Log: 59 DEDUCED.) -/
def State.writeChCtrl (s : State) (c v : Nat) : State :=
  let s := s.put (Reg.CH_CTRL_FAULT_ACT c) (bits v 2 1)
  if !s.debugOpen then s.set1 (Reg.CH_FLAGS_DBG_DENIED c)
  else
    let s := if bit v 0 ∨ bit v 1 then s.stCutCore c else s
    let s := (s.put (Reg.CH_CTRL_BRK_EN c) (bits v 3 1)).put (Reg.CH_CTRL_HALT c) (bits v 0 1)
    let s := if bit v 1 then s.stepCore c else s
    if bit v 0 then (if s.renders c ∧ (s.core c).slot.isNone then s.haltCore c else s) else s.resumeCore c

/-- CORE_HALT: a write of CHn_CTRL with HALT = 1 (R283). -/
def execCoreHalt (c : Fin 20) (v : BitVec 32) (s : State) : Host.Outcome State Fault Refusal :=
  ok (s.writeChCtrl c.val (v.toNat ||| 1))
/-- CORE_RESUME: a write of CHn_CTRL with HALT = 0 (R280). -/
def execCoreResume (c : Fin 20) (v : BitVec 32) (s : State) : Host.Outcome State Fault Refusal :=
  ok (s.writeChCtrl c.val (v.toNat / 2 * 2))
/-- CORE_STEP: a write of CHn_CTRL with STEP = 1, HALT kept (R283). -/
def execCoreStep (c : Fin 20) (v : BitVec 32) (s : State) : Host.Outcome State Fault Refusal :=
  ok (s.writeChCtrl c.val (v.toNat ||| 3))

/-- A write of CHn_BRKm (R282, R284). (Log: 59 DEDUCED.) -/
def State.writeChBrk (s : State) (c m v : Nat) : State :=
  if s.debugOpen then (s.put (Reg.CH_BRK_EN c m) (bits v 0 1)).put (Reg.CH_BRK_PC c m) (bits v 2 14)
  else s.set1 (Reg.CH_FLAGS_DBG_DENIED c)

/-- A write of CHn_DBG_ADDR. -/
def State.writeDbgAddr (s : State) (c v : Nat) : State :=
  if s.debugOpen then
    ((s.put (Reg.CH_DBG_ADDR_OFFSET c) (bits v 0 18)).put (Reg.CH_DBG_ADDR_BANK c) (bits v 26 2)).put (Reg.CH_DBG_ADDR_SPACE c) (bits v 28 4)
  else s.set1 (Reg.CH_FLAGS_DBG_DENIED c)

/-- The space and number that CHn_DBG_ADDR addresses, none where it gives no access. (Log: 59 DEDUCED.) -/
def State.dbgItem (s : State) (c : Nat) : Option (Nat × Nat) :=
  let st := s.chState c
  let sp := s.get (Reg.CH_DBG_ADDR_SPACE c)
  let o := s.get (Reg.CH_DBG_ADDR_OFFSET c)
  let lim := match sp with | 0 => 0x10000 | 1 => 0x20000 | 2 => 32 | 3 => 8 | 4 => 8 | 5 => 0x40000 | _ => 0
  if s.debugOpen ∧ (st = 3 ∨ st = 4) ∧ o < lim then some (sp, o) else none

/-- The item CHn_DBG_DATA reads (R283). -/
def State.dbgRead (s : State) (c : Nat) : Nat :=
  let k := s.core c
  let b := k.bankOf (s.get (Reg.CH_DBG_ADDR_BANK c))
  match s.dbgItem c with
  | some (0, o) => k.imem.nat (o / 4 * 4) 4
  | some (1, o) => k.dmem.nat (o / 4 * 4) 4
  | some (2, o) => (b.g.getD o 0).toNat
  | some (3, o) => (b.a.getD o 0).toNat
  | some (4, o) => (b.acc.getD o 0).toNat % 2 ^ 32
  | some (_, o) => if o < 7 then (b.bs.getD o 0).toNat else s.sysRead c o
  | none => 0

/-- A debug access cuts a test of the core short (R539). -/
def State.dbgCut (s : State) (c : Nat) : State := if s.debugOpen then s.stCutCore c else s
/-- A debug read of IMEM or DMEM corrects a single-bit error of its word (R277). (Log: 64 DEDUCED.) -/
def State.dbgFix (s : State) (c : Nat) : State :=
  match s.dbgItem c with
  | some (0, o) =>
    if (s.core c).imemSoft.contains (o / 4) then (s.coreCe c).modCore c fun k => { k with imemSoft := k.imemSoft.filter (fun w => w != o / 4) }
    else s
  | some (1, o) => s.dmemFix c (o / 4 * 4) 4
  | _ => s
/-- A read of CHn_DBG_DATA. -/
def State.dbgReadOp (s : State) (c : Nat) : State := { (s.dbgCut c).dbgFix c with rdata := (s.dbgCut c).dbgRead c }

/-- DEBUG_DATA_READ (R284). -/
def execDebugDataRead (c : Fin 20) (s : State) : Host.Outcome State Fault Refusal := ok (s.dbgReadOp c.val)

/-- A write of CHn_DBG_DATA: memory words get fresh check bits (R283, R284). (Log: 59 DEDUCED.) -/
def State.dbgWrite (s : State) (c : Nat) (v : BitVec 32) : State :=
  let n := s.get (Reg.CH_DBG_ADDR_BANK c)
  match s.dbgItem c with
  | some (0, o) => s.modCore c fun k => { k with
      imem := k.imem.setNat (o / 4 * 4) 4 v.toNat, imemBad := k.imemBad.filter (fun w => w != o / 4)
      imemSoft := k.imemSoft.filter (fun w => w != o / 4) }
  | some (1, o) => s.modCore c fun k => { k with
      dmem := k.dmem.setNat (o / 4 * 4) 4 v.toNat, dmemBad := k.dmemBad.filter (fun w => w != o / 8)
      dmemSoft := k.dmemSoft.filter (fun w => w != o / 8) }
  | some (2, o) => s.modCore c fun k => k.modBank n fun b => { b with g := b.g.set o v }
  | some (3, o) => s.modCore c fun k => k.modBank n fun b => { b with a := b.a.set o v }
  | some (4, o) => s.modCore c fun k => k.modBank n fun b => { b with acc := b.acc.set o (((b.acc.getD o 0) >>> 32) ++ v |>.setWidth 72) }
  | some (_, o) => s.modCore c fun k =>
      if o < 7 then k.modBank n fun b => { b with bs := b.bs.set o (if o = 0 then b.bs.getD 0 0 &&& (v ||| 1) else v) }
      else if 0x10 ≤ o ∧ o < 0x18 then { k with wmap := k.wmap.set (o - 0x10) (v.toNat &&& 0x8000003F) }
      else match o with
        | 0x09 => { k with ie := v.toNat &&& 0x8000FFFF
                           ip := if bit v.toNat 7 && !bit k.ie 7 && !k.gie then k.ip ||| 0x80 else k.ip }
        | 0x0B => { k with epc := v.toNat }
        | 0x0C => { k with ebank := v.toNat % 4 }
        | 0x0E => { k with vbase := v.toNat / 2048 * 2048 }
        | 0x18 => { k with drb := v.toNat % 8 }
        | 0x19 => { k with tmr := v.toNat, ip := k.ip &&& 0xFFF7 }
        | 0x1A => { k with tmrld := v.toNat }
        | _ => k
  | none => s.set1 (Reg.CH_FLAGS_DBG_DENIED c)

/-- DEBUG_DATA_WRITE (R284). -/
def execDebugDataWrite (c : Fin 20) (v : BitVec 32) (s : State) : Host.Outcome State Fault Refusal := ok ((s.dbgCut c.val).dbgWrite c.val v)

end Sys2Proof.Machine
end

