-- ==== Sys2Proof/Machine/Events.lean ====
section
/-!
DEFINITION. The commands of the event queues (11_event_queues.md).
-/
namespace Sys2Proof.Machine

/-- Where a register write comes from: a PCIe write, or a management frame of a node. -/
abbrev Via := Option (BitVec 12)

/-- Discard what queue `n` holds (R352). (Log: 65 DEDUCED.) -/
def State.qDiscard (s : State) (n : Nat) : State :=
  let q := s.queue n
  let s := s.count Reg.EQ_CNT_DISCARD q.held.length
  let s := q.held.foldl (fun s h => match h.kind with | .completion sq _ _ => s.forget sq | _ => s) s
  s.setQueue n { q with held := [], dropped := 0 }

/-- Queue `n` goes to DISABLED. -/
def State.qDisable (s : State) (n : Nat) : State :=
  let s := s.qDiscard n
  s.setQueue n { s.queue n with on := false, unsig := 0, firstUnsig := none }

/-- The queue lies in its space (R348). -/
def State.qFits (s : State) (n : Nat) : Bool :=
  let base := s.get (Reg.EQ_Q_BASE_LO n) * 64 + 2 ^ 32 * s.get (Reg.EQ_Q_BASE_HI n)
  decide (base + 32 * s.qSize n ≤ (if s.get (Reg.EQ_Q_CFG_LOC n) = 0 then 2 ^ 64 else 0x80000))

/-- Enable queue `n` (R349); the records of a PCIe reset held for it come first (R356). -/
def State.qEnable (s : State) (n : Nat) : State :=
  if (s.queue n).on then s
  else if !s.qFits n then s.set1 (Reg.EQ_Q_STAT_RANGE n)
  else
    let s := (s.put (Reg.EQ_Q_PROD n) 0).put (Reg.EQ_Q_CONS n) 0
    let s := s.setQueue n { on := true, phase := true, seq := 0, held := [], dropped := 0, unsig := 0, firstUnsig := none }
    let hs := (s.pcieHeld.filter (fun e => e.1 == n)).map (fun e => e.2)
    let s := { s with pcieHeld := s.pcieHeld.filter (fun e => e.1 != n), pcieHold := s.pcieHold.filter (fun x => x != n) }
    hs.foldl (fun s h => s.qEnter n h) s

/-- A write of EQ_Qn_CFG (R358). -/
def State.writeEqCfg (s : State) (n v : Nat) : State :=
  let sz := bits v 1 5
  let szOk := decide (4 ≤ sz ∧ sz ≤ 16)
  let sz' := if szOk then sz else s.get (Reg.EQ_Q_CFG_LOG2SIZE n)
  let idle := !(s.queue n).on
  let moves := sz' ≠ s.get (Reg.EQ_Q_CFG_LOG2SIZE n) ∨ bits v 6 1 ≠ s.get (Reg.EQ_Q_CFG_LOC n) ∨ bits v 20 12 ≠ s.get (Reg.EQ_Q_CFG_OWNER n)
  let s := s.put (Reg.EQ_Q_CFG_VECTOR n) (bits v 8 6)
  let s := if idle then ((s.put (Reg.EQ_Q_CFG_LOG2SIZE n) sz').put (Reg.EQ_Q_CFG_LOC n) (bits v 6 1)).put (Reg.EQ_Q_CFG_OWNER n) (bits v 20 12) else s
  let s := if !szOk ∨ (!idle ∧ moves) then s.set1 (Reg.EQ_Q_STAT_CFG_REFUSED n) else s
  let s := s.put (Reg.EQ_Q_CFG_ENABLE n) (bits v 0 1)
  if bit v 0 then s.qEnable n else if idle then s else s.qDisable n

/-- A write of EQ_Qn_BASE_LO or BASE_HI: only while DISABLED (R358). -/
def State.writeEqBase (s : State) (n : Nat) (hi : Bool) (v : Nat) : State :=
  let f := if hi then Reg.EQ_Q_BASE_HI n else Reg.EQ_Q_BASE_LO n
  let x := if hi then v else v / 64
  if !(s.queue n).on then s.put f x else if s.get f = x then s else s.set1 (Reg.EQ_Q_STAT_CFG_REFUSED n)

/-- EQ_ENABLE: a write of EQ_Qn_CFG with ENABLE = 1 (R349). -/
def execEqEnable (n : Fin 8) (v : BitVec 32) (s : State) : Host.Outcome State Fault Refusal := ok (s.writeEqCfg n.val (v.toNat ||| 1))
/-- EQ_DISABLE: a write of EQ_Qn_CFG with ENABLE = 0 (R352). -/
def execEqDisable (n : Fin 8) (v : BitVec 32) (s : State) : Host.Outcome State Fault Refusal := ok (s.writeEqCfg n.val (v.toNat / 2 * 2))

/-- A write of CONS (R350): a value outside the queue, one that passes PROD, or one by another path than the queue takes is
ignored. (Log: 65 DEDUCED.) -/
def State.writeCons (s : State) (n v : Nat) (via : Via) : State :=
  let z := s.qSize n
  let c := s.get (Reg.EQ_Q_CONS n)
  let used := (s.get (Reg.EQ_Q_PROD n) + z - c) % z
  let pathOk := s.get (Reg.EQ_Q_CFG_LOC n) == 0 || via == some (BitVec.ofNat 12 (s.get (Reg.EQ_Q_CFG_OWNER n)))
  if v % 2 ^ 16 < z ∧ (v % 2 ^ 16 + z - c) % z ≤ used ∧ pathOk then s.put (Reg.EQ_Q_CONS n) v
  else s.set1 (Reg.EQ_Q_STAT_BAD_CONS n)

/-- EQ_CONS_WRITE (R350). -/
def execEqConsWrite (n : Fin 8) (v : BitVec 32) (via : Option (BitVec 12)) (s : State) : Host.Outcome State Fault Refusal :=
  ok (s.writeCons n.val v.toNat via)

/-- EQ_DRAIN: held records are written while the queue has room (R351). -/
def execEqDrain (n : Fin 8) (s : State) : Host.Outcome State Fault Refusal := ok (s.drain n.val)

/-- MOD_TIME has passed since the first record not yet signalled; the message waits while the module may make no memory
request (R308). (Log: 153 DEDUCED.) -/
def State.modTimeout (s : State) (n : Nat) : State :=
  match (s.queue n).firstUnsig with
  | some (t, _) => if !s.qBlocked n ∧ t + 1000 * s.get (Reg.EQ_Q_MOD_MOD_TIME n) ≤ s.ns then s.qSignal n else s
  | none => s
/-- MODERATION_TIMEOUT (R354). -/
def execModerationTimeout (n : Fin 8) (s : State) : Host.Outcome State Fault Refusal := ok (s.modTimeout n.val)

/-- An EQ_STATE record of queue `n` on its own source (R355, R356, R359). -/
def State.eqState (s : State) (n reason : Nat) : State := s.event 4 (4 + n / 2) n reason 0

end Sys2Proof.Machine
end

