-- ==== Sys2Proof/Machine/HostOps.lean ====
section
/-!
DEFINITION. Rings: their registers, states and headers (R309 to R315, R341).
-/
namespace Sys2Proof.Machine

/-- STATE of ring `n` (R311): 0 DISABLED, 1 CHECKING, 2 RUNNING, 3 HELD, 4 REFUSED, 5 ERROR. -/
def State.ringState (s : State) (n : Nat) : Nat := s.get (Reg.HI_RING_STAT_STATE n)
/-- BASE of ring `n`. -/
def State.ringBase (s : State) (n : Nat) : Nat := s.get (Reg.HI_RING_BASE_LO n) * 64 + 2 ^ 32 * s.get (Reg.HI_RING_BASE_HI n)
/-- Entries of ring `n`. -/
def State.ringSize (s : State) (n : Nat) : Nat := 2 ^ s.get (Reg.HI_RING_CFG_LOG2SIZE n)
/-- Ring `n` lies in host memory. -/
def State.ringHost (s : State) (n : Nat) : Bool := s.get (Reg.HI_RING_CFG_LOC n) == 0
/-- Ring `n` may move: its STATE is DISABLED, REFUSED or ERROR (R311). -/
def State.ringIdle (s : State) (n : Nat) : Bool := s.ringState n == 0 || s.ringState n == 4 || s.ringState n == 5

/-- The module writes its bytes 6 to 11 of the header (R312, R313); none while it may make no memory request (R308).
(Log: 95 DEDUCED.) -/
def State.ringHeader (s : State) (n : Nat) : State :=
  let b := leBytes 1 (s.get (Reg.HI_RING_STAT_VER n)) ++ leBytes 1 (s.ringState n) ++ leBytes 2 (s.get (Reg.HI_RING_HEAD n))
    ++ leBytes 2 (s.get (Reg.HI_RING_STAT_GEN n))
  if s.ringHost n then (if s.hostBlocked then s else s.emit (.hostWrite (s.ringBase n + 6) b))
  else s.exchWrite (s.ringBase n + 6) b

/-- Ring `n` changes state (R313). -/
def State.setRing (s : State) (n st : Nat) : State := (s.put (Reg.HI_RING_STAT_STATE n) st).ringHeader n

/-- A RING_STATE record (R345). -/
def State.ringRec (s : State) (n reason : Nat) : State :=
  s.event 2 (n / 4) n reason (pay 16 (s.ringState n) + pay 18 (s.get (Reg.HI_RING_STAT_GEN n)))

/-- Forget the descriptor ring `n` is held at: it is not yet accepted. (Log: 96 DEDUCED.) -/
def State.unhold (s : State) (n : Nat) : State :=
  { s with hi := { s.hi with heldDesc := Tbl.put none s.hi.heldDesc n none, heldData := Tbl.put [] s.hi.heldData n [], fenceAt := Tbl.put none s.hi.fenceAt n none } }

/-- The descriptor ring `n` is held at (R320, R334, R339). -/
def State.heldAt (s : State) (n : Nat) : Option Nat := Tbl.get none s.hi.heldDesc n

/-- A command of ring `n` is accepted: its number, TAG and QUIET (R318), counted (R344). (Log: 67 DEDUCED.) -/
def State.newFlight (s : State) (n d : Nat) : Flight × State :=
  let fl : Flight := ⟨s.hi.nextSeq, n, s.get (Reg.HI_RING_STAT_GEN n), bits d 0 8, bits d 16 16, bit d 8⟩
  (fl, ({ s with hi := { s.hi with nextSeq := s.hi.nextSeq + 1, flights := s.hi.flights ++ [fl] } }).count Reg.HI_CNT_ACCEPT 1)

/-- RUNNING and HELD follow what blocks the ring's fetch (R313). -/
def State.settle (s : State) (n : Nat) : State :=
  let st := s.ringState n
  if st = 2 ∨ st = 3 then
    let st' := if (s.ringHost n && s.hostBlocked) || (s.heldAt n).isSome then 3 else 2
    if st = st' then s else s.setRing n st'
  else s

/-- Ring `n` goes to DISABLED with a REASON; GEN is incremented (R313). (Log: 96 DEDUCED.) -/
def State.ringOff (s : State) (n reason : Nat) : State :=
  if s.ringState n = 0 then s
  else
    let s := ((s.unhold n).put (Reg.HI_RING_STAT_REASON n) reason).put (Reg.HI_RING_STAT_VER n) 0
    (s.count (Reg.HI_RING_STAT_GEN n) 1).setRing n 0

/-- Ring `n` goes to CHECKING: HEAD and TAIL are 0 (R313). -/
def State.ringCheck (s : State) (n : Nat) : State :=
  let s := ((s.put (Reg.HI_RING_HEAD n) 0).put (Reg.HI_RING_TAIL n) 0).put (Reg.HI_RING_STAT_REASON n) 0
  (s.put (Reg.HI_RING_STAT_VER n) 0).setRing n 1

/-- A write of HI_RINGn_CFG (R311, R313). -/
def State.writeRingCfg (s : State) (n v : Nat) : State :=
  let sz := bits v 1 5
  let szOk := decide (4 ≤ sz ∧ sz ≤ 16)
  let sz' := if szOk then sz else s.get (Reg.HI_RING_CFG_LOG2SIZE n)
  let idle := s.ringIdle n
  let moves := sz' ≠ s.get (Reg.HI_RING_CFG_LOG2SIZE n) ∨ bits v 6 1 ≠ s.get (Reg.HI_RING_CFG_LOC n)
    ∨ bits v 20 12 ≠ s.get (Reg.HI_RING_CFG_OWNER n)
  let s := (s.put (Reg.HI_RING_CFG_CQ n) (bits v 7 3)).put (Reg.HI_RING_CFG_PRIO n) (bits v 10 2)
  let s := if idle then ((s.put (Reg.HI_RING_CFG_LOG2SIZE n) sz').put (Reg.HI_RING_CFG_LOC n) (bits v 6 1)).put
    (Reg.HI_RING_CFG_OWNER n) (bits v 20 12) else s
  let s := if !szOk ∨ (!idle ∧ moves) then s.set1 Reg.HI_FLAGS_CFG_REFUSED else s
  let s := s.put (Reg.HI_RING_CFG_ENABLE n) (bits v 0 1)
  if bit v 0 then (if idle then s.ringCheck n else s) else s.ringOff n 0

/-- A write of HI_RINGn_BASE_LO or BASE_HI (R311). -/
def State.writeRingBase (s : State) (n : Nat) (hi : Bool) (v : Nat) : State :=
  let f := if hi then Reg.HI_RING_BASE_HI n else Reg.HI_RING_BASE_LO n
  let x := if hi then v else v / 64
  if s.ringIdle n then s.put f x else if s.get f = x then s else s.set1 Reg.HI_FLAGS_CFG_REFUSED

/-- RING_ENABLE: a write of HI_RINGn_CFG with ENABLE = 1 (R313). -/
def execRingEnable (n : Fin 16) (v : BitVec 32) (s : State) : Host.Outcome State Fault Refusal :=
  ok (s.writeRingCfg n.val (v.toNat ||| 1))
/-- RING_DISABLE: a write of HI_RINGn_CFG with ENABLE = 0 (R313). -/
def execRingDisable (n : Fin 16) (v : BitVec 32) (s : State) : Host.Outcome State Fault Refusal :=
  ok (s.writeRingCfg n.val (v.toNat / 2 * 2))

/-- Ring `n` is REFUSED for a REASON (R313, R345). (Log: 95 DEDUCED.) -/
def State.ringRefuse (s : State) (n reason : Nat) : State :=
  let s := ((s.put (Reg.HI_RING_STAT_REASON n) reason).put (Reg.HI_RING_STAT_VER n) 0).setRing n 4
  s.ringRec n reason

/-- The check of a header (R313, R314); none = it was not read within 10 µs. A fabric-hosted ring's header is read in the
exchange region. (Log: 95 DEDUCED.) -/
def State.ringVerify (s : State) (n : Nat) (hdr : Option Nat) : State :=
  if s.ringState n ≠ 1 then s
  else
    let hdr := if s.ringHost n then (if s.hostBlocked then none else hdr) else some (leNat (s.exchRead (s.ringBase n) 64))
    match hdr with
    | none => s.ringRefuse n 4
    | some h =>
      let lo := max (bits h 32 8) (s.get Reg.ID_IFVER_RING_MIN)
      let hi := min (bits h 40 8) (s.get Reg.ID_IFVER_RING_MAX)
      if bits h 0 32 ≠ 0x474E4952 then s.ringRefuse n 1
      else if hi < lo then s.ringRefuse n 2
      else if (if s.ringHost n then 2 ^ 64 else 0x80000) < s.ringBase n + 64 + 64 * s.ringSize n then s.ringRefuse n 3
      else (s.put (Reg.HI_RING_STAT_VER n) hi).setRing n 2 |>.settle n

/-- RING_CHECK: the header is read, or is not within 10 µs (R313). -/
def execRingCheck (n : Fin 16) (hdr : Option (BitVec 512)) (s : State) : Host.Outcome State Fault Refusal :=
  ok (s.ringVerify n.val (hdr.map BitVec.toNat))

/-- A write of HI_DBn by a path (R315). -/
def State.doorbell (s : State) (n v : Nat) (via : Via) : State :=
  let pathOk := if s.ringHost n then via == none else via == some (BitVec.ofNat 12 (s.get (Reg.HI_RING_CFG_OWNER n)))
  if v % 2 ^ 16 < s.ringSize n ∧ !s.ringIdle n ∧ pathOk then s.put (Reg.HI_RING_TAIL n) v
  else s.set1 Reg.HI_FLAGS_BAD_DOORBELL

/-- DOORBELL (R315). -/
def execDoorbell (n : Fin 16) (v : BitVec 32) (via : Option (BitVec 12)) (s : State) : Host.Outcome State Fault Refusal :=
  ok (s.doorbell n.val v.toNat via)

/-- A node is lost or has rebooted: the rings and queues it owns are disabled (R341, R355). -/
def State.ownerLost (s : State) (a : Nat) : State :=
  let s := (List.range 16).foldl (fun s n =>
    if !s.ringHost n && s.get (Reg.HI_RING_CFG_OWNER n) == a && s.ringState n != 0 then
      ((s.ringOff n 5).set1 Reg.HI_FLAGS_OWNER_LOST).ringRec n 5
    else s) s
  (List.range 8).foldl (fun s n =>
    if s.get (Reg.EQ_Q_CFG_LOC n) == 1 && s.get (Reg.EQ_Q_CFG_OWNER n) == a && (s.queue n).on then (s.qDisable n).eqState n 2
    else s) s

end Sys2Proof.Machine
end

