-- ==== Sys2Proof/Machine/Fabric.lean ====
section
/-!
DEFINITION. The commands of the links and the switch (12_elvlink_links.md), but the management requests.
-/
namespace Sys2Proof.Machine

/-! ### Link training (R362, R363) -/

/-- PORT_ENABLE: a write of FPn_CTRL with EN = 1 (R363). -/
def execPortEnable (p : Fin 4) (v : BitVec 32) (s : State) : Host.Outcome State Fault Refusal := ok (s.writeFpCtrl p.val (v.toNat ||| 1))
/-- PORT_DISABLE: a write of FPn_CTRL with EN = 0 (R363). -/
def execPortDisable (p : Fin 4) (v : BitVec 32) (s : State) : Host.Outcome State Fault Refusal := ok (s.writeFpCtrl p.val (v.toNat / 2 * 2))
/-- RETRAIN: a write of FPn_CTRL with RETRAIN = 1 (R398). -/
def execRetrain (p : Fin 4) (v : BitVec 32) (s : State) : Host.Outcome State Fault Refusal := ok (s.writeFpCtrl p.val (v.toNat ||| 2))

/-- LSTATE of port `p`. -/
def State.lstate (s : State) (p : Nat) : Nat := s.get (Reg.FP_STAT_LSTATE p)

/-- Transitions for 10 µs (R363). -/
def State.signalOn (s : State) (p : Nat) : State :=
  if s.lstate p = 1 then (s.set1 (Reg.FP_STAT_SIGNAL p)).put (Reg.FP_STAT_LSTATE p) 2 else s
/-- SIGNAL_DETECTED (R363). -/
def execSignalDetected (p : Fin 4) (s : State) : Host.Outcome State Fault Refusal := ok (s.signalOn p.val)

/-- 128 consecutive valid symbols (R363). -/
def State.aligned (s : State) (p : Nat) : State := if s.lstate p = 2 then s.put (Reg.FP_STAT_LSTATE p) 3 else s
/-- COMMA_ALIGNED (R363). -/
def execCommaAligned (p : Fin 4) (s : State) : Host.Outcome State Fault Refusal := ok (s.aligned p.val)

/-- The equaliser has adapted, or its fixed setting is applied: the step in use is the line's (R363). The port stays out of
HELLO until the boot generation is loaded (R364). (Log: 110 DEDUCED.) -/
def State.equalised (s : State) (p step : Nat) : State :=
  if s.lstate p = 3 ∧ s.sw.genLoaded then
    ((s.put (Reg.FP_STAT_LSTATE p) 4).put (Reg.FP_EQ_STAT p) step).setPort p { s.port p with hellos := 0, hbuf := [] }
  else s
/-- EQUALISATION_DONE (R363, R364). -/
def execEqualisationDone (p : Fin 4) (step : Fin 16) (s : State) : Host.Outcome State Fault Refusal := ok (s.equalised p.val step.val)

/-- Not UP within 20 ms of leaving DETECT (R363). (Log: 110 DEDUCED.) -/
def State.trainFail (s : State) (p : Nat) : State :=
  if 2 ≤ s.lstate p ∧ s.lstate p ≤ 4 then ((s.set1 (Reg.FP_FLAGS_TRAIN_FAIL p)).linkRec p 4).linkDown p 1 else s
/-- TRAIN_FAIL (R363). -/
def execTrainFail (p : Fin 4) (s : State) : Host.Outcome State Fault Refusal := ok (s.trainFail p.val)

/-- No transitions for 1 µs (R362). -/
def State.los (s : State) (p : Nat) : State :=
  if s.lstate p = 0 then s
  else
    let s' := (s.set1 (Reg.FP_FLAGS_LOS p)).put (Reg.FP_STAT_SIGNAL p) 0
    if 2 ≤ s.lstate p then (s'.linkRec p 3).linkDown p 1 else s'
/-- LOSS_OF_SIGNAL (R362). -/
def execLossOfSignal (p : Fin 4) (s : State) : Host.Outcome State Fault Refusal := ok (s.los p.val)

/-- `n` code and disparity errors within 1 ms (R362): each is counted; 16 or more take the link down. (Log: 110 DEDUCED.) -/
def State.codeErrors (s : State) (p n : Nat) : State :=
  if s.lstate p < 2 then s
  else
    let s := (s.count (Reg.FP_CNT_CODE p) n).summary (17 + 4 * p) 1 n
    if n < 16 then s else (s.set1 (Reg.FP_FLAGS_CODE_ERR p)).linkDown p 1
/-- CODE_ERROR_LIMIT (R362). -/
def execCodeErrorLimit (p : Fin 4) (n : BitVec 16) (s : State) : Host.Outcome State Fault Refusal := ok (s.codeErrors p.val n.toNat)

/-! ### Hellos (R365, R367, R374) -/

/-- The oldest hello in the control buffer is handled (R365). -/
def State.takeHello (s : State) (p : Nat) : State :=
  match (s.port p).hbuf with
  | [] => s
  | b :: l => (s.setPort p { s.port p with hbuf := l }).hello p (parseHello b)
/-- HELLO_RECEIVED (R365). -/
def execHelloReceived (p : Fin 4) (s : State) : Host.Outcome State Fault Refusal := ok (s.takeHello p.val)

/-- A hello is due on port `p`: it is sent by R384. (Log: 111 DEDUCED.) -/
def State.sendHello (s : State) (p : Nat) : State :=
  if 4 ≤ s.lstate p then s.sendLocal p 0 0 (s.helloBytes p) else s
/-- HELLO_SEND (R365, R367). -/
def execHelloSend (p : Fin 4) (s : State) : Host.Outcome State Fault Refusal := ok (s.sendHello p.val)

/-- No hello for HELLO_MISS ms on an UP port (R367). -/
def State.helloTimeout (s : State) (p : Nat) : State :=
  if s.isUp p then ((s.set1 (Reg.FP_FLAGS_HELLO_TIMEOUT p)).linkRec p 6).linkDown p 1 else s
/-- HELLO_TIMEOUT (R367). -/
def execHelloTimeout (p : Fin 4) (s : State) : Host.Outcome State Fault Refusal := ok (s.helloTimeout p.val)

/-- HELLO_MISS ms have passed without a vector the module can take (R374). -/
def State.offerRoot (s : State) : State :=
  if !s.on Reg.FSW_STAT_ROOT_VALID && s.vectors.isEmpty && s.on Reg.FSW_CTRL_EN then (s.setSw (fun w => { w with held := false })).elect
  else s
/-- ROOT_CANDIDATE_OFFER (R374). -/
def execRootCandidateOffer (s : State) : Host.Outcome State Fault Refusal := ok s.offerRoot

/-! ### Frames and credits (R370 to R388) -/

/-- FRAME_ARRIVAL: a frame with the results of its two checks and how it ended (R370 to R372, R382). -/
def execFrameArrival (p : Fin 4) (f : Frame) (hcrc crc aborted : Bool) (s : State) : Host.Outcome State Fault Refusal :=
  ok (s.arrive p.val f hcrc crc aborted)

/-- FRAME_TRANSMIT: the next frame of a port is sent (R383 to R385); a FABRIC_SEND completes when its frame leaves (R337). -/
def execFrameTransmit (p : Fin 4) (s : State) : Host.Outcome State Fault Refusal :=
  ok (s.transmit p.val (fun s fl => s.complete fl s.ns 0 0 0))

/-- A CREDIT set of class `c` (R386). -/
def State.creditIn (s : State) (p c n : Nat) : State :=
  if s.isUp p then (s.setPort p { s.port p with got := (s.port p).got.set c n }).showCred p c else s
/-- CREDIT_RECEIVED (R386). -/
def execCreditReceived (p : Fin 4) (c : Fin 4) (n : BitVec 16) (s : State) : Host.Outcome State Fault Refusal := ok (s.creditIn p.val c.val n.toNat)

/-- The count of units freed is sent (R386). -/
def State.creditOut (s : State) (p c : Nat) : State :=
  if s.isUp p then s.emit (.credit p c ((s.port p).freed.getD c 0)) else s
/-- CREDIT_SEND (R386). -/
def execCreditSend (p : Fin 4) (c : Fin 4) (s : State) : Host.Outcome State Fault Refusal := ok (s.creditOut p.val c.val)

/-- A class with a frame waiting has received no CREDIT for 10 ms (R388). -/
def State.creditTimeout (s : State) (p c : Nat) : State :=
  if s.isUp p && s.sw.buf.any (fun b => b.out.contains p && b.f.tc.toNat == c && b.f.kind != 0) then
    ((s.set1 (Reg.FP_FLAGS_CREDIT_TIMEOUT p)).summary (17 + 4 * p) 3 1).linkDown p 1
  else s
/-- CREDIT_TIMEOUT (R388). -/
def execCreditTimeout (p : Fin 4) (c : Fin 4) (s : State) : Host.Outcome State Fault Refusal := ok (s.creditTimeout p.val c.val)

/-! ### TOPO, announcements, nodes (R376, R378, R380, R382) -/

/-- Does a frame have a KIND and no source route? -/
def kindIs (k : Nat) (f : Frame) : Bool := f.kind.toNat == k

/-- A TOPO frame received (R376). -/
def State.topoIn (s : State) (p : Nat) : State :=
  match s.takeRx p (kindIs 2) with
  | some (_, s) => s.topoAct
  | none => s
/-- TOPO_RECEIVED (R376): port 4 stands for a frame whose port has gone down since it arrived. -/
def execTopoReceived (p : Fin 5) (s : State) : Host.Outcome State Fault Refusal := ok (s.topoIn p.val)

/-- The module announces itself when it is due: every 100 ms, and after a TOPO frame (R376, R378). -/
def State.announce (s : State) : State :=
  match s.addr with
  | none => s
  | some _ =>
    if s.sw.annDue.any (fun t => s.ns < t) then s
    else
    let s := s.setSw (fun w => { w with annDue := some (s.ns + 100000000) })
    s.sendAll 1 1 (leBytes 8 s.uid ++ leBytes 2 (s.get Reg.FSW_BOOTGEN) ++ leBytes 2 s.addrWord ++ leBytes 2 s.caps)
/-- ANNOUNCE_SEND (R378). -/
def execAnnounceSend (s : State) : Host.Outcome State Fault Refusal := ok s.announce

/-- A peer is lost or has rebooted: rings, queues and services tied to it end (R341, R355, R426). (Log: 115 DEDUCED.) -/
def State.peerGone (s : State) (a : Nat) : State := (s.ownerLost a).peerServices a

/-- The module gives up its address, which another module with a lower UID announces (R380). (Log: 113 DEDUCED.) -/
def State.addrConflict (s : State) (uid a : Nat) : State :=
  if s.addr = some a ∧ uid < s.uid ∧ !s.on Reg.FSW_STAT_ROOT then
    (s.put Reg.FSW_STAT_ADDR_VALID 0).set1 Reg.FSW_FLAGS_ADDR_CONFLICT
  else s

/-- The root keeps the binding of a module it hears (R379). -/
def State.bindHeard (s : State) (uid a : Nat) : State :=
  if s.on Reg.FSW_STAT_ROOT then
    let b := s.sw.binds.filter (fun b => b.1 != uid)
    match s.sw.binds.find? (fun b => b.1 == uid) with
    | some x => s.setSw (fun w => { w with binds := b ++ [(uid, x.2.1, none)] })
    | none => if s.sw.binds.any (fun b => b.2.1 == a) then s else s.setSw (fun w => { w with binds := b ++ [(uid, a, none)] })
  else s

/-- An announcement from port `p` of a UID, boot generation and address (R380, R382). (Log: 115 DEDUCED.) -/
def State.heard (s : State) (p uid bg a : Nat) : State :=
  let s := s.addrConflict uid a
  let s := s.bindHeard uid a
  let n : Node := ⟨a, uid, bg, s.ns⟩
  let old := s.sw.nodes.find? (fun x => x.uid == uid && x.addr == a)
  let last := (s.sw.nodes.filter (fun x => x.uid == uid)).getLast?
  let s := s.setSw (fun w => { w with nodes := w.nodes.filter (fun x => !(x.uid == uid && x.addr == a)) ++ [n] })
  let s := if p < 4 ∧ s.addr ≠ some a then s.learn a p else s
  let s := s.put (Reg.FSW_FWD_BOOTGEN a) bg
  let s := if old.isNone then s.nodeRec n 1 else s
  match last with
  | some x => if x.bootgen = bg then s else (s.nodeRec n 3).peerGone x.addr
  | none => s

/-- An ANNOUNCE frame is taken. -/
def State.announceIn (s : State) (p : Nat) : State :=
  match s.takeRx p (kindIs 1) with
  | some (f, s) =>
    let w := pfield f.payload 10 2
    if bit w 15 then s.heard p (pfield f.payload 0 8) (pfield f.payload 8 2) (w % 4096) else s
  | none => s
/-- ANNOUNCE_RECEIVED (R380). -/
def execAnnounceReceived (p : Fin 5) (s : State) : Host.Outcome State Fault Refusal := ok (s.announceIn p.val)

/-- No announcement from an address for 350 ms (R380). -/
def State.nodeTimeout (s : State) (a : Nat) : State :=
  match s.sw.nodes.find? (fun n => n.addr == a) with
  | none => s
  | some n =>
    if s.sw.nodes.any (fun x => x.addr == a && decide (s.ns < x.seen + 350000000)) then s
    else
    let s := if s.on (Reg.FSW_FWD_STATIC a) then s else s.put (Reg.FSW_FWD_DIR a) 0
    let s := s.setSw (fun w => { w with
      nodes := w.nodes.filter (fun x => x.addr != a)
      binds := w.binds.map (fun b => if b.2.1 = a ∧ b.1 ≠ s.uid then (b.1, a, some s.ns) else b) })
    (s.nodeRec n 2).peerGone a
/-- NODE_TIMEOUT (R380). -/
def execNodeTimeout (a : BitVec 12) (s : State) : Host.Outcome State Fault Refusal := ok (s.nodeTimeout a.toNat)

/-- An entry set to FLOOD is not learned again within 350 ms (R382). -/
def State.floodExpiry (s : State) (a : Nat) : State :=
  if s.get (Reg.FSW_FWD_DIR a) = 6 ∧ !s.on (Reg.FSW_FWD_STATIC a) then s.put (Reg.FSW_FWD_DIR a) 0 else s
/-- FLOOD_EXPIRY (R382). -/
def execFloodExpiry (a : BitVec 12) (s : State) : Host.Outcome State Fault Refusal := ok (s.floodExpiry a.toNat)

/-! ### Addresses (R379) -/

/-- A module without an address asks the root; the root applies the rules to itself (R379). -/
def State.askAddr (s : State) : State :=
  if s.addr.isSome ∨ !s.on Reg.FSW_STAT_ROOT_VALID then s
  else if s.on Reg.FSW_STAT_ROOT then (if s.sw.bindReady then s.grant s.uid s.ownPref else s)
  else
    let pref := s.get Reg.FSW_ADDR_PREF_ADDR + 32768 * s.get Reg.FSW_ADDR_PREF_VALID
    let a := s.get Reg.FSW_ROOT_INFO_ADDR
    match s.route a 4 with
    | none => s
    | some ps => s.queueFrame ps { s.mkFrame 1 3 a (leBytes 8 s.uid ++ leBytes 2 pref) with noaddr := true, src := 0 } false none
/-- ADDR_REQUEST_SEND (R379). -/
def execAddrRequestSend (s : State) : Host.Outcome State Fault Refusal := ok s.askAddr

/-- A request reaches this module: a root whose binding table is ready grants (R379). (Log: 114 DEDUCED.) -/
def State.addrAsked (s : State) (p : Nat) : State :=
  match s.takeRx p (fun f => kindIs 3 f && !f.bcast) with
  | some (f, s) =>
    if s.on Reg.FSW_STAT_ROOT ∧ s.sw.bindReady then
      let w := pfield f.payload 8 2
      s.grant (pfield f.payload 0 8) (if bit w 15 then some (w % 4096) else none)
    else s
  | none => s
/-- ADDR_REQUEST_RECEIVED (R379). -/
def execAddrRequestReceived (p : Fin 5) (s : State) : Host.Outcome State Fault Refusal := ok (s.addrAsked p.val)

/-- A grant: only the module with that UID takes it (R379). (Log: 114 DEDUCED.) -/
def State.addrGranted (s : State) (p : Nat) : State :=
  match s.takeRx p (fun f => kindIs 3 f && f.bcast) with
  | some (f, s) =>
    let a := pfield f.payload 8 2 % 4096
    if pfield f.payload 0 8 = s.uid ∧ s.addr ≠ some a then s.takeAddr a else s
  | none => s
/-- ADDR_GRANT_RECEIVED (R379). -/
def execAddrGrantReceived (p : Fin 5) (s : State) : Host.Outcome State Fault Refusal := ok (s.addrGranted p.val)

/-- No grant within 1 s (R379). -/
def State.addrFail (s : State) : State := if s.addr.isNone then s.set1 Reg.FSW_FLAGS_ADDR_FAIL else s
/-- ADDR_FAIL (R379). -/
def execAddrFail (s : State) : Host.Outcome State Fault Refusal := ok s.addrFail

/-- A new root has listened for 300 ms (R379). -/
def State.bindingReady (s : State) : State := if s.on Reg.FSW_STAT_ROOT then s.setSw (fun w => { w with bindReady := true }) else s
/-- BINDING_TABLE_READY (R379). -/
def execBindingTableReady (s : State) : Host.Outcome State Fault Refusal := ok s.bindingReady

/-- A binding whose module has been lost for 10 s goes (R379). -/
def State.bindingExpiry (s : State) (a : Nat) : State :=
  s.setSw (fun w => { w with binds := w.binds.filter (fun b => !(b.2.1 == a && (match b.2.2 with
    | some t => decide (t + 10000000000 ≤ s.ns)
    | none => false))) })
/-- BINDING_EXPIRY (R379). -/
def execBindingExpiry (a : BitVec 12) (s : State) : Host.Outcome State Fault Refusal := ok (s.bindingExpiry a.toNat)

/-! ### Mailboxes (R391) -/

/-- Where the operation block of a management frame starts (R389). -/
def opBlock (payload : List (BitVec 8)) : Nat := 4 * ((2 + (pfield payload 0 2 + 3) / 4 + 3) / 4)

/-- Send a source-routed frame of this module: its switch takes route position 0 (R381). (Log: 115 DEDUCED.) -/
def State.sendRouted (s : State) (payload : List (BitVec 8)) : State :=
  let f := { s.mkFrame 3 4 0 payload with srcrt := true }
  if pfield payload 0 2 = 0 then s.setSw (fun w => { w with buf := w.buf ++ [⟨4, f, [], true, s.ns, none⟩] })
  else
    let q := routePort payload 0
    if s.isUp q then s.queueFrame [q] { f with hop := 1 } false none else s.dropRoute

/-- A write of FSW_MBXm_CTRL (R391). -/
def State.writeMbx (s : State) (m v : Nat) : State :=
  if !bit v 31 then s
  else if s.get (Reg.FSW_MBX_STAT_STATE m) = 1 then s.set1 Reg.FSW_FLAGS_MBX_BUSY
  else
    let b := s.exchRead (64 * s.get (Reg.FSW_MBX_OFS m)) (bits v 0 11)
    let s := s.setSw (fun w => { w with mbxTag := Tbl.put none w.mbxTag m (some (pfield b (opBlock b + 2) 2)) })
    (s.put (Reg.FSW_MBX_STAT_STATE m) 1).sendRouted b
/-- MAILBOX_GO: a write of FSW_MBXm_CTRL (R391). -/
def execMailboxGo (m : Fin 4) (v : BitVec 32) (s : State) : Host.Outcome State Fault Refusal := ok (s.writeMbx m.val (v.toNat ||| 2 ^ 31))

/-- A management reply reaches this module (R391). -/
def State.mgmtReply (s : State) (p : Nat) : State :=
  match s.takeRx p (fun f => kindIs 4 f && frameIsReply f) with
  | some (f, s) =>
    let tag := pfield f.payload (opBlock f.payload + 2) 2
    match (List.range 4).find? (fun m => s.get (Reg.FSW_MBX_STAT_STATE m) == 1 && Tbl.get none s.sw.mbxTag m == some tag) with
    | some m =>
      let s := s.exchWrite (64 * s.get (Reg.FSW_MBX_OFS m)) f.payload
      let s := s.setSw (fun w => { w with mbxTag := Tbl.put none w.mbxTag m none })
      ((s.put (Reg.FSW_MBX_STAT_STATE m) 2).put (Reg.FSW_MBX_STAT_STATUS m) (pfield f.payload (opBlock f.payload + 1) 1)).put
        (Reg.FSW_MBX_STAT_LEN m) f.payload.length
    | none => (s.count Reg.FSW_CNT_STALE 1).set1 Reg.FSW_FLAGS_STALE
  | none => s
/-- MGMT_REPLY_RECEIVED (R391). -/
def execMgmtReplyReceived (p : Fin 5) (s : State) : Host.Outcome State Fault Refusal := ok (s.mgmtReply p.val)

/-- No reply within REQ_TMO (R391). -/
def State.mbxTimeout (s : State) (m : Nat) : State :=
  if s.get (Reg.FSW_MBX_STAT_STATE m) = 1 then
    (s.setSw (fun w => { w with mbxTag := Tbl.put none w.mbxTag m none })).put (Reg.FSW_MBX_STAT_STATE m) 3
  else s
/-- MAILBOX_TIMEOUT (R391). -/
def execMailboxTimeout (m : Fin 4) (s : State) : Host.Outcome State Fault Refusal := ok (s.mbxTimeout m.val)

/-! ### User frames and notifications (R392, R393) -/

/-- A USER_FRAME record. -/
def State.userRec (s : State) (f : Frame) (reason ofs : Nat) : State :=
  s.event 0x1D 37 f.tc.toNat reason (pay 16 f.src.toNat + pay 18 f.payload.length + pay 20 ofs)

/-- A frame goes into the user receive ring, or is dropped (R392). -/
def State.userIn (s : State) (f : Frame) : State :=
  let cnt := s.get Reg.FSW_URX_CFG_COUNT
  let prod := s.get Reg.FSW_URX_PROD
  if cnt = 0 ∨ (prod + 1) % cnt = s.get Reg.FSW_URX_CONS % cnt then
    ((s.set1 Reg.FSW_FLAGS_URX_DROP).count Reg.FSW_CNT_URXDROP 1).userRec f 2 0
  else
    let ofs := 2048 * (s.get Reg.FSW_URX_BASE + prod)
    let s := s.exchWrite ofs (leBytes 2 f.src.toNat ++ leBytes 2 f.payload.length ++ leBytes 1 f.kind.toNat ++ leBytes 1 f.tc.toNat
      ++ leBytes 10 0 ++ f.payload)
    (s.put Reg.FSW_URX_PROD ((prod + 1) % cnt)).userRec f 1 ofs

/-- A frame of a KIND goes into the ring. (Log: 116 DEDUCED.) -/
def State.userTake (s : State) (p k : Nat) : State :=
  match s.takeRx p (kindIs k) with
  | some (f, s) => s.userIn f
  | none => s
/-- USER_FRAME_RECEIVED (R392). -/
def execUserFrameReceived (p : Fin 5) (s : State) : Host.Outcome State Fault Refusal := ok (s.userTake p.val 5)
/-- NOTIFY_RECEIVED (R393). -/
def execNotifyReceived (p : Fin 5) (s : State) : Host.Outcome State Fault Refusal := ok (s.userTake p.val 6)

/-- A write of FSW_URX_CFG (R395): a COUNT above 128 keeps the old value. (Log: 116 DEDUCED.) -/
def State.writeUrxCfg (s : State) (v : Nat) : State := if bits v 0 8 ≤ 128 then s.put Reg.FSW_URX_CFG_COUNT v else s
/-- A write of FSW_URX_CONS (R395): a value of COUNT or more, or one that passes PROD, is ignored. -/
def State.writeUrxCons (s : State) (v : Nat) : State :=
  let cnt := s.get Reg.FSW_URX_CFG_COUNT
  let c := s.get Reg.FSW_URX_CONS
  let x := bits v 0 8
  if x < cnt ∧ (x + cnt - c % cnt) % cnt ≤ (s.get Reg.FSW_URX_PROD + cnt - c % cnt) % cnt then s.put Reg.FSW_URX_CONS x else s

/-- A write of FSW_FWDa (R382, R396). -/
def State.writeFwd (s : State) (a v : Nat) : State :=
  if bit v 3 then (s.put (Reg.FSW_FWD_DIR a) (bits v 0 3)).set1 (Reg.FSW_FWD_STATIC a)
  else (s.put (Reg.FSW_FWD_DIR a) 0).put (Reg.FSW_FWD_STATIC a) 0
/-- FORWARDING_ENTRY_WRITE (R396). -/
def execForwardingEntryWrite (a : BitVec 12) (v : BitVec 32) (s : State) : Host.Outcome State Fault Refusal := ok (s.writeFwd a.toNat v.toNat)

/-! ### The bypass relay (R394) -/

/-- Domain `d` is powered. (Log: 138 DEDUCED.) -/
def State.domOn (s : State) (d : Nat) : Bool := bit (s.get Reg.PWR_DOM_STAT) d

/-- What BYPASS_EN needs (R394). -/
def State.bypassOk (s : State) : Bool :=
  s.domOn 3 && s.domOn 4 && s.domOn 5 && bit (s.get Reg.PWR_CLK_STAT_PLL) 3 && s.sw.genLoaded && s.on Reg.FSW_CTRL_EN
    && s.on (Reg.FP_CTRL_EN 0) && s.on (Reg.FP_CTRL_EN 1)
    && !(s.get Reg.PWR_STAT_STATE == 2 || s.get Reg.PWR_STAT_STATE == 4 || s.get Reg.PWR_STAT_STATE == 5)

/-- BYPASS_EN changes, with its record (R394). (Log: 136 DEDUCED.) -/
def State.setBypass (s : State) (up : Bool) : State :=
  if s.sw.bypass = up then s
  else ((s.setSw (fun w => { w with bypass := up })).emit (.pin 0x200 up s.ns)).event 0x1F 39 0 (if up then 1 else 2) 0

/-- BYPASS_RAISE: the conditions have held for 10 ms (R394). -/
def execBypassRaise (s : State) : Host.Outcome State Fault Refusal := ok (if s.bypassOk then s.setBypass true else s)
/-- BYPASS_DROP: a condition fails (R394). -/
def execBypassDrop (s : State) : Host.Outcome State Fault Refusal := ok (if s.bypassOk then s else s.setBypass false)

end Sys2Proof.Machine
end

