-- ==== Sys2Proof/Machine/Memory.lean ====
section
/-!
DEFINITION. The commands of shared memory and DRAM (16_memory.md).
-/
namespace Sys2Proof.Machine

/-- A write of MEM_BANKb (R491): banks 45 to 47 are always ON; 3 is ignored; a bank with a window in use stays ON. A region test of
the bank is cut short first (R500). (Log: 88 DEDUCED, 154 DEDUCED.) -/
def State.writeBank (s : State) (b v : Nat) : State :=
  let p := v % 4
  if 45 ≤ b then s.set1 Reg.MEM_FLAGS_PWR_REFUSED
  else if p = 3 then s
  else if p = s.get (Reg.MEM_BANK_PWR b) then s
  else if s.get (Reg.MEM_BANK_PWR b) = 2 ∧ s.winInBank b then s.set1 Reg.MEM_FLAGS_PWR_REFUSED
  else (s.stCutBank b).bankGo b p
/-- BANK_POWER_WRITE (R491). -/
def execBankPowerWrite (b : Fin 48) (v : BitVec 32) (s : State) : Host.Outcome State Fault Refusal := ok (s.writeBank b.val v.toNat)
/-- BANK_POWER_UP_DONE (R491). -/
def execBankPowerUpDone (b : Fin 48) (s : State) : Host.Outcome State Fault Refusal := ok (s.bankUp b.val)
/-- WINDOW_DESCRIPTOR_WRITE: 0 BASE, 1 LEN, 2 PTR, 3 CTRL (R494). -/
def execWindowDescriptorWrite (w : Fin 64) (r : Fin 4) (v : BitVec 32) (s : State) : Host.Outcome State Fault Refusal :=
  ok (s.writeWinReg w.val r.val v.toNat)
/-- SCRUB_LATE: the pass has not completed within SCRUB_PERIOD (R503). -/
def execScrubLate (s : State) : Host.Outcome State Fault Refusal :=
  ok (if s.on Reg.MEM_CTRL_SCRUB_EN then s.set1 Reg.MEM_FLAGS_SCRUB_LATE else s)

end Sys2Proof.Machine
end

