-- ==== Sys2Proof/Machine/Serial.lean ====
section
/-!
DEFINITION. The commands of the UARTs, the control map, TDM and GPIO (15_serial_and_tdm.md, R334, R335, R271).
-/
namespace Sys2Proof.Machine

/-- Replace UART `u`. -/
def State.setUart (s : State) (u : Nat) (x : Uart) : State := s.setSer (fun z => { z with uarts := z.uarts.set u x })

/-! ### Receiving (R462 to R467) -/

/-- A UART_RX record that bears the time `t` in ns (R346, R359, R485). -/
def State.rxRecAt (s : State) (t u reason n slots : Nat) : State :=
  s.eventAt t 0x48 (92 + 2 * u) u reason (pay 16 (s.uart u).rx.length + pay 18 (min n 0xFFFF) + pay 20 slots)
/-- A UART_RX record (R359, R485). -/
def State.rxRec (s : State) (u reason n slots : Nat) : State := s.rxRecAt s.ns u reason n slots

/-- An error of the receiver: recorded at once, or counted while a record is not 100 ms old (R485). -/
def State.rxErr (s : State) (u reason : Nat) : State :=
  let x := s.uart u
  let due := match x.errAt.getD (reason - 1) none with
    | some t => decide (t + 100000000 ≤ s.ns)
    | none => true
  let key := 256 * (92 + 2 * u) + reason
  let n := Tbl.get 0 s.sw.sums key + 1
  if due then
    ((s.setUart u { x with errAt := x.errAt.set (reason - 1) (some s.ns) }).sumClear key).rxRecAt (s.sumTime key) u reason n 0
  else s.sumUp key 1

/-- UART_RX_SUMMARY: the errors counted since the record, 100 ms later (R485). -/
def execUartRxSummary (u : Fin 4) (overrun : Bool) (s : State) : Host.Outcome State Fault Refusal :=
  let reason := 1 + b2n overrun
  let key := 256 * (92 + 2 * u.val) + reason
  let n := Tbl.get 0 s.sw.sums key
  let x := s.uart u.val
  let due := match x.errAt.getD (reason - 1) none with
    | some t => decide (t + 100000000 ≤ s.ns)
    | none => false
  ok (if (n != 0 && due) = true then
    ((s.setUart u.val { x with errAt := x.errAt.set (reason - 1) (some s.ns) }).sumClear key).rxRecAt (s.sumTime key) u.val reason n 0
  else s)

/-- Push a word into the receive FIFO; a full one drops it (R464). -/
def State.rxPush (s : State) (u w : Nat) : State :=
  let x := s.uart u
  if x.rx.length < 128 then s.setUart u { x with rx := x.rx ++ [w] }
  else ((s.set1 (Reg.UART_FLAGS_OVR u)).count (Reg.UART_CNT_OVR u) 1).rxErr u 2

/-- A framing error (R463). (Log: 77 DEDUCED.) -/
def State.rxFe (s : State) (u : Nat) : State := ((s.set1 (Reg.UART_FLAGS_FE u)).count (Reg.UART_CNT_FE u) 1).rxErr u 1

/-- A character with its flags enters the FIFO (R462, R463). (Log: 82 DEDUCED.) -/
def State.rxChar (s : State) (u d : Nat) (fe pe : Bool) : State :=
  let s := s.rxPush u (d + 256 * b2n fe + 512 * b2n pe)
  let s := if fe then s.rxFe u else s
  if pe then s.set1 (Reg.UART_FLAGS_PE u) else s

/-- The receiver of UART `u` listens (R461, R465, R467). -/
def State.rxListens (s : State) (u : Nat) : Bool :=
  s.on (Reg.UART_CTRL_EN u) && !s.on (Reg.UART_STAT_LINE_LOW u) && (!s.on (Reg.UART_STAT_DE u) || s.on (Reg.UART_CTRL_ECHO u))

/-! ### DMX (R469) -/

/-- Byte `k` of the visible buffer: slot `k`, 0 the start code. (Log: 78 DEDUCED.) -/
def State.dmxSlot (s : State) (u k : Nat) : Nat := bits (s.get (Reg.UART_DMX u (k / 4))) (8 * (k % 4)) 8

/-- A start-code-0 packet completes (R469, R470, R475). -/
def State.dmxDone (s : State) (u next : Nat) : State :=
  let x := s.uart u
  if x.dmx ≠ 2 then s.setUart u { x with dmx := next, slots := [] }
  else
    let bytes := x.slots.map BitVec.toNat
    let word (w : Nat) : Nat :=
      (List.range 4).foldl (fun a i => a + (match bytes[4 * w + i]? with | some b => b | none => s.dmxSlot u (4 * w + i)) * 2 ^ (8 * i)) 0
    let ws := (List.range ((bytes.length + 3) / 4)).map (fun w => (w, word w))
    let s := ws.foldl (fun s e => s.put (Reg.UART_DMX u e.1) e.2) s
    let s := ((s.put (Reg.UART_DMX_STAT_SLOTS u) (bytes.length - 1)).count (Reg.UART_CNT_PKT u) 1).put (Reg.UART_STAT_DMX_LOSS u) 0
    let s := s.setUart u { x with dmx := next, slots := [], lastPkt := s.ns }
    let s := if s.on (Reg.UART_CTRL_PKT_EVT u) then s.rxRec u 4 0 (bytes.length - 1) else s
    s.ser.cm.foldl (fun s e => s.cmDmx e.1 u (s.dmxSlot u)) s

/-- A character in MODE 1 (R469). (Log: 78 DEDUCED.) -/
def State.dmxChar (s : State) (u : Nat) (d : BitVec 8) (fe : Bool) : State :=
  let x := s.uart u
  match x.dmx with
  | 1 =>
    if fe then (s.setUart u { x with dmx := 4, slots := [] }).rxFe u
    else if d = 0 then s.setUart u { x with dmx := 2, slots := [0] }
    else ((((s.setUart u { x with dmx := 3, slots := [] }).set1 (Reg.UART_FLAGS_BRK u)).rxPush u 0x400).rxChar u d.toNat false false)
  | 2 =>
    if fe then (s.setUart u { x with dmx := 4, slots := [] }).rxFe u
    else
      let l := x.slots ++ [d]
      let s := s.setUart u { x with slots := l }
      if l.length = 513 then s.dmxDone u 0 else s
  | 4 => s
  | _ => s.rxChar u d.toNat fe false

/-! ### MIDI (R471) -/

/-- Data bytes of a channel message by its status. -/
def midiLen (status : Nat) : Nat := if status / 16 = 12 ∨ status / 16 = 13 then 1 else 2

/-- A received byte in MODE 2: its message, if it completes one, waits to be acted on. (Log: 77 DEDUCED.) -/
def State.midiByte (s : State) (u : Nat) (d : BitVec 8) (fe : Bool) : State :=
  let x := s.uart u
  let v := d.toNat
  let raw := s.on (Reg.UART_CTRL_RAW_MIDI u)
  if fe then s.rxChar u v true false
  else if 0xF8 ≤ v then s.rxPush u v
  else if 0xF0 ≤ v then (s.setUart u { x with status := 0, part := [] }).rxPush u v
  else if 0x80 ≤ v then
    let s := s.setUart u { x with status := v, part := [d] }
    if raw then s.rxPush u v else s
  else if x.status = 0 then s.rxPush u v
  else
    let l := x.part ++ [d]
    let data := l.filter (fun b => decide (b.toNat < 128))
    let s := if raw then s.rxPush u v else s
    let x := s.uart u
    if data.length < midiLen x.status then s.setUart u { x with part := l }
    else
      let d1 := (data.getD 0 0).toNat
      let d2 := (data.getD 1 0).toNat
      let s := s.setUart u { x with part := [] }
      if x.status / 16 = 11 ∧ 120 ≤ d1 then (if raw then s else l.foldl (fun s b => s.rxPush u b.toNat) s)
      else s.setUart u { s.uart u with msgs := (s.uart u).msgs ++ [(x.status, d1, d2, s.ns)] }

/-- MIDI_MESSAGE_RECEIVED: the oldest complete channel message drives the control map and auto-cast, in entry order. -/
def State.midiAct (s : State) (u : Nat) : State :=
  match (s.uart u).msgs with
  | [] => s
  | m :: rest =>
    let s := s.setUart u { s.uart u with msgs := rest }
    s.ser.cm.foldl (fun s e => s.cmMidi e.1 u (m.1 / 16) (m.1 % 16) m.2.1 m.2.2.1 m.2.2.2) s
/-- MIDI_MESSAGE_RECEIVED (R471). -/
def execMidiMessageReceived (u : Fin 4) (s : State) : Host.Outcome State Fault Refusal := ok (s.midiAct u.val)

/-- A character completes at its stop bit (R462, R463). -/
def State.rxByte (s : State) (u : Nat) (d : BitVec 8) (fe pe : Bool) : State :=
  if !s.rxListens u then s
  else match s.uMode u with
    | 1 => s.dmxChar u d fe
    | 2 => s.midiByte u d fe
    | _ =>
      let p := s.get (Reg.UART_CTRL_PARITY u)
      s.rxChar u (if s.on (Reg.UART_CTRL_DATA7 u) then d.toNat % 128 else d.toNat) fe (pe && (p == 1 || p == 2))
/-- UART_CHARACTER_RECEIVED (R462). (Log: 82 DEDUCED.) -/
def execUartCharacterReceived (u : Fin 4) (d : BitVec 8) (fe pe : Bool) (s : State) : Host.Outcome State Fault Refusal :=
  ok (s.rxByte u.val d fe pe)

/-- A break (R466); in MODE 1 `short` says that it lasted under 88 µs or had too short a mark after it (R469).
(Log: 77 DEDUCED, 78 DEDUCED.) -/
def State.rxBreak (s : State) (u : Nat) (short : Bool) : State :=
  if !s.rxListens u then s
  else match s.uMode u with
    | 1 => if short then (s.set1 (Reg.UART_FLAGS_DMX_SHORT u)).setUart u { s.uart u with dmx := 4, slots := [] } else s
    | 2 => (s.setUart u { s.uart u with status := 0, part := [] })
    | _ => ((s.rxPush u 0x400).set1 (Reg.UART_FLAGS_BRK u)).rxRec u 3 0 0
/-- BREAK_RECEIVED (R466). -/
def execBreakReceived (u : Fin 4) (short : Bool) (s : State) : Host.Outcome State Fault Refusal := ok (s.rxBreak u.val short)

/-- DMX_BREAK_DETECTED: a valid break and mark: a packet in progress completes first (R469). -/
def execDmxBreakDetected (u : Fin 4) (s : State) : Host.Outcome State Fault Refusal :=
  ok (if s.rxListens u.val ∧ s.uMode u.val = 1 then s.dmxDone u.val 1 else s)
/-- DMX_PACKET_COMPLETE: IDLE_END of mark after the last slot (R469). -/
def execDmxPacketComplete (u : Fin 4) (s : State) : Host.Outcome State Fault Refusal :=
  ok (if (s.uart u.val).dmx = 2 then s.dmxDone u.val 0 else s)
/-- DMX_LOSS: no start-code-0 packet for 1.25 s (R470). -/
def execDmxLoss (u : Fin 4) (s : State) : Host.Outcome State Fault Refusal :=
  ok (if s.on (Reg.UART_CTRL_EN u.val) ∧ s.uMode u.val = 1 ∧ (s.uart u.val).lastPkt + 1250000000 ≤ s.ns then s.set1 (Reg.UART_STAT_DMX_LOSS u.val) else s)

/-- LINE_STUCK (R467): once while the line is low; the receiver falls silent. -/
def execLineStuck (u : Fin 4) (s : State) : Host.Outcome State Fault Refusal :=
  ok (if s.rxListens u.val then
    ((s.set1 (Reg.UART_STAT_LINE_LOW u.val)).set1 (Reg.UART_FLAGS_LINE_STUCK u.val)).event 0x49 (93 + 2 * u.val) u.val 1 0
  else s)
/-- LINE_RELEASED: the line has been high for 2 bit times (R467). -/
def execLineReleased (u : Fin 4) (s : State) : Host.Outcome State Fault Refusal :=
  ok (if s.on (Reg.UART_STAT_LINE_LOW u.val) then
    ((s.put (Reg.UART_STAT_LINE_LOW u.val) 0).event 0x49 (93 + 2 * u.val) u.val 2 0).setUart u.val { s.uart u.val with
      dmx := 0, slots := [], status := 0, part := [] }
  else s)

/-- A read of UARTn_RXD pops the head (R464). -/
def State.rxPop (s : State) (u : Nat) : State :=
  match (s.uart u).rx with
  | [] => { s with rdata := 0x80000000 }
  | w :: rest => { s.setUart u { s.uart u with rx := rest } with rdata := w }
/-- RXD_POP (R464). -/
def execRxdPop (u : Fin 4) (s : State) : Host.Outcome State Fault Refusal := ok (s.rxPop u.val)

/-! ### Transmission (R334, R335, R465) -/

/-- Bit time in ns (R460, R461). (Log: 79 DEDUCED.) -/
def State.bitTime (s : State) (u : Nat) : Nat :=
  match s.uMode u with
  | 1 => 4000
  | 2 => 32000
  | _ =>
    let d := match (s.uart u).keep with
      | some k => k.2
      | none => s.get (Reg.UART_DIV u)
    max 0x400 d * 125 / 192

/-- SERIAL_TX queued and being sent on UART `u`. -/
def State.txCount (s : State) (u : Nat) : Nat := (s.uart u).txq.length + (if (s.uart u).run.isSome then 1 else 0)

/-- Queue a SERIAL_TX of ring `n` whose descriptor is `d` (R334). (Log: 76 DEDUCED.) -/
def State.txAccept (s : State) (n d : Nat) (data : List (BitVec 8)) : State :=
  let (fl, s) := s.newFlight n d
  let u := bits d 128 8 % 4
  let len := bits d 144 16
  let src := bits d 160 8
  let bytes := match src with
    | 0 => leBytes len (bits d 256 256)
    | 1 => s.exchRead (bits d 192 64) len
    | _ => data.take len
  let x := s.uart u
  s.setUart u { x with txq := x.txq ++ [⟨fl, bits d 64 64, bits d 136 8, bytes, src == 2⟩] }

/-- Rings held at a SERIAL_TX of UART `u` proceed while its queue has room, in ring order (R334). -/
def State.txRelease (s : State) (u : Nat) : State :=
  (List.range 16).foldl (fun s n =>
    match s.heldAt n with
    | some d =>
      if bits d 0 8 = 0x40 ∧ bits d 128 8 = u ∧ s.txCount u < 4 then
        let data := Tbl.get [] s.hi.heldData n
        ((s.unhold n).txAccept n d data).settle n
      else s
    | none => s) s

/-- The transmission queue of UART `u` is empty: MODE and DIV written meanwhile take effect (R335). -/
def State.txIdle (s : State) (u : Nat) : State :=
  if s.txCount u = 0 then s.setUart u { s.uart u with keep := none } else s

/-- A SERIAL_TX at the front of its queue is checked and starts (R334, R335). (Log: 79 DEDUCED.) -/
def State.txStart (s : State) (u : Nat) : State :=
  let x := s.uart u
  match x.run, x.txq with
  | none, j :: rest =>
    let refuse (detail : Nat) : State :=
      (((s.setUart u { x with txq := rest }).complete j.fl s.ns 0x1C detail 0).txIdle u).txRelease u
    if !s.on (Reg.UART_CTRL_EN u) then refuse 1
    else if j.format = 1 ∧ s.uMode u ≠ 1 then refuse 2
    else if j.exec ≤ s.ns + s.bitTime u then
      let late := decide (j.exec ≠ 0 ∧ j.exec + s.bitTime u < s.ns)
      let keep := match x.keep with
        | some k => some k
        | none => some (s.get (Reg.UART_CTRL_MODE u), s.get (Reg.UART_DIV u))
      (((s.setUart u { x with txq := rest, run := some (j, s.ns, late), keep := keep }).set1 (Reg.UART_STAT_DE u)).emit
        (.serial u j.format j.data))
    else s
  | _, _ => s
/-- SERIAL_TX_START (R334). -/
def execSerialTxStart (u : Fin 4) (s : State) : Host.Outcome State Fault Refusal := ok (s.txStart u.val)

/-- The last stop bit of a SERIAL_TX has been sent (R334). -/
def State.txDone (s : State) (u : Nat) : State :=
  let x := s.uart u
  match x.run with
  | some (j, _, late) => (((s.setUart u { x with run := none }).complete j.fl s.ns (b2n late) 0 0).txIdle u).txRelease u
  | none => s
/-- SERIAL_TX_DONE (R334). -/
def execSerialTxDone (u : Fin 4) (s : State) : Host.Outcome State Fault Refusal := ok (s.txDone u.val)

/-- DE_HOLD_EXPIRY: Un_DE falls while no further SERIAL_TX runs (R465). -/
def execDeHoldExpiry (u : Fin 4) (s : State) : Host.Outcome State Fault Refusal :=
  ok (if (s.uart u.val).run.isNone then s.put (Reg.UART_STAT_DE u.val) 0 else s)

/-- EN = 0: the transmission stops at once, and everything queued is refused; the bytes sent in full are open (R335). -/
def State.txStop (s : State) (u : Nat) : State :=
  let x := s.uart u
  let s := s.setUart u { x with run := none, txq := [], keep := none, dmx := 0, slots := [], status := 0, part := [] }
  let s := match x.run with
    | some (j, _, _) =>
      let (n, s) := s.freeNat
      s.completeX j.fl s.ns 0x1C 1 0 (n % (j.data.length + 1))
    | none => s
  let s := x.txq.foldl (fun s j => s.complete j.fl s.ns 0x1C 1 0) s
  ((s.put (Reg.UART_STAT_DE u) 0).put (Reg.UART_STAT_LINE_LOW u) 0).txRelease u

/-- Control-map entries that are off hold value 0 (R473). (Log: 80 DEDUCED.) -/
def State.cmOff (s : State) : State :=
  s.ser.cm.foldl (fun s e => if s.cmOn e.2 then s else s.put (Reg.UART_CM_VAL e.1) 0) s

/-- A write of UARTn_CTRL (R461, R335). -/
def State.writeUartCtrl (s : State) (u v : Nat) : State :=
  let was := s.on (Reg.UART_CTRL_EN u)
  let s := [Reg.UART_CTRL_EN u, Reg.UART_CTRL_MODE u, Reg.UART_CTRL_DATA7 u, Reg.UART_CTRL_PARITY u, Reg.UART_CTRL_STOP2 u,
    Reg.UART_CTRL_ECHO u, Reg.UART_CTRL_RXTRIG u, Reg.UART_CTRL_TXTRIG u, Reg.UART_CTRL_RAW_MIDI u, Reg.UART_CTRL_PKT_EVT u,
    Reg.UART_CTRL_STUCK_TIME u].foldl (fun s f => s.put f (bits v f.lsb f.w)) s
  let s := if was ∧ !bit v 0 then s.txStop u else s
  let s := if !was ∧ bit v 0 then s.setUart u { s.uart u with dmx := 0, slots := [], lastPkt := s.ns } else s
  s.cmOff
/-- UART_DISABLE: a write of UARTn_CTRL with EN = 0 (R335). -/
def execUartDisable (u : Fin 4) (v : BitVec 32) (s : State) : Host.Outcome State Fault Refusal :=
  ok (s.writeUartCtrl u.val (v.toNat / 2 * 2))

/-- CONTROL_MAP_COMMIT: a write of UART_CMc_CFG (R473). -/
def execControlMapCommit (c : Fin 1024) (v : BitVec 32) (s : State) : Host.Outcome State Fault Refusal := ok (s.cmCommit c.val v.toNat)

/-! ### TDM (R476 to R479) -/

/-- A write of TDMn_CTRL (R477). -/
def State.writeTdmCtrl (s : State) (n v : Nat) : State :=
  let fs := [Reg.TDM_CTRL_MASTER n, Reg.TDM_CTRL_FORMAT n, Reg.TDM_CTRL_DELAY n, Reg.TDM_CTRL_SLOTS n, Reg.TDM_CTRL_BCLK_INV n,
    Reg.TDM_CTRL_FS_INV n, Reg.TDM_CTRL_DIN_EN n, Reg.TDM_CTRL_DOUT_EN n]
  if s.on (Reg.TDM_CTRL_EN n) then
    let s := if fs.any (fun f => s.get f != bits v f.lsb f.w) then s.set1 (Reg.TDM_FLAGS_CFG_REFUSED n) else s
    if bit v 0 then s else (s.put (Reg.TDM_CTRL_EN n) 0).put (Reg.TDM_STAT_CLK n) 0
  else
    let s := fs.foldl (fun s f => s.put f (bits v f.lsb f.w)) s
    if !bit v 0 then s
    else if s.tdmLegal n then (s.set1 (Reg.TDM_CTRL_EN n)).put (Reg.TDM_STAT_CLK n) (if s.on (Reg.TDM_CTRL_MASTER n) then 1 else 3)
    else s.set1 (Reg.TDM_FLAGS_CFG_REFUSED n)
/-- TDM_ENABLE: a write of TDMn_CTRL with EN = 1 (R477). -/
def execTdmEnable (n : Fin 2) (v : BitVec 32) (s : State) : Host.Outcome State Fault Refusal := ok (s.writeTdmCtrl n.val (v.toNat ||| 1))

/-- Port `n` takes its clocks from outside and is on. -/
def State.tdmSlave (s : State) (n : Nat) : Bool := s.on (Reg.TDM_CTRL_EN n) && !s.on (Reg.TDM_CTRL_MASTER n)

/-- TDM_LOCK: 64 consecutive FS edges in range (R478). -/
def execTdmLock (n : Fin 2) (s : State) : Host.Outcome State Fault Refusal :=
  let c := s.get (Reg.TDM_STAT_CLK n.val)
  ok (if s.tdmSlave n.val ∧ (c = 2 ∨ c = 3) then
    let s := s.put (Reg.TDM_STAT_CLK n.val) 1
    if c = 2 then s.event 0x4C (100 + n.val) n.val 2 0 else s
  else s)

/-- TDM_SLIP: the port realigns by one frame (R478). -/
def execTdmSlip (n : Fin 2) (s : State) : Host.Outcome State Fault Refusal :=
  ok (if s.tdmSlave n.val ∧ s.get (Reg.TDM_STAT_CLK n.val) = 1 then
    ((s.set1 (Reg.TDM_FLAGS_SLIP n.val)).count (Reg.TDM_CNT_SLIP n.val) 1).event 0x4C (100 + n.val) n.val 3 (pay 16 1)
  else s)

/-- TDM_CLOCK_LOST: eight frame times with no FS edge (R478). -/
def execTdmClockLost (n : Fin 2) (s : State) : Host.Outcome State Fault Refusal :=
  let c := s.get (Reg.TDM_STAT_CLK n.val)
  ok (if s.tdmSlave n.val ∧ (c = 1 ∨ c = 3) then
    ((s.put (Reg.TDM_STAT_CLK n.val) 2).set1 (Reg.TDM_FLAGS_CLK_LOST n.val)).event 0x4C (100 + n.val) n.val 1 0
  else s)

/-- A block of input frames from frame `k` on, one list of slot codes a frame (R238, R271, R478): the STREAM line of cluster E
is raised, or the frames are overruns. (Log: 81 DEDUCED.) -/
def State.tdmInput (s : State) (n k : Nat) (frames : List (List (BitVec 24))) : State :=
  if !(s.on (Reg.TDM_CTRL_EN n) && s.on (Reg.TDM_CTRL_DIN_EN n) && s.get (Reg.TDM_STAT_CLK n) == 1) then s
  else if s.coresE.isEmpty ∨ s.mix.out then
    (s.set1 (Reg.TDM_FLAGS_IN_OVR n)).sumUp (256 * (102 + n) + 1) frames.length
  else
    let slots := s.get (Reg.TDM_CTRL_SLOTS n)
    let old (key : Nat) : Bool := decide (key % 2 ^ 40 + (s.slack + 4) * s.blockLen + 4096 < s.frameNow)
    let s := s.setMix (fun m => { m with tdm := Tbl.drop old m.tdm })
    let s := (frames.zip (List.range frames.length)).foldl (fun s e =>
      ((e.1.take slots).zip (List.range slots)).foldl (fun s c =>
        s.setMix (fun m => { m with tdm := Tbl.put 0 m.tdm ((16 * n + c.2) * 2 ^ 40 + (k + e.2)) (c.1.toNat + 1) })) s) s
    s.coresE.foldl (fun s c => s.raise c 5) s
/-- TDM_INPUT_BLOCK_READY (R271). -/
def execTdmInputBlockReady (n : Fin 2) (k : BitVec 40) (frames : List (List (BitVec 24))) (s : State) : Host.Outcome State Fault Refusal :=
  ok (s.tdmInput n.val k.toNat frames)

/-! ### GPIO (R480, R54) -/

/-- A write of GPIO_SET. -/
def execGpioSet (v : BitVec 24) (s : State) : Host.Outcome State Fault Refusal := ok (s.put Reg.GPIO_OUT (s.get Reg.GPIO_OUT ||| v.toNat))
/-- A write of GPIO_CLR. -/
def execGpioClr (v : BitVec 24) (s : State) : Host.Outcome State Fault Refusal :=
  ok (s.put Reg.GPIO_OUT (s.get Reg.GPIO_OUT &&& (0xFFFFFF - v.toNat)))

/-- A write of GPIO_FUNC: a pin given to a compare channel takes its latch, and one given back takes its GPIO level (R54). -/
def State.writeGpioFunc (s : State) (v : Nat) : State :=
  let old := s.get Reg.GPIO_FUNC
  let s := s.put Reg.GPIO_FUNC v
  (List.range 8).foldl (fun s n =>
    if bit v n ∧ !bit old n then s.emit (.pin n (s.on (Reg.TB_CMP_STAT_PIN n)) s.ns) else s) s
/-- GPIO_FUNC_WRITE (R54). -/
def execGpioFuncWrite (v : BitVec 32) (s : State) : Host.Outcome State Fault Refusal := ok (s.writeGpioFunc (v.toNat % 256))

end Sys2Proof.Machine
end

