-- ==== Sys2Proof/Machine/Pcie.lean ====
section
/-!
DEFINITION. What happens on the PCIe side: function-level reset, PERST_N, Bus Master Enable and the D-state, the link, errors
(R308, R342, R343, R345, R356).
-/
namespace Sys2Proof.Machine

/-- Replace the host interface's state. -/
def State.setHi (s : State) (f : HostIf → HostIf) : State := { s with hi := f s.hi }

/-- A PCIE record with the link's state, the error count and the AER status bits (R359). -/
def State.pcieRec (s : State) (src reason n aer : Nat) : State :=
  s.event 0x08 src 0 reason (pay 16 (s.get Reg.HI_STAT_SPEED) + pay 17 (s.get Reg.HI_STAT_WIDTH)
    + pay 18 (if s.hi.d3hot then 3 else 0) + pay 19 (b2n s.hi.bme) + pay 20 n + pay 24 aer)

/-- The fields of a range of registers go back to their reset values. -/
def State.dropRegs (s : State) (lo hi : Nat) : State :=
  { s with regs := Tbl.drop (fun k => decide (32 * lo ≤ k ∧ k < 32 * hi)) s.regs
           shadows := Tbl.drop (fun k => decide (lo ≤ k ∧ k < hi)) s.shadows }

/-- The MSI-X table and the pending bits (R356). -/
def State.msixReset (s : State) : State := s.dropRegs 0x18000 0x20000

/-- A ring in host memory at a PCIe reset: its undecided timed commands are dropped, its registers are reset (R342). -/
def State.flrRing (s : State) (n : Nat) : State :=
  if s.ringHost n then
    let gone := s.sch.queue.filter (fun c => c.fl.ring == n && !c.done && c.org == Org.ring)
    let s := gone.foldl (fun s c => ((s.dropLoad c).forget c.fl.seq).count Reg.HI_CNT_STALE 1) s
    let s := s.unhold n
    let s := [Reg.HI_RING_BASE_LO n, Reg.HI_RING_BASE_HI n, Reg.HI_RING_CFG_ENABLE n, Reg.HI_RING_CFG_LOG2SIZE n,
      Reg.HI_RING_CFG_CQ n, Reg.HI_RING_CFG_PRIO n, Reg.HI_RING_CFG_OWNER n, Reg.HI_RING_HEAD n, Reg.HI_RING_TAIL n,
      Reg.HI_RING_STAT_STATE n, Reg.HI_RING_STAT_REASON n, Reg.HI_RING_STAT_VER n].foldl (fun s f => s.put f f.reset) s
    s.count (Reg.HI_RING_STAT_GEN n) 1
  else s

/-- Transfers that touch host memory stop (R342). (Log: 124 DEDUCED.) -/
def State.flrDma (s : State) : State :=
  let gone := s.hi.dmas.filter (fun d => d.sspace == 0 || d.dspace == 0)
  let s := gone.foldl (fun s d => (s.forget d.fl.seq).count Reg.HI_CNT_STALE 1) s
  s.setHi (fun h => { h with dmas := h.dmas.filter (fun d => !(d.sspace == 0 || d.dspace == 0)) })

/-- Serial transmissions whose data lie in host memory stop (R342). (Log: 124 DEDUCED.) -/
def State.flrSerial (s : State) (u : Nat) : State :=
  let x := s.uart u
  let s := match x.run with
    | some (j, _, _) => if j.host then (s.forget j.fl.seq).count Reg.HI_CNT_STALE 1 else s
    | none => s
  let s := (x.txq.filter (fun j => j.host)).foldl (fun s j => (s.forget j.fl.seq).count Reg.HI_CNT_STALE 1) s
  let run := match x.run with
    | some r => if r.1.host then none else some r
    | none => none
  let s := s.setUart u { s.uart u with run := run, txq := x.txq.filter (fun j => !j.host) }
  (s.txIdle u).txRelease u

/-- A queue in host memory at a PCIe reset (R356). Answers whether it was enabled. (Log: 124 DEDUCED.) -/
def State.flrQueue (s : State) (n : Nat) : State :=
  if s.get (Reg.EQ_Q_CFG_LOC n) = 0 then
    let was := (s.queue n).on
    let lo := 0x20100 + 0x20 * n
    let s := ((s.qDisable n).dropRegs lo (lo + 0x20)).setQueue n EvQueue.zero
    let s := { s with pcieHold := n :: s.pcieHold.filter (fun m => m != n) }
    if was then
      let src := 4 + n / 2
      if s.on (Reg.EQ_SRC_EN src) then
        let q := s.get (Reg.EQ_SRC_QUEUE src)
        let h : HeldRec := ⟨⟨4, src, n + 65536, s.ns, 0⟩, s.on (Reg.EQ_SRC_URGENT src), .plain⟩
        if (s.queue q).on then s.qEnter q h else s.holdPcie q h
      else s
    else s
  else s

/-- What a function-level reset and PERST_N do to the host-facing state (R342, R343, R356). Bus Master Enable and the D-state
lie in the configuration space, which the reset clears (assumption 40). (Log: 40 PRESUMED.) -/
def State.pcieReset (s : State) : State :=
  let s := s.setHi (fun h => { h with bme := false, d3hot := false })
  let s := (List.range 8).foldl (fun s n => s.flrQueue n) s
  let s := (List.range 16).foldl (fun s n => s.flrRing n) s
  let s := s.flrDma
  let s := (List.range 4).foldl (fun s u => s.flrSerial u) s
  s.msixReset

/-- FLR (R342, R345): received, acted on, done. (Log: 40 PRESUMED, 124 DEDUCED.) -/
def State.flr (s : State) : State :=
  let s := s.pcieReset
  ((s.pcieRec 9 4 0 0).set1 Reg.HI_FLAGS_FLR_SEEN).pcieRec 9 5 0 0
/-- FLR. -/
def execFlr (s : State) : Host.Outcome State Fault Refusal := ok (if s.hi.perst then s else s.flr)

/-- The link is down (R343, R345). -/
def State.linkOff (s : State) : State :=
  if s.on Reg.HI_STAT_LINK_UP then
    (((s.put Reg.HI_STAT_LINK_UP 0).put Reg.HI_STAT_SPEED 0).put Reg.HI_STAT_WIDTH 0).pcieRec 8 2 0 0
  else s

/-- PERST_N goes low (R343). -/
def State.perstLow (s : State) : State :=
  if s.hi.perst then s
  else
    let s := (s.setHi (fun h => { h with perst := true })).pcieReset
    (s.pcieRec 10 6 0 0).linkOff
/-- PERST_N_ASSERT. -/
def execPerstNAssert (s : State) : Host.Outcome State Fault Refusal := ok s.perstLow

/-- Every ring's HELD and RUNNING follow what blocks its fetch (R308, R313). -/
def State.settleAll (s : State) : State := (List.range 16).foldl (fun s n => s.settle n) s

/-- A pending message whose vector is not masked is sent, once memory requests may be made (R308, R354). (Log: 153 DEDUCED.) -/
def State.msixFlush (s : State) (v : Nat) : State :=
  let f := Reg.HI_PBA (v / 32)
  if bit (s.get f) (v % 32) ∧ !s.on (Reg.HI_MSIX_CTRL v) ∧ !s.hostBlocked then (s.put f (s.get f - 2 ^ (v % 32))).msix v else s

/-- Queues in host memory: their waiting records are written once nothing blocks them, and messages that are due are sent
(R308, R351, R354). -/
def State.drainHost (s : State) : State :=
  let s := (List.range 8).foldl (fun s n => if s.get (Reg.EQ_Q_CFG_LOC n) = 0 then (s.drain n).modTimeout n else s) s
  (List.range 64).foldl (fun s v => s.msixFlush v) s

/-- A change of Bus Master Enable or the D-state (R308, R345, R351): queues in host memory that begin or end to wait for it
say so. -/
def State.busChange (s : State) (bme d3 : Bool) : State :=
  let was := s.hostBlocked
  let dOld := s.hi.d3hot
  let bOld := s.hi.bme
  let s := s.setHi (fun h => { h with bme := bme, d3hot := d3 })
  let now := s.hostBlocked
  let qs := (List.range 8).filter (fun n => s.get (Reg.EQ_Q_CFG_LOC n) == 0 && (s.queue n).on)
  let s := if !was ∧ now then qs.foldl (fun s n => s.eqState n 3) s
    else if was ∧ !now then qs.foldl (fun s n => s.eqState n 4) s
    else s
  let s := if dOld ≠ d3 then s.pcieRec 13 10 0 0 else s
  let s := if bOld ≠ bme then s.pcieRec 13 11 0 0 else s
  (s.settleAll).drainHost
/-- PCIE_BME_CHANGE (R308). -/
def execPcieBmeChange (bme d3hot : Bool) (s : State) : Host.Outcome State Fault Refusal := ok (s.busChange bme d3hot)

/-- A change of the link (R310, R345): speed 1 to 3 and width 1 or 2, or down. -/
def State.linkChange (s : State) (up : Bool) (speed width : Nat) : State :=
  if s.hi.perst then s
  else if !up then s.linkOff
  else
    let was := s.on Reg.HI_STAT_LINK_UP
    let same := s.get Reg.HI_STAT_SPEED = speed ∧ s.get Reg.HI_STAT_WIDTH = width
    let s := ((s.set1 Reg.HI_STAT_LINK_UP).put Reg.HI_STAT_SPEED speed).put Reg.HI_STAT_WIDTH width
    if !was then s.pcieRec 8 1 0 0 else if same then s else s.pcieRec 8 3 0 0
/-- PCIE_LINK_CHANGE (R345). -/
def execPcieLinkChange (up : Bool) (speed width : BitVec 2) (s : State) : Host.Outcome State Fault Refusal :=
  ok (s.linkChange up speed.toNat width.toNat)

/-- A PCIe error (R345, R359): a correctable one is counted for the summary, an uncorrectable one recorded at once. -/
def State.pcieError (s : State) (corr : Bool) (aer : Nat) : State :=
  if corr then s.sumUp (256 * 11 + 8) 1
  else s.pcieRec 12 9 1 aer
/-- PCIE_ERROR. -/
def execPcieError (correctable : Bool) (aer : BitVec 32) (s : State) : Host.Outcome State Fault Refusal :=
  ok (s.pcieError correctable aer.toNat)

end Sys2Proof.Machine
end

