-- ==== Sys2Proof/Machine/TimeBase.lean ====
section
/-!
DEFINITION. The commands of the time base (01_fabric_time.md).
-/
namespace Sys2Proof.Machine

/-! ### Shadows (R16) -/

/-- Latch a high half into the shadow of the register at `off`. -/
def State.latch (s : State) (off v : Nat) : State := { s with shadows := Tbl.put none s.shadows off (some (v % 2 ^ 32)) }

/-- Read a high half: the pending shadow, once, else the live value (R16). -/
def State.readHigh (s : State) (off live : Nat) : State :=
  match Tbl.get none s.shadows off with
  | some v => { s with shadows := Tbl.put none s.shadows off none, rdata := v }
  | none => { s with rdata := live % 2 ^ 32 }

/-- Read a low half: it is returned and the high half latched (R16). -/
def State.readLow (s : State) (hiOff v : Nat) : State := { (s.latch hiOff (v / 2 ^ 32)) with rdata := v % 2 ^ 32 }

/-- The 64-bit value of a pair and the offset of its high half. -/
def State.pairVal (s : State) (p : Pair) : Nat × Nat :=
  match p with
  | .now => (s.ns, 0x60004)
  | .frame => (s.frameNow, 0x60034)
  | .cmp n => (s.cmpLive n, 0x60204 + 0x20 * n.val)
  | .cmpCount m => (s.get64 (Reg.TB_CMP_COUNT (2 * m.val)) (Reg.TB_CMP_COUNT (2 * m.val + 1)), 0x60238 + 0x40 * m.val)
  | .block => (s.get64 Reg.AL_SCH_BLOCK_LO Reg.AL_SCH_BLOCK_HI, 0xB081C)
  | .cyc c => (s.coreCyc c.val, 0x20001C + 0x10000 * c.val)
  | .rootUid => (s.get64 Reg.FSW_ROOT_UID_LO Reg.FSW_ROOT_UID_HI, 0xC0014)
  | .nbUid p => (s.get64 (Reg.FP_NB_UID_LO p) (Reg.FP_NB_UID_HI p), 0xD0010 + 0x10000 * p.val)
  | .memErr => (s.get Reg.MEM_ERR_ADDR_LO + 2 ^ 32 * s.word 0xA0010, 0xA0010)
  | .alarm => (s.get64 Reg.PWR_ALARM_LO Reg.PWR_ALARM_HI, 0x30024)

/-- Read the low half of a pair; TB_NOW also latches its fraction (R16, R19), an unlinked count latches nothing (R55). -/
def State.readPair (s : State) (p : Pair) : State :=
  let (v, off) := s.pairVal p
  match p with
  | .now => (s.latch 0x60008 (s.tb.now / 2 ^ 16 % 2 ^ 16)).readLow off v
  | .cmpCount m => if s.on (Reg.TB_CMP_CFG_LINK (2 * m.val)) then s.readLow off v else { s with rdata := v % 2 ^ 32 }
  | _ => s.readLow off v

/-- SHADOW_LOW_READ (R16). -/
def execShadowLowRead (p : Pair) (s : State) : Host.Outcome State Fault Refusal := ok (s.readPair p)

/-! ### Setting and steering -/

/-- TB_SET_COMMIT (R32, R405). -/
def execTbSetCommit (hi : BitVec 32) (s : State) : Host.Outcome State Fault Refusal := ok (s.setCommit hi.toNat)
/-- TB_FS_WRITE: a write of TB_CTRL (R25). -/
def execTbFsWrite (v : BitVec 32) (s : State) : Host.Outcome State Fault Refusal := ok (s.writeTbCtrl v.toNat)
/-- TB_REF_WRITE: a write of TB_CTRL (R33). -/
def execTbRefWrite (v : BitVec 32) (s : State) : Host.Outcome State Fault Refusal := ok (s.writeTbCtrl v.toNat)
/-- REACQUIRE: a write of TB_CTRL (R30). -/
def execReacquire (v : BitVec 32) (s : State) : Host.Outcome State Fault Refusal := ok (s.writeTbCtrl v.toNat)

/-- A write of TB_RATE: taken only while MANUAL is 1 (R26). (Log: 23 DEDUCED.) -/
def State.writeRate (s : State) (v : Nat) : State := if s.on Reg.TB_CTRL_MANUAL then s.setCorr (toS 32 v) else s

/-- TB_RATE_WRITE (R26). -/
def execTbRateWrite (v : BitVec 32) (s : State) : Host.Outcome State Fault Refusal := ok (s.writeRate v.toNat)

/-- The audio PLL locks (R25). -/
def State.audioLock (s : State) : State :=
  if s.on Reg.TB_STAT_AUDIO_LOCK then s
  else ((s.set1 Reg.TB_STAT_AUDIO_LOCK).set1 Reg.PWR_CLK_STAT_AUDIO).event 0x57 115 0 1 (pay 16 s.fs)

/-- AUDIO_PLL_LOCK (R25). -/
def execAudioPllLock (s : State) : Host.Outcome State Fault Refusal := ok s.audioLock

/-- HELD_RELEASE: reference time has reached the held counter (R28). (Log: 24 DEDUCED.) -/
def execHeldRelease (s : State) : Host.Outcome State Fault Refusal := ok (if s.servo = 4 then s.setServo 1 else s)

/-! ### Word-clock inputs (R34, R35, R40 to R43) -/

/-- PD16 is powered: the capture and compare logic works (R39). -/
def State.capOn (s : State) : Bool := bit (s.get Reg.PWR_DOM_STAT) 16

/-- EDGE selects this edge for capture (R40). -/
def edgeSel (edge : Nat) (falling : Bool) : Bool :=
  match edge with
  | 0 => !falling
  | 1 => falling
  | 2 => true
  | _ => false

/-- The least pulse width FILT accepts, in ns (R40). -/
def filtNs (f : Nat) : Nat :=
  match f with
  | 0 => 0
  | 1 => 8
  | 2 => 32
  | 3 => 128
  | _ => 1000

/-- The pulse that an edge begins passes the filter (R40). (Log: 160 DEDUCED.) -/
def edgePasses (e : PinEdge) (filt : Nat) : Bool := decide (filtNs filt ≤ e.t.width.toNat)

/-- An edge of COARSE's clock in 2^-32 ns (R36). -/
def xt32Tick : Nat := 30517 * 2 ^ 32 + 0x9400 * 2 ^ 16

/-- The stamp of an edge at `t` ns: not later than a held counter (R31), in COARSE the latest value that the counter took at
an XT32 edge up to then (R39). (Log: 160 DEDUCED.) -/
def State.stamp (s : State) (t : Nat) : Nat :=
  if s.servo = 4 then min t s.ns
  else if s.servo = 5 then
    let x := t * 2 ^ 32
    (if s.tb.now ≤ x then s.tb.now + (x - s.tb.now) / xt32Tick * xt32Tick
      else s.tb.now - (s.tb.now - x + xt32Tick - 1) / xt32Tick * xt32Tick) / 2 ^ 32
  else t

/-- A capture lands in the register of input `n` (R42). -/
def State.wcapTake (s : State) (n t : Nat) : State :=
  let ovr := s.on (Reg.TB_WCAP_STAT_VALID n)
  let s := (s.put64 (Reg.TB_WCAP_LO n) (Reg.TB_WCAP_HI n) t).set1 (Reg.TB_WCAP_STAT_VALID n)
  let s := if ovr then (s.set1 (Reg.TB_WCAP_STAT_OVR n)).countSat (Reg.TB_WCAP_STAT_OVR_CNT n) 1 else s
  if s.on (Reg.TB_WCAP_CFG_EVT_EN n) then
    let p := pay 16 (s.get (Reg.TB_WCAP_STAT_OVR_CNT n))
    let s := s.eventAt t 0x50 (104 + n) n 0 p
    if ovr then s.eventAt t 0x51 (104 + n) n 1 p else s
  else s

/-- The spacing of two selected edges lies within ±1000 ppm of 1/fs (R35). -/
def State.wclkSpacing (s : State) (a b : Nat) : Bool :=
  let x := (b - a) * s.rate
  decide (999000000 ≤ x) && decide (x ≤ 1001000000)

/-- Count a selected edge toward presence (R35). -/
def State.wclkEdge (s : State) (n t : Nat) : State :=
  let run := match Tbl.get none s.tb.wclkLast n with
    | some a => if s.wclkSpacing a t then Tbl.get 0 s.tb.wclkRun n + 1 else 1
    | none => 1
  { s with tb := { s.tb with wclkLast := Tbl.put none s.tb.wclkLast n (some t), wclkRun := Tbl.put 0 s.tb.wclkRun n run
                             wclkAt := Tbl.put 0 s.tb.wclkAt n s.tb.real } }

/-- The offset of a word-clock edge from its nearest frame boundary plus TB_WCLK_OFS, in ns (R27, R34). -/
def State.wclkOffset (s : State) (t : Nat) : Int :=
  let x : Int := 441 * ((t : Int) - toS 32 (s.get Reg.TB_WCLK_OFS))
  let f : Int := s.fper
  let k := (x + f / 2) / f
  (x - k * f) / 441

/-- A selected edge of a word-clock input after its filter: it counts toward presence and, of the reference, gives TB_OFFSET,
which the servo acts on while the input is present (R27, R34, R35). -/
def State.wclkSelected (s : State) (n t : Nat) : State :=
  let s := s.wclkEdge n t
  if s.get Reg.TB_CTRL_REF ≠ n + 1 then s
  else
    let off := s.wclkOffset (s.stamp t)
    if s.wclkPresent n then s.measure off else s.put Reg.TB_OFFSET (ofS 32 (satS 32 off))

/-- An edge of input `n` (R34, R40, R42). (Log: 160 DEDUCED.) -/
def State.wclkCapture (s : State) (n : Nat) (e : PinEdge) : State :=
  if !s.capOn || !edgePasses e (s.get (Reg.TB_WCAP_CFG_FILT n)) then s
  else
    let edge := s.get (Reg.TB_WCAP_CFG_EDGE n)
    let s := if edgeSel edge e.falling then s.wcapTake n (s.stamp e.t.ns.toNat) else s
    if e.falling = decide (edge = 1) then s.wclkSelected n e.t.ns.toNat else s

/-- WCLK_CAPTURE (R42, R29). -/
def execWclkCapture (n : Fin 2) (falling : Bool) (t : PinTime) (s : State) : Host.Outcome State Fault Refusal :=
  ok (s.wclkCapture n ⟨falling, t⟩)

/-- Input `n` becomes present after 64 edges in spacing (R35). -/
def State.wclkPresence (s : State) (n : Nat) : State :=
  if s.wclkPresent n ∨ Tbl.get 0 s.tb.wclkRun n < 64 then s
  else
    let s := s.set1 (Reg.TB_WCAP_STAT_PRESENT n)
    let s := s.event 0x52 (104 + n) n 1 (pay 16 (s.get (Reg.TB_WCAP_STAT_OVR_CNT n)))
    if s.get Reg.TB_CTRL_REF = n + 1 ∧ !s.on Reg.TB_CTRL_MANUAL then
      if s.servo = 3 then s.setServo 2 else if s.servo = 0 then s.setServo 1 else s
    else s

/-- WCLK_PRESENT (R35). -/
def execWclkPresent (n : Fin 2) (s : State) : Host.Outcome State Fault Refusal := ok (s.wclkPresence n)

/-- No selected edge of input `n` for 8 periods of 1/fs (R35). (Log: 160 DEDUCED.) -/
def State.wclkSilent (s : State) (n : Nat) : Bool :=
  decide ((Tbl.get 0 s.tb.wclkAt n) * s.rate + 8000000000 * 2 ^ 32 ≤ s.tb.real * s.rate)

/-- Input `n` is lost (R33, R35). -/
def State.wclkDrop (s : State) (n : Nat) : State :=
  if !s.wclkPresent n then s
  else
    let s := (s.put (Reg.TB_WCAP_STAT_PRESENT n) 0).set1 (if n = 0 then Reg.TB_FLAGS_WCLK0_LOSS else Reg.TB_FLAGS_WCLK1_LOSS)
    let s := { s with tb := { s.tb with wclkRun := Tbl.put 0 s.tb.wclkRun n 0, wclkLast := Tbl.put none s.tb.wclkLast n none } }
    let s := s.event 0x52 (104 + n) n 2 (pay 16 (s.get (Reg.TB_WCAP_STAT_OVR_CNT n)))
    if s.get Reg.TB_CTRL_REF = n + 1 ∧ !s.on Reg.TB_CTRL_MANUAL then
      if s.servo = 2 then s.setServo 3 else if s.servo = 1 ∨ s.servo = 4 then s.setServo 0 else s
    else s

/-- The loss of input `n`, once it has been silent for 8 periods (R35). -/
def State.wclkLoss (s : State) (n : Nat) : State := if s.wclkSilent n then s.wclkDrop n else s

/-- WCLK_LOSS (R35, R33). -/
def execWclkLoss (n : Fin 2) (s : State) : Host.Outcome State Fault Refusal := ok (s.wclkLoss n)

/-- A read of TB_WCAPn_LO, with an edge in the same cycle or none (R42, R43). -/
def State.wcapRead (s : State) (n : Nat) (cap : Option PinEdge) : State :=
  let s := (s.readLow (0x60044 + 0x10 * n) (s.get64 (Reg.TB_WCAP_LO n) (Reg.TB_WCAP_HI n))).put (Reg.TB_WCAP_STAT_VALID n) 0
  match cap with
  | none => s
  | some e => s.wclkCapture n e

/-- WCAP_LOW_READ (R42, R43). -/
def execWcapLowRead (n : Fin 2) (cap : Option PinEdge) (s : State) : Host.Outcome State Fault Refusal := ok (s.wcapRead n cap)

/-! ### Trigger inputs (R44 to R46) -/

/-- The queue of trigger input `n`. -/
def State.trigQ (s : State) (n : Nat) : List Nat := s.tb.trig.getD n []
/-- Replace the queue of trigger input `n`; COUNT follows it. -/
def State.setTrigQ (s : State) (n : Nat) (q : List Nat) : State :=
  { s with tb := { s.tb with trig := s.tb.trig.set n q } }.put (Reg.TB_TRIG_STAT_COUNT n) q.length

/-- A capture is pushed, or dropped on a full queue (R45). (Log: 148 DEDUCED.) -/
def State.trigPush (s : State) (n t : Nat) : State :=
  let q := s.trigQ n
  let full := 8 ≤ q.length
  let s := if full then (s.set1 (Reg.TB_TRIG_STAT_OVF n)).countSat (Reg.TB_TRIG_STAT_DROP_CNT n) 1 else s.setTrigQ n (q ++ [t])
  if s.on (Reg.TB_TRIG_CFG_EVT_EN n) then
    let p := pay 16 (s.get (Reg.TB_TRIG_STAT_DROP_CNT n))
    if full then s.eventAt t 0x51 (106 + n / 4) (2 + n) 2 p else s.eventAt t 0x50 (106 + n / 4) (2 + n) 0 p
  else s

/-- The stamp that an edge of TRIGn gives its queue, if it is one to capture (R39, R40). (Log: 160 DEDUCED.) -/
def State.trigStamp (s : State) (n : Nat) (e : PinEdge) : Option Nat :=
  if s.capOn && edgeSel (s.get (Reg.TB_TRIG_CFG_EDGE n)) e.falling && edgePasses e (s.get (Reg.TB_TRIG_CFG_FILT n)) then
    some (s.stamp e.t.ns.toNat)
  else none

/-- TRIG_CAPTURE: an edge of TRIGn (R40, R45). -/
def execTrigCapture (n : Fin 8) (falling : Bool) (t : PinTime) (s : State) : Host.Outcome State Fault Refusal :=
  ok (match s.trigStamp n ⟨falling, t⟩ with
    | some t => s.trigPush n t
    | none => s)

/-- A read of TB_TRIGn_LO, with an edge in the same cycle or none (R45, R46). -/
def State.trigPop (s : State) (n : Nat) (push : Option PinEdge) : State :=
  match s.trigQ n, push.bind (s.trigStamp n) with
  | [], none => s.readLow (0x60104 + 0x10 * n) 0
  | [], some t =>
    let s := ((s.trigPush n t).setTrigQ n [])
    s.readLow (0x60104 + 0x10 * n) t
  | h :: q, p =>
    let s := (s.setTrigQ n q).readLow (0x60104 + 0x10 * n) h
    match p with
    | none => s
    | some t => s.trigPush n t

/-- TRIG_POP (R45, R46). -/
def execTrigPop (n : Fin 8) (push : Option PinEdge) (s : State) : Host.Outcome State Fault Refusal := ok (s.trigPop n push)

/-! ### Compare commands -/

/-- COMPARE_COMMIT: a write of TB_CMPn_HI (R48, R49). -/
def execCompareCommit (n : Fin 8) (hi : BitVec 32) (s : State) : Host.Outcome State Fault Refusal := ok (s.writeCmpHi n hi.toNat)
/-- COMPARE_ENABLE: a write of TB_CMPn_CFG (R50). -/
def execCompareEnable (n : Fin 8) (v : BitVec 32) (s : State) : Host.Outcome State Fault Refusal := ok (s.writeCmpCfg n v.toNat)
/-- FORCE: a write of TB_CMPn_CFG (R54). -/
def execForce (n : Fin 8) (v : BitVec 32) (s : State) : Host.Outcome State Fault Refusal := ok (s.writeCmpCfg n v.toNat)
/-- COMPARE_MATCH: the counter's latest tick is tested against channel `n` (R49, R51). (Log: 25 DEDUCED.) -/
def execCompareMatch (n : Fin 8) (s : State) : Host.Outcome State Fault Refusal := ok (s.cmpTick n false)

/-- The pulse of channel `n` ends once its width has elapsed (R54). (Log: 159 DEDUCED.) -/
def State.pulseEnd (s : State) (n : Nat) : State :=
  match Tbl.get none s.tb.pulse n with
  | none => s
  | some e =>
    if s.ns < e then s
    else { s with tb := { s.tb with pulse := Tbl.put none s.tb.pulse n none } }.cmpPin n false e

/-- PULSE_END (R53, R54). -/
def execPulseEnd (n : Fin 8) (s : State) : Host.Outcome State Fault Refusal := ok (s.pulseEnd n)

/-- XT32 has had no edge for 2 ms (R38). (Log: 158 DEDUCED.) -/
def State.xt32Fail (s : State) : State :=
  let s := (s.set1 Reg.TB_FLAGS_XT32_FAIL).put Reg.TB_STAT_XT32_OK 0
  { s with tb := { s.tb with xt32Dead := true } }.event 0x56 114 0 1 0

/-- XT32_FAIL (R38). -/
def execXt32Fail (s : State) : Host.Outcome State Fault Refusal := ok s.xt32Fail

end Sys2Proof.Machine
end

