-- ==== Sys2Proof/Machine/Power.lean ====
section
/-!
DEFINITION. Power domains, power states, wakes and resets (17_power_clocks_reset.md).
-/
namespace Sys2Proof.Machine

/-- Replace the power logic's state. -/
def State.setPw (s : State) (f : Power → Power) : State := { s with pw := f s.pw }

/-- The code of PWR_STAT.STATE (R513): 0 RUN, 1 IDLE, 2 NAP, 3 TRANSIT, 4 SLEEP, 5 SHIP. -/
def State.pwState (s : State) : Nat := s.get Reg.PWR_STAT_STATE

/-- The plinth is alive: VIN present and not SHIP (R506, R513). -/
def State.plinthOn (s : State) : Bool := s.pw.down != .plinth && s.pwState != 5

/-- Nothing keeps the module from running: no reset is held and no boot is due. (Log: 138 DEDUCED.) -/
def State.awake (s : State) : Bool := s.pw.down == .no && !s.pw.booting

/-! ### What each domain holds (R510, R520) -/

/-- The domain a register of BAR0 lies in, none for the plinth, fuses and flash (R520). -/
def regDom (off : Nat) : Option Nat :=
  if off < 0x100 then none
  else if off < 0x10000 then some 1
  else if off < 0x18000 then some 13
  else if off < 0x20000 then some 2
  else if off < 0x30000 then some 13
  else if off < 0x40000 then none
  else if off < 0x50000 then some 1
  else if off < 0x60000 then (if (Reg.ST_REC 0).off ≤ off ∧ off < (Reg.ST_REC 8).off then none else some 1)
  else if off < 0x60040 then some 3
  else if off < 0x90000 then some 16
  else if off < 0xA0000 then some 15
  else if off < 0xC0000 then some 13
  else if off < 0xD0000 then some 3
  else if off < 0x110000 then some (4 + (off - 0xD0000) / 0x10000)
  else if 0x200000 ≤ off ∧ off < 0x340000 then some (8 + (off - 0x200000) / 0x40000)
  else none

/-- The registers of domain `d` go back to their reset values. -/
def State.dropDom (s : State) (d : Nat) : State :=
  { s with regs := Tbl.drop (fun k => regDom (k / 32) == some d) s.regs
           shadows := Tbl.drop (fun k => regDom k == some d) s.shadows }

/-- What domain `d` holds beside its registers is lost (R520). (Log: 125 DEDUCED.) -/
def State.dropState (s : State) (d : Nat) : State :=
  match d with
  | 1 => { s with
      progs := [], loads := [], fw0 := List.replicate 5 [], upd := none
      life := { s.life with nonce := none, opened := none, lock := none, bad := List.replicate 4 false }
      boot := { s.boot with image := [], recovery := false, req := none }
      st := { SelfTest.zero with flash := s.st.flash } }
  | 2 => s.setHi (fun h => { h with bme := false, d3hot := false })
  | 3 => { s with sw := { Switch.zero with bypass := s.sw.bypass }
                  tb := { s.tb with inRange := 0, acqAlarm := false, lockAlarm := false, corr := [], step := none, stepSeen := [] } }
  | 4 | 5 | 6 | 7 => s.setPort (d - 4) Port.zero
  | 8 | 9 | 10 | 11 | 12 =>
    let cs := (List.range 4).map (fun i => 4 * (d - 8) + i)
    let s := cs.foldl (fun s c => s.setCore c Core.zero) s
    let s := s.setMs (fun m => { m with dma := cs.foldl (fun l c => l.set c CoreDma.zero) m.dma })
    if d = 12 then { s with mix := { s.mix with buses := List.replicate 32 BusCh.zero, rev := Reverb.zero } } else s
  | 13 => { s with
      hi := { HostIf.zero with bme := s.hi.bme, d3hot := s.hi.d3hot, perst := s.hi.perst, nextSeq := s.hi.nextSeq }
      eq := List.replicate 8 EvQueue.zero, pcieHeld := [], pcieHold := [], sch := Sched.zero, al := Alloc.zero
      sv := Services.zero, sram := [], mix := Mix.zero
      ms := { MemSys.zero with dramBad := s.ms.dramBad, dramSoft := s.ms.dramSoft, repaired := s.ms.repaired
                               spares := s.ms.spares, trained := s.ms.trained } }
  | 14 => { s with dram := [], ms := { s.ms with dramBad := [], dramSoft := [], trained := false } }
  | 15 => { s with ao := Analog.zero }
  | 16 => { s with ser := Ser.zero, tb := { s.tb with trig := List.replicate 8 [], cmpHold := [], pulse := [], wclkLast := [], wclkRun := [], wclkAt := [] } }
  | _ => s

/-- Domain `d` is switched off. -/
def State.loseDom (s : State) (d : Nat) : State := (s.dropState d).dropDom d

/-- Domains are switched off together; what is left powered is shown. -/
def State.loseDoms (s : State) (ds : List Nat) : State :=
  let s := ds.foldl (fun s d => s.loseDom d) s
  s.put Reg.PWR_DOM_STAT ((List.range 17).foldl (fun a d => a + (if bit (s.get Reg.PWR_DOM_STAT) d && !ds.contains d then 2 ^ d else 0)) 0)

/-- PD1 to PD16. -/
def allDoms : List Nat := (List.range 16).map (fun d => d + 1)

/-- VAUX33 is on in RUN, IDLE, NAP and TRANSIT, in SLEEP by VAUX_SLEEP, not after an overcurrent and not in a reset
(R508). -/
def State.vaux (s : State) : State :=
  let st := s.pwState
  let on := s.pw.down == .no && !(s.pw.booting && s.pw.woke.isNone) && !s.pw.vauxOff && (decide (st ≤ 3) || (st == 4 && s.on Reg.PWR_CFG_VAUX_SLEEP))
  s.put Reg.PWR_STAT_VAUX_OK (b2n on)

/-- The counter's fast clocks have stopped: COARSE (R36). With XT32 failed a SLEEP loses the counter (R38). -/
def State.toCoarse (s : State) : State := s.put Reg.TB_STAT_SERVO 5

/-! ### Records (R524) -/

/-- A POWER record: the state reached, the state left. -/
def State.powerRec (s : State) (new old : Nat) : State := s.event 0x68 122 0 new (pay 16 old)
/-- A SUPPLY record of a rail with its voltage in mV. (Log: 72 DEDUCED.) -/
def State.supplyRec (s : State) (unit reason mv : Nat) : State := s.event 0x6A 124 unit reason (pay 16 mv)
/-- A THERMAL record. -/
def State.thermalRec (s : State) (reason temp : Nat) : State := s.event 0x69 123 0 reason (pay 16 temp)
/-- A CLOCK record. -/
def State.clockRec (s : State) (unit reason : Nat) : State := s.event 0x6B 125 unit reason 0

/-! ### Full resets (R518, R519) -/

/-- The cause bits of R523: 0 POR to 7 RAIL. -/
def causeFld (c : Nat) : Fld :=
  match c with
  | 0 => Reg.PWR_RST_CAUSE_POR
  | 1 => Reg.PWR_RST_CAUSE_BROWNOUT
  | 2 => Reg.PWR_RST_CAUSE_RESET_N
  | 3 => Reg.PWR_RST_CAUSE_WDOG
  | 4 => Reg.PWR_RST_CAUSE_SOFT
  | 5 => Reg.PWR_RST_CAUSE_REMOTE
  | 6 => Reg.PWR_RST_CAUSE_REF_LOST
  | _ => Reg.PWR_RST_CAUSE_RAIL

/-- PWR_RST_CAUSE is replaced; a cause that arises while a reset waits for its boot is added (R519, R523). -/
def State.setCause (s : State) (c node : Nat) : State :=
  let s := if s.pw.booting then s else (List.range 8).foldl (fun s k => s.put (causeFld k) 0) (s.put Reg.PWR_RST_CAUSE_NODE 0)
  let s := s.set1 (causeFld c)
  if c = 5 then s.put Reg.PWR_RST_CAUSE_NODE node else s

/-- BYPASS_EN falls (R394). (Log: 136 DEDUCED.) -/
def State.bypassLow (s : State) : State := s.setBypass false

/-- PD1 to PD16 are switched off at once: no transition, request or boot stays in progress; the counter runs on in COARSE
(R506, R519). `keep`: the DRAM devices stay powered (R519). -/
def State.switchOff (s : State) (keep : Bool) : State :=
  let d := s.dram
  let bad := s.ms.dramBad
  let soft := s.ms.dramSoft
  let s := s.loseDoms allDoms
  let s := if keep then { s with dram := d, ms := { s.ms with dramBad := bad, dramSoft := soft } } else s
  let s := ((s.put Reg.PWR_STAT_STATE 0).put Reg.PWR_STAT_BUSY 0).put Reg.PWR_STAT_PG 0
  let s := ((s.put Reg.PWR_CLK_STAT_PLL 0).put Reg.PWR_CLK_STAT_AUDIO 0).toCoarse
  let s := (s.put Reg.PWR_DOM_EN Reg.PWR_DOM_EN.reset).setPw (fun p => { p with latched := 0, due := none, clusters := [], halt := false, woke := none })
  s.bypassLow

/-- The crash record is cleared. (Log: 126 DEDUCED.) -/
def State.clearCrash (s : State) : State := (List.range 16).foldl (fun s w => s.put (Reg.PWR_CRASH w) 0) s

/-- A full reset with a cause (R518, R520): the boot follows. (Log: 125 DEDUCED.) -/
def State.fullReset (s : State) (cause node : Nat) : State :=
  let s := s.setCause cause node
  let keep := cause = 3 ∨ cause = 4 ∨ cause = 5
  let s := s.switchOff (decide keep)
  let s := if keep then s else s.clearCrash
  (s.setPw (fun p => { p with booting := true })).vaux

/-- REFSEL takes effect at a wake and at a reset that switches off PD1 (R511). -/
def State.takeRefsel (s : State) : State := s.setPw (fun p => { p with refsel := s.get Reg.PWR_CLK_CFG_REFSEL })

/-! ### Wakes (R515, R516) -/

/-- The counter returns from COARSE to full resolution: RESYNC, and the servo is in ACQUIRE (R28, R37); from there it goes to
FREE at once where no reference is applicable. (Log: 156 DEDUCED.) -/
def State.resync (s : State) : State :=
  if s.servo = 5 then
    let s := ((s.set1 Reg.TB_FLAGS_RESYNC).event 0x56 114 0 2 0).setServo 1
    s.setServo s.refServo
  else s

/-- PER_RUN follows the power state (R542). -/
def State.perRun (s : State) : State :=
  s.put Reg.ST_STAT_PER_RUN (b2n (s.on Reg.ST_CTRL_PER_EN && s.pwState == 0))

/-- A wake from NAP (R516): back to RUN with everything kept. -/
def State.wakeNap (s : State) (cause : Nat) : State :=
  let s := (s.put Reg.PWR_WAKE_CAUSE cause).takeRefsel
  let s := (s.put Reg.PWR_CLK_STAT_PLL 0x3F).put Reg.PWR_STAT_STATE 0
  let s := (List.range 48).foldl (fun s b => if s.get (Reg.MEM_BANK_STATE b) = 1 ∧ s.get (Reg.MEM_BANK_PWR b) = 2 then s.put (Reg.MEM_BANK_STATE b) 2 else s) s
  let s := (s.resync.perRun.vaux).powerRec 0 2
  let s := (List.range 4).foldl (fun s p => if s.on (Reg.FP_CTRL_EN p) && s.domOn (4 + p) then s.retrain p else s) s
  (List.range 16).foldl (fun s n => s.aoTry n) s

/-- A wake from TRANSIT, SLEEP or SHIP: a boot is due (R515, R558). -/
def State.wakeBoot (s : State) (cause : Nat) : State :=
  let old := s.pwState
  let s := s.put Reg.PWR_WAKE_CAUSE (cause ||| (if s.pw.hot then 0x100 else 0))
  let s := (s.put Reg.PWR_STAT_STATE 0).takeRefsel
  (s.setPw (fun p => { p with booting := true, woke := some old, hot := false })).vaux

/-- Wake sources `cause` arrive (R514, R515): latched while a transition runs. (Log: 127 DEDUCED.) -/
def State.wake (s : State) (cause : Nat) : State :=
  if s.pw.down ≠ .no ∨ s.pw.booting then s
  else if s.on Reg.PWR_STAT_BUSY then s.setPw (fun p => { p with latched := p.latched ||| cause })
  else if s.pwState = 2 then s.wakeNap cause
  else if 3 ≤ s.pwState then s.wakeBoot cause
  else s

/-- The state a wake source would wake the module from: the one it stands in, or the one it is entering (R514, R516).
(Log: 138 DEDUCED.) -/
def State.sleeping (s : State) : Nat := if s.on Reg.PWR_STAT_BUSY then 2 else s.pwState

/-- WAKE_PIN_RISE (R515): in SHIP only a level held for 5 ms, which no enable masks. -/
def State.wakePin (s : State) (held : Bool) : State :=
  let st := s.sleeping
  if st = 5 then (if held then s.wake 1 else s)
  else if 2 ≤ st ∧ s.on Reg.PWR_WAKE_CFG_WAKE_PIN then s.wake 1 else s
/-- WAKE_PIN_RISE. -/
def execWakePinRise (held : Bool) (s : State) : Host.Outcome State Fault Refusal := ok (s.wakePin held)

/-- The counter is at or beyond the committed alarm (R515). (Log: 127 DEDUCED.) -/
def State.alarm (s : State) : State :=
  let st := s.sleeping
  if 2 ≤ st ∧ st ≤ 4 ∧ s.on Reg.PWR_WAKE_CFG_ALARM ∧ s.pw.alarm ≤ s.ns then s.wake 4 else s
/-- ALARM_REACHED (R515). -/
def execAlarmReached (s : State) : Host.Outcome State Fault Refusal := ok s.alarm

/-- A write of PWR_ALARM_HI commits the alarm (R515). -/
def State.writeAlarmHi (s : State) (v : Nat) : State :=
  let s := s.put Reg.PWR_ALARM_HI v
  (s.setPw (fun p => { p with alarm := s.get64 Reg.PWR_ALARM_LO Reg.PWR_ALARM_HI })).alarm
/-- ALARM_COMMIT (R515). -/
def execAlarmCommit (v : BitVec 32) (s : State) : Host.Outcome State Fault Refusal := ok (s.writeAlarmHi v.toNat)

/-- A BAR access or the release of PERST_N wakes from NAP (R515). -/
def State.pcieWake (s : State) : State := if s.sleeping = 2 ∧ s.on Reg.PWR_WAKE_CFG_PCIE then s.wake 8 else s
/-- PCIE_WAKE_ACCESS (R515). -/
def execPcieWakeAccess (s : State) : Host.Outcome State Fault Refusal := ok s.pcieWake

/-- PERST_N_RELEASE (R343, R515). -/
def execPerstNRelease (s : State) : Host.Outcome State Fault Refusal :=
  ok (if s.hi.perst then ((s.setHi (fun h => { h with perst := false })).pcieRec 10 7 0 0).pcieWake else s)

/-- UART_WAKE_EDGE (R515). -/
def execUartWakeEdge (u : Fin 4) (s : State) : Host.Outcome State Fault Refusal :=
  ok (if s.sleeping = 2 ∧ bit (s.get Reg.PWR_WAKE_CFG_UART) u.val then s.wake (2 ^ (4 + u.val)) else s)

/-! ### Power states (R513, R514) -/

/-- The current test is cut short by a power state other than RUN (R539). -/
def State.leaveRun (s : State) : State := if s.st.cur.isSome then s.stStop true else s

/-- NAP is complete: clamps, SRAM in RETAIN, PLLs off, COARSE, every link down (R492, R516). A wake that was latched starts
the exit. -/
def State.napDone (s : State) : State :=
  let s := (List.range 16).foldl (fun s n => if s.aoState n = 0 ∨ s.aoState n = 1 then s else s.aoOff n) s
  let s := (List.range 48).foldl (fun s b => if s.get (Reg.MEM_BANK_STATE b) = 2 then s.put (Reg.MEM_BANK_STATE b) 1 else s) s
  let s := (List.range 4).foldl (fun s p => if s.get (Reg.FP_STAT_LSTATE p) = 0 then s else s.linkDown p 0) s
  let s := ((s.put Reg.PWR_STAT_BUSY 0).powerRec 2 0).setServo 5
  let s := ((s.put Reg.PWR_CLK_STAT_PLL 0).put Reg.PWR_CLK_STAT_AUDIO 0).put Reg.TB_STAT_AUDIO_LOCK 0
  let s := s.put Reg.PWR_STAT_STATE 2
  let c := s.pw.latched
  let s := s.setPw (fun p => { p with latched := 0 })
  if c = 0 then s else s.wakeNap c
/-- NAP_ENTRY_RAMPS_DONE (R516). -/
def execNapEntryRampsDone (s : State) : Host.Outcome State Fault Refusal := ok (if s.on Reg.PWR_STAT_BUSY then s.napDone else s)

/-- Entry to TRANSIT: PD0, PD3 and the enabled ports stay on (R513). (Log: 125 DEDUCED.) -/
def State.toTransit (s : State) : State :=
  let s := (s.wclkDrop 0).wclkDrop 1
  let ports := (List.range 4).filter (fun p => s.on (Reg.FP_CTRL_EN p) && s.domOn (4 + p))
  let s := s.loseDoms (allDoms.filter (fun d => d != 3 && !(ports.map (fun p => p + 4)).contains d))
  let s := (s.put Reg.PWR_DOM_EN Reg.PWR_DOM_EN.reset).setPw (fun p => { p with latched := 0, due := none, clusters := [] })
  let s := (s.put Reg.TB_STAT_AUDIO_LOCK 0).put Reg.PWR_CLK_STAT_AUDIO 0
  ((s.put Reg.PWR_CLK_STAT_PLL 10).put Reg.PWR_STAT_STATE 3).vaux

/-- Entry to SLEEP: PD0 alone stays on (R513); a failed XT32 loses the counter (R38). (Log: 125 DEDUCED.) -/
def State.toSleep (s : State) : State :=
  let s := (s.switchOff false).put Reg.PWR_STAT_STATE 4
  (if s.tb.xt32Dead then { s with tb := { s.tb with now := 0, prev := 0 } } else s).vaux

/-- The plinth's own contents are lost (R520 rows 2 to 5, R521). -/
def State.losePlinth (s : State) : State :=
  let s := s.dropRegs 0x30000 0x40000
  let s := s.dropRegs (Reg.ST_REC 0).off (Reg.ST_REC 8).off
  { s with tb := TimeBase.zero, boot := { s.boot with plinth := none }, pw := Power.zero }

/-- Entry to SHIP: the input switch opens (R513, R517); the counter is lost. -/
def State.toShip (s : State) : State :=
  let s := (s.switchOff false).losePlinth
  let s := (s.setPw (fun p => { p with booting := false })).put Reg.PWR_DOM_STAT 0
  let s := s.put Reg.TB_STAT_SERVO Reg.TB_STAT_SERVO.reset
  ((s.put Reg.PWR_STAT_STATE 5).put Reg.PWR_STAT_PG 0).vaux

/-- Something that NAP may not interrupt is in progress (R514). -/
def State.napBusy (s : State) : Bool :=
  !s.hi.dmas.isEmpty || !s.loads.isEmpty || !s.sv.src.isEmpty || !s.sv.dst.isEmpty
    || s.ser.uarts.any (fun u => u.run.isSome || !u.txq.isEmpty) || s.ms.test.isSome

/-- A request for state `t` is refused (R514, R574). -/
def State.pwRefuses (s : State) (t : Nat) : Bool :=
  s.on Reg.PWR_STAT_BUSY || t == s.pwState || decide (6 ≤ t)
    || ((t == 1 || t == 2 || t == 3) && (s.schState != 0 || s.upd.isSome))
    || (t == 2 && s.napBusy) || (t == 0 && s.pwState != 1)

/-- An accepted request for state `t` (R514 to R517). -/
def State.pwEnter (s : State) (t : Nat) : State :=
  let old := s.pwState
  match t with
  | 0 => ((s.put Reg.PWR_STAT_STATE 0).perRun).powerRec 0 old
  | 1 => (((s.leaveRun).put Reg.PWR_STAT_STATE 1).perRun).powerRec 1 old
  | 2 =>
    let s := (s.leaveRun.bypassLow).put Reg.PWR_STAT_BUSY 1
    let s := (List.range 16).foldl (fun s n => s.aoDown n) s
    s.put Reg.ST_STAT_PER_RUN 0
  | 3 => s.toTransit
  | 4 => s.toSleep
  | _ => s.toShip

/-- Leave IDLE where a command needs what it gates (R514). (Log: 98 DEDUCED.) -/
def State.leaveIdle (s : State) : State := if s.pwState = 1 then s.pwEnter 0 else s

/-- A write of PWR_REQ, by a register write or a management frame (R514). -/
def State.writePwrReq (s : State) (t : Nat) : State :=
  if s.pwRefuses t then s.set1 Reg.PWR_FLAGS_REQ_REFUSED else s.pwEnter t

/-! ### Reset requests (R518) -/

/-- A reset request's kind and mask are legal (R518); `op5`: by management OP 5. -/
def resetLegal (kind mask : Nat) (op5 : Bool) : Bool :=
  decide (mask < 32) && (kind == 1 || (kind == 2 && mask != 0) || (kind == 4 && op5))

/-- Reset the clusters of a mask; `fl` completes once they are back (R518). Clusters whose domain is off have nothing to
reset. (Log: 128 DEDUCED.) -/
def State.resetClusters (s : State) (mask : Nat) (fl : Option Flight) : State :=
  let l := (List.range 5).filter (fun k => bit mask k && s.domOn (8 + k))
  let s := l.foldl (fun s k => ([4 * k, 4 * k + 1, 4 * k + 2, 4 * k + 3].foldl (fun s c => s.stCutCore c) s).clusterReset k) s
  if l.isEmpty then (match fl with | some f => s.complete f s.ns 0 0 0 | none => s)
  else s.setPw (fun p => { p with clusters := p.clusters ++ [(fl, l)] })

/-- Cluster `k` is back in service; commands that waited for it alone complete OK (R518). -/
def State.clusterReturn (s : State) (k : Nat) : State :=
  let s := s.clusterBack k
  let l := s.pw.clusters.map (fun e => (e.1, e.2.filter (fun j => j != k)))
  let s := s.setPw (fun p => { p with clusters := l.filter (fun e => !e.2.isEmpty) })
  l.foldl (fun s e => match e.2, e.1 with
    | [], some f => s.complete f s.ns 0 0 0
    | _, _ => s) s
/-- CLUSTER_RETURN (R518, R240, R252). -/
def execClusterReturn (k : Fin 5) (s : State) : Host.Outcome State Fault Refusal := ok (s.clusterReturn k.val)

/-- A full reset asked for by a descriptor or a frame begins 100 µs later (R518). (Log: 128 DEDUCED.) -/
def State.askReset (s : State) (cause node : Nat) : State :=
  s.setPw (fun p => { p with due := match p.due with
    | some d => some d
    | none => some (s.tb.real + 100000 * 2 ^ 32, cause, node) })

/-- The reset asked for begins once its time has come. (Log: 128 DEDUCED.) -/
def State.dueReset (s : State) : State :=
  match s.pw.due with
  | some (t, c, n) => if t ≤ s.tb.real then s.fullReset c n else s
  | none => s

/-- A write of PWR_RST_REQ (R518, R522). -/
def State.writeRstReq (s : State) (v : Nat) : State :=
  let kind := bits v 0 3
  let mask := bits v 8 5
  if kind = 1 then s.fullReset 4 0
  else if kind = 2 ∧ mask ≠ 0 then s.resetClusters mask none
  else s.set1 Reg.PWR_FLAGS_REQ_REFUSED

/-! ### Supply and rails (R506 to R508) -/

/-- VIN as measured. -/
def State.setVin (s : State) (mv : Nat) : State := s.put Reg.PWR_VIN mv

/-- VIN_LOW (R506). -/
def execVinLow (mv : BitVec 16) (s : State) : Host.Outcome State Fault Refusal :=
  ok (if s.plinthOn ∧ mv.toNat < 4400 then
    (((s.setVin mv.toNat).put Reg.PWR_STAT_VIN_OK 0).set1 Reg.PWR_FLAGS_VIN_LOW).supplyRec 0 1 mv.toNat
  else s)

/-- VIN_HIGH (R506). -/
def execVinHigh (mv : BitVec 16) (s : State) : Host.Outcome State Fault Refusal :=
  ok (if s.plinthOn ∧ 50000 < mv.toNat then
    (((s.setVin mv.toNat).put Reg.PWR_STAT_VIN_OK 0).set1 Reg.PWR_FLAGS_VIN_HIGH).supplyRec 0 2 mv.toNat
  else s)

/-- VIN_WITHIN_RANGE (R506). -/
def execVinWithinRange (mv : BitVec 16) (s : State) : Host.Outcome State Fault Refusal :=
  ok (if s.plinthOn ∧ s.pw.down = .no ∧ !s.on Reg.PWR_STAT_VIN_OK ∧ 4500 ≤ mv.toNat ∧ mv.toNat ≤ 48000 then
    ((s.setVin mv.toNat).set1 Reg.PWR_STAT_VIN_OK).supplyRec 0 4 mv.toNat
  else s)

/-- The supply is cut: PD1 to PD16 off at once, the plinth kept (R506). -/
def State.cutSupply (s : State) (why : Down) (mv : Nat) : State :=
  let s := ((s.setVin mv).put Reg.PWR_STAT_VIN_OK 0).switchOff false
  (s.setPw (fun p => { p with down := why, booting := false })).vaux

/-- BROWN_OUT (R506). -/
def execBrownOut (mv : BitVec 16) (s : State) : Host.Outcome State Fault Refusal :=
  ok (if s.plinthOn ∧ mv.toNat < 4000 then s.cutSupply .brown mv.toNat else s)
/-- OVERVOLTAGE_CUTOFF (R506). -/
def execOvervoltageCutoff (mv : BitVec 16) (s : State) : Host.Outcome State Fault Refusal :=
  ok (if s.plinthOn ∧ 54000 < mv.toNat then s.cutSupply .overvolt mv.toNat else s)

/-- VIN is back after a brown-out or a cut-off: boot with cause BROWNOUT (R506, R515). (Log: 127 DEDUCED.) -/
def State.vinBack (s : State) (mv : Nat) : State :=
  if (s.pw.down = .brown ∧ 4400 < mv) ∨ (s.pw.down = .overvolt ∧ mv < 50000) then
    let s := ((s.setVin mv).put Reg.PWR_STAT_VIN_OK (b2n (decide (4500 ≤ mv ∧ mv ≤ 48000)))).setPw (fun p => { p with down := .no })
    (s.fullReset 1 0).put Reg.PWR_WAKE_CAUSE (0x200 + (if s.pw.hot then 0x100 else 0)) |>.setPw (fun p => { p with hot := false })
  else s
/-- VIN_RECOVERED (R506). -/
def execVinRecovered (mv : BitVec 16) (s : State) : Host.Outcome State Fault Refusal := ok (s.vinBack mv.toNat)

/-- The plinth is lost: nothing but fuses and flash stays (R506, R520). -/
def State.plinthLoss (s : State) : State :=
  let s := (s.switchOff false).losePlinth
  s.setPw (fun p => { p with down := .plinth, booting := false })
/-- PLINTH_LOSS (R506). -/
def execPlinthLoss (s : State) : Host.Outcome State Fault Refusal := ok s.plinthLoss

/-- A power-on reset: every register at its reset value, the boot due (R518, R520). -/
def State.powerOn (s : State) (mv : Nat) : State :=
  let s := s.plinthLoss
  let s := s.dropRegs 0x30000 0x40000
  let s := { s with tb := TimeBase.zero, pw := Power.zero }
  (s.put Reg.TB_STAT_SERVO Reg.TB_STAT_SERVO.reset).setVin mv
/-- POWER_ON_RESET (R518). -/
def execPowerOnReset (mv : BitVec 16) (s : State) : Host.Outcome State Fault Refusal :=
  ok (if s.pw.down = .plinth ∧ 4400 < mv.toNat then s.powerOn mv.toNat else s)

/-- A rail feeds a domain that is powered, so it is judged (R507). (Log: 129 DEDUCED.) -/
def State.railJudged (s : State) (r : Nat) : Bool :=
  let any (l : List Nat) : Bool := l.any (fun d => s.domOn d)
  s.pw.down == .no && (match r with
  | 1 => any [1, 2, 3, 4, 5, 6, 7, 8, 9, 10, 11, 12, 13, 16]
  | 2 => any [13]
  | 3 => any [14, 15]
  | 4 | 5 => any [14]
  | 6 => any [1, 3]
  | 7 => s.on Reg.PWR_STAT_VAUX_OK
  | 10 => true
  | _ => false)

/-- A rail leaves its window (R507); of rails 0, 8 and 9 other rules speak (R453, R506). (Log: 129 DEDUCED.) -/
def State.railOut (s : State) (r mv : Nat) : State :=
  if !s.railJudged r then s
  else
    let s := (s.set1 Reg.PWR_FLAGS_RAIL_FAULT).supplyRec r 3 mv
    if r = 10 then (if mv < 1000 then s.plinthLoss else s)
    else if r = 7 then s.put Reg.PWR_STAT_VAUX_OK 0
    else s.fullReset 7 0
/-- RAIL_OUT_OF_WINDOW (R507). -/
def execRailOutOfWindow (r : Fin 11) (mv : BitVec 32) (s : State) : Host.Outcome State Fault Refusal := ok (s.railOut r.val mv.toNat)

/-- VAUX_OVERCURRENT (R508). -/
def execVauxOvercurrent (mv : BitVec 32) (s : State) : Host.Outcome State Fault Refusal :=
  ok (if s.on Reg.PWR_STAT_VAUX_OK then
    (((s.setPw (fun p => { p with vauxOff := true })).put Reg.PWR_STAT_VAUX_OK 0).set1 Reg.PWR_FLAGS_VAUX_OC).supplyRec 7 3 mv.toNat
  else s)
/-- VAUX_RETRY (R508). -/
def execVauxRetry (s : State) : Host.Outcome State Fault Refusal :=
  ok (if s.pw.vauxOff then (s.setPw (fun p => { p with vauxOff := false })).vaux else s)

/-! ### Temperature (R509) -/

/-- TH_WARN in 0.1 °C as it acts (R523). -/
def State.thWarn (s : State) : Int := 10 * ((max 60 (min 115 (s.get Reg.PWR_CFG_TH_WARN)) : Nat) : Int)

/-- TJ crosses TH_WARN, or falls 5 °C below it (R509). -/
def State.thermCross (s : State) (t : BitVec 16) : State :=
  if !s.plinthOn then s
  else
    let s := s.put Reg.PWR_TEMP t.toNat
    if !s.on Reg.PWR_STAT_THERM ∧ s.thWarn ≤ t.toInt then
      ((s.set1 Reg.PWR_STAT_THERM).set1 Reg.PWR_FLAGS_THERM_WARN).thermalRec 1 t.toNat
    else if s.on Reg.PWR_STAT_THERM ∧ t.toInt ≤ s.thWarn - 50 then
      ((s.put Reg.PWR_STAT_THERM 0).set1 Reg.PWR_FLAGS_THERM_WARN).thermalRec 3 t.toNat
    else s
/-- THERMAL_WARN_CROSS (R509). -/
def execThermalWarnCross (t : BitVec 16) (s : State) : Host.Outcome State Fault Refusal := ok (s.thermCross t)

/-- TJ reaches 125 °C: a record, and SLEEP at once (R509). (Log: 127 DEDUCED.) -/
def State.thermShut (s : State) (t : BitVec 16) : State :=
  if s.pw.down = .no ∧ s.pwState ≤ 3 ∧ 1250 ≤ t.toInt then
    let s := (s.put Reg.PWR_TEMP t.toNat).thermalRec 2 t.toNat
    (s.setPw (fun p => { p with booting := false, hot := true })).toSleep
  else s
/-- THERMAL_SHUTDOWN (R509). -/
def execThermalShutdown (t : BitVec 16) (s : State) : Host.Outcome State Fault Refusal := ok (s.thermShut t)

/-- THERMAL_RESTART (R509). -/
def execThermalRestart (t : BitVec 16) (s : State) : Host.Outcome State Fault Refusal :=
  ok (if s.pwState = 4 ∧ s.pw.hot ∧ s.on Reg.PWR_CFG_AUTO_RESTART ∧ t.toInt < 950 then (s.put Reg.PWR_TEMP t.toNat).wake 0x100 else s)

/-! ### Domains (R510) -/

/-- Software may switch domain `d` off now (R510); none for a domain it never switches. -/
def State.domFree (s : State) (d : Nat) : Option Bool :=
  let benched (k : Nat) : Bool := (List.range 4).all (fun i => s.chState (4 * k + i) == 5)
  match d with
  | 2 | 4 | 5 | 6 | 7 | 15 | 16 => some true
  | 8 | 9 | 10 | 11 => some (benched (d - 8))
  | 12 => some (s.schState == 0 && benched 4)
  | 14 => some (s.schState == 0 && !(List.range 64).any (fun w => s.on (Reg.MEM_WIN_CTRL_EN w) && s.on (Reg.MEM_WIN_CTRL_SPACE w)))
  | _ => none

/-- Domain `d` is switched off by software. -/
def State.domOff (s : State) (d : Nat) : State :=
  let s := s.put Reg.PWR_DOM_EN (s.get Reg.PWR_DOM_EN - 2 ^ d)
  let s := match d with
    | 2 => ((s.setHi (fun h => { h with bme := false, d3hot := false })).pcieReset).linkOff
    | 4 | 5 | 6 | 7 => if s.get (Reg.FP_STAT_LSTATE (d - 4)) = 0 then s else s.linkDown (d - 4) 0
    | 15 => match s.aoTested with
      | some _ => s.stStop false
      | none => s
    | 16 => (s.wclkDrop 0).wclkDrop 1
    | _ => s
  let s := s.loseDoms [d]
  if 4 ≤ d ∧ d ≤ 5 ∧ !s.bypassOk then s.setBypass false else s

/-- Domain `d` is switched on: its power-on state; an enabled port begins to train (R363); a cluster reloads IMEM and stays BENCHED (R252, R510). -/
def State.domUp (s : State) (d : Nat) : State :=
  let s := (s.put Reg.PWR_DOM_EN (s.get Reg.PWR_DOM_EN + 2 ^ d)).put Reg.PWR_DOM_STAT (s.get Reg.PWR_DOM_STAT + 2 ^ d)
  match d with
  | 8 | 9 | 10 | 11 | 12 =>
    [0, 1, 2, 3].foldl (fun s i => (s.coreReset (4 * (d - 8) + i)).put (Reg.CH_STAT_STATE (4 * (d - 8) + i)) 5) s
  | 4 | 5 | 6 | 7 => s.retrain (d - 4)
  | 14 => s.setMs (fun m => { m with trained := true })
  | _ => s

/-- A write of PWR_DOM_EN (R510). -/
def State.writeDomEn (s : State) (v : Nat) : State :=
  if 2 ≤ s.pwState then s
  else
    (List.range 17).foldl (fun s d =>
      let on := bit (s.get Reg.PWR_DOM_EN) d
      match s.domFree d with
      | none => s
      | some free =>
        if on = bit v d then s
        else if !on then s.domUp d
        else if free then s.domOff d
        else s.set1 Reg.PWR_FLAGS_DOM_REFUSED) s
/-- DOMAIN_ENABLE_WRITE (R510). -/
def execDomainEnableWrite (v : BitVec 32) (s : State) : Host.Outcome State Fault Refusal := ok (s.writeDomEn v.toNat)

/-! ### Clocks (R511, R512) -/

/-- PLL `p` unlocks (R512): of PLL 2 the audio rules speak (R35); the table names no result of PLL 1. (Log: 129 DEDUCED.) -/
def State.pllLost (s : State) (p : Nat) : State :=
  let v := s.get Reg.PWR_CLK_STAT_PLL
  if !bit v p then s
  else
    let s := s.put Reg.PWR_CLK_STAT_PLL (v - 2 ^ p)
    match p with
    | 1 => s
    | 2 => if s.on Reg.TB_STAT_AUDIO_LOCK then
        ((s.put Reg.TB_STAT_AUDIO_LOCK 0).put Reg.PWR_CLK_STAT_AUDIO 0).event 0x57 115 0 2 (pay 16 s.fs)
      else s
    | _ =>
      let s := (s.set1 Reg.PWR_FLAGS_PLL_UNLOCK).clockRec p 1
      if p = 3 ∧ !s.bypassOk then s.setBypass false else s
/-- PLL_UNLOCK (R512). -/
def execPllUnlock (p : Fin 6) (s : State) : Host.Outcome State Fault Refusal := ok (s.pllLost p.val)

/-- PLL_RELOCK (R512). -/
def execPllRelock (p : Fin 6) (s : State) : Host.Outcome State Fault Refusal :=
  ok (let v := s.get Reg.PWR_CLK_STAT_PLL
      if bit v p.val ∨ s.pwState ≥ 2 ∨ s.pw.down ≠ .no then s else s.put Reg.PWR_CLK_STAT_PLL (v + 2 ^ p.val))

/-- The reference has stopped where it serves (R511 to R513): every fast clock stops, the counter is in COARSE, BYPASS_EN
falls, the clamps engage. -/
def State.refLoss (s : State) : State :=
  if s.pw.down = .no ∧ s.on Reg.PWR_CLK_STAT_REF_OK ∧ s.pwState ≤ 3 then
    let s := (List.range 16).foldl (fun s n => if s.aoState n = 0 then s else s.aoOff n) s
    let s := ((s.put Reg.PWR_CLK_STAT_REF_OK 0).put Reg.PWR_CLK_STAT_PLL 0).put Reg.PWR_CLK_STAT_AUDIO 0
    let s := ((s.put Reg.TB_STAT_AUDIO_LOCK 0).toCoarse).bypassLow
    s.setPw (fun p => { p with down := .ref })
  else s
/-- REFERENCE_LOSS (R512). -/
def execReferenceLoss (s : State) : Host.Outcome State Fault Refusal := ok s.refLoss

/-- The reference is back: a full reset with cause REF_LOST (R512). -/
def State.refIsBack (s : State) : State :=
  if s.pw.down = .ref then
    let s := (s.setPw (fun p => { p with down := .no })).put Reg.PWR_CLK_STAT_REF_OK 1
    (s.fullReset 6 0).setPw (fun p => { p with refBack := true })
  else s
/-- REFERENCE_RETURN (R512). -/
def execReferenceReturn (s : State) : Host.Outcome State Fault Refusal := ok s.refIsBack

/-! ### RESET_N and the watchdog (R518, R519) -/

/-- RESET_N is low: a full reset, held (R518). -/
def State.resetLow (s : State) : State :=
  if s.pw.down = .plinth ∨ s.pwState = 5 then s
  else (s.fullReset 2 0).setPw (fun p => { p with down := .held, booting := true }) |>.vaux
/-- RESET_N_ASSERT. -/
def execResetNAssert (s : State) : Host.Outcome State Fault Refusal := ok s.resetLow
/-- RESET_N_RELEASE (R518). -/
def execResetNRelease (s : State) : Host.Outcome State Fault Refusal :=
  ok (if s.pw.down = .held then (s.setPw (fun p => { p with down := .no })).vaux else s)

/-- The MC is not fed for 500 ms (R518, R519): the crash record, then a full reset. (Log: 126 DEDUCED.) -/
def State.watchdog (s : State) (pc : Nat) (stack : List (BitVec 32)) : State :=
  if !s.awake ∨ 2 ≤ s.pwState then s
  else
    let t := s.ns
    let ver := s.get Reg.ID_FW_VER
    let slot := s.get Reg.ID_BOOT_STAT_SOURCE
    let s := s.fullReset 3 0
    let cause := s.word 0x30030
    let ws := [cause, pc, t % 2 ^ 32, t / 2 ^ 32, ver, if slot = 1 then 1 else 0] ++ (stack.map BitVec.toNat).take 10
    ((List.range 16).zip (ws ++ List.replicate 16 0)).foldl (fun s e => s.put (Reg.PWR_CRASH e.1) e.2) s
/-- WATCHDOG_EXPIRY (R518). -/
def execWatchdogExpiry (pc : BitVec 32) (stack : List (BitVec 32)) (s : State) : Host.Outcome State Fault Refusal :=
  ok (s.watchdog pc.toNat stack)

/-! ### Time with no command (R17, R36, R518) -/

/-- What happens while no command waits: one tick of the counter, and the reset asked for once its 100 µs have passed. Without
its supply the plinth counts nothing. (Log: 14 DESIGN CHOICE.) -/
def State.powerIdle (s : State) : State := if s.plinthOn then s.tick.dueReset else s

end Sys2Proof.Machine
end

