-- ==== Sys2Proof/Machine/Life.lean ====
section
/-!
DEFINITION. Life cycle and service access (19_life_cycle_security.md), and the debug port (R36, R547).
-/
namespace Sys2Proof.Machine

/-- Whole seconds of the PD1 timer from `t` to now (R551). -/
def State.realSec (s : State) (t : Nat) : Nat := (s.tb.real - t) / (1000000000 * 2 ^ 32)
/-- Seconds left of `len` s begun at `t`, rounded up. -/
def State.leftSec (s : State) (t len : Nat) : Nat := (len * (1000000000 * 2 ^ 32) - (s.tb.real - t) + (1000000000 * 2 ^ 32 - 1)) / (1000000000 * 2 ^ 32)

/-- The effective state (R544). -/
def State.lcState (s : State) : Nat := s.get Reg.LC_STAT_STATE

/-- LC_STAT and LC_KEYS follow the fuses, the flash and the session. -/
def State.lcShow (s : State) : State :=
  let fused := s.life.fused
  let s := (s.put Reg.LC_STAT_FUSED fused).put Reg.LC_STAT_STATE (if fused = 2 ∧ s.life.opened.isSome then 3 else fused)
  let s := if s.life.opened.isSome then s else s.put Reg.LC_STAT_SCOPE 0
  let s := (s.put Reg.LC_STAT_LOCKED (b2n s.life.lock.isSome)).put Reg.LC_STAT_NONCE_VALID (b2n s.life.nonce.isSome)
  let s := (List.range 4).foldl (fun s k => s.put (Reg.LC_KEYS_SLOT k) (s.life.slotStat k)) s
  let s := (s.put Reg.LC_KEYS_SVCKEY (fieldStat s.life.svc)).put Reg.LC_KEYS_PASSWD (fieldStat s.life.pwd)
  s.put Reg.LC_STAT_FAILS s.life.fails

/-- A LIFECYCLE record (R359). -/
def State.lcRec (s : State) (reason old new lock : Nat) : State := s.event 0x70 126 0 reason (pay 16 old + pay 17 new + pay 20 lock)

/-- Change the life-cycle data and what shows it. -/
def State.lcSet (s : State) (f : Life → Life) : State := (s.setLife f).lcShow

/-! ### The debug port (R36, R37, R547) -/

/-- A global debug halt begins: the fast clocks stop (R36). -/
def State.debugHalt (s : State) : State :=
  if s.pw.halt ∨ s.pw.down ≠ .no ∨ 2 ≤ s.pwState then s
  else (s.setServo 5).setPw (fun p => { p with halt := true })
/-- It ends (R37). (Log: 131 DEDUCED.) -/
def State.debugGo (s : State) : State :=
  if s.pw.halt then (s.setPw (fun p => { p with halt := false })).resync else s

/-- DEBUG_PORT_INSTRUCTION: closed, every instruction but IDCODE acts as BYPASS, which changes nothing (R547); open, a global
halt and its release act on the clocks, and the other instructions reach pads and probes, not the state. -/
def execDebugPortInstruction (i : DebugInstr) (s : State) : Host.Outcome State Fault Refusal :=
  ok (if s.debugOpen then
    match i with
    | .halt => s.debugHalt
    | .release => s.debugGo
    | .idcode => s
    | .bypass => s
    | .other => s
  else s)

/-! ### Closing actions (R552) -/

/-- What closes with the debug access: breakpoints, halts, FAULT_ACT, a raw test (R552 steps 1 to 4). The new life-cycle state
stands before they run. (Log: 130 DEDUCED.) -/
def State.closeDebug (s : State) : State :=
  let s := s.debugGo
  let s := (List.range 20).foldl (fun s c =>
    let s := s.put (Reg.CH_CTRL_BRK_EN c) 0
    let s := (List.range 4).foldl (fun s m => (s.put (Reg.CH_BRK_EN c m) 0).put (Reg.CH_BRK_PC c m) 0) s
    s.resumeCore c) s
  let s := (List.range 5).foldl (fun s k =>
    if [4 * k, 4 * k + 1, 4 * k + 2, 4 * k + 3].any (fun c => s.chState c == 4) then s.clusterReset k else s) s
  match s.st.cur with
  | some t => if t.raw then s.stStop false else s
  | none => s

/-- The session ends (R551, R552). -/
def State.endSession (s : State) : State :=
  if s.life.opened.isSome then
    ((s.lcSet (fun l => { l with opened := none })).closeDebug).lcRec 3 3 2 0
  else s

/-- SESSION_EXPIRY (R552): 28 800 s have passed. -/
def execSessionExpiry (s : State) : Host.Outcome State Fault Refusal :=
  ok (match s.life.opened with
    | some t => if 28800 ≤ s.realSec t then s.endSession.set1 Reg.LC_FLAGS_EXPIRED else s
    | none => s)

/-- The nonce is valid: drawn less than 60 s ago and not used (R551). -/
def State.nonceNow (s : State) : Option (List (BitVec 8)) :=
  match s.life.nonce with
  | some (n, t) => if s.realSec t < 60 then some n else none
  | none => none
/-- NONCE_EXPIRY (R551). -/
def execNonceExpiry (s : State) : Host.Outcome State Fault Refusal :=
  ok (if s.nonceNow.isNone then s.lcSet (fun l => { l with nonce := none }) else s)

/-- Seconds left of the running lockout, 0 if none runs (R553). -/
def State.lockLeft (s : State) : Nat :=
  match s.life.lock with
  | some (t, len) => if s.realSec t < len then s.leftSec t len else 0
  | none => 0
/-- LOCKOUT_END (R553). -/
def execLockoutEnd (s : State) : Host.Outcome State Fault Refusal :=
  ok (if s.lockLeft = 0 then s.lcSet (fun l => { l with lock := none }) else s)

/-- Seconds left of the session (R556). -/
def State.svcLeft (s : State) : Nat :=
  match s.life.opened with
  | some t => if s.realSec t < 28800 then s.leftSec t 28800 else 0
  | none => 0

/-! ### Openings (R550 to R553) -/

/-- The lockout for a number of failures (R553). -/
def lockLen (fails : Nat) : Nat := min (60 * 2 ^ (fails - 5)) 61440

/-- A failed check (R553). -/
def State.authFail (s : State) : State :=
  let s := (s.lcSet (fun l => { l with fails := min 255 (l.fails + 1) })).set1 Reg.LC_FLAGS_AUTH_FAIL
  let s := s.lcRec 4 s.lcState s.lcState 0
  if 5 ≤ s.life.fails then
    let n := lockLen s.life.fails
    let s := (s.lcSet (fun l => { l with lock := some (s.tb.real, n) })).set1 Reg.LC_FLAGS_LOCKOUT
    s.lcRec 5 s.lcState s.lcState n
  else s

/-- A successful opening with a scope (R551). -/
def State.openSession (s : State) (scope : Nat) : State :=
  let old := s.lcState
  let s := s.put Reg.LC_STAT_SCOPE scope
  (s.lcSet (fun l => { l with fails := 0, opened := some s.tb.real })).lcRec 2 old 3 0

/-- The answer of a command of R554: status, DETAIL, seconds. -/
structure LcAns where
  /-- Status (R322). -/
  status : Nat
  /-- DETAIL. -/
  detail : Nat
  /-- Seconds of the session or the lockout. -/
  sec : Nat
deriving DecidableEq, Repr

/-- A scope a request may carry (R550). -/
def scopeOk (scope : Nat) : Bool := decide (1 ≤ scope ∧ scope < 8)

/-- A session may be opened: FIELD or SERVICE (R547). (Log: 131 DEDUCED.) -/
def State.mayOpen (s : State) : Bool := s.lcState == 2 || s.lcState == 3

/-- The service key is programmed (R551). -/
def State.hasSvc (s : State) : Bool := !fieldEmpty s.life.svc && !fieldGone s.life.svc
/-- The password is programmed. -/
def State.hasPwd (s : State) : Bool := !fieldEmpty s.life.pwd && !fieldGone s.life.pwd

/-- Eight open words as 32 bytes: what the random generator draws (R551, R555). -/
def State.freeBytes (s : State) : Nat → List (BitVec 8) × State
  | 0 => ([], s)
  | n + 1 =>
    let (w, s) := s.freeWord
    let (l, s) := s.freeBytes n
    (leBytes 4 w.toNat ++ l, s)

/-- CHALLENGE (R551, R553). -/
def State.lcChallenge (s : State) : State × LcAns :=
  if !s.mayOpen ∨ !s.hasSvc then (s, ⟨0x1C, 1, 0⟩)
  else if s.lockLeft ≠ 0 then (s, ⟨0x1C, 2, s.lockLeft⟩)
  else
    let (n, s) := s.freeBytes 8
    (s.lcSet (fun l => { l with nonce := some (n, s.tb.real) }), ⟨0, 0, 0⟩)

/-- SIGNED with 128 bytes (R551). (Log: 131 DEDUCED.) -/
def State.lcSigned (s : State) (scope : Nat) (data : List (BitVec 8)) : State × LcAns :=
  if !s.mayOpen ∨ !s.hasSvc then (s, ⟨0x1C, 1, 0⟩)
  else if s.lockLeft ≠ 0 then (s, ⟨0x1C, 2, s.lockLeft⟩)
  else match s.nonceNow with
    | none => (s, ⟨0x1C, 2, 0⟩)
    | some n =>
      let s := s.lcSet (fun l => { l with nonce := none })
      let m := n ++ leBytes 8 s.uid ++ leBytes 4 scope
      if sha256 (data.take 64) = s.life.svc ∧ sigOk (data.take 64) m ((data.drop 64).take 64) then
        let s := s.openSession scope
        (s, ⟨0, 0, s.svcLeft⟩)
      else
        let s := s.authFail
        (s, ⟨0x1A, s.life.fails, 0⟩)

/-- PASSWORD with 16 bytes (R550, R551). -/
def State.lcPassword (s : State) (scope : Nat) (data : List (BitVec 8)) : State × LcAns :=
  if !s.mayOpen ∨ !s.hasPwd ∨ bit scope 2 then (s, ⟨0x1C, 1, 0⟩)
  else if s.lockLeft ≠ 0 then (s, ⟨0x1C, 2, s.lockLeft⟩)
  else if sha256 (s.life.salt ++ data.take 16) = s.life.pwd then
    let s := s.openSession scope
    (s, ⟨0, 0, s.svcLeft⟩)
  else
    let s := s.authFail
    (s, ⟨0x1A, s.life.fails, 0⟩)

/-- CLOSE (R552, R554). -/
def State.lcClose (s : State) : State × LcAns := (s.endSession, ⟨0, 0, 0⟩)

/-- The operations of R554: 1 CHALLENGE, 2 SIGNED, 3 PASSWORD, 4 CLOSE. (Log: 131 DEDUCED.) -/
def State.lcOp (s : State) (op scope : Nat) (data : List (BitVec 8)) : State × LcAns :=
  match op with
  | 1 => s.lcChallenge
  | 2 => if scopeOk scope then s.lcSigned scope data else (s, ⟨3, 0, 0⟩)
  | 3 => if scopeOk scope then s.lcPassword scope data else (s, ⟨3, 0, 0⟩)
  | 4 => s.lcClose
  | _ => (s, ⟨3, 0, 0⟩)

/-! ### Fuses (R548, R549, R555) -/

/-- The session's scope holds bit `k`, in SERVICE (R550). -/
def State.scopeHas (s : State) (k : Nat) : Bool := s.lcState == 3 && bit (s.get Reg.LC_STAT_SCOPE) k

/-- Retirement, steps 2 and 3 of R549: the keys are destroyed, the flash erased. (Log: 130 DEDUCED.) -/
def State.retireWork (s : State) : State :=
  let gone (n : Nat) : List (BitVec 8) := List.replicate n 0xFF
  let s := s.setLife (fun l => { l with
    slots := l.slots.take 1 ++ List.replicate 3 (gone 32), svc := gone 32, salt := gone 16, pwd := gone 32
    keys := List.replicate 3 [] })
  { s with boot := { s.boot with slots := [[], []] }, st := { s.st with flash := List.replicate 8 0 }, progs := [] }

/-- ADVANCE to a target state (R548, R549, R552). Answers whether it is accepted. -/
def State.lcAdvance (s : State) (target : Nat) : State × Bool :=
  let st := s.lcState
  if st = 0 ∧ target = 1 then
    (((s.lcSet (fun l => l.blow 1)).lcRec 1 0 1 0), true)
  else if st = 1 ∧ target = 2 ∧ (s.hasSvc ∨ s.hasPwd) ∧ (s.slotUsable 1 ∨ s.slotUsable 2 ∨ s.slotUsable 3) then
    (((s.lcSet (fun l => l.blow 2)).closeDebug.lcRec 1 1 2 0), true)
  else if target = 4 ∧ (st = 0 ∨ st = 1 ∨ s.scopeHas 2) ∧ s.get (Reg.LC_DATA 0) = 0x45524954 then
    let s := s.lcSet (fun l => { l.blow 3 with opened := none })
    let s := (s.closeDebug.retireWork.lcShow).lcRec 1 st 4 0
    (s.askReset 4 0, true)
  else (s, false)

/-- The bytes of LC_DATA words 0 to `n` - 1. -/
def State.lcData (s : State) (n : Nat) : List (BitVec 8) := (List.range n).flatMap (fun w => leBytes 4 (s.get (Reg.LC_DATA w)))

/-- PROGRAM_KEY of a field (R547, R555). Answers whether it is accepted. -/
def State.programKey (s : State) (f : Nat) : State × Bool :=
  let st := s.lcState
  let early := st = 0 ∨ st = 1
  if f = 0 then
    if st = 0 ∧ fieldEmpty (s.life.slots.getD 0 []) then
      (s.lcSet (fun l => { l with slots := l.slots.set 0 (s.lcData 8) }), true)
    else (s, false)
  else if f ≤ 3 then
    if (early ∨ s.scopeHas 2) ∧ fieldEmpty (s.life.slots.getD f []) then
      let h := s.lcData 8
      (s.lcSet (fun l => { l with
        slots := l.slots.set f h, bad := l.bad.set f (decide (sha256 (l.keys.getD (f - 1) []) ≠ h)) }), true)
    else (s, false)
  else if f = 4 then
    if early ∧ fieldEmpty s.life.svc then (s.lcSet (fun l => { l with svc := s.lcData 8 }), true) else (s, false)
  else if f = 5 then
    if early ∧ fieldEmpty s.life.pwd then
      let p := s.lcData 4
      let (salt, s) := s.freeBytes 4
      (s.lcSet (fun l => { l with salt := salt, pwd := sha256 (salt ++ p) }), true)
    else (s, false)
  else (s, false)

/-- REVOKE_KEY of a slot (R547, R555). -/
def State.revokeKey (s : State) (k : Nat) : State × Bool :=
  if 1 ≤ k ∧ k ≤ 3 ∧ (s.lcState = 0 ∨ s.lcState = 1 ∨ s.scopeHas 2) then
    (s.lcSet (fun l => { l with revoked := l.revoked.set k true }), true)
  else (s, false)

/-! ### LC_CMD (R555, R556) -/

/-- The end of a command of LC_CMD: its status, the flags, LC_DATA cleared. -/
def State.lcEnd (s : State) (status : Nat) : State :=
  let s := (s.put Reg.LC_RESULT_STATUS status).put Reg.LC_RESULT_BUSY 0
  let s := if status = 0 ∨ status = 0x1A then s else s.set1 Reg.LC_FLAGS_CMD_REFUSED
  (List.range 32).foldl (fun s w => s.put (Reg.LC_DATA w) 0) s

/-- CHALLENGE, SIGNED, PASSWORD or CLOSE by LC_CMD. -/
def State.lcCmdOp (s : State) (op : Nat) : State :=
  let (s, a) := s.lcOp op (s.get Reg.LC_SCOPE) (s.lcData 32)
  s.lcEnd a.status

/-- A write of LC_CMD (R555). -/
def State.writeLcCmd (s : State) (v : Nat) : State :=
  let arg := bits v 4 3
  let done (r : State × Bool) : State := r.1.lcEnd (if r.2 then 0 else 0x1C)
  match bits v 0 4 with
  | 5 => done (s.lcAdvance arg)
  | 6 => done (s.programKey arg)
  | 7 => done (s.revokeKey arg)
  | op => s.lcCmdOp op

/-- ADVANCE (R548). -/
def execAdvance (arg : BitVec 3) (s : State) : Host.Outcome State Fault Refusal := ok (s.writeLcCmd (5 + 16 * arg.toNat))
/-- PROGRAM_KEY (R555). -/
def execProgramKey (arg : BitVec 3) (s : State) : Host.Outcome State Fault Refusal := ok (s.writeLcCmd (6 + 16 * arg.toNat))
/-- REVOKE_KEY (R555). -/
def execRevokeKey (arg : BitVec 3) (s : State) : Host.Outcome State Fault Refusal := ok (s.writeLcCmd (7 + 16 * arg.toNat))

end Sys2Proof.Machine
end

