-- ==== Sys2Proof/Machine/Programs.lean ====
section
/-!
DEFINITION. The checks and the placement of a maquette (R288 to R294, R300), and MAQUETTE_CHECK_DONE.
-/
namespace Sys2Proof.Machine

/-- A little-endian number in an image. -/
def imgNat (img : List (BitVec 8)) (o n : Nat) : Nat := leNat ((img.drop o).take n)
/-- Bytes of an image are 0. -/
def imgZero (img : List (BitVec 8)) (o n : Nat) : Bool := ((img.drop o).take n).all (fun x => x == 0)

/-- Entry `i` of the parameter table (R289). -/
def parsePEntry (img : List (BitVec 8)) (i : Nat) : PEntry :=
  let o := imgNat img 36 4 + 16 * i
  { id := imgNat img o 2, typ := imgNat img (o + 2) 1, flags := imgNat img (o + 3) 1
    lo := imgNat img (o + 4) 4, hi := imgNat img (o + 8) 4, dflt := imgNat img (o + 12) 4 }

/-- The parameter table. -/
def parseParams (img : List (BitVec 8)) : List PEntry := (List.range (imgNat img 40 2)).map (parsePEntry img)

/-- The UID: bytes 0 to 3 of the digest (R288). -/
def maqUid (img : List (BitVec 8)) : Nat := leNat ((sha256 (img.take (img.length - 64))).take 4)

/-- The header is as R288 allows. (Log: 66 DEDUCED.) -/
def headerOk (img : List (BitVec 8)) (mask : Nat) : Bool :=
  let n := img.length
  let kind := imgNat img 6 1
  let hook := imgNat img 7 1
  let hv := imgNat img 8 1
  let co := imgNat img 20 4
  let cb := imgNat img 24 4
  let dof := imgNat img 28 4
  let db := imgNat img 32 4
  let po := imgNat img 36 4
  let pc := imgNat img 40 2
  let sb := imgNat img 42 2
  imgNat img 0 4 == 0x5451414D && decide (1 ≤ kind ∧ kind ≤ 3) && imgNat img 12 4 == n && decide (256 ≤ n ∧ n ≤ 131072)
    && imgZero img 10 2 && imgZero img 60 68
    && (if kind = 2 then (if hook = 2 then decide (16 ≤ hv ∧ hv ≤ 23) else (hook == 1 || hook == 3) && decide (8 ≤ hv ∧ hv ≤ 15))
        else hook == 0 && hv == 0)
    && co % 64 == 0 && cb % 4 == 0 && decide (cb ≤ 32768 ∧ co + cb ≤ n - 64)
    && db % 8 == 0 && decide (db ≤ 24576 ∧ dof + db ≤ n - 64) && decide (po + 16 * pc ≤ n - 64)
    && decide (pc ≤ (if kind = 1 then 512 else if kind = 2 then 64 else 240))
    && decide (sb ≤ (if kind = 1 then 1472 else if kind = 2 then 60 else 0))
    && decide (imgNat img 48 4 < cb) && (kind == 3 || decide (imgNat img 44 4 < cb))
    && (kind == 1 || mask == 0) && maqUid img != 0

/-- A parameter entry is as R289 and R295 allow. -/
def PEntry.valid (kind : Nat) (tab : List PEntry) (e : PEntry) : Bool :=
  let f (x : Nat) : F32 := BitVec.ofNat 32 x
  (if kind = 1 then decide (e.id ≤ 0x7FFF) else if kind = 2 then decide (e.id ≤ 0x3F) else decide (0x10 ≤ e.id ∧ e.id ≤ 0xFF))
    && decide (e.typ ≤ 3) && decide (e.flags < 8)
    && (if e.typ = 0 then fFinite (f e.lo) && fFinite (f e.hi) && fFinite (f e.dflt) && fLe (f e.lo) (f e.dflt) && fLe (f e.dflt) (f e.hi)
        else decide (e.lo ≤ e.dflt ∧ e.dflt ≤ e.hi))
    && (if e.typ = 2 then validSource e.dflt
        else if e.typ = 3 then e.dflt == 0 || tab.any (fun x => x.id == e.dflt && x.flags % 2 == 1) else true)

/-- Every entry is valid and no two share an ID. -/
def paramsOk (kind : Nat) (tab : List PEntry) : Bool := tab.all (PEntry.valid kind tab) && (tab.map (fun e => e.id)).eraseDups.length == tab.length

/-- The lowest base of `g` free granules of 1 KiB in an area of `n`, given the granules taken (R290). -/
def lowestFit (taken : Nat → Bool) (n g : Nat) : Option Nat :=
  (List.range (n + 1 - g)).find? (fun b => (List.range g).all (fun i => !taken (b + i)))

/-- Granules of a length. -/
def granules (n : Nat) : Nat := (n + 1023) / 1024

/-- Programs that run on the cores of a kind. -/
def State.onKind (s : State) (kind : Nat) : List Program :=
  (List.range 16).filterMap (fun n => match s.prog n with | some p => if (p.kind = 3) = (kind = 3) then some p else none | none => none)

/-- Where the code and data of an image go (R290). -/
def State.placeMaq (s : State) (img : List (BitVec 8)) : Option (Nat × Nat) :=
  let ps := s.onKind (imgNat img 6 1)
  let inCode (b : Nat) : Bool := ps.any (fun p => decide (p.code ≤ 0x8000 + 1024 * b ∧ 0x8000 + 1024 * b < p.code + imgNat p.image 24 4))
  let inData (b : Nat) : Bool := ps.any (fun p => decide (p.data ≤ 0x10000 + 1024 * b ∧ 0x10000 + 1024 * b < p.data + imgNat p.image 32 4))
  match lowestFit inCode 32 (granules (imgNat img 24 4)), lowestFit inData 24 (granules (imgNat img 32 4)) with
  | some c, some d => some (0x8000 + 1024 * c, 0x10000 + 1024 * d)
  | _, _ => none

/-- Bytes of the program store in use (R291). -/
def State.storeUsed (s : State) : Nat :=
  (List.range 16).foldl (fun a n => a + match s.prog n with | some p => p.image.length | none => 0) 0

/-- The status of a load's checks, in the order of R294; 0 when they pass. (Log: 66 DEDUCED.) -/
def State.maqStatus (s : State) (slot mask : Nat) (img : List (BitVec 8)) : Nat :=
  let kind := imgNat img 6 1
  let cost := 8 * imgNat img 56 2 + imgNat img 58 2
  if !s.imageSigned (imgNat img 9 1) img then 0x12
  else if imgNat img 4 2 ≠ 2 then 0x13
  else if !headerOk img mask then 0x14
  else if !paramsOk kind (parseParams img) then 0x04
  else if s.get Reg.ID_ARM_REV < imgNat img 16 4 then 0x15
  else if (s.placeMaq img).isNone ∨ 2 ^ 20 < s.storeUsed + img.length then 0x16
  else if 8 * (if kind = 3 then 2000 else 651) < cost then 0x17
  else if kind = 2 ∧ (s.onKind 2).any (fun p => p.kind == 2 && p.hook == imgNat img 7 1 && p.hookVal == imgNat img 8 1) then 0x18
  else if slot = 0 ∨ (s.prog slot).isSome ∨ s.upd.isSome then 0x19
  else 0

/-- Write a placed maquette into the cores of its kind (R292 step 3). -/
def State.writeMaq (s : State) (p : Program) : State :=
  (List.range 20).foldl (fun s c =>
    let st := s.chState c
    if (p.kind = 3) = (16 ≤ c) ∧ st ≠ 0 ∧ st ≠ 6 then
      let k := s.core c
      s.setCore c { k with
        imem := k.imem.setBytes p.code ((p.image.drop (imgNat p.image 20 4)).take (imgNat p.image 24 4))
        dmem := k.dmem.setBytes p.data ((p.image.drop (imgNat p.image 28 4)).take (imgNat p.image 32 4)) }
    else s) s

/-- The checks of the oldest load that waits for them end (R292 steps 2 to 4, R294). (Log: 41 DEDUCED, 66 DEDUCED.) -/
def State.checkDone (s : State) : State :=
  match s.loads.find? (fun l => l.res.isNone) with
  | none => s
  | some l =>
    let slot := l.cmd.u 16 1
    let st := s.maqStatus slot (l.cmd.u 32 8) l.image
    let uid := maqUid l.image
    if st = 0 then
      match s.placeMaq l.image with
      | some (c, d) =>
        let p : Program := { uid := uid, kind := imgNat l.image 6 1, hook := imgNat l.image 7 1, hookVal := imgNat l.image 8 1
                             params := parseParams l.image, image := l.image, code := c, data := d, live := false, costSeen := false
                             unl := none }
        ({ (s.setProg slot (some p)) with
          loads := updWhere (fun x => x.cmd.fl.seq == l.cmd.fl.seq) (fun x => { x with res := some 0 }) s.loads }).writeMaq p
      | none => s
    else
      let s := { s with loads := s.loads.filter (fun x => x.cmd.fl.seq != l.cmd.fl.seq) }
      ((s.take l.cmd).maqRec 3 slot uid st).finish l.cmd s.ns st 0 0

/-- MAQUETTE_CHECK_DONE (R294). -/
def execMaquetteCheckDone (s : State) : Host.Outcome State Fault Refusal := ok s.checkDone

end Sys2Proof.Machine
end

