-- ==== Sys2Proof/Machine/Boot.lean ====
section
/-!
DEFINITION. Boot: the firmware image and its checks, the slot choice, the boot from flash, from a host and from a neighbour
(20_boot_and_update.md).
-/
namespace Sys2Proof.Machine

/-- Replace the boot block's state. -/
def State.setBoot (s : State) (f : Boot → Boot) : State := { s with boot := f s.boot }

/-- An MC record (R359, R578). -/
def State.mcRec (s : State) (reason : Nat) : State :=
  s.event 0x79 127 0 reason (pay 16 (s.get Reg.ID_FW_VER) + pay 20 (if s.get Reg.ID_BOOT_STAT_SOURCE = 1 then 1 else 0))

/-! ### The image (R559, R560) -/

/-- The interface ranges of R4, as ID_IFVER lays them out. -/
def State.ifver (s : State) : Nat := s.word 0x18

/-- Each range of `a` contains the matching range of `b` (R560). -/
def rangesContain (a b : Nat) : Bool :=
  (List.range 4).all (fun i => decide (bits a (8 * i) 4 ≤ bits b (8 * i) 4 ∧ bits b (8 * i + 4) 4 ≤ bits a (8 * i + 4) 4))

/-- A section lies inside IMAGE_BYTES, 64-byte aligned, within its limit (R559, R560). -/
def sectionOk (img : List (BitVec 8)) (ofs lim : Nat) : Bool :=
  let o := imgNat img ofs 4
  let n := imgNat img (ofs + 4) 4
  decide (o % 64 = 0) && decide (o + n ≤ imgNat img 8 4) && decide (n ≤ lim)

/-- The first check of R560 that fails, as ERR codes it; 0 when the image is valid. -/
def State.imageErr (s : State) (img : List (BitVec 8)) : Nat :=
  if !s.imageSigned 0 img then 1
  else if imgNat img 0 4 ≠ 0x5746555A ∨ imgNat img 4 2 ≠ 1 ∨ imgNat img 6 1 ≠ 1 ∨ imgNat img 7 1 ≠ 0 then 2
  else if imgNat img 8 4 ≠ img.length ∨ 491520 < img.length ∨ !sectionOk img 28 393216 ∨ !sectionOk img 36 32768
      ∨ imgNat img 40 4 % 4 ≠ 0 ∨ !imgZero img 22 2 ∨ !imgZero img 44 20 then 3
  else if 0xA0 < imgNat img 20 2 then 4
  else if !rangesContain (imgNat img 24 4) s.ifver then 5
  else 0

/-- The core section of an image. -/
def coreSection (img : List (BitVec 8)) : List (BitVec 8) := (img.drop (imgNat img 36 4)).take (imgNat img 40 4)

/-! ### Slots and the boot record (R562, R563) -/

/-- Slot `k` holds a valid image. -/
def State.slotValid (s : State) (k : Nat) : Bool := s.imageErr (s.boot.slots.getD k []) == 0

/-- The boot record in force: the plinth copy, else the valid flash copy of the higher SEQ, else slot A. -/
def State.bootRec (s : State) : BootRec :=
  match s.boot.plinth with
  | some r => r
  | none => match s.boot.flash.filterMap id with
    | [] => ⟨false, false, 0, 0⟩
    | r :: l => l.foldl (fun a b => if a.seq < b.seq then b else a) r

/-- Write a boot record to the plinth and twice to flash, with the next SEQ. (Log: 132 DEDUCED.) -/
def State.writeBootRec (s : State) (r : BootRec) : State :=
  let r := { r with seq := s.bootRec.seq + 1 }
  s.setBoot (fun b => { b with plinth := some r, flash := [some r, some r] })

/-- ID_SLOTk and ID_SLOTk_VER. -/
def State.showSlots (s : State) (chosen : Option Nat) : State :=
  (List.range 2).foldl (fun s k =>
    let v := s.slotValid k
    ((s.put (Reg.ID_SLOT_VALID k) (b2n v)).put (Reg.ID_SLOT_CHOSEN k) (b2n (chosen == some k))).put (Reg.ID_SLOT_VER k)
      (if v then imgNat (s.boot.slots.getD k []) 12 4 else 0)) s

/-- A reversion (R562, R578). -/
def State.reverted (s : State) : State := (s.set1 Reg.ID_BOOT_STAT_REVERTED).mcRec 2

/-- The choice of R562: the slot to boot, none where neither is valid. (Log: 132 DEDUCED.) -/
def State.chooseSlot (s : State) : State × Option Nat :=
  let r := s.bootRec
  let s :=
    if r.trial then
      if 3 ≤ r.tries + 1 then (s.writeBootRec { r with active := !r.active, trial := false, tries := 0 }).reverted
      else s.writeBootRec { r with tries := r.tries + 1 }
    else s
  let k := b2n s.bootRec.active
  if s.slotValid k then (s, some k)
  else
    let s := s.reverted.put Reg.ID_BOOT_STAT_ERR (s.imageErr (s.boot.slots.getD (if s.slotValid (1 - k) then k else 1 - k) []))
    if s.slotValid (1 - k) then (s.writeBootRec ⟨decide (k = 0), false, 0, 0⟩, some (1 - k)) else (s, none)

/-! ### From an image to READY (R564, R565) -/

/-- PHASE (R577). -/
def State.phase (s : State) : Nat := s.get Reg.ID_BOOT_STAT_PHASE

/-- The MC waits for an image. -/
def State.waitImage (s : State) (recovery : Bool) : State :=
  (s.setBoot (fun b => { b with recovery := recovery, req := none })).put Reg.ID_BOOT_STAT_PHASE 1

/-- A valid image starts (steps 4 and 5 of R564): the MC firmware runs, the program store holds the core section, the DRAM is
trained, every core stands BENCHED with its IMEM loaded. -/
def State.startImage (s : State) (img : List (BitVec 8)) (source : Nat) : State :=
  let s := (s.put Reg.ID_BOOT_STAT_PHASE 3).put Reg.ID_BOOT_STAT_SOURCE source
  let s := (s.put Reg.ID_FW_VER (imgNat img 12 4)).put Reg.ID_ARM_REV (imgNat img 16 4)
  let s := { s with fw0 := List.replicate 5 (coreSection img) }.setBoot (fun b => { b with image := img, req := none })
  let s := s.mcRec 1
  let s := s.setMs (fun m => { m with trained := true })
  let s := { s with al := { s.al with draining := List.range 20 } }
  (List.range 20).foldl (fun s c => (s.coreReset c).put (Reg.CH_STAT_STATE c) 5) s

/-- An image that has arrived is checked (R560): ERR and another wait where it fails. -/
def State.tryImage (s : State) (img : List (BitVec 8)) (source : Nat) : State × Bool :=
  let e := s.imageErr img
  let s := s.put Reg.ID_BOOT_STAT_ERR e
  if e = 0 then (s.startImage img source, true) else (s.put Reg.ID_BOOT_STAT_PHASE 1, false)

/-- Boot from flash (R562); answers false where neither slot is valid. -/
def State.flashBoot (s : State) : State × Bool :=
  let (s, k) := s.chooseSlot
  let s := s.showSlots k
  match k with
  | none => (s, false)
  | some k =>
    let r := s.bootRec
    let s := ((s.put Reg.ID_BOOT_STAT_TRIAL (b2n r.trial)).put Reg.ID_BOOT_STAT_TRIES r.tries).put Reg.ID_BOOT_STAT_CONFIRMED (b2n (!r.trial))
    (s.startImage (s.boot.slots.getD k []) k, true)

/-- Key checks of a boot (R546): slots 1 to 3 whose hash does not match are BAD. -/
def State.checkKeys (s : State) : State :=
  let bad (k : Nat) : Bool :=
    let h := s.life.slots.getD k []
    k != 0 && !fieldEmpty h && !fieldGone h && !(sha256 (s.life.keys.getD (k - 1) []) == h)
  let s := s.lcSet (fun l => { l with bad := (List.range 4).map bad })
  if (List.range 4).any bad then s.set1 Reg.LC_FLAGS_KEY_BAD else s

/-- A boot with FAILS of 5 or more starts a full lockout (R553). (Log: 132 DEDUCED.) -/
def State.bootLock (s : State) : State :=
  if 5 ≤ s.life.fails then (s.lcSet (fun l => { l with lock := some (s.tb.real, lockLen l.fails) })).set1 Reg.LC_FLAGS_LOCKOUT else s

/-- Steps 1 and 2 of R564: the clocks, the domains, the boot generation, the switch. -/
def State.bootClocks (s : State) (bootsel : Nat) : State :=
  let s := (s.setPw (fun p => { p with booting := false })).vaux
  let s := (s.put Reg.ID_BOOT_STAT_BOOTSEL bootsel).put Reg.ID_BOOT_STAT_PHASE 0
  let s := ((s.put Reg.PWR_STAT_STATE 0).put Reg.PWR_STAT_PG 1).put Reg.PWR_DOM_STAT 0x1FFFF
  let s := (s.put Reg.PWR_CLK_STAT_PLL 0x3F).put Reg.TB_STAT_XT32_OK (b2n (!s.tb.xt32Dead))
  let s := s.resync
  let s := (s.set1 Reg.TB_STAT_AUDIO_LOCK).set1 Reg.PWR_CLK_STAT_AUDIO
  let s := s.setBoot (fun b => { b with gen := b.gen + 1 })
  let s := (s.put Reg.FSW_BOOTGEN s.boot.gen).setSw (fun w => { w with genLoaded := true })
  let s := if s.sw.held then s else s.elect
  (List.range 4).foldl (fun s p => if s.get (Reg.FP_STAT_LSTATE p) = 0 then s.retrain p else s) s

/-- A RETIRED module (R549): the work of retirement is completed; the MC runs from ROM with PD0 to PD3 alone.
(Log: 130 DEDUCED.) -/
def State.bootRetired (s : State) : State :=
  let s := (s.setPw (fun p => { p with booting := false })).retireWork.lcShow
  let s := (s.put Reg.PWR_STAT_STATE 0).put Reg.PWR_STAT_PG 1
  s.put Reg.PWR_DOM_STAT 15

/-- BOOT (R558, R562, R564). -/
def State.bootGo (s : State) (bootsel : Nat) : State :=
  if !s.pw.booting ∨ s.pw.down ≠ .no then s
  else
    let s := (s.lcShow.checkKeys).bootLock
    if s.life.fused = 4 then s.bootRetired
    else
      let s := s.bootClocks bootsel
      match bootsel with
      | 1 => (s.showSlots none).waitImage false
      | 2 => (s.showSlots none).waitImage false
      | _ =>
        let (s, ok) := s.flashBoot
        if ok then s else s.waitImage (bootsel == 0)
/-- BOOT. -/
def execBoot (bootsel : BitVec 2) (s : State) : Host.Outcome State Fault Refusal := ok (s.bootGo bootsel.toNat)

/-! ### STARTUP and READY (R531, R532, R564) -/

/-- STARTUP is skipped (R532). (Log: 132 DEDUCED.) -/
def State.startSkips (s : State) : Bool :=
  let b := s.stRecBytes
  let rt := leNat ((b.drop 8).take 8)
  b.take 2 == [1, 1] && (b.getD 2 0).toNat % 4 == 0 && decide (leNat (b.drop 28) = crc32 (b.take 28))
    && decide (s.st.flash = (List.range 8).map (fun w => s.get (Reg.ST_REC w)))
    && decide (rt ≤ s.ns ∧ s.ns ≤ rt + 2592000000000000)
    && !(s.on Reg.PWR_RST_CAUSE_BROWNOUT || s.on Reg.PWR_RST_CAUSE_WDOG || s.on Reg.PWR_RST_CAUSE_REF_LOST || s.on Reg.PWR_RST_CAUSE_RAIL)
    && decide ((b.getD 3 0).toNat = s.lcState) && decide (leNat ((b.drop 24).take 4) = s.get Reg.ID_FW_VER)

/-- The skip (R532): USED in both copies, with the CRC that holds for them. -/
def State.startSkip (s : State) : State :=
  let b := s.stRecBytes
  let body := b.take 2 ++ [(b.getD 2 0) ||| 2] ++ (b.drop 3).take 25
  let bytes := body ++ leBytes 4 (crc32 body)
  let word (w : Nat) : Nat := leNat ((bytes.drop (4 * w)).take 4)
  let s := (List.range 8).foldl (fun s w => s.put (Reg.ST_REC w) (word w)) s
  let s := (s.setSt (fun x => { x with flash := (List.range 8).map word })).set1 Reg.ST_FLAGS_SKIPPED
  s.stResult 116 0xFF 1 (leNat ((b.drop 16).take 4)) (leNat ((b.drop 20).take 4)) 1

/-- STARTUP ends: its results, or its skip; the cores that may are returned; READY (R531, R564). (Log: 126 DEDUCED.) -/
def State.bootReady (s : State) (res : List TestRes) (rows : List Nat) : State :=
  if s.phase ≠ 3 then s
  else
    let s := if s.startSkips then s.startSkip
      else
        let s := rows.foldl (fun s r => s.repairRow (r / 512) (r % 512)) s
        (s.profile true (joinRes (fun _ => true) allUnits res)).1
    let s := (List.range 20).foldl (fun s c => s.coreReturn c) s
    let s := (s.put Reg.ID_BOOT_STAT_PHASE 4).set1 Reg.ID_BOOT_STAT_READY
    let s := s.setBoot (fun b => { b with readyAt := s.tb.real })
    let s := match s.pw.woke with
      | some old => (s.powerRec 0 old).setPw (fun p => { p with woke := none })
      | none => s
    let s := if s.pw.refBack then (s.clockRec 0 2).setPw (fun p => { p with refBack := false }) else s
    if (List.range 16).any (fun w => s.get (Reg.PWR_CRASH w) != 0) then s.mcRec 4 else s
/-- BOOT_READY. -/
def execBootReady (res : List TestRes) (rows : List (BitVec 15)) (s : State) : Host.Outcome State Fault Refusal :=
  ok (s.bootReady res (rows.map BitVec.toNat))

/-! ### CONFIRM and REVERT (R563) -/

/-- The trial boot is confirmed. (Log: 132 DEDUCED.) -/
def State.confirmBoot (s : State) : State :=
  if s.on Reg.ID_BOOT_STAT_TRIAL then
    let r := s.bootRec
    let s := ((s.set1 Reg.ID_BOOT_STAT_CONFIRMED).put Reg.ID_BOOT_STAT_TRIAL 0).put Reg.ID_BOOT_STAT_TRIES 0
    if r.trial ∧ b2n r.active = s.get Reg.ID_BOOT_STAT_SOURCE then s.writeBootRec { r with trial := false, tries := 0 } else s
  else s

/-- CONFIRM_TIME in s (R577). -/
def State.confirmTime (s : State) : Nat := max 1 (s.get Reg.ID_UPD_CFG_CONFIRM_TIME)
/-- CONFIRM_TIMEOUT. -/
def execConfirmTimeout (s : State) : Host.Outcome State Fault Refusal :=
  ok (if s.on Reg.ID_BOOT_STAT_READY ∧ s.confirmTime ≤ s.realSec s.boot.readyAt then s.confirmBoot else s)

/-- A REVERT (R563, R578). -/
def State.revertBoot (s : State) : State :=
  let r := s.bootRec
  if s.slotValid (1 - b2n r.active) then (s.writeBootRec { r with active := !r.active, trial := false, tries := 0 }).mcRec 2 else s

/-- GO (R567): the image in BAR2 is verified. (Log: 132 DEDUCED.) -/
def State.bootGoWrite (s : State) : State :=
  if s.phase = 1 ∧ (s.get Reg.ID_BOOT_STAT_BOOTSEL = 1 ∨ s.boot.recovery) then
    let n := leNat (s.exchRead 8 4)
    (s.tryImage (s.exchRead 0 (min n 491521)) 2).1
  else s

/-- A write of ID_BOOT_CTRL (R577). -/
def State.writeBootCtrl (s : State) (v : Nat) : State :=
  let s := if bit v 0 then s.bootGoWrite else s
  let s := if bit v 1 then s.confirmBoot else s
  if bit v 2 then s.revertBoot else s
/-- BOOT_GO. -/
def execBootGo (s : State) : Host.Outcome State Fault Refusal := ok (s.writeBootCtrl 1)
/-- CONFIRM. -/
def execConfirm (s : State) : Host.Outcome State Fault Refusal := ok (s.writeBootCtrl 2)
/-- REVERT. -/
def execRevert (s : State) : Host.Outcome State Fault Refusal := ok (s.writeBootCtrl 4)

/-! ### A neighbour's image (R568, R569) -/

/-- The payload of an IMAGE frame. -/
def imageBytes (op session ofs total : Nat) (data : List (BitVec 8)) : List (BitVec 8) :=
  leBytes 1 op ++ leBytes 1 0 ++ leBytes 2 session ++ leBytes 4 ofs ++ leBytes 4 total ++ leBytes 4 0 ++ data

/-- A fabric boot is wanted. -/
def State.wantsFabric (s : State) : Bool := s.phase == 1 && (2 ≤ s.get Reg.ID_BOOT_STAT_BOOTSEL || s.boot.recovery)

/-- The module can ask over port `p`. (Log: 133 DESIGN CHOICE.) -/
def State.canAsk (s : State) (p : Nat) : Bool := s.isUp p && s.on (Reg.FP_STAT_NB_ADDR_VALID p)

/-- Send REQUEST over port `p`. -/
def State.askImage (s : State) (p : Nat) : State :=
  let node := s.get (Reg.FP_STAT_NB_ADDR p)
  let n := s.boot.nextSession
  let s := s.setBoot (fun b => { b with req := some ⟨p, node, n, false, s.tb.real⟩, nextSession := (n + 1) % 65536 })
  (s.sendTo 3 11 node (imageBytes 1 n 0 0 []) none).1

/-- The first request: to the UPSTREAM port, else the lowest UP port with a valid neighbour address (R568).
(Log: 14 DESIGN CHOICE, 133 DESIGN CHOICE.) -/
def State.firstAsk (s : State) : State :=
  if s.wantsFabric ∧ s.addr.isSome ∧ s.boot.req.isNone then
    match (List.range 4).find? (fun p => s.canAsk p && s.get (Reg.FP_STAT_ROLE p) == 1) with
    | some p => s.askImage p
    | none => match (List.range 4).find? (fun p => s.canAsk p) with
      | some p => s.askImage p
      | none => s
  else s

/-- The next UP port in ascending order, then the pause (R568). -/
def State.nextAsk (s : State) : State :=
  match s.boot.req with
  | none => s
  | some r =>
    match (List.range 4).find? (fun p => decide (r.port < p) && s.canAsk p) with
    | some p => s.askImage p
    | none => s.setBoot (fun b => { b with req := some { r with pause := true, last := s.tb.real } })

/-- The running session a frame belongs to. -/
def State.imageSession (s : State) (f : Frame) : Bool :=
  match s.boot.req with
  | some r => s.wantsFabric && !r.pause && f.src.toNat == r.node && pfield f.payload 2 2 == r.session
  | none => false

/-- A frame of KIND 11 with an OP. -/
def imageOp (op : Nat) (f : Frame) : Bool := kindIs 11 f && pfield f.payload 0 1 == op

/-- A DATA frame is written at its offset. -/
def State.imageData (s : State) (p : Nat) : State :=
  match s.takeRx p (imageOp 2) with
  | some (f, s) =>
    if s.imageSession f then
      let s := s.exchWrite (pfield f.payload 4 4) (f.payload.drop 16)
      s.setBoot (fun b => { b with req := b.req.map (fun r => { r with last := s.tb.real }) })
    else s
  | none => s
/-- IMAGE_DATA_RECEIVED (R568). -/
def execImageDataReceived (p : Fin 5) (s : State) : Host.Outcome State Fault Refusal := ok (s.imageData p.val)

/-- DONE: the image is verified; one that fails restarts the whole with the next port. -/
def State.imageDone (s : State) (p : Nat) : State :=
  match s.takeRx p (imageOp 3) with
  | some (f, s) =>
    if s.imageSession f then
      let (s, ok) := s.tryImage (s.exchRead 0 (min (pfield f.payload 8 4) 491521)) 3
      if ok then s else s.nextAsk
    else s
  | none => s
/-- IMAGE_DONE_RECEIVED (R568). -/
def execImageDoneReceived (p : Fin 5) (s : State) : Host.Outcome State Fault Refusal := ok (s.imageDone p.val)

/-- REFUSE. -/
def State.imageRefuse (s : State) (p : Nat) : State :=
  match s.takeRx p (imageOp 4) with
  | some (f, s) => if s.imageSession f then s.nextAsk else s
  | none => s
/-- IMAGE_REFUSE_RECEIVED (R568). -/
def execImageRefuseReceived (p : Fin 5) (s : State) : Host.Outcome State Fault Refusal := ok (s.imageRefuse p.val)

/-- A gap of 100 ms with no frame: ERR 6, and the next port (R568, R577). -/
def State.imageGap (s : State) : State :=
  match s.boot.req with
  | some r =>
    if s.wantsFabric ∧ !r.pause ∧ r.last + 100000000 * 2 ^ 32 ≤ s.tb.real then (s.put Reg.ID_BOOT_STAT_ERR 6).nextAsk else s
  | none => s
/-- IMAGE_GAP_TIMEOUT. -/
def execImageGapTimeout (s : State) : Host.Outcome State Fault Refusal := ok s.imageGap

/-- The pause is over: the module begins again (R568). -/
def State.imageAgain (s : State) : State :=
  match s.boot.req with
  | some r =>
    if r.pause ∧ r.last + 1000000000 * 2 ^ 32 ≤ s.tb.real then (s.setBoot (fun b => { b with req := none })).firstAsk else s
  | none => s
/-- IMAGE_RETRY_PAUSE_END. -/
def execImageRetryPauseEnd (s : State) : Host.Outcome State Fault Refusal := ok s.imageAgain

/-- A session is being served: frames of it have not left yet (R569). (Log: 133 DESIGN CHOICE.) -/
def State.serving (s : State) : Bool := s.sw.buf.any (fun b => b.port == 4 && kindIs 11 b.f && 2 ≤ pfield b.f.payload 0 1)

/-- The slot a module serves: active, valid and confirmed (R569). -/
def State.served (s : State) : Option (List (BitVec 8)) :=
  let r := s.bootRec
  if s.on Reg.ID_UPD_CFG_SERVE_EN ∧ s.on Reg.ID_BOOT_STAT_READY ∧ !r.trial ∧ s.slotValid (b2n r.active) ∧ !s.serving then
    some (s.boot.slots.getD (b2n r.active) [])
  else none

/-- The DATA frames of an image from an offset on, in chunks of 1024 bytes. -/
def State.sendImage (s : State) (node session : Nat) (img : List (BitVec 8)) : Nat → Nat → State
  | 0, _ => s
  | n + 1, ofs =>
    if img.length ≤ ofs then s
    else ((s.sendTo 3 11 node (imageBytes 2 session ofs img.length ((img.drop ofs).take 1024)) none).1).sendImage node session img n (ofs + 1024)

/-- A REQUEST is answered (R569). -/
def State.imageRequest (s : State) (p : Nat) : State :=
  match s.takeRx p (imageOp 1) with
  | some (f, s) =>
    let node := f.src.toNat
    let n := pfield f.payload 2 2
    match s.served with
    | some img => ((s.sendImage node n img 480 0).sendTo 3 11 node (imageBytes 3 n 0 img.length []) none).1
    | none => (s.sendTo 3 11 node (imageBytes 4 n 0 0 []) none).1
  | none => s
/-- IMAGE_REQUEST_RECEIVED (R569). -/
def execImageRequestReceived (p : Fin 5) (s : State) : Host.Outcome State Fault Refusal := ok (s.imageRequest p.val)

end Sys2Proof.Machine
end

