-- ==== Sys2Proof/Machine/Update.lean ====
section
/-!
DEFINITION. The rolling update (R570 to R575).
-/
namespace Sys2Proof.Machine

/-- Replace the update in progress. -/
def State.setUpd (s : State) (u : Option Update) : State := { s with upd := u }

/-- STEP and CORE of ID_UPD_STAT. -/
def State.updShow (s : State) (step core : Nat) : State := (s.put Reg.ID_UPD_STAT_STEP step).put Reg.ID_UPD_STAT_CORE core

/-- The units of an update, in order (R571). -/
def State.updUnits (s : State) : List (List Nat) :=
  if s.schState = 0 then [List.range 16, [16, 17, 18, 19]]
  else (List.range 4).map (fun k => [4 * k, 4 * k + 1, 4 * k + 2, 4 * k + 3]) ++ [[16], [17], [18], [19]]

/-- The update is over with a status. -/
def State.updEnd (s : State) (u : Update) (status detail : Nat) : State :=
  let s := (s.setUpd none).updShow 0 0
  match u.fl with
  | some f => s.complete f s.ns status detail 0
  | none => s

/-- The inactive slot as written, or its header erased. -/
def State.writeSlot (s : State) (k : Nat) (img : List (BitVec 8)) : State :=
  (s.setBoot (fun b => { b with slots := b.slots.set k img })).showSlots
    (if s.on (Reg.ID_SLOT_CHOSEN 0) then some 0 else if s.on (Reg.ID_SLOT_CHOSEN 1) then some 1 else none)

/-- The next unit goes on the bench (R572, R573); after the last the update, or its roll back, is done (R571, R575).
(Log: 134 DEDUCED.) -/
def State.updNext (s : State) (u : Update) : State :=
  match u.left with
  | [] =>
    if u.rolling then ((s.writeSlot u.slot []).mcRec 3).updEnd u 0x1C 3
    else
      let s := (s.writeBootRec ⟨decide (u.slot = 1), true, 0, 0⟩).put Reg.ID_ARM_REV (imgNat u.image 16 4)
      (s.mcRec 3).updEnd u 0 0
  | l :: rest =>
    let s := s.setUpd (some { u with unit := l, left := rest, asked := s.tb.real })
    let s := (s.updShow (if u.rolling then 6 else 3) (l.headD 0)).mcRec 3
    l.foldl (fun s c =>
      let s := s.stCutCore c
      let s := if c < 16 ∧ !s.al.moving.contains c then { s with al := { s.al with moving := s.al.moving ++ [c] } } else s
      s.benchAsk c) s

/-- The roll back begins: updated units in reverse order (R575). (Log: 134 DEDUCED.) -/
def State.updBack (s : State) (u : Update) : State :=
  s.updNext { u with rolling := true, failed := false, unit := [], left := u.done, done := [] }

/-- The cores of a unit get their slot-0 program and return to service (R252, R572); while other cores of cluster E still wait
for theirs, the cluster's program stays what it was. (Log: 134 DEDUCED.) -/
def State.updReload (s : State) (u : Update) (prog : Nat → List (BitVec 8)) : State :=
  let was := s.fw0
  let s := { s with fw0 := (List.range 5).map (fun k => if u.unit.any (fun c => c / 4 == k) then prog k else s.fw0.getD k []) }
  let s := u.unit.foldl (fun s c => if s.chState c = 5 then (s.coreReset c).coreReturn c else s) s
  if u.left.any (fun l => l.any (fun c => 16 ≤ c)) ∧ u.unit.any (fun c => 16 ≤ c) then { s with fw0 := s.fw0.set 4 (was.getD 4 []) } else s

/-- The unit is on the bench: every core of it is BENCHED or off. -/
def State.updBenched (s : State) (u : Update) : Bool := !u.unit.isEmpty && u.unit.all (fun c => s.chState c == 5 || s.chState c == 6)

/-- The program of a cluster the update writes: the new one, or the old one while it is rolled back. -/
def Update.prog (u : Update) (k : Nat) : List (BitVec 8) := if u.rolling then u.old.getD k [] else coreSection u.image

/-- A reload ends; `good`: IMEM and DMEM were read back as written (R572, R575). -/
def State.reloadDone (s : State) (good : Bool) : State :=
  match s.upd with
  | none => s
  | some u =>
    if !s.updBenched u then s
    else if good ∨ u.rolling then (s.updReload u u.prog).updNext { u with done := u.unit :: u.done }
    else (s.updReload u (fun k => u.old.getD k [])).updBack u
/-- CLUSTER_RELOAD_DONE. -/
def execClusterReloadDone (good : Bool) (s : State) : Host.Outcome State Fault Refusal := ok (s.reloadDone good)

/-- DRAIN_MAX in s (R577). -/
def State.drainMax (s : State) : Nat := max 1 (s.get Reg.ID_UPD_CFG_DRAIN_MAX)

/-- A voice that has not left in time is choked and reported, at the next boundary, once (R7, R572). -/
def State.drainVoice (s : State) (v : Nat) : State :=
  let x := s.slot v
  let y := Later.drain v x.gen
  if (active x.st ∨ ((x.st = 6 ∨ x.st = 7) ∧ x.why = .none)) ∧ y ∉ s.al.later then s.postpone y else s

/-- DRAIN_MAX after the request, the voices still on the unit are choked (R572). -/
def State.drainOver (s : State) : State :=
  match s.upd with
  | none => s
  | some u =>
    if s.drainMax ≤ s.realSec u.asked ∧ !u.unit.isEmpty then
      (u.unit.filter (fun c => c < 16)).foldl (fun s c => (List.range 16).foldl (fun s i => s.drainVoice (16 * c + i)) s) s
    else s
/-- DRAIN_TIMEOUT. -/
def execDrainTimeout (s : State) : Host.Outcome State Fault Refusal := ok s.drainOver

/-- A bench not granted within DRAIN_MAX + 1 s fails the update (R575). -/
def State.updLate (s : State) : State :=
  match s.upd with
  | none => s
  | some u =>
    if s.drainMax + 1 ≤ s.realSec u.asked ∧ !u.unit.isEmpty ∧ !s.updBenched u ∧ !u.rolling then
      (u.unit.foldl (fun s c => s.coreReturn c) s).updBack u
    else s
/-- UPDATE_BENCH_TIMEOUT. -/
def execUpdateBenchTimeout (s : State) : Host.Outcome State Fault Refusal := ok s.updLate

/-- The image is in the inactive slot and read back, or is not (R571). -/
def State.flashWritten (s : State) (good : Bool) : State :=
  match s.upd with
  | none => s
  | some u =>
    if s.get Reg.ID_UPD_STAT_STEP ≠ 2 then s
    else if good then ((s.writeSlot u.slot u.image).mcRec 3).updNext { u with left := s.updUnits }
    else s.updEnd u 0x1C 4
/-- UPDATE_FLASH_WRITTEN. -/
def execUpdateFlashWritten (good : Bool) (s : State) : Host.Outcome State Fault Refusal := ok (s.flashWritten good)

/-- A double fault on an updated core: the unit on the bench is returned with the old program, and the roll back begins
(R575). (Log: 14 DESIGN CHOICE.) -/
def State.updPoll (s : State) : State :=
  match s.upd with
  | none => s
  | some u =>
    if u.failed ∧ !u.rolling then (u.unit.foldl (fun s c => s.coreReturn c) s).updBack u else s

/-- The newest ARMATURE_REV of the loaded maquettes (R570). -/
def State.armNeed (s : State) : Nat := (List.range 16).foldl (fun a n => match s.prog n with
  | some p => max a (imgNat p.image 16 4)
  | none => a) 0

/-- A rolling update is asked for with the image read from its source (R570, R571). (Log: 134 DEDUCED.) -/
def State.updAsk (s : State) (fl : Flight) (img : List (BitVec 8)) : State :=
  let fail (st d : Nat) : State := s.complete fl s.ns st d 0
  if s.upd.isSome ∨ s.st.shut.isSome then fail 0x1C 2
  else match s.imageErr img with
    | 1 => fail 0x12 0
    | 2 | 3 => fail 0x14 0
    | 4 | 5 => fail 0x13 0
    | _ =>
      if imgNat img 16 4 < s.armNeed then fail 0x15 0
      else
        let k := 1 - b2n s.bootRec.active
        let s := (s.updShow 1 0).mcRec 3
        let s := s.setUpd (some { fl := some fl, image := img, unit := [], asked := s.tb.real, left := [], done := [], rolling := false
                                  failed := false, old := s.fw0, slot := k })
        ((s.writeSlot k []).updShow 2 0).mcRec 3

end Sys2Proof.Machine
end

