-- ==== Sys2Proof/Machine/Rings.lean ====
section
/-!
DEFINITION. Descriptors: the checks at acceptance, the two classes, fetching, holds and fences (R314, R316 to R320, R323 to
R339, R344).
-/
namespace Sys2Proof.Machine

/-! ### Checks that depend only on the descriptor (R314, R318, R319) -/

/-- Bytes `lo` to `hi - 1` of a descriptor are 0. -/
def zeroAt (d lo hi : Nat) : Bool := dfield d lo (hi - lo) == 0
/-- The binary32 at byte `b`. -/
def f32At (d b : Nat) : F32 := BitVec.ofNat 32 (dfield d b 4)

/-- The opcode is one of the ring version's (R314). -/
def opKnown (ver op : Nat) : Bool :=
  [0x01, 0x02, 0x03, 0x04, 0x05, 0x06, 0x10, 0x11, 0x30, 0x31, 0x40, 0x50, 0x70, 0x7F].contains op
    || (decide (2 ≤ ver) && [0x20, 0x21, 0x60].contains op)

/-- An opcode of the timed class (R320). -/
def opTimed (op : Nat) : Bool := [0x01, 0x02, 0x03, 0x04, 0x05, 0x06, 0x10, 0x11, 0x20, 0x21, 0x30, 0x31].contains op

/-- Of `k` pair positions from byte `b`, the first `n` hold pairs whose bytes 3:2 are 0 and the rest are 0 (R324, R326). -/
def pairsZero (d b n k : Nat) : Bool :=
  (List.range k).all (fun i => if i < n then zeroAt d (b + 8 * i + 2) (b + 8 * i + 4) else zeroAt d (b + 8 * i) (b + 8 * i + 8))

/-- CAST (R324). -/
def castOk (ver d : Nat) : Bool :=
  let fl := dfield d 17 1
  let coh := bit fl 0
  decide (dfield d 16 1 < 64 ∧ fl < 8 ∧ fl / 2 ≠ 3 ∧ dfield d 18 1 < 8) && (!coh || (fl / 2 == 0 && decide (2 ≤ ver)))
    && zeroAt d 19 20 && inRangeF 0xC3000000 0x437F0000 (f32At d 24) && inRangeF 0 0x3F800000 (f32At d 28)
    && (coh || zeroAt d 32 44) && decide (dfield d 44 1 ≤ if ver < 3 then 0 else 2) && zeroAt d 45 48
    && pairsZero d 48 (dfield d 44 1) 2

/-- The addressing of R323 with the modes an opcode allows; `count`: byte 17 is the opcode's own. -/
def addrOk (ver d : Nat) (modes : List Nat) (count : Bool) : Bool :=
  let am := dfield d 16 1
  modes.contains am && (am != 4 || decide (3 ≤ ver)) && (count || zeroAt d 17 18) && zeroAt d 19 20
    && (if am = 2 ∨ am = 3 then decide (dfield d 18 1 < 64) else zeroAt d 18 19)
    && (if am = 2 then fFinite (f32At d 20) else decide (am < 2) || zeroAt d 20 24)

/-- SET_PARAM (R326). -/
def setOk (ver d : Nat) : Bool :=
  let n := dfield d 17 1
  addrOk ver d [0, 1, 2, 3, 4] true && decide (1 ≤ n ∧ n ≤ if ver < 3 then 1 else 4) && pairsZero d 24 n 4 && zeroAt d 56 64

/-- RAMP_PARAM (R327). -/
def rampOk (ver d : Nat) : Bool :=
  addrOk ver d [0, 1, 2, 3, 4] false && zeroAt d 26 28 && fFinite (f32At d 28) && decide (dfield d 32 8 ≤ 3600000000000)
    && zeroAt d 40 64

/-- SET_GROUP: the configuration words (R159, R160) and the controls (R328). -/
def groupOk (d : Nat) : Bool :=
  let a := dfield d 20 4
  let b := dfield d 24 4
  decide (dfield d 16 1 < 64) && zeroAt d 17 20 && decide (bits a 0 9 ≤ 256 ∧ bits a 12 3 ≤ 4 ∧ 5 ≤ bits a 16 8 ∧ bits a 16 8 ≤ 200)
    && decide (bits b 18 2 ≠ 3 ∧ 3 ≤ bits b 20 4 ∧ bits b 24 7 ≤ 120)
    && (List.range 8).all (fun i => inRangeF 0xBF800000 0x3F800000 (f32At d (28 + 4 * i))) && zeroAt d 60 64

/-- LOAD_MAQUETTE and UNLOAD_MAQUETTE (R329); the slot may be named wrongly as 0 (R294). (Log: 66 DEDUCED.) -/
def loadOk (d : Nat) : Bool := decide (dfield d 16 1 ≤ 15 ∧ dfield d 17 1 ≤ 2) && zeroAt d 18 20 && zeroAt d 40 64
/-- UNLOAD_MAQUETTE. -/
def unloadOk (d : Nat) : Bool := decide (dfield d 16 1 ≤ 15 ∧ dfield d 17 1 < 2) && zeroAt d 18 64

/-- MIGRATE (R330). (Log: 99 DEDUCED.) -/
def migrateOk (ver d : Nat) : Bool :=
  let f := dfield d 27 1
  addrOk ver d [0, 1] false && decide (dfield d 24 2 < 4096 ∧ f < 8 ∧ f % 4 ≠ 3) && (f % 4 != 0 || decide (dfield d 26 1 < 64))
    && zeroAt d 28 64

/-- SPILL_CFG (R331). (Log: 99 DEDUCED.) -/
def spillOk (d : Nat) : Bool :=
  let n := dfield d 17 1
  decide (dfield d 18 2 < 4096) && zeroAt d 36 64 &&
    match dfield d 16 1 with
    | 0 => decide (1 ≤ n ∧ n ≤ 16) && (List.range 16).all (fun c => if c < n then decide (dfield d (20 + c) 1 < 32) else zeroAt d (20 + c) (21 + c))
    | 1 => n == 0 && zeroAt d 20 36
    | _ => false

/-- STREAM_MAP (R233, R332). -/
def mapOk (d : Nat) : Bool := decide (dfield d 16 2 ≤ 255) && zeroAt d 18 32 && routeValid (dfield d 32 16) && zeroAt d 48 64

/-- OUT_SET (R333, R434). -/
def outOk (d : Nat) : Bool :=
  let n := dfield d 16 1
  let ch (i : Nat) : Nat := dfield d (24 + 8 * i) 1
  decide (1 ≤ n ∧ n ≤ 5) && zeroAt d 17 24
    && (List.range 5).all (fun i =>
      if i < n then decide (ch i < 16) && zeroAt d (25 + 8 * i) (28 + 8 * i)
        && decide (-8388608 ≤ toS 32 (dfield d (28 + 8 * i) 4) ∧ toS 32 (dfield d (28 + 8 * i) 4) ≤ 8388607)
      else zeroAt d (24 + 8 * i) (32 + 8 * i))
    && ((List.range (min n 5)).map ch).eraseDups.length == min n 5

/-- SRC, address and inline data of SERIAL_TX and FABRIC_SEND (R334, R337). -/
def inlineOk (d src len : Nat) : Bool :=
  if src = 0 then zeroAt d 24 32 && decide (len ≤ 32) && zeroAt d (32 + min len 32) 64
  else decide (src ≤ 2) && zeroAt d 32 64

/-- SERIAL_TX (R334). -/
def serialOk (d : Nat) : Bool :=
  decide (dfield d 16 1 ≤ 3 ∧ dfield d 17 1 ≤ 1 ∧ 1 ≤ dfield d 18 2 ∧ dfield d 18 2 ≤ 513) && zeroAt d 21 24
    && inlineOk d (dfield d 20 1) (dfield d 18 2)

/-- MEM_DMA (R336). -/
def dmaOk (d : Nat) : Bool :=
  let n := dfield d 20 4
  decide (dfield d 16 1 ≤ 3 ∧ dfield d 17 1 ≤ 3 ∧ dfield d 16 1 + dfield d 17 1 ≠ 0 ∧ n % 4 = 0 ∧ 4 ≤ n ∧ n ≤ 16777216)
    && zeroAt d 18 20 && zeroAt d 40 64

/-- FABRIC_SEND (R337). -/
def sendOk (d : Nat) : Bool :=
  decide (dfield d 16 2 < 4096 ∧ 1 ≤ dfield d 20 2 ∧ dfield d 20 2 ≤ 2032) && (dfield d 18 1 == 1 || dfield d 18 1 == 3)
    && zeroAt d 19 20 && zeroAt d 23 24 && inlineOk d (dfield d 22 1) (dfield d 20 2)

/-- MGMT (R338, R518, R540, R554). -/
def mgmtOk (d : Nat) : Bool :=
  zeroAt d 17 20 &&
  match dfield d 16 1 with
  | 1 => decide (dfield d 20 1 ≤ 5) && zeroAt d 21 64
  | 2 => resetLegal (dfield d 20 1) (dfield d 24 4) false && zeroAt d 21 24 && zeroAt d 28 64
  | 3 => [1, 3, 4].contains (dfield d 20 1) && decide (dfield d 21 1 ≤ if dfield d 20 1 = 1 then 1 else 0) && zeroAt d 22 64
  | 4 => zeroAt d 20 21 && decide (dfield d 21 1 ≤ 2) && zeroAt d 22 24 && zeroAt d 32 64
  | 5 => decide (dfield d 21 1 ≤ 2) && zeroAt d 22 24 && zeroAt d 28 32 && zeroAt d 40 64 &&
    (match dfield d 20 1 with
    | 1 => zeroAt d 24 28
    | 2 => scopeOk (dfield d 24 4)
    | 3 => scopeOk (dfield d 24 4)
    | 4 => zeroAt d 24 28 && zeroAt d 32 40
    | _ => false)
  | _ => false

/-- The payload of an opcode is in order. -/
def payloadOk (ver d : Nat) : Bool :=
  match dfield d 0 1 with
  | 0x01 => castOk ver d
  | 0x02 => addrOk ver d [0, 1, 2, 3] false && inRangeF 0 0x3F800000 (f32At d 24) && zeroAt d 28 64
  | 0x03 => addrOk ver d [0, 1, 2, 3] false && zeroAt d 24 64
  | 0x04 => setOk ver d
  | 0x05 => groupOk d
  | 0x06 => rampOk ver d
  | 0x10 => loadOk d
  | 0x11 => unloadOk d
  | 0x20 => migrateOk ver d
  | 0x21 => spillOk d
  | 0x30 => mapOk d
  | 0x31 => outOk d
  | 0x40 => serialOk d
  | 0x50 => dmaOk d
  | 0x60 => sendOk d
  | 0x70 => mgmtOk d
  | _ => (decide (3 ≤ ver) || zeroAt d 16 18) && zeroAt d 18 64

/-- The ID names a binary32 parameter of the tables that the manual fixes: the armature's, or the mix section's.
(Log: 152 DEDUCED.) -/
def isReal (mix : Bool) (id : Nat) : Bool :=
  match (if mix then mixFixed id else armParam id).map PSpec.kind with
  | some (.real _ _) => true
  | some (.strict _ _) => true
  | _ => false

/-- The first pair of a CAST or SET_PARAM that gives such a parameter a value that is not finite (R91, R318).
(Log: 152 DEDUCED.) -/
def badPair (d : Nat) : Option Nat :=
  let find (b n : Nat) (mix : Bool) : Option Nat :=
    (List.range n).find? (fun i => isReal mix (dfield d (b + 8 * i) 2) && !fFinite (f32At d (b + 8 * i + 4)))
  match dfield d 0 1 with
  | 0x01 => find 48 (min 2 (dfield d 44 1)) false
  | 0x04 => find 24 (min 4 (dfield d 17 1)) (dfield d 16 1 == 4)
  | _ => none

/-- Header and payload are in order. -/
def formOk (ver d : Nat) : Bool := decide (dfield d 1 1 < 2) && zeroAt d 4 8 && payloadOk ver d

/-- The status a descriptor is rejected with at acceptance, none if it passes (R319). -/
def rejectOf (ver d : Nat) : Option Nat :=
  if !opKnown ver (dfield d 0 1) then some 2
  else if formOk ver d ∧ (badPair d).isNone then none
  else some 3

/-- DETAIL of a rejection: the index of the failing pair (R321, R326). (Log: 152 DEDUCED.) -/
def rejectDetail (ver d : Nat) : Nat := if opKnown ver (dfield d 0 1) ∧ formOk ver d then (badPair d).getD 0 else 0

/-- Reject a descriptor: it completes at once and is counted, and is not accepted (R319, R344). A STREAM_MAP leaves a ROUTE
record (R359). (Log: 67 DEDUCED.) -/
def State.reject (s : State) (n d status detail : Nat) : State :=
  let fl : Flight := ⟨s.hi.nextSeq, n, s.get (Reg.HI_RING_STAT_GEN n), dfield d 0 1, dfield d 2 2, bit d 8⟩
  let s := (s.setHi (fun h => { h with nextSeq := h.nextSeq + 1 })).count Reg.HI_CNT_REJECT 1
  let s := if dfield d 0 1 = 0x30 ∧ status = 3 then s.routeRec (dfield d 16 2) 3 0 (dfield d 34 2) else s
  s.complete fl s.ns status detail 0

/-! ### MEM_DMA (R336) -/

/-- A range of a MEM_DMA space is open to it (R336, R487, R491). -/
def State.memRange (s : State) (sp a n : Nat) : Bool :=
  match sp with
  | 0 => decide (a + n ≤ 2 ^ 64)
  | 1 => decide (a + n ≤ dramBytes)
  | 2 => decide (a + n ≤ 45 * 0x80000) && (List.range 48).all (fun b => decide (b < bankOf a ∨ bankOf (a + n - 1) < b) || s.bankOn b)
  | _ => decide (a + n ≤ 0x80000)

/-- MEM_DMA starts, or completes ACCESS. (Log: 102 DEDUCED.) -/
def State.memDma (s : State) (fl : Flight) (d : Nat) : State :=
  let x : Dma := ⟨fl, dfield d 16 1, dfield d 17 1, dfield d 24 8, dfield d 32 8, dfield d 20 4⟩
  if s.memRange x.sspace x.src x.len ∧ s.memRange x.dspace x.dst x.len then s.setHi (fun h => { h with dmas := h.dmas ++ [x] })
  else s.complete fl s.ns 0x1A 0 0

/-- Write bytes into a MEM_DMA space. -/
def State.memWrite (s : State) (sp a : Nat) (b : List (BitVec 8)) : State :=
  match sp with
  | 0 => s.emit (.hostWrite a b)
  | 1 => s.dramWrite a b
  | 2 => s.sramWriteAll a b
  | _ => s.sramWriteAll (exchBase + a) b

/-- `n` bytes of a MEM_DMA space: what can be read of them, and whether that is all (R490, R503). `host` is what host memory
returned. -/
def State.memRead (s : State) (sp a n : Nat) (host : List (BitVec 8)) : State × List (BitVec 8) × Bool :=
  let sram (s : State) (a : Nat) : State × List (BitVec 8) × Bool := match s.sramSpoilt a n with
    | some w => ((s.sramFix a (8 * w - a)).sramUe (8 * w), s.sram.bytes a (8 * w - a), false)
    | none => (s.sramFix a n, s.sram.bytes a n, true)
  match sp with
  | 0 => (s, padTo n host, true)
  | 1 => match s.dramSpoilt a n with
    | some w => ((s.dramFix a (8 * w - a)).dramUe (8 * w), s.dram.bytes a (8 * w - a), false)
    | none => (s.dramFix a n, s.dram.bytes a n, true)
  | 2 => sram s a
  | _ => sram s (exchBase + a)

/-- Transfer `i` ends: with its last write, or at an error of host memory after `err` bytes (R336). While it needs host memory
and none may be reached it pauses. (Log: 102 DEDUCED.) -/
def State.memDone (s : State) (i : Nat) (host : List (BitVec 8)) (err : Option Nat) : State :=
  match s.hi.dmas[i]? with
  | none => s
  | some x =>
    let touches := x.sspace == 0 || x.dspace == 0
    if touches ∧ s.hostBlocked then s
    else
      let s := s.setHi (fun h => { h with dmas := h.dmas.eraseIdx i })
      if !s.memRange x.sspace x.src x.len ∨ !s.memRange x.dspace x.dst x.len then s.complete x.fl s.ns 0x1A 0 0
      else
        let (s, b, whole) := s.memRead x.sspace x.src x.len host
        let k := match err with
          | some k => if touches then min k b.length else b.length
          | none => b.length
        let s := s.memWrite x.dspace x.dst (b.take k)
        if whole ∧ (err.isNone ∨ !touches) then s.complete x.fl s.ns 0 0 0
        else s.completeX x.fl s.ns 0x1B 0 0 k

/-- MEM_DMA_DONE: transfer `i` of those that run (R336). -/
def execMemDmaDone (i : BitVec 16) (host : List (BitVec 8)) (err : Option (BitVec 32)) (s : State) : Host.Outcome State Fault Refusal :=
  ok (s.memDone i.toNat host (err.map BitVec.toNat))

/-! ### FABRIC_SEND (R337, R382) -/

/-- Data of SRC 0 inline, 1 exchange region, 2 host memory. (Log: 76 DEDUCED.) -/
def State.srcData (s : State) (d src a len : Nat) (host : List (BitVec 8)) : List (BitVec 8) :=
  match src with
  | 0 => leBytes len (dfield d 32 32)
  | 1 => s.exchRead a len
  | _ => padTo len host

/-- FABRIC_SEND: one user frame; NODE_LOST when no port takes it, OK at once for this module's own address.
(Log: 100 DEDUCED.) -/
def State.fabricSend (s : State) (fl : Flight) (d : Nat) (host : List (BitVec 8)) : State :=
  let dst := dfield d 16 2
  let b := s.srcData d (dfield d 22 1) (dfield d 24 8) (dfield d 20 2) host
  if s.dir dst = 5 then
    let (s, _) := s.sendTo (dfield d 18 1) 5 dst b none
    s.complete fl s.ns 0 0 0
  else
    let (s, sent) := s.sendTo (dfield d 18 1) 5 dst b (some fl)
    if sent then s.sweep else s.complete fl s.ns 0x0E 0 0

/-! ### MGMT (R338, R518, R534, R540, R554, R571) -/

/-- Bytes of the SRC of R329: 0 host memory, 1 exchange region, 2 DRAM. (Log: 101 DEDUCED.) -/
def State.imageAt (s : State) (src a n : Nat) (host : List (BitVec 8)) : List (BitVec 8) :=
  match src with
  | 0 => padTo n host
  | 1 => s.exchRead a n
  | _ => s.dram.bytes a n

/-- Power state request (R514). (Log: 128 DEDUCED.) -/
def State.mgmtPower (s : State) (fl : Flight) (t : Nat) : State :=
  if s.pwRefuses t then (s.set1 Reg.PWR_FLAGS_REQ_REFUSED).complete fl s.ns 0x1C 2 0
  else (s.complete fl s.ns 0 0 0).pwEnter t

/-- Reset request (R518). -/
def State.mgmtReset (s : State) (fl : Flight) (kind mask : Nat) : State :=
  if kind = 1 then (s.complete fl s.ns 0 0 0).askReset 4 0 else s.resetClusters mask (some fl)

/-- Self-test profile (R534, R540). -/
def State.mgmtTest (s : State) (fl : Flight) (code : Nat) (noSkip : Bool) : State :=
  match code with
  | 1 => s.leaveIdle.shutStart fl noSkip
  | 3 => (s.setPerEn true).complete fl s.ns 0 0 0
  | _ => (s.setPerEn false).complete fl s.ns 0 0 0

/-- Rolling update (R570, R571): the image's length stands in its header. A source outside its space completes ACCESS, one that
cannot be read whole DMA_ERROR; of host memory, one whose read returned fewer bytes.
(Log: 101 DEDUCED, 135 DESIGN CHOICE.) -/
def State.mgmtUpdate (s : State) (fl : Flight) (src a : Nat) (host : List (BitVec 8)) : State :=
  let s := s.leaveIdle
  let sp := match src with | 0 => 0 | 1 => 3 | _ => 1
  let n := min (imgNat (s.imageAt src a 12 host) 8 4) 491520
  if s.upd.isSome ∨ s.st.shut.isSome then s.updAsk fl []
  else if !s.memRange sp a 12 ∨ !s.memRange sp a n then s.complete fl s.ns 0x1A 0 0
  else
    let (s, img, whole) := s.memRead sp a n host
    if !whole ∨ (src = 0 ∧ host.length < max 12 n) then s.complete fl s.ns 0x1B 0 0 else s.updAsk fl img

/-- Service access (R551, R554): the nonce of an accepted CHALLENGE is written where the descriptor says. (Log: 101 DEDUCED.) -/
def State.mgmtService (s : State) (fl : Flight) (op src scope a : Nat) (host : List (BitVec 8)) : State :=
  let data := s.imageAt src a (if op = 2 then 128 else 16) host
  let (s, r) := s.lcOp op scope data
  let s := match op, r.status, s.nonceNow with
    | 1, 0, some n => match src with
      | 0 => if s.hostBlocked then s else s.emit (.hostWrite a n)
      | 1 => s.exchWrite a n
      | _ => s.dramWrite a n
    | _, _, _ => s
  s.completeX fl s.ns r.status r.detail 0 r.sec

/-- A MGMT descriptor runs. -/
def State.mgmt (s : State) (fl : Flight) (d : Nat) (host : List (BitVec 8)) : State :=
  match dfield d 16 1 with
  | 1 => s.mgmtPower fl (dfield d 20 1)
  | 2 => s.mgmtReset fl (dfield d 20 1) (dfield d 24 4)
  | 3 => s.mgmtTest fl (dfield d 20 1) (bit (dfield d 21 1) 0)
  | 4 => s.mgmtUpdate fl (dfield d 21 1) (dfield d 24 8) host
  | _ => s.mgmtService fl (dfield d 20 1) (dfield d 21 1) (dfield d 24 4) (dfield d 32 8) host

/-! ### Acceptance (R319, R320) -/

/-- A command needs a cluster or the DRAM, so it leaves IDLE (R514): a cast, a resume, a load, anything that reads or writes
DRAM. (Log: 98 DEDUCED.) -/
def needsCluster (d : Nat) : Bool :=
  match dfield d 0 1 with
  | 0x01 => true
  | 0x10 => true
  | 0x20 => dfield d 27 1 % 4 == 2
  | 0x50 => dfield d 16 1 == 1 || dfield d 17 1 == 1
  | 0x70 => (dfield d 16 1 == 4 || dfield d 16 1 == 5) && dfield d 21 1 == 2
  | _ => false

/-- A timed command enters the queue; a load's image is copied (R198, R292 step 1). -/
def State.acceptTimed (s : State) (n d : Nat) (host : List (BitVec 8)) : State :=
  let (fl, s) := s.newFlight n d
  let s := s.accept fl .ring d
  if fl.op = 0x10 then
    match s.sch.queue.find? (fun c => c.fl.seq == fl.seq) with
    | some c => { s with loads := s.loads ++ [⟨c, s.imageAt (c.u 17 1) (c.u 24 8) (c.u 20 4) host, none⟩] }
    | none => s
  else s

/-- An immediate command runs (R320). -/
def State.runImmediate (s : State) (n d : Nat) (host : List (BitVec 8)) : State :=
  let (fl, s) := s.newFlight n d
  match fl.op with
  | 0x50 => s.memDma fl d
  | 0x60 => s.fabricSend fl d host
  | _ => s.mgmt fl d host

/-- Hold ring `n` at a descriptor (R320, R334, R339). -/
def State.holdAt (s : State) (n d : Nat) (host : List (BitVec 8)) (fence : Option Nat) : State :=
  (s.setHi (fun h => { h with heldDesc := Tbl.put none h.heldDesc n (some d), heldData := Tbl.put [] h.heldData n host
                              fenceAt := Tbl.put none h.fenceAt n fence })).settle n

/-- Everything a FENCE of ring `n` waits for has come: earlier commands of its rings are complete, its time is reached
(R339). -/
def State.fenceFree (s : State) (n d at_ : Nat) : Bool :=
  decide (dfield d 8 8 ≤ s.ns) && !s.hi.flights.any (fun f => decide (f.seq < at_) && (f.ring == n || bit (dfield d 16 2) f.ring))

/-- A FENCE completes OK, QUIET or not (R339). -/
def State.endFence (s : State) (n d : Nat) : State :=
  let (fl, s) := s.newFlight n d
  s.complete { fl with quiet := false } s.ns 0 0 0

/-- A descriptor of ring `n` reaches acceptance: rejected, queued, run, or its ring is held at it. `host` is the data the
descriptor makes the module read from host memory. (Log: 61 DESIGN CHOICE.) -/
def State.acceptDesc (s : State) (n d : Nat) (host : List (BitVec 8)) : State :=
  let ver := s.get (Reg.HI_RING_STAT_VER n)
  match rejectOf ver d with
  | some st => s.reject n d st (rejectDetail ver d)
  | none =>
    let s := if needsCluster d then s.leaveIdle else s
    let op := dfield d 0 1
    if opTimed op then s.acceptTimed n d host
    else if op = 0x40 then
      if s.txCount (dfield d 16 1) < 4 then s.txAccept n d host else s.holdAt n d host none
    else if op = 0x7F then
      if s.fenceFree n d s.hi.nextSeq then s.endFence n d else s.holdAt n d [] (some s.hi.nextSeq)
    else if s.ns < dfield d 8 8 then s.holdAt n d host none
    else s.runImmediate n d host

/-! ### Fetching (R316, R317, R344) -/

/-- Completions of immediate commands that wait for room: 64 stop fetching (R351). -/
def State.heldImmediate (s : State) : Nat :=
  (s.eq.flatMap (fun q => q.held.filter (fun h => match h.kind with
    | .completion sq _ _ => !s.sch.queue.any (fun c => c.fl.seq == sq)
    | _ => false))).length

/-- Ring `n` is RUNNING and non-empty, and nothing blocks its fetch. -/
def State.canFetch (s : State) (n : Nat) : Bool :=
  s.ringState n == 2 && s.get (Reg.HI_RING_HEAD n) != s.get (Reg.HI_RING_TAIL n) && !(s.ringHost n && s.hostBlocked)

/-- The ring served next: highest PRIO, round robin within it (R317); none while fetching has stopped (R198, R310, R351).
(Log: 97 DESIGN CHOICE.) -/
def State.served1 (s : State) : Option Nat :=
  if !s.on Reg.HI_CTRL_CP_EN ∨ 4096 ≤ s.queueLen ∨ 64 ≤ s.heldImmediate then none
  else [3, 2, 1, 0].findSome? (fun p =>
    let last := Tbl.get 15 s.hi.rr p
    ((List.range 16).map (fun i => (last + 1 + i) % 16)).find? (fun n => s.canFetch n && s.get (Reg.HI_RING_CFG_PRIO n) == p))

/-- A descriptor read fails: ERROR with REASON = FETCH (R344). (Log: 97 DESIGN CHOICE.) -/
def State.fetchError (s : State) (n : Nat) : State :=
  (((s.set1 Reg.HI_FLAGS_FETCH_ERROR).put (Reg.HI_RING_STAT_REASON n) 4).setRing n 5).ringRec n 4

/-- FETCH_ERROR: the read for the ring served next fails (R344). -/
def execFetchError (s : State) : Host.Outcome State Fault Refusal :=
  ok (match s.served1 with | some n => s.fetchError n | none => s)

/-- Fetch one descriptor of the ring served next and accept it (R316, R317): `d` and `host` are what host memory returns.
(Log: 61 DESIGN CHOICE, 97 DESIGN CHOICE.) -/
def State.fetchDesc (s : State) (d : Nat) (host : List (BitVec 8)) : State :=
  match s.served1 with
  | none => s
  | some n =>
    let h := s.get (Reg.HI_RING_HEAD n)
    let s := s.setHi (fun x => { x with rr := Tbl.put 15 x.rr (s.get (Reg.HI_RING_CFG_PRIO n)) n })
    let a := s.ringBase n + 64 + 64 * h
    match (if s.ringHost n then none else s.sramSpoilt (exchBase + a) 64) with
    | some w => (s.sramUe (8 * w)).fetchError n
    | none =>
      let d := if s.ringHost n then d else leNat (s.exchRead a 64)
      ((s.put (Reg.HI_RING_HEAD n) ((h + 1) % s.ringSize n)).acceptDesc n d host).ringHeader n

/-- DESCRIPTOR_FETCH (R316). -/
def execDescriptorFetch (d : BitVec 512) (host : List (BitVec 8)) (s : State) : Host.Outcome State Fault Refusal :=
  ok (s.fetchDesc d.toNat host)

/-- A held immediate command's time comes: it runs and the ring goes on (R320). -/
def State.holdEnd (s : State) (n : Nat) : State :=
  match s.heldAt n with
  | some d =>
    if dfield d 0 1 ≠ 0x40 ∧ dfield d 0 1 ≠ 0x7F ∧ dfield d 8 8 ≤ s.ns then
      let host := Tbl.get [] s.hi.heldData n
      ((s.unhold n).runImmediate n d host).settle n
    else s
  | none => s
/-- IMMEDIATE_HOLD_END (R320). -/
def execImmediateHoldEnd (n : Fin 16) (s : State) : Host.Outcome State Fault Refusal := ok (s.holdEnd n.val)

/-- What a FENCE waits for has come (R339). -/
def State.fenceEnd (s : State) (n : Nat) : State :=
  match s.heldAt n, Tbl.get none s.hi.fenceAt n with
  | some d, some at_ => if s.fenceFree n d at_ then ((s.unhold n).endFence n d).settle n else s
  | _, _ => s
/-- FENCE_RELEASE (R339). -/
def execFenceRelease (n : Fin 16) (s : State) : Host.Outcome State Fault Refusal := ok (s.fenceEnd n.val)

/-! ### The opcodes: a descriptor fetched from a RUNNING ring is accepted (assumption 61) -/

/-- Accept a fetched descriptor of ring `n` when it is one that `p` names; none is fetched while the timed queue is full (R198).
(Log: 61 DESIGN CHOICE.) -/
def State.descOf (s : State) (n d : Nat) (host : List (BitVec 8)) (p : Bool) : State :=
  if s.ringState n = 2 ∧ s.queueLen < 4096 ∧ p then s.acceptDesc n d host else s

/-- A MGMT descriptor of a sub-operation with an argument. -/
def isMgmt (d sub : Nat) : Bool := dfield d 0 1 == 0x70 && dfield d 16 1 == sub

/-- CAST (R324). -/
def execCast (n : Fin 16) (d : BitVec 512) (s : State) : Host.Outcome State Fault Refusal :=
  ok (s.descOf n d.toNat [] (dfield d.toNat 0 1 == 0x01))
/-- RELEASE (R325). -/
def execRelease (n : Fin 16) (d : BitVec 512) (s : State) : Host.Outcome State Fault Refusal :=
  ok (s.descOf n d.toNat [] (dfield d.toNat 0 1 == 0x02))
/-- CHOKE (R325). -/
def execChoke (n : Fin 16) (d : BitVec 512) (s : State) : Host.Outcome State Fault Refusal :=
  ok (s.descOf n d.toNat [] (dfield d.toNat 0 1 == 0x03))
/-- SET_PARAM (R326). -/
def execSetParam (n : Fin 16) (d : BitVec 512) (s : State) : Host.Outcome State Fault Refusal :=
  ok (s.descOf n d.toNat [] (dfield d.toNat 0 1 == 0x04))
/-- SET_GROUP (R328). -/
def execSetGroup (n : Fin 16) (d : BitVec 512) (s : State) : Host.Outcome State Fault Refusal :=
  ok (s.descOf n d.toNat [] (dfield d.toNat 0 1 == 0x05))
/-- RAMP_PARAM (R327). -/
def execRampParam (n : Fin 16) (d : BitVec 512) (s : State) : Host.Outcome State Fault Refusal :=
  ok (s.descOf n d.toNat [] (dfield d.toNat 0 1 == 0x06))
/-- LOAD_MAQUETTE (R292, R329). -/
def execLoadMaquette (n : Fin 16) (d : BitVec 512) (host : List (BitVec 8)) (s : State) : Host.Outcome State Fault Refusal :=
  ok (s.descOf n d.toNat host (dfield d.toNat 0 1 == 0x10))
/-- UNLOAD_MAQUETTE (R293, R329). -/
def execUnloadMaquette (n : Fin 16) (d : BitVec 512) (s : State) : Host.Outcome State Fault Refusal :=
  ok (s.descOf n d.toNat [] (dfield d.toNat 0 1 == 0x11))
/-- MIGRATE with MODE 0 (R330, R414). -/
def execMigrateSend (n : Fin 16) (d : BitVec 512) (s : State) : Host.Outcome State Fault Refusal :=
  ok (s.descOf n d.toNat [] (dfield d.toNat 0 1 == 0x20 && dfield d.toNat 27 1 % 4 == 0))
/-- MIGRATE with MODE 1 (R181, R330). -/
def execPark (n : Fin 16) (d : BitVec 512) (s : State) : Host.Outcome State Fault Refusal :=
  ok (s.descOf n d.toNat [] (dfield d.toNat 0 1 == 0x20 && dfield d.toNat 27 1 % 4 == 1))
/-- MIGRATE with MODE 2 (R183, R330). -/
def execResume (n : Fin 16) (d : BitVec 512) (s : State) : Host.Outcome State Fault Refusal :=
  ok (s.descOf n d.toNat [] (dfield d.toNat 0 1 == 0x20 && dfield d.toNat 27 1 % 4 == 2))
/-- SPILL_CFG establish (R331, R424). -/
def execSpillEstablish (n : Fin 16) (d : BitVec 512) (s : State) : Host.Outcome State Fault Refusal :=
  ok (s.descOf n d.toNat [] (dfield d.toNat 0 1 == 0x21 && dfield d.toNat 16 1 == 0))
/-- SPILL_CFG dissolve (R331). -/
def execSpillDissolve (n : Fin 16) (d : BitVec 512) (s : State) : Host.Outcome State Fault Refusal :=
  ok (s.descOf n d.toNat [] (dfield d.toNat 0 1 == 0x21 && dfield d.toNat 16 1 == 1))
/-- STREAM_MAP (R233, R332). -/
def execStreamMap (n : Fin 16) (d : BitVec 512) (s : State) : Host.Outcome State Fault Refusal :=
  ok (s.descOf n d.toNat [] (dfield d.toNat 0 1 == 0x30))
/-- OUT_SET (R333). -/
def execOutSet (n : Fin 16) (d : BitVec 512) (s : State) : Host.Outcome State Fault Refusal :=
  ok (s.descOf n d.toNat [] (dfield d.toNat 0 1 == 0x31))
/-- SERIAL_TX (R334). -/
def execSerialTx (n : Fin 16) (d : BitVec 512) (host : List (BitVec 8)) (s : State) : Host.Outcome State Fault Refusal :=
  ok (s.descOf n d.toNat host (dfield d.toNat 0 1 == 0x40))
/-- MEM_DMA (R336). -/
def execMemDma (n : Fin 16) (d : BitVec 512) (s : State) : Host.Outcome State Fault Refusal :=
  ok (s.descOf n d.toNat [] (dfield d.toNat 0 1 == 0x50))
/-- FABRIC_SEND (R337). -/
def execFabricSend (n : Fin 16) (d : BitVec 512) (host : List (BitVec 8)) (s : State) : Host.Outcome State Fault Refusal :=
  ok (s.descOf n d.toNat host (dfield d.toNat 0 1 == 0x60))
/-- FENCE (R339). -/
def execFence (n : Fin 16) (d : BitVec 512) (s : State) : Host.Outcome State Fault Refusal :=
  ok (s.descOf n d.toNat [] (dfield d.toNat 0 1 == 0x7F))
/-- SHUTDOWN: MGMT sub-op 0x03 with profile 1 (R534). -/
def execShutdown (n : Fin 16) (d : BitVec 512) (s : State) : Host.Outcome State Fault Refusal :=
  ok (s.descOf n d.toNat [] (isMgmt d.toNat 3 && dfield d.toNat 20 1 == 1))
/-- PERIODIC_ENABLE: MGMT sub-op 0x03 with profile 3 (R540). -/
def execPeriodicEnable (n : Fin 16) (d : BitVec 512) (s : State) : Host.Outcome State Fault Refusal :=
  ok (s.descOf n d.toNat [] (isMgmt d.toNat 3 && dfield d.toNat 20 1 == 3))
/-- PERIODIC_DISABLE: MGMT sub-op 0x03 with profile 4 (R540). -/
def execPeriodicDisable (n : Fin 16) (d : BitVec 512) (s : State) : Host.Outcome State Fault Refusal :=
  ok (s.descOf n d.toNat [] (isMgmt d.toNat 3 && dfield d.toNat 20 1 == 4))
/-- ROLLING_UPDATE: MGMT sub-op 0x04 (R571). -/
def execRollingUpdate (n : Fin 16) (d : BitVec 512) (host : List (BitVec 8)) (s : State) : Host.Outcome State Fault Refusal :=
  ok (s.descOf n d.toNat host (isMgmt d.toNat 4))

/-! ### Service access: a MGMT descriptor, or the same operation of LC_CMD (R554, R555) -/

/-- The operation by a descriptor of a ring, or by LC_CMD. -/
def State.serviceBy (s : State) (by_ : Option (Fin 16 × BitVec 512)) (host : List (BitVec 8)) (op : Nat) : State :=
  match by_ with
  | some (n, d) => s.descOf n d.toNat host (isMgmt d.toNat 5 && dfield d.toNat 20 1 == op)
  | none => s.writeLcCmd op

/-- CHALLENGE (R551). -/
def execChallenge (by_ : Option (Fin 16 × BitVec 512)) (s : State) : Host.Outcome State Fault Refusal := ok (s.serviceBy by_ [] 1)
/-- SIGNED (R551). -/
def execSigned (by_ : Option (Fin 16 × BitVec 512)) (host : List (BitVec 8)) (s : State) : Host.Outcome State Fault Refusal :=
  ok (s.serviceBy by_ host 2)
/-- PASSWORD (R551). -/
def execPassword (by_ : Option (Fin 16 × BitVec 512)) (host : List (BitVec 8)) (s : State) : Host.Outcome State Fault Refusal :=
  ok (s.serviceBy by_ host 3)
/-- CLOSE (R552). -/
def execClose (by_ : Option (Fin 16 × BitVec 512)) (s : State) : Host.Outcome State Fault Refusal := ok (s.serviceBy by_ [] 4)

end Sys2Proof.Machine
end

