-- ==== Sys2Proof/Machine/Sched.lean ====
section
/-!
DEFINITION. The render scheduler: boundaries, levels, late blocks, play (R194 to R213, R166, R178, R236, R359).
-/
namespace Sys2Proof.Machine

/-- LEVEL: 0 FINISH, 1 ROUGH1, 2 ROUGH2, 3 SHED. -/
def State.level (s : State) : Nat := s.get Reg.AL_SCH_STAT_LEVEL

/-- Change STATE, with its record (R217). -/
def State.setSchState (s : State) (x : Nat) : State :=
  let old := s.schState
  if old = x then s else (s.put Reg.AL_SCH_STAT_STATE x).event 0x3C 68 0 1 (pay 16 old + pay 17 x)

/-! ### Roughing and shedding (R207 to R209) -/

/-- Change the level, with its TIER record; a return to FINISH ends the episode of late blocks (R209, R217).
(Log: 176 DEDUCED.) -/
def State.setLevel (s : State) (j new : Nat) : State :=
  let old := s.level
  if old = new then s
  else
    let t := tuNs (s.playStart j)
    let s := s.put Reg.AL_SCH_STAT_LEVEL new
    let s := if new = 0 then (s.eventAt t 0x38 64 0 2 (pay 16 s.sch.lateEp + pay 24 j)).setSch (fun x => { x with lateEp := 0 }) else s
    s.eventAt t 0x39 65 0 0 (pay 16 old + pay 17 new + pay 18 (s.get Reg.AL_SCH_SLACK_SIGMA))

/-- Choose and start a shed batch; with no voice to shed there is none (R173, R208). (Log: 149 DEDUCED.) -/
def State.shed (s : State) (j : Nat) : State :=
  let t := s.playStart j
  let l := s.shedBatch (max 1 (s.get Reg.AL_SCH_CTRL_SHED_BATCH))
  if l.isEmpty then s
  else
    let hs := l.map s.handle
    let s := l.foldl (fun s v => s.shedOne t v) s
    let s := (s.set1 Reg.AL_SCH_FLAGS_SHED).set1 Reg.AL_SCH_STAT_SHED_WAIT
    (s.eventAt (tuNs t) 0x3B 67 0 0 (pay 16 l.length)).setSch (fun x => { x with shedLeft := hs, shedSettle := 0 })

/-- The level before a render start's own step: SHED is ROUGH2 once SHED_EN is 0 (R216). (Log: 33 DEDUCED.) -/
def State.levelIn (s : State) : Nat := if s.on Reg.AL_SCH_CTRL_SHED_EN then s.level else min s.level 2

/-- SIGMA and DEFICIT of a render start with margin `sig`, in tu (R215). -/
def State.sigmaRegs (s : State) (sig : Int) : State :=
  let unit (x : Int) : Int := x * 256 / (s.blockT : Int)
  let def_ := min (unit ((s.slack * s.blockT : Nat) - sig)).toNat 0xFFFF
  let s := s.put Reg.AL_SCH_SLACK_SIGMA ((max (-0x8000) (min (unit sig) 0x7FFF)) % 0x10000).toNat
  if s.get Reg.AL_SCH_DEFICIT_MAX_DEFICIT < def_ then s.put Reg.AL_SCH_DEFICIT_MAX_DEFICIT def_ else s

/-- The level of block `j`, whose render begins at `r` tu (R207); a time step holds it (R213). (Log: 33 DEDUCED.) -/
def State.fixTier (s : State) (j r : Nat) : State :=
  let full : Int := (s.slack * s.blockT : Nat)
  let sig : Int := (s.playStart j : Int) - r
  let s := s.sigmaRegs sig
  let s := if s.on Reg.AL_SCH_STAT_SHED_WAIT ∧ s.sch.shedSettle = 1 then
      (s.put Reg.AL_SCH_STAT_SHED_WAIT 0).setSch (fun x => { x with shedSettle := 0 })
    else s
  let lv := s.levelIn
  let s :=
    if s.sch.holdLevel then s.setLevel j lv
    else if full ≤ sig then s.setLevel j (lv - 1)
    else if sig ≤ s.sch.sigmaPrev ∧ !s.on Reg.AL_SCH_STAT_SHED_WAIT then
      let new := min (lv + 1) (if s.on Reg.AL_SCH_CTRL_SHED_EN then 3 else 2)
      let s := s.setLevel j new
      if new = 3 then s.shed j else s
    else s.setLevel j lv
  s.setSch (fun x => { x with sigmaPrev := sig, holdLevel := false })

/-! ### Freeing (R166 step 2, R136, R176, R182, R193) -/

/-- The voice's ending envelope, or its maquette, has ended it by `t`. -/
def Voice.endedBy (v : Voice) (t : Nat) : Bool := if v.prog ≠ 0 then v.ended else v.doneAt t

/-- Free slot `e` if its ramp or ending envelope has completed by P_j (R166 step 2). -/
def State.freeSlotAt (s : State) (p e : Nat) : State :=
  let v := s.slot e
  if v.st = 4 then
    if v.rampEnd ≤ p then match v.why with
      | .park q x => s.parkDone e q x
      | .choke => s.endEnt e (tuNs v.rampEnd)
      | .limit => s.endEnt e (tuNs v.rampEnd)
      | _ => s.freeEnt e
    else s
  else if (v.st = 2 ∨ v.st = 3) ∧ v.retrig.isEmpty ∧ v.endedBy p then s.endEnt e (tuNs (min p (v.doneTime p)))
  else s

/-- Tails and entries freed at the boundary of the block that starts at `p` (R166 step 2). -/
def State.freeAll (s : State) (p : Nat) : State :=
  let s := (List.range 64).foldl (fun s k =>
    let v := s.tail k
    if v.st ≠ 0 ∧ (v.rampEnd ≤ p ∨ v.endedBy p) then s.setTail k (Voice.free 0) else s) s
  let s := allSlots.foldl (fun s e => s.freeSlotAt p e) s
  if s.on Reg.AL_SCH_STAT_SHED_WAIT ∧ s.sch.shedSettle = 0 ∧ s.sch.shedLeft.all (fun h => (s.lookup h).isNone) then
    s.setSch (fun x => { x with shedSettle := 1, shedLeft := [] })
  else s

/-! ### Commands and decisions of a boundary (R166, R199, R200) -/

/-- What step 5 of R199 applies: a command, a retrigger of an entry, or a change that waited for the boundary. -/
inductive Due where
  /-- A command. -/
  | cmd (c : TCmd)
  /-- A retrigger. -/
  | retrig (e : Nat) (r : Retrig)
  /-- A change of R7. -/
  | later (x : Later)
deriving DecidableEq, Repr

/-- Execution time in ns, then acceptance. A MIGRATE that sends stands at its snapshot, the start of block `m` (R166, R414).
(Log: 168 DEDUCED.) -/
def State.dueRank (s : State) (m : Nat) : Due → List Nat
  | .cmd c => [if c.early = 3 ∧ c.exec ≠ 0 then tuNs (s.playStart m) else c.exec, c.fl.seq]
  | .retrig _ r => [r.ord.1, r.ord.2]
  | .later x => [match x with
    | .limit _ _ t => tuNs t
    | .abort _ _ t => tuNs t
    | _ => 0, 0]

/-- Insert by rank, after equals. -/
def State.insDue (s : State) (m : Nat) (x : Due) : List Due → List Due
  | [] => [x]
  | y :: l => if lexLt (s.dueRank m x) (s.dueRank m y) then x :: y :: l else y :: s.insDue m x l

/-- A load whose checks have passed, or one that is no load. -/
def State.loadReady (s : State) (c : TCmd) : Bool :=
  c.fl.op != 0x10 || s.loads.any (fun l => l.cmd.fl.seq == c.fl.seq && l.res == some 0)

/-- What the boundary of block `m` applies, in order: commands and the retriggers of its voices, at most 512 of them (R200), and the
changes that waited. -/
def State.dueList (s : State) (m : Nat) : List Due :=
  let cs := (s.sch.queue.filter (fun c => !c.isCast && s.isDue c m && s.loadReady c)).foldl (fun l c => s.insDue m (.cmd c) l) []
  let l := (allSlots.foldl (fun l e => (s.slot e).retrig.foldl (fun l r => s.insDue m (.retrig e r) l) l) cs).take 512
  s.al.later.foldl (fun l x => s.insDue m (.later x) l) l

/-- Apply one of them. -/
def State.applyDue (s : State) (m : Nat) (busy : Bool) : Due → State
  | .cmd c => s.applyCmd m busy c
  | .retrig e r => s.applyRetrig m e r
  | .later x => s.makeLater (s.playStart m) x

/-- Casts and resumes decided at the boundary of block `m`, at most 256, in order (R199 step 6, R200). -/
def State.decideList (s : State) (m : Nat) : List Due :=
  ((s.sch.queue.filter (fun c => c.isCast && s.isDue c m)).foldl (fun l c => s.insDue m (.cmd c) l) []).take 256

/-- Decide one. -/
def State.decide1 (s : State) (m : Nat) : Due → State
  | .cmd c => if c.fl.op = 1 then (s.take c).decideCast c m else (s.take c).decideResume c m
  | _ => s

/-- ALL_OFF: choke every resident, parked and spilled voice (R163, R180). -/
def State.chokeAll (s : State) (t : Nat) : State :=
  let s := allEnts.foldl (fun s e => if (s.ent e).st = 0 then s else (s.choke e t).1) s
  s.sv.recs.foldl (fun s r => s.spillCmd r (chokeDesc (r.handle.getD 0) (tuNs t)) t) s

/-- Every queued timed command completes STOPPED (R212). -/
def State.stopQueue (s : State) : State :=
  (s.sch.queue.filter (fun c => !c.done)).foldl (fun s c => ((s.dropLoad c).take c).finish c s.ns 0x0C 0 0) s

/-- CASTING entries whose block begins become SOUNDING, RELEASING or FREE; one with a retrigger pending is not freed (R157, R177, R178).
The decisions of the boundary see it (R166). -/
def State.publish (s : State) (m : Nat) : State :=
  allSlots.foldl (fun s e =>
    let v := s.slot e
    if v.st = 1 ∧ v.block ≤ m then
      match v.relT with
      | some t => if t ≤ v.castT ∧ !v.snd.live ∧ v.retrig.isEmpty then s.endEnt e (tuNs v.castT) else s.setSlot e { v with st := 3 }
      | none => s.setSlot e { v with st := 2 }
    else s) s

/-- The circular windows, stream settings, control map and node position that a boundary fixes (R144, R407, R473, R494). -/
def State.fixSettings (s : State) (j : Nat) : State :=
  let s := (s.windows.cmBoundary).cmTdm j
  let fs := (List.range 4).flatMap (fun n => (List.range 8).flatMap (fun k =>
    [(16 * n + k, s.word (0xD0140 + 0x10000 * n + 4 * k)), (16 * n + 8 + k, s.word (0xD0100 + 0x10000 * n + 4 * k))]))
  let s := s.setSv (fun w => { w with inForce := fs.foldl (fun t e => Tbl.put 0 t e.1 e.2) w.inForce })
  { s with al := { s.al with node := [s.get Reg.AL_NODE_X, s.get Reg.AL_NODE_Y, s.get Reg.AL_NODE_Z].map (fun x => BitVec.ofNat 32 x) } }

/-- Commands wait for the voices of a core in the block that ends at `t` (R271, line 1). -/
def State.cmdFor (s : State) (t c : Nat) : Bool :=
  decide (c < 16) && ((List.range 16).any (fun i => (s.slot (16 * c + i)).acts.any (fun a => decide (a.1 < t)))
    || (List.range 4).any (fun i => (s.tail (4 * c + i)).acts.any (fun a => decide (a.1 < t))))

/-- No slot and no tail is in use. -/
def State.silent (s : State) : Bool := allSlots.all (fun e => (s.slot e).st == 0) && (List.range 64).all (fun k => (s.tail k).st == 0)

/-- A boundary can come: the scheduler renders, the block before is complete and the window of the next is open. -/
def State.boundaryDue (s : State) : Bool :=
  (s.schState == 2 || s.schState == 3) && s.sch.cur.isNone && decide (s.opening s.sch.next ≤ s.tu)
    && !(s.schState == 3 && !s.sch.allOff && s.silent)

/-- The render boundary of the next block (R199). -/
def State.boundary (s : State) : State :=
  if !s.boundaryDue then s
  else
    let j := s.sch.next
    let r := max (s.opening j) s.sch.lastDone
    let p := s.playStart j
    let busy := s.upd.isSome
    -- what the cores stored before it is in memory (R247)
    let s := (List.range 20).foldl State.flushStores s
    -- 1
    let s := s.fixTier j r
    let tier := min 2 s.level
    let s := if s.level = 0 then s else s.count Reg.AL_SCH_CNT_ROUGH 1
    -- 2, 3, 4
    let s := (s.benchBoundary.freeAll p).fixSettings j
    -- 5
    let s := ((s.migOutcomes j).migSound j s.env tier)
    let s := if s.sch.allOff then (s.chokeAll p).setSch (fun x => { x with allOff := false }) else s
    let s := if s.schState = 3 then s.stopQueue else s
    let s := s.migOffers j
    let due := s.dueList j
    let s := { s with al := { s.al with later := [] } }
    let s := (due.foldl (fun s d => s.applyDue j busy d) s).publish j
    -- 6
    let s := (s.relocateAll s.al.moving)
    let s := (s.decideList j).foldl (fun s d => s.decide1 j d) s
    let s := ((s.migDecide j).unloadFree).queueFull
    -- 7
    let s := (List.range 16).foldl State.putContexts s
    let (s, wait) := s.boundaryLines j tier (s.cmdFor (s.playStart (j + 1)))
    let s := s.put64 Reg.AL_SCH_BLOCK_LO Reg.AL_SCH_BLOCK_HI j
    s.setSch (fun x => { x with
      next := j + 1
      cur := some { j := j, start := r, level := s.level, waiting := wait.filter (fun c => decide (c < 16))
                    waitE := wait.filter (fun c => decide (16 ≤ c)), wrote := [], lastBdone := r, mixFrom := r, mixOn := false, mixEnd := 0
                    complete := none, late := false } })

/-- RENDER_BOUNDARY (R199). -/
def execRenderBoundary (s : State) : Host.Outcome State Fault Refusal := ok s.boundary

/-! ### Late blocks (R204, R206) -/

/-- The block rendering is late; bus-late when every BDONE came before its deadline. -/
def State.markLate (s : State) (b : Block) : State :=
  let t := tuNs (s.playStart b.j)
  let s := (s.count Reg.AL_SCH_CNT_LATEBLK 1).setSch (fun x => { x with lateEp := x.lateEp + 1, cur := some { b with late := true } })
  let s := if s.sch.lateEp = 1 then s.eventAt t 0x38 64 0 1 (pay 16 1 + pay 24 b.j) else s
  if b.waiting.isEmpty ∧ b.lastBdone < s.deadline b.j then
    (s.set1 Reg.AL_SCH_FLAGS_BUS_LATE).eventAt t 0x3E 70 0 0 (pay 24 b.j)
  else s

/-- The deadline test: the block is still rendering at D_j. -/
def State.lateTest (s : State) : State :=
  match s.sch.cur with
  | some b => if !b.late ∧ s.deadline b.j ≤ s.tu then s.markLate b else s
  | none => s

/-- BLOCK_DEADLINE (R204). -/
def execBlockDeadline (s : State) : Host.Outcome State Fault Refusal := ok s.lateTest

/-- Cluster E's part of a block takes B x C / N_E cycles of 1 ns on each of its cores (R242), in tu. (Log: 169 DEDUCED.) -/
def State.mixTime (s : State) : Nat := (s.blockLen * s.mixCost * nsTu 1 + 64 * s.coresE.length - 1) / (64 * s.coresE.length)

/-- The command lists of the effect instances for block `j` (R298, R299). (Log: 166 DEDUCED.) -/
def State.fxCmds (s : State) (j : Nat) : State :=
  let B := s.blockLen
  let due := s.mix.acts.filter (fun e => decide (e.1 < (j + 1) * B))
  s.setMix (fun m => { m with fxLists := (List.range 8).flatMap (fun e => match s.fxProg m.cur e with
    | some p =>
      let own (id : Nat) : Option (Nat × PEntry) :=
        if id / 256 = 0xC0 + e ∧ s.mRuns (j * B) (0xC001 + 256 * e) then (p.params.find? (fun x => x.id == id % 256)).map (fun x => (x.id, x)) else none
      (cmdList s.fper (j * B) own (due.map (fun a => (max a.1 (j * B) * s.fper, match a.2 with
        | .par id v => VAct.set id v 0
        | .ramp id tgt _ dur => VAct.ramp id tgt dur 0)))).map (fun x => (e, x))
    | none => []) })

/-- Cluster E begins its part of the block (R206); which voice cores it heard is kept (R191).
(Log: 139 DEDUCED, 169 DEDUCED.) -/
def State.mixStart (s : State) : State :=
  match s.sch.cur with
  | some b =>
    if b.waiting.isEmpty ∧ !b.mixOn ∧ !s.coresE.isEmpty ∧ !s.mix.out then
      let s := ((s.spillLate b.j).fxCmds b.j).mixBlock b.j
      let s := s.renderCost (fun q => q.kind == 3 && (List.range 8).any (fun e => s.mc (0xC001 + 256 * e) == 1 &&
        (s.fxProg s.mix.cur e).any (fun p => p.uid == q.uid)))
      s.setSch (fun x => { x with
        cur := some { b with mixOn := true, mixEnd := b.mixFrom + s.mixTime }
        heardJ := b.j, heard := b.wrote, faded := x.resets, fading := [] })
    else s
  | none => s

/-- MIX_BLOCK_START (R206). -/
def execMixBlockStart (s : State) : Host.Outcome State Fault Refusal := ok s.mixStart

/-- The block's render is complete, once the cores of cluster E are done with it (R196, R242, R281, R410). A block whose play start has
passed is played from here on, or not at all (R205, R213). (Log: 39 DEDUCED, 169 DEDUCED.) -/
def State.renderDone (s : State) : State :=
  let s := s.lateTest
  match s.sch.cur with
  | some b =>
    if b.mixOn ∧ b.waitE.isEmpty ∧ b.mixEnd ≤ s.tu then
      let b := { b with complete := some s.tu }
      let s := s.setSch (fun x => { x with cur := none, lastDone := s.tu, ready := if x.play ≤ b.j then x.ready ++ [b] else x.ready })
      let s := (s.streamsOut b).lanesOut b.j
      if s.sch.owe = some b.j then (s.setSch (fun x => { x with owe := none })).playBlock b.j (some b) true else s
    else s
  | none => s

/-- BLOCK_RENDER_COMPLETE (R196). -/
def execBlockRenderComplete (s : State) : Host.Outcome State Fault Refusal := ok s.renderDone

/-- A block that is still not complete when the next one's time has come is not played at all (R205). (Log: 39 DEDUCED.) -/
def State.settleOwed (s : State) : State :=
  match s.sch.owe with
  | some j => (s.setSch (fun x => { x with owe := none })).playBlock j none true
  | none => s

/-- The next block's play start: it is played, or what of it will be stays open until it is complete or its time is over (R205).
(Log: 39 DEDUCED.) -/
def State.playNext (s : State) : State :=
  let j := s.sch.play
  if (s.schState = 2 ∨ s.schState = 3) ∧ s.playStart j ≤ s.tu ∧ (j < s.sch.next ∨ s.schState = 2) then
    let s := s.settleOwed.setSch (fun x => { x with play := j + 1 })
    match s.sch.ready.find? (fun b => b.j == j) with
    | some b => (s.setSch (fun x => { x with ready := x.ready.filter (fun y => y.j != j) })).playBlock j (some b) true
    | none => s.setSch (fun x => { x with owe := some j })
  else s

/-- PLAY_START (R205). -/
def execPlayStart (s : State) : Host.Outcome State Fault Refusal := ok s.playNext

/-! ### Start and stop (R211, R212) -/

/-- WAITING becomes RUNNING once the audio PLL is locked (R211). (Log: 176 DEDUCED.) -/
def State.schStart (s : State) : State :=
  if s.schState = 1 ∧ s.on Reg.TB_STAT_AUDIO_LOCK then
    let j0 := (s.tu + s.blockT - 1) / s.blockT + 1 + s.slack
    let s := (s.setLevel j0 0).put Reg.AL_SCH_STAT_SHED_WAIT 0
    let s := s.setMix (fun m => { m with hist := [], dead := [] })
    (s.setSch (fun x => { x with
      first := j0, next := j0, play := j0, owe := none, heard := [], faded := [], fading := [], cur := none, ready := [], lastDone := 0
      sigmaPrev := (s.slack * s.blockT : Nat), shedLeft := [], shedSettle := 0, lateEp := 0, holdLevel := false })).setSchState 2
  else s

/-- SCHED_START (R211). -/
def execSchedStart (s : State) : Host.Outcome State Fault Refusal := ok s.schStart

/-- RUN = 0 (R212). -/
def State.schStop (s : State) : State :=
  if s.schState = 1 then s.stopQueue.setSchState 0
  else if s.schState = 2 then (s.setSch (fun x => { x with allOff := true })).setSchState 3
  else s

/-- STOPPING becomes STOPPED when everything is silent and the last rendered block has played: the outputs fade (R212). -/
def State.schStopped (s : State) : State :=
  if s.schState = 3 ∧ !s.sch.allOff ∧ s.silent ∧ s.sch.cur.isNone ∧ s.sch.next ≤ s.sch.play ∧ s.playStart s.sch.next ≤ s.tu then
    ((s.settleOwed.playBlock s.sch.play none false).setSch (fun x => { x with ready := [] })).setSchState 0
  else s

/-- SCHED_STOPPED (R212). -/
def execSchedStopped (s : State) : Host.Outcome State Fault Refusal := ok s.schStopped

/-- A write of ALL_OFF waits for the next boundary; while none comes it has nothing to choke but parked and spilled voices,
which are over at once (R163). (Log: 37 DEDUCED.) -/
def State.allOffWrite (s : State) : State :=
  if s.schState < 2 then s.chokeAll s.tu else s.setSch (fun x => { x with allOff := true })

/-- A write of AL_CTRL (R163). -/
def State.writeAlCtrl (s : State) (v : Nat) : State :=
  let s := s.put Reg.AL_CTRL_CAST_EN (bits v 0 1)
  if bit v 1 then s.allOffWrite else s

/-- ALL_OFF: a write of AL_CTRL with the bit set. -/
def execAllOff (v : BitVec 32) (s : State) : Host.Outcome State Fault Refusal := ok (s.writeAlCtrl (v.toNat ||| 2))

/-- The RELEASE_LIMIT of a slot's voice expires while it is RELEASING: its ramp begins then, set up at the boundary of the block of that
time (R178, R195). An expiry that is not due for the next boundary does nothing. (Log: 167 DEDUCED.) -/
def State.releaseLimit (s : State) (e : Nat) : State :=
  let v := s.slot e
  match v.relT, (s.group v.group).relLimit with
  | some t, some l =>
    let x := Later.limit e v.gen (t + l)
    if v.st = 3 ∧ (t + l + s.fper - 1) / s.fper / s.blockLen ≤ s.sch.next ∧ x ∉ s.al.later then s.postpone x else s
  | _, _ => s

/-- RELEASE_LIMIT_EXPIRY (R178). -/
def execReleaseLimitExpiry (e : Fin 256) (s : State) : Host.Outcome State Fault Refusal := ok (s.releaseLimit e.val)

/-! ### Summarising records (R236, R359) -/

/-- CLIP records of every destination with clamped samples (R236). (Log: 94 DEDUCED.) -/
def State.clipReport (s : State) : State :=
  let s := (List.range 16).foldl State.aoClips s
  let m := s.mix
  m.clips.foldl (fun s e => s.eventAt (Tbl.get 0 m.clipsAt e.1 - 1) 0x29 57 e.1 0 (pay 16 (min e.2 0xFFFFFFFF)))
    (s.setMix (fun m => { m with clips := [], clipsAt := [] }))

/-- CLIP_REPORT (R236). -/
def execClipReport (s : State) : Host.Outcome State Fault Refusal := ok s.clipReport

/-- One summarising record, with the time of the first happening counted: its source and reason give its type and unit (R346, R359). -/
def State.sumRec (s : State) (time src reason n : Nat) : State :=
  let c := min n 0xFFFFFFFF
  if src < 16 then s.eventAt time 0x08 src 0 reason (pay 20 c)
  else if src < 32 then s.eventAt time 0x11 src (src / 4 - 4) reason (pay 16 c)
  else if src < 60 then s.eventAt time 0x22 src (src - 40) reason (pay 16 c)
  else if src < 100 then s.eventAt time 0x48 src ((src - 92) / 2) reason (pay 16 (s.uart ((src - 92) / 2)).rx.length + pay 18 (min n 0xFFFF))
  else s.eventAt time 0x4D src (src - 102) reason (pay 16 c)

/-- The counts of the last second are recorded (R359); those of the UARTs have their own 100 ms (R485). -/
def State.summaries (s : State) : State :=
  let uart (k : Nat) : Bool := decide (92 ≤ k / 256 ∧ k / 256 < 100)
  (s.sw.sums.filter (fun e => !uart e.1)).foldl (fun t e => t.sumRec (s.sumTime e.1) (e.1 / 256) (e.1 % 256) e.2)
    (s.setSw (fun w => { w with sums := w.sums.filter (fun e => uart e.1), sumsAt := w.sumsAt.filter (fun e => uart e.1) }))

/-- SUMMARY_RECORD_TIMER (R359). -/
def execSummaryRecordTimer (s : State) : Host.Outcome State Fault Refusal := ok s.summaries

end Sys2Proof.Machine
end

