-- ==== Sys2Proof/Machine/SchedCtl.lean ====
section
/-!
DEFINITION. Starting and stopping the render scheduler by AL_SCH_CTRL (R211, R212, R216).
-/
namespace Sys2Proof.Machine

/-- A write of AL_SCH_CTRL is refused in part: CFG_REFUSED with its record (R216, R217). -/
def State.schRefuse (s : State) : State :=
  (s.set1 Reg.AL_SCH_FLAGS_CFG_REFUSED).event 0x3C 68 0 2 (pay 16 s.schState + pay 17 s.schState)

/-- BLOCK and SLACK of a write of AL_SCH_CTRL: taken while STOPPED with a legal SLACK, else both are kept (R216).
(Log: 32 DEDUCED.) -/
def State.schCfg (s : State) (blk slk : Nat) : State :=
  if blk = s.get Reg.AL_SCH_CTRL_BLOCK ∧ slk = s.get Reg.AL_SCH_CTRL_SLACK then s
  else if s.schState = 0 ∧ 1 ≤ slk ∧ slk ≤ 8 then (s.put Reg.AL_SCH_CTRL_BLOCK blk).put Reg.AL_SCH_CTRL_SLACK slk
  else s.schRefuse

/-- SHED_EN and SHED_BATCH: they act from the next render start (R216). -/
def State.schShed (s : State) (en batch : Nat) : State :=
  (s.put Reg.AL_SCH_CTRL_SHED_EN en).put Reg.AL_SCH_CTRL_SHED_BATCH batch

/-- RUN = 1: STOPPED becomes WAITING, out of IDLE and with a SHUTDOWN cut short (R211, R514, R534); while STOPPING it is
ignored (R212). (Log: 32 DEDUCED.) -/
def State.schRun (s : State) : State :=
  if s.schState = 0 then (s.leaveIdle.shutCut.set1 Reg.AL_SCH_CTRL_RUN).setSchState 1
  else if s.schState = 3 then s.schRefuse
  else s.set1 Reg.AL_SCH_CTRL_RUN

/-- A write of AL_SCH_CTRL. (Log: 32 DEDUCED.) -/
def State.writeSchCtrl (s : State) (v : Nat) : State :=
  let s := (s.schCfg (bits v 1 2) (bits v 3 4)).schShed (bits v 8 1) (bits v 16 8)
  if bit v 0 then s.schRun else (s.put Reg.AL_SCH_CTRL_RUN 0).schStop

/-- SCHED_RUN: a write of AL_SCH_CTRL with RUN = 1 (R211). -/
def execSchedRun (v : BitVec 32) (s : State) : Host.Outcome State Fault Refusal := ok (s.writeSchCtrl (v.toNat ||| 1))
/-- SCHED_STOP: a write of AL_SCH_CTRL with RUN = 0 (R212). -/
def execSchedStop (v : BitVec 32) (s : State) : Host.Outcome State Fault Refusal := ok (s.writeSchCtrl (v.toNat / 2 * 2))

end Sys2Proof.Machine
end

