-- ==== Sys2Proof/Machine/Services.lean ====
section
/-!
DEFINITION. The commands of time sync, streams, migration and spill (13_elvlink_services.md).
-/
namespace Sys2Proof.Machine

/-! ### Time sync (R400 to R405); marks are stamped in 2^-16 ns -/

/-- A time-sync frame of TYPE `typ`. -/
def isTime (typ : Nat) (f : Frame) : Bool := kindIs 7 f && pfield f.payload 0 1 == typ

/-- The pending step that a root announces in its SYNC frames: FLAGS, STEP_AT, STEP_BY (R405). -/
def State.stepFields (s : State) : Nat × Nat × Nat :=
  match s.tb.step with
  | some (ts, d) => if s.on Reg.TB_STAT_ROOT then (1, ts, d) else (0, 0, 0)
  | none => (0, 0, 0)

/-- A DOWNSTREAM port sends a SYNC mark, stamped `t`, and its follow-up (R402). (Log: 117 DEDUCED.) -/
def State.syncSend (s : State) (p t : Nat) : State :=
  if s.isUp p && s.get (Reg.FP_STAT_ROLE p) == 2 then
    let q := (s.port p).synSeq
    let (fl, ts, d) := s.stepFields
    let s := (s.setPort p { s.port p with synSeq := (q + 1) % 65536 }).emit (.mark p 1 q)
    s.sendLocal p 0 7 (timeFrameBytes 1 fl q (t / 65536) (t % 65536) (s.get Reg.FSW_ROOT_INFO_HOPS) ts d)
  else s
/-- SYNC_SEND (R402). -/
def execSyncSend (p : Fin 4) (t : BitVec 80) (s : State) : Host.Outcome State Fault Refusal := ok (s.syncSend p.val t.toNat)

/-- An UPSTREAM port sends a DREQ mark, stamped `t` (R402). -/
def State.dreqSend (s : State) (p t : Nat) : State :=
  if s.isUp p && s.get (Reg.FP_STAT_ROLE p) == 1 then
    let q := (s.port p).dreqSeq
    (s.setPort p { s.port p with dreqSeq := (q + 1) % 65536, dreq := some (q, t) }).emit (.mark p 2 q)
  else s
/-- DREQ_SEND (R402). -/
def execDreqSend (p : Fin 4) (t : BitVec 80) (s : State) : Host.Outcome State Fault Refusal := ok (s.dreqSend p.val t.toNat)

/-- A SYNC mark is stamped at receipt (R400, R402). -/
def State.syncMark (s : State) (p q t : Nat) : State :=
  if s.isUp p then s.setPort p { s.port p with mark := some (q, t) } else s
/-- SYNC_MARK_RECEIVED (R400). -/
def execSyncMarkReceived (p : Fin 4) (q : BitVec 16) (t : BitVec 80) (s : State) : Host.Outcome State Fault Refusal :=
  ok (s.syncMark p.val q.toNat t.toNat)

/-- A DREQ mark is answered by a DRESP with its receive time (R402). (Log: 117 DEDUCED.) -/
def State.dreqMark (s : State) (p q t : Nat) : State :=
  if s.isUp p then s.sendLocal p 0 7 (timeFrameBytes 2 0 q (t / 65536) (t % 65536) (s.get Reg.FSW_ROOT_INFO_HOPS) 0 0) else s
/-- DREQ_MARK_RECEIVED (R402). -/
def execDreqMarkReceived (p : Fin 4) (q : BitVec 16) (t : BitVec 80) (s : State) : Host.Outcome State Fault Refusal :=
  ok (s.dreqMark p.val q.toNat t.toNat)

/-- A PORT_TIME record (R359). -/
def State.portTime (s : State) (p reason : Nat) (off : Int) : State :=
  s.event 0x12 (18 + 4 * p) p reason (pay 16 (ofS 64 off) + pay 24 (s.get (Reg.FP_TS_DELAY p) / 16))

/-- A mark or a frame without its partner (R403). -/
def State.tsMissing (s : State) (p : Nat) : State :=
  ((s.setPort p { s.port p with mark := none }).set1 (Reg.FP_SVC_FLAGS_TS_MISSING p)).portTime p 2 0
/-- TS_MISSING: a mark's frame has not come within 100 µs (R403). -/
def execTsMissing (p : Fin 4) (s : State) : Host.Outcome State Fault Refusal :=
  ok (if (s.port p.val).mark.isSome then s.tsMissing p.val else s)

/-- A step is announced: it is taken once (R405). -/
def State.learnStep (s : State) (p ts d : Nat) : State :=
  if s.tb.stepSeen.contains ts then s
  else
    let s := { s with tb := { s.tb with stepSeen := ts :: s.tb.stepSeen } }
    let s := (s.sendStep ts d).event 0x1B 35 p 4 (pay 16 d)
    if ts ≤ s.ns then s.forwardStep (d * 2 ^ 32) else { s with tb := { s.tb with step := some (ts, d) } }

/-- Mean of the last delays (R402). -/
def Port.delay (x : Port) : Int := x.delays.foldl (fun a b => a + b) 0 / (max 1 x.delays.length : Nat)

/-- The servo's measurement from an offset in 2^-16 ns on the UPSTREAM port (R402 to R404). (Log: 117 DEDUCED.) -/
def State.upOffset (s : State) (p : Nat) (o : Int) : State :=
  let ns := o / 65536
  let s := s.put (Reg.FP_TS_OFFSET p) (ofS 32 (satS 32 (o / 4096)))
  if s.get Reg.TB_CTRL_REF ≠ 0 ∨ s.on Reg.TB_STAT_ROOT then s
  else if (s.port p).nDelay < 4 then s.put Reg.TB_OFFSET (ofS 32 (satS 32 ns))
  else
    let locked := s.servo == 2
    let s := if s.sw.refLost then (s.setSw (fun w => { w with refLost := false })).event 0x1B 35 p 3 (pay 16 (ofS 64 ns)) else s
    let s :=
      if locked ∧ (o < -6553600 ∨ 6553600 < o) then
        let s := s.set1 (Reg.FP_SVC_FLAGS_TS_BUDGET p)
        let due := match (s.port p).budgetAt with
          | some t => decide (t + 1000000000 ≤ s.ns)
          | none => true
        if due then (s.setPort p { s.port p with budgetAt := some s.ns }).portTime p 1 ns else s
      else s
    s.measure ns

/-- A SYNC follow-up gives t1 (R402, R403, R405). -/
def State.followUp (s : State) (p : Nat) : State :=
  match s.takeRx p (isTime 1) with
  | none => s
  | some (f, s) =>
    let q := pfield f.payload 2 2
    let t1 : Int := ((65536 * pfield f.payload 4 8 + pfield f.payload 12 2 : Nat) : Int)
    let s := if bit (pfield f.payload 1 1) 0 then s.learnStep p (pfield f.payload 16 8) (pfield f.payload 24 8) else s
    match (s.port p).mark with
    | some (q', t2) =>
      if q' = q then
        let pr := (t2 : Int) - t1
        let s := s.setPort p { s.port p with mark := none, pair := some pr, syncAt := s.ns }
        if s.get (Reg.FP_STAT_ROLE p) = 1 ∧ (s.port p).delays ≠ [] then
          s.upOffset p (pr - ((s.port p).delay + toS 32 (s.get (Reg.FP_TS_ASYM p)) * 4096))
        else s
      else s.tsMissing p
    | none => s.tsMissing p
/-- SYNC_FOLLOW_UP (R402). -/
def execSyncFollowUp (p : Fin 5) (s : State) : Host.Outcome State Fault Refusal := ok (s.followUp p.val)

/-- A DRESP gives t4: one link delay (R402). -/
def State.dresp (s : State) (p : Nat) : State :=
  match s.takeRx p (isTime 2) with
  | none => s
  | some (f, s) =>
    let t4 : Int := ((65536 * pfield f.payload 4 8 + pfield f.payload 12 2 : Nat) : Int)
    match (s.port p).dreq, (s.port p).pair with
    | some (q, t3), some pr =>
      if q = pfield f.payload 2 2 then
        let x := s.port p
        let x := { x with dreq := none, delays := ((pr + (t4 - (t3 : Int))) / 2 :: x.delays).take 8, nDelay := x.nDelay + 1 }
        (s.setPort p x).put (Reg.FP_TS_DELAY p) (x.delay / 4096).toNat
      else s
    | _, _ => s
/-- DRESP_RECEIVED (R402). -/
def execDrespReceived (p : Fin 5) (s : State) : Host.Outcome State Fault Refusal := ok (s.dresp p.val)

/-- The fabric reference is lost: no UPSTREAM port, or no complete SYNC pair for 8 ms (R28, R403). -/
def State.refGone (s : State) : Bool :=
  !s.on Reg.FSW_STAT_UP_VALID || decide ((s.port (s.get Reg.FSW_STAT_UP_PORT)).syncAt + 8000000 ≤ s.ns)

/-- Loss of the fabric reference. -/
def State.fabricLoss (s : State) : State :=
  if s.get Reg.TB_CTRL_REF = 0 ∧ !s.on Reg.TB_STAT_ROOT ∧ !s.sw.refLost ∧ s.refGone ∧ s.servo = 2 then
    ((s.setSw (fun w => { w with refLost := true })).setServo 3).event 0x1B 35 (s.get Reg.FSW_STAT_UP_PORT) 2
      (pay 16 (ofS 64 (toS 32 (s.get Reg.TB_OFFSET))))
  else s
/-- FABRIC_REFERENCE_LOSS (R403). -/
def execFabricReferenceLoss (s : State) : Host.Outcome State Fault Refusal := ok s.fabricLoss

/-- A STEP frame (R405). -/
def State.stepIn (s : State) (p : Nat) : State :=
  match s.takeRx p (isTime 3) with
  | some (f, s) => s.learnStep p (pfield f.payload 16 8) (pfield f.payload 24 8)
  | none => s
/-- STEP_FRAME_RECEIVED (R405). -/
def execStepFrameReceived (p : Fin 5) (s : State) : Host.Outcome State Fault Refusal := ok (s.stepIn p.val)

/-- The counter reaches the time of a scheduled step (R405). -/
def State.stepApply (s : State) : State :=
  match s.tb.step with
  | some (ts, d) => if ts ≤ s.ns then { s with tb := { s.tb with step := none } }.forwardStep (d * 2 ^ 32) else s
  | none => s
/-- STEP_APPLY (R405). -/
def execStepApply (s : State) : Host.Outcome State Fault Refusal := ok s.stepApply

/-! ### Streams (R406 to R411) -/

/-- The fields of a stream register but EN. -/
def streamFld (tx : Bool) (n k : Nat) : List Fld :=
  if tx then [Reg.FP_STX_FIRST n k, Reg.FP_STX_CNTM1 n k, Reg.FP_STX_BCAST n k, Reg.FP_STX_DST n k]
  else [Reg.FP_SRX_FIRST n k, Reg.FP_SRX_CNTM1 n k, Reg.FP_SRX_SSPACE n k, Reg.FP_SRX_SID n k, Reg.FP_SRX_SRC n k]
/-- EN of a stream register. -/
def streamEn (tx : Bool) (n k : Nat) : Fld := if tx then Reg.FP_STX_EN n k else Reg.FP_SRX_EN n k
/-- First channel and channels of a stream. -/
def State.streamRun (s : State) (tx : Bool) (n k : Nat) : Nat × Nat :=
  if tx then (s.get (Reg.FP_STX_FIRST n k), s.get (Reg.FP_STX_CNTM1 n k) + 1)
  else (s.get (Reg.FP_SRX_FIRST n k), s.get (Reg.FP_SRX_CNTM1 n k) + 1)

/-- A write that enables a stream is refused (R407). (Log: 119 DEDUCED.) -/
def State.streamBad (s : State) (tx : Bool) (n k : Nat) : Bool :=
  let (f, c) := s.streamRun tx n k
  let own := if tx then !s.on (Reg.FP_STX_BCAST n k) && s.addr == some (s.get (Reg.FP_STX_DST n k))
    else s.addr == some (s.get (Reg.FP_SRX_SRC n k))
  decide ((if 4 ≤ s.fs then 64 else 128) < f + c) || own
    || (List.range 8).any (fun j => j != k && s.on (streamEn tx n j)
      && (let (f', c') := s.streamRun tx n j; decide (f < f' + c' ∧ f' < f + c)))

/-- A write of FPn_STXs or FPn_SRXs (R407). (Log: 119 DEDUCED.) -/
def State.writeStream (s : State) (tx : Bool) (n k v : Nat) : State :=
  let fs := streamFld tx n k
  let refuse (s : State) : State := s.set1 (Reg.FP_SVC_FLAGS_STREAM_REFUSED n)
  if s.on (streamEn tx n k) ∧ bit v 0 then
    if fs.all (fun f => s.get f == bits v f.lsb f.w) then s else refuse s
  else
    let s := fs.foldl (fun s f => s.put f (bits v f.lsb f.w)) (s.put (streamEn tx n k) 0)
    if !bit v 0 then s else if s.streamBad tx n k then refuse s else s.set1 (streamEn tx n k)
/-- STREAM_TX_WRITE (R407). -/
def execStreamTxWrite (n : Fin 4) (k : Fin 8) (v : BitVec 32) (s : State) : Host.Outcome State Fault Refusal :=
  ok (s.writeStream true n.val k.val v.toNat)
/-- STREAM_RX_WRITE (R407). -/
def execStreamRxWrite (n : Fin 4) (k : Fin 8) (v : BitVec 32) (s : State) : Host.Outcome State Fault Refusal :=
  ok (s.writeStream false n.val k.val v.toNat)

/-- A receive stream's running state. -/
def State.rxStream (s : State) (i : Nat) : RxStream := s.sv.streams.getD i ⟨none, false, false, 0⟩
/-- Replace it. -/
def State.setRxStream (s : State) (i : Nat) (x : RxStream) : State := s.setSv (fun v => { v with streams := v.streams.set i x })

/-- The smallest ALIGN of the route entries that name a stream input channel, 0 with none. (Log: 120 DEDUCED.) -/
def State.inputAlign (s : State) (first cnt n : Nat) : Nat :=
  let l := (List.range 256).filterMap (fun k =>
    let r := s.routeEnt k
    if rType r.dst = 1 ∧ rType r.src = 3 ∧ 128 * n + first ≤ rIdx r.src ∧ rIdx r.src < 128 * n + first + cnt then some r.align else none)
  match l with
  | [] => 0
  | a :: l => l.foldl min a

/-- A STREAM record of a receive stream (R359). -/
def State.streamRec (s : State) (n k reason first cnt frames : Nat) : State :=
  s.event 0x13 (19 + 4 * n) k reason (pay 16 first + pay 18 cnt + pay 20 (min frames (2 ^ 32 - 1)))

/-- A frame reaches receive stream `k` of space `n` (R411). (Log: 120 DEDUCED.) -/
def State.streamTake (s : State) (n k : Nat) (b : List (BitVec 8)) : State :=
  let w := s.strm false n k
  let first := bits w 1 7
  let cnt := bits w 8 7 + 1
  let i := 8 * n + k
  let x := s.rxStream i
  let ch0 := pfield b 2 1
  let nch := pfield b 3 1
  let nfr := pfield b 4 2
  let seq := pfield b 6 2
  let f0 := s.stampFrame (pfield b 8 8)
  let lost (s : State) (frames : Nat) : State :=
    let s := s.set1 (Reg.FP_SVC_FLAGS_STREAM_LOSS n)
    let x := s.rxStream i
    let s := if x.loss then s else s.streamRec n k 1 first cnt 0
    s.setRxStream i { x with loss := true, frames := x.frames + frames }
  if pfield b 1 1 % 8 ≠ s.fs then lost s nfr
  else
    let gap := match x.bseq with
      | some e => if seq = e ∨ (seq + 1) % 65536 = e then 0 else (seq + 65536 - e) % 65536
      | none => 0
    let s := if gap = 0 then s else lost s (gap * nfr)
    let s := s.setRxStream i { s.rxStream i with bseq := some ((seq + 1) % 65536) }
    if s.schRuns && decide ((f0 + s.inputAlign first cnt n) / s.blockLen < s.sch.next) then
      let x := s.rxStream i
      let s := s.set1 (Reg.FP_SVC_FLAGS_STREAM_LATE n)
      let s := if x.late then s else s.streamRec n k 2 first cnt 0
      s.setRxStream i { x with late := true, frames := x.frames + nfr }
    else
      let x := s.rxStream i
      let s := if gap = 0 ∧ (x.loss ∨ x.late) then
          (s.streamRec n k 3 first cnt x.frames).setRxStream i { x with loss := false, late := false, frames := 0 }
        else s
      let rx := (List.range nfr).foldl (fun t fr => (List.range nch).foldl (fun t c =>
        if ch0 + c < cnt then
          Tbl.put 0 t ((128 * n + first + ch0 + c) * 2 ^ 40 + f0 + fr) ((pfield b (24 + 3 * (fr * nch + c)) 3) + 1)
        else t) t) s.sv.rx
      s.setSv (fun v => { v with rx := rx })

/-- A stream frame that is no spill return is delivered to every receive stream it matches (R411). (Log: 120 DEDUCED.) -/
def State.streamIn (s : State) (p : Nat) : State :=
  match s.takeRx p (fun f => kindIs 8 f && !bit (pfield f.payload 0 1) 5) with
  | none => s
  | some (f, s) =>
    let sid := pfield f.payload 0 1
    (List.range 32).foldl (fun s x =>
      let w := s.strm false (x / 8) (x % 8)
      if bit w 0 && bits w 20 12 == f.src.toNat && bits w 15 2 == sid / 8 % 4 && bits w 17 3 == sid % 8 then
        s.streamTake (x / 8) (x % 8) f.payload
      else s) s
/-- STREAM_FRAME_RECEIVED (R411). -/
def execStreamFrameReceived (p : Fin 5) (s : State) : Host.Outcome State Fault Refusal := ok (s.streamIn p.val)

/-- A spill return frame (R186, R425): its samples are mixed at their stamped frames. -/
def State.returnIn (s : State) (p : Nat) : State :=
  match s.takeRx p (fun f => kindIs 8 f && bit (pfield f.payload 0 1) 5) with
  | none => s
  | some (f, s) =>
    let b := f.payload
    let pid := pfield b 0 1 % 8
    match s.sv.partners.find? (fun q => q.active && q.pid == pid && q.node == f.src.toNat) with
    | none => s
    | some q =>
      if pfield b 1 1 % 8 ≠ s.fs then s
      else
        let ch0 := pfield b 2 1
        let nch := pfield b 3 1
        let f0 := s.stampFrame (pfield b 8 8)
        let ret := (List.range (pfield b 4 2)).foldl (fun t fr => (List.range nch).foldl (fun t c =>
          if ch0 + c < q.buses.length then
            Tbl.put 0 t ((256 * pid + ch0 + c) * 2 ^ 40 + f0 + fr) ((pfield b (24 + 3 * (fr * nch + c)) 3) + 1)
          else t) t) s.sv.ret
        s.setSv (fun v => { v with ret := ret })
/-- SPILL_RETURN_RECEIVED (R425). -/
def execSpillReturnReceived (p : Fin 5) (s : State) : Host.Outcome State Fault Refusal := ok (s.returnIn p.val)

/-! ### Migration (R413 to R421) -/

/-- A MIGRATE message of MSG `k`. -/
def isMig (k : Nat) (f : Frame) : Bool := kindIs 9 f && pfield f.payload 0 1 == k

/-- The source session a message names: SESSION, peer and SRC_HANDLE. -/
def State.srcOf (s : State) (f : Frame) : Option MigSrc :=
  s.sv.src.find? (fun x => x.session == pfield f.payload 2 2 && x.peer == f.src.toNat && x.handle == pfield f.payload 4 4
    && x.sent.isSome && !x.ended)
/-- The destination session a message names. -/
def State.dstOf (s : State) (f : Frame) : Option MigDst :=
  s.sv.dst.find? (fun y => y.session == pfield f.payload 2 2 && y.peer == f.src.toNat && y.src == pfield f.payload 4 4)

/-- An OFFER part arrives; the offer is decided at a boundary, a parked voice's at once while none comes (R415, R421).
(Log: 167 DEDUCED.) -/
def State.offerIn (s : State) (p : Nat) : State :=
  match s.takeRx p (isMig 1) with
  | none => s
  | some (f, s) =>
    let b := f.payload
    let s := match s.dstOf f with
      | some _ => s
      | none =>
        let y : MigDst := {
          session := pfield b 2 2, peer := f.src.toNat, src := pfield b 4 4, tx := pfield b 12 8, tsnap := pfield b 20 8,
          dgroup := pfield b 28 1, flags := pfield b 29 1, ctx := pfield b 31 1, part0 := none, part1 := none, ent := none,
          committed := false }
        s.setSv (fun v => { v with dst := v.dst ++ [y] })
    match s.dstOf f with
    | none => s
    | some y =>
      let y := if pfield b 1 1 = 0 then { y with part0 := some (b.drop 32) } else { y with part1 := some (b.drop 32) }
      let s := s.setDst y
      if bit y.flags 1 ∧ s.schState < 2 then s.decideOffer none y else s
/-- OFFER_RECEIVED (R415). -/
def execOfferReceived (p : Fin 5) (s : State) : Host.Outcome State Fault Refusal := ok (s.offerIn p.val)

/-- ACCEPT: the source commits in time (R416). -/
def State.acceptIn (s : State) (p : Nat) : State :=
  match s.takeRx p (isMig 2) with
  | none => s
  | some (f, s) =>
    match s.srcOf f with
    | none => s
    | some x =>
      if x.dst.isSome then s
      else if x.parked ∨ s.tu < s.opening x.jx then
        let x := { x with dst := some (pfield f.payload 8 4), sent := if x.parked then some s.ns else x.sent }
        (s.setSrc x).srcMsg x 4 0 0 []
      else s.setSrc { x with bad := some 1 }
/-- ACCEPT_RECEIVED (R416). -/
def execAcceptReceived (p : Fin 5) (s : State) : Host.Outcome State Fault Refusal := ok (s.acceptIn p.val)

/-- REFUSE: the cause is kept for the outcome; a parked voice's MIGRATE fails at once (R419, R421). -/
def State.refuseIn (s : State) (p : Nat) : State :=
  match s.takeRx p (isMig 3) with
  | none => s
  | some (f, s) =>
    match s.srcOf f with
    | none => s
    | some x =>
      let cause := pfield f.payload 30 1
      let ctx := pfield f.payload 31 1
      let s := if cause = 0x11 then
          s.setSv (fun v => { v with ctxRange := v.ctxRange.filter (fun r => r.1 != x.peer)
            ++ [(x.peer, s.get (Reg.FSW_FWD_BOOTGEN x.peer), ctx % 16, ctx / 16)] })
        else s
      let x := { x with bad := some cause, dst := none, acked := false }
      if x.parked then (s.setSrc x).migFail x cause else s.setSrc x
/-- REFUSE_RECEIVED (R419). -/
def execRefuseReceived (p : Fin 5) (s : State) : Host.Outcome State Fault Refusal := ok (s.refuseIn p.val)

/-- The destination's own render boundary of the block holding t_x has not come. -/
def State.dstInTime (s : State) (y : MigDst) : Bool := bit y.flags 1 || decide (s.sch.next ≤ s.stampBlk y.tx)

/-- COMMIT: the destination promises to sound the voice (R416, R421). (Log: 167 DEDUCED.) -/
def State.commitIn (s : State) (p : Nat) : State :=
  match s.takeRx p (isMig 4) with
  | none => s
  | some (f, s) =>
    match s.dstOf f with
    | none => s
    | some y =>
      match y.ent with
      | none => s
      | some (e, g) =>
        if s.dstInTime y then
          let s := if y.committed then s else s.migRec 3 (e + 2 ^ 16 * g) (s.ent e).nid y.peer 0
          let y := { y with committed := true }
          let s := (s.setDst y).dstMsg y 5 0 0 0 []
          if bit y.flags 1 then
            (s.postpone (.keep e g)).delDst y
          else s
        else s
/-- COMMIT_RECEIVED (R416). -/
def execCommitReceived (p : Fin 5) (s : State) : Host.Outcome State Fault Refusal := ok (s.commitIn p.val)

/-- COMMIT_ACK: the source holds the outcome until its boundary; a parked voice's MIGRATE is over, its entry FREE at the boundary
(R157, R416, R421). (Log: 167 DEDUCED.) -/
def State.ackIn (s : State) (p : Nat) : State :=
  match s.takeRx p (isMig 5) with
  | none => s
  | some (f, s) =>
    match s.srcOf f with
    | none => s
    | some x =>
      if x.dst.isNone then s
      else if x.parked then
        let v := s.ent x.ent
        let s := s.migRec 3 x.handle v.nid x.peer 0
        let s := if s.srcLive x then s.postpone (.gone x.ent x.gen) else s
        (s.delSrc x).trackDone x.seq (b2n x.late) (x.dst.getD 0) 0
      else if s.tu ≤ s.opening x.jx then s.setSrc { x with acked := true }
      else s
/-- COMMIT_ACK_RECEIVED (R416). -/
def execCommitAckReceived (p : Fin 5) (s : State) : Host.Outcome State Fault Refusal := ok (s.ackIn p.val)

/-- ABORT: a reservation is released, a committed voice ends, at the next boundary (R8, R419). (Log: 122 DEDUCED.) -/
def State.abortIn (s : State) (p : Nat) : State :=
  match s.takeRx p (isMig 6) with
  | none => s
  | some (f, s) =>
    match s.dstOf f with
    | some y =>
      match y.ent with
      | some (e, g) =>
        if y.committed then (s.postpone (.abort e g (s.fper * s.frameOf s.ns))).delDst y else s.dropRes y
      | none => s.delDst y
    | none =>
      match s.lookup (pfield f.payload 8 4) with
      | some e => s.postpone (.abort e (s.ent e).gen (s.fper * s.frameOf s.ns))
      | none => s
/-- ABORT_RECEIVED (R419). -/
def execAbortReceived (p : Fin 5) (s : State) : Host.Outcome State Fault Refusal := ok (s.abortIn p.val)

/-- A CMD frame: each descriptor is queued for the other copy of the voice (R418). -/
def State.migCmdIn (s : State) (p : Nat) : State :=
  match s.takeRx p (isMig 7) with
  | none => s
  | some (f, s) =>
    let h : Option Nat := match s.dstOf f with
      | some y => y.ent.map (fun e => e.1 + 2 ^ 16 * e.2)
      | none => (s.srcOf f).map MigSrc.handle
    match h with
    | none => s
    | some h => (List.range (min 8 (pfield f.payload 1 1))).foldl (fun s i =>
        s.acceptOwn (.fwd h) (leNat ((f.payload.drop (32 + 64 * i)).take 64))) s
/-- MIGRATE_CMD_RECEIVED (R418). -/
def execMigrateCmdReceived (p : Fin 5) (s : State) : Host.Outcome State Fault Refusal := ok (s.migCmdIn p.val)

/-- REQ_TMO has passed since a source session's OFFER, or a parked voice's COMMIT, with no answer (R419, R421); at a
destination, since the ACCEPT of a parked voice. (Log: 122 DEDUCED.) -/
def State.migTimeout (s : State) (dest : Bool) (peer session : Nat) : State :=
  if dest then
    match s.sv.dst.find? (fun y => y.session == session && y.peer == peer && bit y.flags 1 && !y.committed) with
    | some y => s.dropRes y
    | none => s
  else match s.sv.src.find? (fun x => x.session == session && x.peer == peer && !x.ended) with
    | some x => match x.sent with
      | some t => if t + s.reqTmo ≤ s.ns ∧ (x.dst.isNone ∨ x.parked) ∧ x.bad.isNone then s.migFail x 0x0E else s
      | none => s
    | none => s
/-- MIGRATION_TIMEOUT (R419). -/
def execMigrationTimeout (dest : Bool) (peer : BitVec 12) (session : BitVec 16) (s : State) : Host.Outcome State Fault Refusal :=
  ok (s.migTimeout dest peer.toNat session.toNat)

/-! ### Spill (R423 to R425) -/

/-- A SPILL message of MSG `k`. -/
def isSpill (k : Nat) (f : Frame) : Bool := kindIs 10 f && pfield f.payload 0 1 == k

/-- ESTABLISH: this module answers as a partner (R424). -/
def State.establishIn (s : State) (p : Nat) : State :=
  match s.takeRx p (isSpill 1) with
  | none => s
  | some (f, s) =>
    let b := f.payload
    let node := f.src.toNat
    let pid := pfield b 1 1
    let refuse (d : Nat) : State := s.spillMsg node 3 pid 0 0 d 0 0 0 0 []
    if pfield b 9 1 ≠ s.fs ∨ pfield b 10 1 ≠ s.get Reg.AL_SCH_CTRL_BLOCK then refuse 1
    else if s.schState ≠ 2 ∨ !s.on Reg.AL_CTRL_CAST_EN then refuse 2
    else
      let l := s.sv.lanes.filter (fun x => !(x.node == node && x.pid == pid))
      if 8 ≤ l.length then refuse 3
      else
        let x : Lane := {
          node := node, pid := pid, lead := pfield b 11 1 + 2, nret := pfield b 12 1, sums := [], any := false, bseq := 0 }
        (s.setSv (fun v => { v with lanes := l ++ [x] })).spillMsg node 2 pid 0 0 0 0 0 0 0 []
/-- ESTABLISH_RECEIVED (R424). -/
def execEstablishReceived (p : Fin 5) (s : State) : Host.Outcome State Fault Refusal := ok (s.establishIn p.val)

/-- The partnership asked for that a message answers. -/
def State.askedOf (s : State) (f : Frame) : Option Partner :=
  s.sv.partners.find? (fun q => q.pid == pfield f.payload 1 1 && q.node == f.src.toNat)

/-- EST_ACCEPT: the partnership is active (R424). -/
def State.estAccept (s : State) (p : Nat) : State :=
  match s.takeRx p (isSpill 2) with
  | none => s
  | some (f, s) =>
    match s.askedOf f with
    | some q => match q.cmd with
      | some (c, t, st) =>
        let s := s.setSv (fun v => { v with partners := updWhere (fun x => x.pid == q.pid) (fun x => { x with active := true, cmd := none }) v.partners })
        (s.spillRec 0 3 q.node 0).finish c t st 0 0
      | none => s
    | none => s
/-- EST_ACCEPT_RECEIVED (R424). -/
def execEstAcceptReceived (p : Fin 5) (s : State) : Host.Outcome State Fault Refusal := ok (s.estAccept p.val)

/-- EST_REFUSE: SPILL_CFG completes REFUSED with the partner's DETAIL (R331, R424). -/
def State.estRefuse (s : State) (p : Nat) : State :=
  match s.takeRx p (isSpill 3) with
  | none => s
  | some (f, s) =>
    match s.askedOf f with
    | some q => match q.cmd with
      | some (c, t, _) =>
        (s.setSv (fun v => { v with partners := v.partners.filter (fun x => x.pid != q.pid) })).finish c t 0x1C (pfield f.payload 8 1) 0
      | none => s
    | none => s
/-- EST_REFUSE_RECEIVED (R424). -/
def execEstRefuseReceived (p : Fin 5) (s : State) : Host.Outcome State Fault Refusal := ok (s.estRefuse p.val)

/-- DISSOLVE ends the partnership here: a lane this module serves, or one it asked for (R424). (Log: 121 DEDUCED.) -/
def State.dissolveIn (s : State) (p : Nat) : State :=
  match s.takeRx p (isSpill 4) with
  | none => s
  | some (f, s) =>
    match s.sv.lanes.find? (fun l => l.node == f.src.toNat && l.pid == pfield f.payload 1 1) with
    | some l => s.dropLane l
    | none => match s.askedOf f with
      | some q => s.dropPartner q false
      | none => s
/-- DISSOLVE_RECEIVED (R424). -/
def execDissolveReceived (p : Fin 5) (s : State) : Host.Outcome State Fault Refusal := ok (s.dissolveIn p.val)

/-- The lane a message is for. -/
def State.laneOf (s : State) (f : Frame) : Option Lane := s.sv.lanes.find? (fun l => l.node == f.src.toNat && l.pid == pfield f.payload 1 1)

/-- CAST: the shifted cast is queued in the lane, or refused where the group's program differs (R186, R304).
(Log: 38 DEDUCED, 121 DEDUCED.) -/
def State.spillCastIn (s : State) (p : Nat) : State :=
  match s.takeRx p (isSpill 5) with
  | none => s
  | some (f, s) =>
    match s.laneOf f with
    | none => s
    | some l =>
      let num := pfield f.payload 2 2
      let d := leNat ((f.payload.drop 16).take 64)
      if pfield f.payload 4 4 ≠ s.boundUid (dfield d 16 1 % 64) then s.castAnswer l.node l.pid num 0 9
      else s.acceptOwn (.spillCast l.node l.pid num l.lead) d
/-- SPILL_CAST_RECEIVED (R186). -/
def execSpillCastReceived (p : Fin 5) (s : State) : Host.Outcome State Fault Refusal := ok (s.spillCastIn p.val)

/-- CMD: a later command of a spilled voice is queued in the lane (R186). -/
def State.spillCmdIn (s : State) (p : Nat) : State :=
  match s.takeRx p (isSpill 7) with
  | none => s
  | some (f, s) =>
    match s.laneOf f with
    | none => s
    | some l => s.acceptOwn (.spillCmd l.node l.pid (pfield f.payload 2 2) l.lead) (leNat ((f.payload.drop 16).take 64))
/-- SPILL_CMD_RECEIVED (R424). -/
def execSpillCmdReceived (p : Fin 5) (s : State) : Host.Outcome State Fault Refusal := ok (s.spillCmdIn p.val)

/-- The record a message of the partner names. -/
def State.recOf (s : State) (f : Frame) : Option SpillRec :=
  match s.askedOf f with
  | some q => s.sv.recs.find? (fun r => r.num == pfield f.payload 2 2 && r.pid == q.pid)
  | none => none

/-- CAST_ANSWER: the spilled cast completes SPILLED or SPILL_REFUSED (R167, R188, R324). -/
def State.castAnswerIn (s : State) (p : Nat) : State :=
  match s.takeRx p (isSpill 6) with
  | none => s
  | some (f, s) =>
    match s.recOf f with
    | none => s
    | some r => match r.cmd with
      | none => s
      | some (c, t) =>
        if pfield f.payload 8 1 ≤ 1 then
          let h := pfield f.payload 4 4
          let s := s.setSv (fun v => { v with recs := updWhere (fun x => x.num == r.num) (fun x => { x with handle := some h, cmd := none }) v.recs })
          (s.count Reg.AL_CNT_SPILL 1).finishX c t 8 0 h f.src.toNat
        else ((s.delRec r.num).spillRec r.group 1 f.src.toNat r.nid).finish c t 9 0 0
/-- CAST_ANSWER_RECEIVED (R188). -/
def execCastAnswerReceived (p : Fin 5) (s : State) : Host.Outcome State Fault Refusal := ok (s.castAnswerIn p.val)

/-- END: the spilled voice has ended, was stolen or is lost (R193, R424). -/
def State.spillEndIn (s : State) (p : Nat) : State :=
  match s.takeRx p (isSpill 8) with
  | none => s
  | some (f, s) =>
    match s.recOf f with
    | none => s
    | some r =>
      let h := r.handle.getD (pfield f.payload 4 4)
      let s := match pfield f.payload 8 1 with
        | 1 => if (s.group r.group).endEvt then s.voiceRec s.ns 2 r.group h r.nid else s
        | 2 => s.voiceRec s.ns 1 r.group h r.nid
        | 3 => s.voiceRec s.ns 3 r.group h r.nid
        | _ => s
      s.delRec r.num
/-- SPILL_END_RECEIVED (R424). -/
def execSpillEndReceived (p : Fin 5) (s : State) : Host.Outcome State Fault Refusal := ok (s.spillEndIn p.val)

/-- REQ_TMO has passed with no answer: to the ESTABLISH of partnership `pid`, or to the cast of a record of it
(R188, R424, R426). -/
def State.spillTimeout (s : State) (pid : Nat) (num : Option Nat) : State :=
  match num with
  | none => match s.partner pid with
    | some q => match q.cmd with
      | some (c, t, _) =>
        if q.sent + s.reqTmo ≤ s.ns then
          (s.setSv (fun v => { v with partners := v.partners.filter (fun x => x.pid != pid) })).finish c t 0x0E 0 0
        else s
      | none => s
    | none => s
  | some n => match s.sv.recs.find? (fun r => r.num == n && r.pid == pid) with
    | some r => match r.cmd with
      | some (c, t) => if r.sent + s.reqTmo ≤ s.ns then (s.delRec n).finish c t 0x0E 0 0 else s
      | none => s
    | none => s
/-- SPILL_TIMEOUT (R188, R424). -/
def execSpillTimeout (pid : Fin 8) (num : Option (BitVec 8)) (s : State) : Host.Outcome State Fault Refusal :=
  ok (s.spillTimeout pid.val (num.map BitVec.toNat))

end Sys2Proof.Machine
end

