-- ==== Sys2Proof/Machine/RegWrite.lean ====
section
/-!
DEFINITION. What a write of one BAR0 register does (R14, R15): the registers with rules of their own, then the fields of any
other register by their access codes.
-/
namespace Sys2Proof.Machine

/-- The element of an array of registers at an offset: base, stride, count. -/
def elemAt (off base stride count : Nat) : Option Nat :=
  if base ≤ off ∧ off < base + stride * count ∧ (off - base) % stride = 0 then some ((off - base) / stride) else none

/-- One field of a written word by its access code (R15). -/
def State.writeField (s : State) (f : Fld) (v : Nat) : State :=
  let x := bits v f.lsb f.w
  match f.acc with
  | .rw => s.put f x
  | .w1c => s.put f (s.get f &&& (2 ^ f.w - 1 - x))
  | .w1s => s.put f (s.get f ||| x)
  | _ => s

/-- The fields of the register at an offset, each by its access code; an offset without a register is ignored (R14). -/
def State.writeFields (s : State) (off v : Nat) : State := (Reg.fieldsAt off).foldl (fun s f => s.writeField f v) s

/-- ID_ and TB_: boot control; the time base, capture and compare (R26, R32, R41, R44, R48, R577). -/
def State.wrTime (s : State) (off v : Nat) : Option State :=
  if off = 0x104 then some (s.writeBootCtrl v)
  else if off = 0x6000C then some (s.writeTbCtrl v)
  else if off = 0x60018 then some (s.writeRate v)
  else if off = 0x60020 then some (s.put Reg.TB_SET_LO v)
  else if off = 0x60024 then some (s.setCommit v)
  else match elemAt off 0x6004C 0x10 2, elemAt off 0x6010C 0x10 8, elemAt off 0x60200 0x20 8, elemAt off 0x60204 0x20 8,
    elemAt off 0x60208 0x20 8 with
  | some n, _, _, _, _ => some (if bit v 1 then (s.writeFields off v).put (Reg.TB_WCAP_STAT_OVR_CNT n) 0 else s)
  | _, some n, _, _, _ => some (if bit v 4 then (s.writeFields off v).put (Reg.TB_TRIG_STAT_DROP_CNT n) 0 else s)
  | _, _, some n, _, _ => some (s.writeCmpLo n v)
  | _, _, _, some n, _ => some (s.writeCmpHi n v)
  | _, _, _, _, some n => some (s.writeCmpCfg n v)
  | _, _, _, _, _ => none

/-- A write of HI_MSIX_CTRL: bit 0 masks; unmasking a pending vector sends its message (R354), or leaves it pending while no memory request may be made (R308).
(Log: 20 PRESUMED, 153 DEDUCED.) -/
def State.writeMsix (s : State) (v x : Nat) : State :=
  let s := s.put (Reg.HI_MSIX_CTRL v) (x % 2)
  let f := Reg.HI_PBA (v / 32)
  if x % 2 = 0 ∧ bit (s.get f) (v % 32) ∧ !s.hostBlocked then (s.put f (s.get f - 2 ^ (v % 32))).msix v else s

/-- HI_ and EQ_: rings, doorbells, MSI-X, event queues (R311, R315, R354, R358). -/
def State.wrHost (s : State) (off v : Nat) (via : Via) : Option State :=
  match elemAt off 0x10100 0x20 16, elemAt off 0x10104 0x20 16, elemAt off 0x10108 0x20 16, elemAt off 0x11000 4 16,
    elemAt off 0x1800C 0x10 64 with
  | some n, _, _, _, _ => some (s.writeRingBase n false v)
  | _, some n, _, _, _ => some (s.writeRingBase n true v)
  | _, _, some n, _, _ => some (s.writeRingCfg n v)
  | _, _, _, some n, _ => some (s.doorbell n v via)
  | _, _, _, _, some n => some (s.writeMsix n v)
  | _, _, _, _, _ =>
    match elemAt off 0x20100 0x20 8, elemAt off 0x20104 0x20 8, elemAt off 0x20108 0x20 8, elemAt off 0x20118 0x20 8 with
    | some n, _, _, _ => some (s.writeEqBase n false v)
    | _, some n, _, _ => some (s.writeEqBase n true v)
    | _, _, some n, _ => some (s.writeEqCfg n v)
    | _, _, _, some n => some (s.writeCons n v via)
    | _, _, _, _ => none

/-- A node coordinate is taken while it is finite and within ±10 000 (R144). -/
def nodeOk (v : Nat) : Bool := inRangeF 0xC61C4000 0x461C4000 (BitVec.ofNat 32 v)

/-- AL_ and CHn_: the allocator, the scheduler, the cores (R144, R163, R216, R283). -/
def State.wrVoice (s : State) (off v : Nat) : Option State :=
  if off = 0xB0000 then some (s.writeAlCtrl v)
  else if off = 0xB0800 then some (s.writeSchCtrl v)
  else if off = 0xB0F00 ∨ off = 0xB0F04 ∨ off = 0xB0F08 then some (if nodeOk v then s.writeFields off v else s)
  else if 0x200000 ≤ off ∧ off < 0x340000 then
    let c := (off - 0x200000) / 0x10000
    match elemAt (off % 0x10000) 0x40 4 4 with
    | some m => some (s.writeChBrk c m v)
    | none =>
      if off % 0x10000 = 0 then some (s.writeChCtrl c v)
      else if off % 0x10000 = 0x50 then some (s.writeDbgAddr c v)
      else if off % 0x10000 = 0x54 then some ((s.dbgCut c).dbgWrite c (BitVec.ofNat 32 v))
      else none
  else none

/-- FSW_ and FPn_: the switch and the ports (R391, R395 to R398, R407, R411). -/
def State.wrFabric (s : State) (off v : Nat) : Option State :=
  if off = 0xC0000 then some (s.writeFswCtrl v)
  else if off = 0xC0204 then some (s.writeUrxCfg v)
  else if off = 0xC020C then some (s.writeUrxCons v)
  else match elemAt off 0xC0304 0x10 4, elemAt off 0xC4000 4 4096 with
  | some m, _ => some (s.writeMbx m v)
  | _, some a => some (s.writeFwd a v)
  | _, _ =>
    if 0xD0000 ≤ off ∧ off < 0x110000 then
      let p := (off - 0xD0000) / 0x10000
      let o := off % 0x10000
      match elemAt o 0x100 4 8, elemAt o 0x140 4 8 with
      | some k, _ => some (s.writeStream true p k v)
      | _, some k => some (s.writeStream false p k v)
      | _, _ => if o = 0 then some (s.writeFpCtrl p v) else none
    else none

/-- AO_, UARTn_, TDMn_ and GPIO_ (R441 to R458, R461, R473, R477, R480). -/
def State.wrIo (s : State) (off v : Nat) : Option State :=
  if off = 0x9000C then some (s.writeSwClr v)
  else if off = 0x90010 then some (s.writeClrPinEn v)
  else if off = 0x81008 then some (s.put Reg.GPIO_OUT (s.get Reg.GPIO_OUT ||| v % 2 ^ 24))
  else if off = 0x8100C then some (s.put Reg.GPIO_OUT (s.get Reg.GPIO_OUT &&& (0xFFFFFF - v % 2 ^ 24)))
  else if off = 0x8101C then some (s.writeGpioFunc (v % 256))
  else match elemAt off 0x90100 0x20 16, elemAt off 0x90104 0x20 16, elemAt off 0x90110 0x20 16, elemAt off 0x90114 0x20 16 with
  | some n, _, _, _ => some (s.writeAoCfg n v)
  | _, some n, _, _ => some (s.writeClrCode n v)
  | _, _, some n, _ => some (s.writeAoWin n false v)
  | _, _, _, some n => some (s.writeAoWin n true v)
  | _, _, _, _ =>
    match elemAt off 0x70000 0x1000 4, elemAt off 0x78000 0x10 1024, elemAt off 0x80000 0x100 2 with
    | some u, _, _ => some (s.writeUartCtrl u v)
    | _, some c, _ => some (s.cmCommit c v)
    | _, _, some n => some (s.writeTdmCtrl n v)
    | _, _, _ => (elemAt off 0x9010C 0x20 16).map (fun n => (s.aoClips n).writeFields off v)

/-- A write of MEM_FLAGS: ERR_VALID falls with the last of SRAM_UE and DRAM_UE (R504). -/
def State.writeMemFlags (s : State) (v : Nat) : State :=
  let s := s.writeFields 0xA0008 v
  if s.on Reg.MEM_FLAGS_SRAM_UE ∨ s.on Reg.MEM_FLAGS_DRAM_UE then s else s.put Reg.MEM_ERR_ADDR_HI_VALID 0

/-- MEM_, PWR_, ST_ and LC_ (R491, R494, R504, R510, R514, R515, R518, R530, R535, R555). -/
def State.wrBase (s : State) (off v : Nat) : Option State :=
  if off = 0xA0008 then some (s.writeMemFlags v)
  else if off = 0x30000 then some (s.writePwrReq (bits v 0 3))
  else if off = 0x3000C then some (s.writeDomEn v)
  else if off = 0x30024 then some (s.writeAlarmHi v)
  else if off = 0x30034 then some (s.writeRstReq v)
  else if off = 0x50000 then some (s.writeStCtrl v)
  else if off = 0x50100 then some (s.writeRaw v)
  else if off = 0x40008 then some (s.writeLcCmd v)
  else match elemAt off 0xA0100 4 48 with
  | some b => some (s.writeBank b v)
  | none => if 0xA1000 ≤ off ∧ off < 0xA1400 then some (s.writeWinReg ((off - 0xA1000) / 16) (off % 16 / 4) v) else none

/-- The register at an offset lies in a domain that is powered. (Log: 17 DEDUCED, 104 DEDUCED.) -/
def State.regOn (s : State) (off : Nat) : Bool :=
  match regDom off with
  | some d => s.domOn d
  | none => true

/-- One write of a 32-bit register by a path: PCIe (none) or the management frame of a node. (Log: 17 DEDUCED.) -/
def State.busWrite (s : State) (off v : Nat) (via : Via) : State :=
  if off % 4 ≠ 0 ∨ !s.regOn off then s
  else
    let special :=
      if off < 0x10000 ∨ (0x60000 ≤ off ∧ off < 0x70000) then s.wrTime off v
      else if off < 0x30000 then s.wrHost off v via
      else if (0xB0000 ≤ off ∧ off < 0xC0000) ∨ 0x200000 ≤ off then s.wrVoice off v
      else if 0xC0000 ≤ off then s.wrFabric off v
      else if 0x70000 ≤ off ∧ off < 0xA0000 then s.wrIo off v
      else s.wrBase off v
    match special with
    | some s => s
    | none => s.writeFields off v

/-- The host link answers: powered, out of reset, in RUN or IDLE, no reset or boot due (R308, R343, R513). -/
def State.linkOpen (s : State) : Bool := s.awake && !s.hi.perst && s.domOn 2 && decide (s.pwState ≤ 1)

/-- BAR0 answers at an offset: until READY only in the ID_ and LC_ blocks (R565). (Log: 104 DEDUCED.) -/
def State.barOpen (s : State) (off : Nat) : Bool :=
  s.on Reg.ID_BOOT_STAT_READY || decide (off < 0x10000 ∨ (0x40000 ≤ off ∧ off < 0x50000))

/-- A host write of BAR0: a write with fewer than four byte enables is ignored (R14). In NAP it is a BAR access that may
wake the module (R515). (Log: 17 DEDUCED, 104 DEDUCED.) -/
def State.hostWrite (s : State) (off be v : Nat) : State :=
  if s.linkOpen then (if be = 15 ∧ s.barOpen off then s.busWrite off v none else s)
  else if s.awake ∧ s.pwState = 2 ∧ !s.hi.perst ∧ s.domOn 2 then s.pcieWake
  else s

/-- REGISTER_WRITE (R14, R15). -/
def execRegisterWrite (off : BitVec 24) (be : BitVec 4) (v : BitVec 32) (s : State) : Host.Outcome State Fault Refusal :=
  ok (s.hostWrite off.toNat be.toNat v.toNat)

end Sys2Proof.Machine
end

