-- ==== Sys2Proof/Machine/RegRead.lean ====
section
/-!
DEFINITION. What a read of one BAR0 register returns and does (R14 to R16).
-/
namespace Sys2Proof.Machine

/-- The read of a register returns a word. -/
def State.answer (s : State) (v : Nat) : State := { s with rdata := v % 2 ^ 32 }

/-- A register of stored fields: the word, with every RC field then cleared (R15). -/
def State.readFields (s : State) (off : Nat) : State :=
  (Reg.fieldsAt off).foldl (fun s f => if f.acc = .rc then s.put f 0 else s) (s.answer (s.word off))

/-- TB_: counters, captures and compare registers by R16. -/
def State.rdTime (s : State) (off : Nat) : Option State :=
  if off = 0x60000 then some (s.readPair .now)
  else if off = 0x60004 then some (s.readHigh off (s.ns / 2 ^ 32))
  else if off = 0x60008 then some (s.readHigh off (s.tb.now / 2 ^ 16 % 2 ^ 16))
  else if off = 0x60030 then some (s.readPair .frame)
  else if off = 0x60034 then some (s.readHigh off (s.frameNow / 2 ^ 32))
  else match elemAt off 0x60040 0x10 2, elemAt off 0x60044 0x10 2, elemAt off 0x60100 0x10 8, elemAt off 0x60104 0x10 8 with
  | some n, _, _, _ => some (s.wcapRead n none)
  | _, some n, _, _ => some (s.readHigh off (s.get (Reg.TB_WCAP_HI n)))
  | _, _, some n, _ => some (s.trigPop n none)
  | _, _, _, some n => some (s.readHigh off ((s.trigQ n).headD 0 / 2 ^ 32))
  | _, _, _, _ =>
    match elemAt off 0x60200 0x20 8, elemAt off 0x60204 0x20 8, elemAt off 0x60218 0x40 4, elemAt off 0x60238 0x40 4 with
    | some n, _, _, _ => some (s.readPair (.cmp (Fin.ofNat 8 n)))
    | _, some n, _, _ => some (s.readHigh off (s.cmpLive n / 2 ^ 32))
    | _, _, some m, _ => some (s.readPair (.cmpCount (Fin.ofNat 4 m)))
    | _, _, _, some m =>
      let k := s.get (Reg.TB_CMP_COUNT (2 * m + 1))
      some (if s.on (Reg.TB_CMP_CFG_LINK (2 * m)) then s.readHigh off k else s.answer k)
    | _, _, _, _ => none

/-- AL_VOICEv and AL_PARKp (R164). -/
def Voice.word (v : Voice) : Nat :=
  v.st + 2 ^ 4 * v.group + 2 ^ 10 * v.vpri + 2 ^ 13 * b2n v.held + 2 ^ 14 * b2n (!v.retrig.isEmpty) + 2 ^ 16 * v.gen

/-- Entries in use. -/
def State.inUse (f : Nat → Voice) (n : Nat) : Nat := ((List.range n).filter (fun e => (f e).st != 0)).length

/-- AL_CAP: the slots cast decisions can use, and the voice cores in service (R163). -/
def State.capWord (s : State) : Nat :=
  (allSlots.filter (fun v => s.castable v && s.avail (v / 16))).length
    + (List.range 16).foldl (fun a c => a + (if s.avail c then 2 ^ (16 + c) else 0)) 0

/-- AL_: the allocator and the scheduler (R163, R164, R214). -/
def State.rdAlloc (s : State) (off : Nat) : Option State :=
  if off = 0xB0004 then some (s.answer (State.inUse s.slot 256 + 2 ^ 16 * State.inUse s.park 64 + 2 ^ 24 * State.inUse s.tail 64))
  else if off = 0xB0008 then some (s.answer s.capWord)
  else if off = 0xB0814 then some (s.answer s.queueLen)
  else if off = 0xB0818 then some (s.readPair .block)
  else if off = 0xB081C then some (s.readHigh off (s.get Reg.AL_SCH_BLOCK_HI))
  else match elemAt off 0xB0408 0x10 64, elemAt off 0xB1000 4 256, elemAt off 0xB1400 4 64 with
  | some g, _, _ => some (s.answer (s.gcount g + 2 ^ 16 * (s.sv.recs.filter (fun r => r.group == g)).length))
  | _, some v, _ => some (s.answer (s.slot v).word)
  | _, _, some p => some (s.answer (s.park p).word)
  | _, _, _ => none

/-- CHn_: a chisel core (R246, R283). Whether it is frozen at the read is open. (Log: 105 DEDUCED.) -/
def State.rdCore (s : State) (off : Nat) : Option State :=
  let c := (off - 0x200000) / 0x10000
  let o := off % 0x10000
  if 0x340000 ≤ off then none
  else if o = 4 then
    let k := s.core c
    let (b, s) := s.freeBool
    some (s.answer (s.chState c + 8 * k.bank + 32 * b2n (k.bank == 3) + 64 * b2n b))
  else if o = 0x14 then some (s.answer (s.core c).pc)
  else if o = 0x18 then some (s.readPair (.cyc (Fin.ofNat 20 c)))
  else if o = 0x1C then some (s.readHigh off (s.coreCyc c / 2 ^ 32))
  else if o = 0x54 then some (s.dbgReadOp c)
  else none

/-- EQ_, FSW_ and FPn_ (R351, R358, R395 to R397). -/
def State.rdFabric (s : State) (off : Nat) : Option State :=
  if off = 0xC0010 then some (s.readPair .rootUid)
  else if off = 0xC0014 then some (s.readHigh off (s.get Reg.FSW_ROOT_UID_HI))
  else match elemAt off 0x20110 0x20 8, elemAt off 0xC4000 4 4096, elemAt off 0xD000C 0x10000 4, elemAt off 0xD0010 0x10000 4 with
  | some n, _, _, _ => some (s.answer (s.word off + s.qState n + 2 ^ 8 * min 64 (s.queue n).heldPlain))
  | _, some a, _, _ =>
    some (s.answer (if s.addr = some a then s.word off / 8 * 8 + 5 else s.word off))
  | _, _, some p, _ => some (s.readPair (.nbUid (Fin.ofNat 4 p)))
  | _, _, _, some p => some (s.readHigh off (s.get (Reg.FP_NB_UID_HI p)))
  | _, _, _, _ => none

/-- Receive and transmit trigger levels (R464). -/
def trigLevel (c : Nat) : Nat := [1, 4, 8, 16, 32, 64, 96, 120].getD c 120

/-- UARTn_STAT (R464, R482): the level of the transmit FIFO is open while a transmission runs, else 0.
(Log: 76 DEDUCED, 79 DEDUCED.) -/
def State.uartStat (s : State) (u : Nat) : State :=
  let x := s.uart u
  let (n, s) := if x.run.isSome then s.freeNat else (0, s)
  let tx := n % 129
  let on := s.on (Reg.UART_CTRL_EN u)
  s.answer (x.rx.length + 2 ^ 8 * tx + 2 ^ 16 * b2n (decide (trigLevel (s.get (Reg.UART_CTRL_RXTRIG u)) ≤ x.rx.length))
    + 2 ^ 17 * b2n (on && decide (tx ≤ trigLevel (s.get (Reg.UART_CTRL_TXTRIG u)))) + 2 ^ 18 * s.get (Reg.UART_STAT_LINE_LOW u)
    + 2 ^ 19 * s.get (Reg.UART_STAT_DE u) + 2 ^ 20 * s.get (Reg.UART_STAT_DMX_LOSS u))

/-- GPIO_IN: pins the module drives, and open levels for the others (R54, R480). (Log: 105 DEDUCED.) -/
def State.gpioIn (s : State) : State :=
  let (w, s) := s.freeWord
  let pin (i : Nat) : Bool :=
    if 16 ≤ i ∧ bit (s.get Reg.GPIO_FUNC) (i - 16) then s.on (Reg.TB_CMP_STAT_PIN (i - 16))
    else if bit (s.get Reg.GPIO_DIR) i then bit (s.get Reg.GPIO_OUT) i
    else w.getLsbD i
  s.answer ((List.range 24).foldl (fun a i => a + b2n (pin i) * 2 ^ i) 0)

/-- AO_, UARTn_ and GPIO_ (R440, R457, R458, R464, R480). -/
def State.rdIo (s : State) (off : Nat) : Option State :=
  if off = 0x81008 then some (s.answer (s.get Reg.GPIO_OUT))
  else if off = 0x81010 then some s.gpioIn
  else match elemAt off 0x70008 0x1000 4, elemAt off 0x70010 0x1000 4, elemAt off 0x90108 0x20 16, elemAt off 0x9011C 0x20 16 with
  | some u, _, _, _ => some (s.uartStat u)
  | _, some u, _, _ => some (s.rxPop u)
  | _, _, some n, _ =>
    let (c, s) := s.aoNow n
    let lim := match s.aoTarget n s.tu with
      | some t => t != c
      | none => false
    some (s.answer (s.word off + 16 * b2n lim))
  | _, _, _, some n =>
    let (c, s) := s.aoNow n
    some (s.answer (ofS 32 c))
  | _, _, _, _ => (elemAt off 0x9010C 0x20 16).map (fun n => (s.aoClips n).readFields off)

/-- ID_, LC_, MEM_ and PWR_ (R16, R504, R522, R551 to R557, R577). How long DMA waited for busy banks, and where the scrubber
stands, are open. (Log: 43 DESIGN CHOICE.) -/
def State.rdBase (s : State) (off : Nat) : Option State :=
  if off = 0x124 then
    let left := match s.upd with
      | some u => (allSlots.filter (fun e => u.unit.contains (e / 16) && (s.slot e).st != 0)).length
      | none => 0
    some (s.answer (s.word off + 2 ^ 8 * min 255 left))
  else if off = 0x40000 then
    some (s.answer (s.word off - 2 ^ 9 * s.get Reg.LC_STAT_LOCKED - 2 ^ 10 * s.get Reg.LC_STAT_NONCE_VALID
      + 2 ^ 9 * b2n (s.lockLeft != 0) + 2 ^ 10 * b2n s.nonceNow.isSome))
  else if off = 0x40010 then some (s.answer s.svcLeft)
  else if off = 0x40014 then some (s.answer s.lockLeft)
  else if off = 0xA000C then some (s.readPair .memErr)
  else if off = 0xA0010 then some (s.readHigh off (s.word off))
  else if off = 0xA0030 then
    let (w, s) := s.freeWord
    some (s.answer w.toNat)
  else if off = 0xA0034 then
    let (w, s) := s.freeWord
    some (s.answer (w.toNat % 2 ^ 28))
  else if off = 0x30020 then some (s.readPair .alarm)
  else if off = 0x30024 then some (s.readHigh off (s.get Reg.PWR_ALARM_HI))
  else match elemAt off 0x40020 4 8 with
  | some w => some (s.answer (leNat (((s.nonceNow.getD []).drop (4 * w)).take 4)))
  | none => if 0xA1000 ≤ off ∧ off < 0xA1400 then some (s.answer (s.readWinReg ((off - 0xA1000) / 16) (off % 16 / 4))) else none

/-- One read of a 32-bit register: a register of a domain that is off reads its power-on value. -/
def State.busRead (s : State) (off : Nat) : State :=
  let off := off / 4 * 4
  if !s.regOn off then
    s.answer ((Reg.fieldsAt off).foldl (fun a f => if f.acc = Acc.wo then a else a + f.reset * 2 ^ f.lsb) 0)
  else
    let special :=
      if 0x60000 ≤ off ∧ off < 0x70000 then s.rdTime off
      else if 0xB0000 ≤ off ∧ off < 0xC0000 then s.rdAlloc off
      else if 0x200000 ≤ off then s.rdCore off
      else if (0x20000 ≤ off ∧ off < 0x30000) ∨ 0xC0000 ≤ off then s.rdFabric off
      else if 0x70000 ≤ off ∧ off < 0xA0000 then s.rdIo off
      else s.rdBase off
    match special with
    | some s => s
    | none => s.readFields off

/-- A host read of BAR0: 0 outside the ID_ and LC_ blocks until READY (R565); in NAP it may wake the module, and what it
returns is open (R515). (Log: 17 DEDUCED, 104 DEDUCED.) -/
def State.hostRead (s : State) (off : Nat) : State :=
  if s.linkOpen then (if s.barOpen off then s.busRead off else s.answer 0)
  else if s.awake ∧ s.pwState = 2 ∧ !s.hi.perst ∧ s.domOn 2 then
    let (w, s) := s.pcieWake.freeWord
    s.answer w.toNat
  else s

/-- READ_CLEAR (R15): a host read of the register at an offset; its RC fields are cleared. -/
def execReadClear (off : BitVec 24) (s : State) : Host.Outcome State Fault Refusal := ok (s.hostRead off.toNat)

end Sys2Proof.Machine
end

