-- ==== Sys2Proof/Machine/Mgmt.lean ====
section
/-!
DEFINITION. Management requests (R389, R390, R514, R518), and the exchange region by frame and by BAR2 (R307, R490).
-/
namespace Sys2Proof.Machine

/-! ### A request frame -/

/-- OP of a management request. -/
def mgOp (f : Frame) : Nat := pfield f.payload (opBlock f.payload) 1
/-- ADDR. -/
def mgAddr (f : Frame) : Nat := pfield f.payload (opBlock f.payload + 4) 4
/-- LENGTH. -/
def mgLen (f : Frame) : Nat := pfield f.payload (opBlock f.payload + 8) 2
/-- Word `i` of DATA. -/
def mgWord (f : Frame) (i : Nat) : Nat := pfield f.payload (opBlock f.payload + 12 + 4 * i) 4

/-- A block that answers in TRANSIT and until READY: ID_, FSW_, FPn_ (R390, R565). -/
def awakeBlock (a : Nat) : Bool := decide (a < 0x10000 ∨ (0xC0000 ≤ a ∧ a < 0x110000))
/-- A block no management write may change: LC_, CHn_ (R390). -/
def lockedBlock (a : Nat) : Bool := decide ((0x40000 ≤ a ∧ a < 0x50000) ∨ (0x200000 ≤ a ∧ a < 0x340000))

/-- The request is of a kind that sleeps in TRANSIT and until READY. -/
def State.mgAsleep (s : State) (f : Frame) : Bool :=
  (s.pwState == 3 || !s.on Reg.ID_BOOT_STAT_READY) &&
    !(decide (mgOp f ≤ 2) && awakeBlock (mgAddr f) && awakeBlock (mgAddr f + mgLen f - 1)) && !(mgOp f == 5 && mgAddr f == 4 && s.pwState == 3)

/-- The request's range, or its reset kind, is outside its space (R389, R390, R518). -/
def State.mgRange (s : State) (f : Frame) : Bool :=
  let a := mgAddr f
  let n := mgLen f
  match mgOp f with
  | 1 | 2 => n % 4 != 0 || n == 0 || decide (512 < n) || a % 4 != 0 || decide (2 ^ 24 < a + n)
  | 3 | 4 => n == 0 || decide (512 < n) || decide (0x80000 < a + n)
  | _ => !resetLegal a (mgWord f 0) true || (a == 4 && s.pwState != 3)

/-- A node may write by management frames (R390). -/
def State.mgMayWrite (s : State) (f : Frame) : Bool :=
  match s.get Reg.FSW_CTRL_MGMT with
  | 0 => true
  | 1 => !f.noaddr && (List.range 8).any (fun m => s.on (Reg.FSW_MGMT_ALLOW_EN m) && s.get (Reg.FSW_MGMT_ALLOW_ADDR m) == f.src.toNat)
  | _ => false

/-- The request is not permitted (R390). -/
def State.mgDenied (s : State) (f : Frame) : Bool :=
  match mgOp f with
  | 2 => !s.mgMayWrite f || lockedBlock (mgAddr f) || lockedBlock (mgAddr f + mgLen f - 1)
  | 4 => !s.mgMayWrite f
  | 5 => mgAddr f != 4 && !s.on Reg.FSW_CTRL_RRST_EN
  | _ => false

/-- STATUS a request is refused with: 3 BAD_OP, 4 ASLEEP, 2 RANGE, 1 DENIED; 0 when it is applied. (Log: 107 DESIGN CHOICE.) -/
def State.mgStatus (s : State) (f : Frame) : Nat :=
  if mgOp f = 0 ∨ 5 < mgOp f then 3
  else if s.mgAsleep f then 4
  else if s.mgRange f then 2
  else if s.mgDenied f then 1
  else 0

/-! ### The reply -/

/-- The reply to a request from port `p`: source-routed back by R381, with its TAG (R389). A request whose port has gone has no
way back. (Log: 108 DEDUCED, 109 DEDUCED.) -/
def State.mgReply (s : State) (p : Nat) (f : Frame) (status : Nat) (data : List (BitVec 8)) : State :=
  let o := opBlock f.payload
  let n := pfield f.payload 0 2
  let route := (List.range n).foldl (fun l i => setRoutePort l i (if i = 0 then p else routePort f.payload (n - i))) (f.payload.take o)
  let b := route ++ leBytes 1 (mgOp f % 128 + 128) ++ leBytes 1 status ++ leBytes 2 (pfield f.payload (o + 2) 2) ++ leBytes 4 (mgAddr f)
    ++ leBytes 2 (mgLen f) ++ leBytes 2 0 ++ data
  if !s.domOn 3 then s
  else if n ≠ 0 ∧ p = 4 then s.dropRoute
  else s.sendRouted b

/-- The MGMT_FRAME record of a request (R359, R389). (Log: 108 DEDUCED.) -/
def State.mgRec (s : State) (f : Frame) (reason : Nat) : State :=
  s.event 0x1E 38 0 reason (pay 16 f.src.toNat + pay 20 (if mgOp f ≤ 2 then mgAddr f else 0))

/-- A request is refused (R390). -/
def State.mgRefuse (s : State) (p : Nat) (f : Frame) (status : Nat) : State :=
  (((s.set1 Reg.FSW_FLAGS_MGMT_DENIED).count Reg.FSW_CNT_DENIED 1).mgRec f 2).mgReply p f status []

/-! ### What a request does -/

/-- Register reads in ascending address order. -/
def State.mgReads (s : State) (a n : Nat) : State × List (BitVec 8) :=
  (List.range n).foldl (fun e i => let t := e.1.busRead (a + 4 * i); (t, e.2 ++ leBytes 4 t.rdata)) (s, [])

/-- Register writes in ascending address order, by the path of the frame's source (R315, R355). -/
def State.mgWrites (s : State) (f : Frame) : State :=
  (List.range (mgLen f / 4)).foldl (fun s i => s.busWrite (mgAddr f + 4 * i) (mgWord f i) (some f.src)) s

/-- A read of the exchange region: what a spoilt word gives (R490), or the bytes. (Log: 106 DEDUCED.) -/
def State.exchGet (s : State) (a n : Nat) : State × Option (List (BitVec 8)) :=
  match s.sramSpoilt (exchBase + a) n with
  | some w => (s.sramUe (8 * w), none)
  | none => (s.sramFix (exchBase + a) n, some (s.exchRead a n))

/-- A reset request of OP 5 (R518): the reply comes first. (Log: 108 DEDUCED.) -/
def State.mgReset (s : State) (p : Nat) (f : Frame) : State :=
  let s := (s.mgRec f 1).mgReply p f 0 []
  match mgAddr f with
  | 1 => s.askReset 5 f.src.toNat
  | 2 => s.resetClusters (mgWord f 0) none
  | _ => if s.on Reg.PWR_WAKE_CFG_FABRIC then s.wake 2 else s

/-- A permitted request is applied. -/
def State.mgApply (s : State) (p : Nat) (f : Frame) : State :=
  match mgOp f with
  | 1 =>
    let (t, b) := s.mgReads (mgAddr f) (mgLen f / 4)
    (({ t with rdata := s.rdata }).mgRec f 1).mgReply p f 0 b
  | 2 => ((s.mgWrites f).mgRec f 1).mgReply p f 0 []
  | 3 => match s.exchGet (mgAddr f) (mgLen f) with
    | (s, some b) => (s.mgRec f 1).mgReply p f 0 b
    | (s, none) => s.mgRefuse p f 2
  | 4 =>
    let o := opBlock f.payload + 12
    ((s.sramWriteAll (exchBase + mgAddr f) (padTo (mgLen f) ((f.payload.drop o).take (mgLen f)))).mgRec f 1).mgReply p f 0 []
  | _ => s.mgReset p f

/-- The oldest management request from port `p` that `q` names is answered (R389, R390). (Log: 108 DEDUCED.) -/
def State.mgServe (s : State) (p : Nat) (q : Frame → Bool) : State :=
  match s.takeRx p (fun f => kindIs 4 f && !frameIsReply f && q f) with
  | some (f, s) =>
    let st := s.mgStatus f
    if st = 0 then s.mgApply p f else s.mgRefuse p f st
  | none => s

/-! ### The commands -/

/-- MGMT_REGISTER_READ (R389): a request of OP 1, or of an OP that is unknown (R390). -/
def execMgmtRegisterRead (p : Fin 5) (s : State) : Host.Outcome State Fault Refusal :=
  ok (s.mgServe p.val (fun f => mgOp f == 1 || mgOp f == 0 || decide (5 < mgOp f)))
/-- MGMT_REGISTER_WRITE (R389, R390). -/
def execMgmtRegisterWrite (p : Fin 5) (s : State) : Host.Outcome State Fault Refusal := ok (s.mgServe p.val (fun f => mgOp f == 2))

/-- A read of BAR2: 0 above the exchange region; a spoilt word poisons the completion, whose data are open (R307, R490).
(Log: 106 DEDUCED.) -/
def State.bar2Read (s : State) (a n : Nat) : State :=
  if !s.linkOpen ∨ !s.domOn 13 then s
  else
    match s.exchGet a (min n (0x80000 - a)) with
    | (s, some b) => { s with rdata := leNat b }
    | (s, none) =>
      let (w, s) := s.freeNat
      { s.emit (.poisoned a) with rdata := w }
/-- A write of BAR2: ignored above the exchange region (R307). -/
def State.bar2Write (s : State) (a : Nat) (b : List (BitVec 8)) : State :=
  if !s.linkOpen ∨ !s.domOn 13 then s else s.sramWriteAll (exchBase + a) (b.take (0x80000 - a))

/-- EXCHANGE_READ (R389, R307). -/
def execExchangeRead (path : ReadPath) (s : State) : Host.Outcome State Fault Refusal :=
  ok (match path with
    | .frame p => s.mgServe p.val (fun f => mgOp f == 3)
    | .bar2 a n => s.bar2Read a.toNat n.toNat)
/-- EXCHANGE_WRITE (R389, R307). -/
def execExchangeWrite (path : WritePath) (s : State) : Host.Outcome State Fault Refusal :=
  ok (match path with
    | .frame p => s.mgServe p.val (fun f => mgOp f == 4)
    | .bar2 a b => s.bar2Write a.toNat b)

/-- POWER_STATE_REQUEST (R514): PWR_REQ, MGMT sub-op 0x01 or a management-frame write of PWR_REQ. -/
def execPowerStateRequest (path : ReqPath) (s : State) : Host.Outcome State Fault Refusal :=
  ok (match path with
    | .reg v => s.hostWrite 0x30000 15 v.toNat
    | .ring n d => s.descOf n d.toNat [] (isMgmt d.toNat 1)
    | .frame p => s.mgServe p.val (fun f => mgOp f == 2 && mgAddr f == 0x30000))
/-- FULL_RESET_REQUEST (R518): kind 1 of PWR_RST_REQ, of MGMT sub-op 0x02 or of management OP 5, which also answers kinds that
name no reset. -/
def execFullResetRequest (path : ReqPath) (s : State) : Host.Outcome State Fault Refusal :=
  ok (match path with
    | .reg v => s.hostWrite 0x30034 15 (v.toNat / 8 * 8 + 1)
    | .ring n d => s.descOf n d.toNat [] (isMgmt d.toNat 2 && dfield d.toNat 20 1 != 2)
    | .frame p => s.mgServe p.val (fun f => mgOp f == 5 && mgAddr f != 2 && mgAddr f != 4))
/-- CLUSTER_RESET_REQUEST (R518): kind 2. -/
def execClusterResetRequest (path : ReqPath) (s : State) : Host.Outcome State Fault Refusal :=
  ok (match path with
    | .reg v => s.hostWrite 0x30034 15 (v.toNat / 8 * 8 + 2)
    | .ring n d => s.descOf n d.toNat [] (isMgmt d.toNat 2 && dfield d.toNat 20 1 == 2)
    | .frame p => s.mgServe p.val (fun f => mgOp f == 5 && mgAddr f == 2))
/-- TRANSIT_WAKE_REQUEST (R515, R518): management OP 5 with kind 4. -/
def execTransitWakeRequest (p : Fin 5) (s : State) : Host.Outcome State Fault Refusal :=
  ok (s.mgServe p.val (fun f => mgOp f == 5 && mgAddr f == 4))

end Sys2Proof.Machine
end

