-- ==== Sys2Proof/Machine/Dispatch.lean ====
section
/-!
DEFINITION. One arm per command: each calls that command's meaning.
-/
namespace Sys2Proof.Machine

def exec (i : Instr) (s : State) : Host.Outcome State Fault Refusal :=
  match i with
  | .registerWrite off be v => Sys2Proof.Machine.execRegisterWrite off be v s
  | .readClear off => Sys2Proof.Machine.execReadClear off s
  | .shadowLowRead p => Sys2Proof.Machine.execShadowLowRead p s
  | .tbSetCommit hi => Sys2Proof.Machine.execTbSetCommit hi s
  | .tbFsWrite v => Sys2Proof.Machine.execTbFsWrite v s
  | .audioPllLock => Sys2Proof.Machine.execAudioPllLock s
  | .tbRefWrite v => Sys2Proof.Machine.execTbRefWrite v s
  | .reacquire v => Sys2Proof.Machine.execReacquire v s
  | .tbRateWrite v => Sys2Proof.Machine.execTbRateWrite v s
  | .heldRelease => Sys2Proof.Machine.execHeldRelease s
  | .wclkCapture n falling t => Sys2Proof.Machine.execWclkCapture n falling t s
  | .wclkPresent n => Sys2Proof.Machine.execWclkPresent n s
  | .wclkLoss n => Sys2Proof.Machine.execWclkLoss n s
  | .wcapLowRead n cap => Sys2Proof.Machine.execWcapLowRead n cap s
  | .trigCapture n falling t => Sys2Proof.Machine.execTrigCapture n falling t s
  | .trigPop n push => Sys2Proof.Machine.execTrigPop n push s
  | .compareCommit n hi => Sys2Proof.Machine.execCompareCommit n hi s
  | .compareEnable n v => Sys2Proof.Machine.execCompareEnable n v s
  | .force n v => Sys2Proof.Machine.execForce n v s
  | .compareMatch n => Sys2Proof.Machine.execCompareMatch n s
  | .pulseEnd n => Sys2Proof.Machine.execPulseEnd n s
  | .xt32Fail => Sys2Proof.Machine.execXt32Fail s
  | .renderBoundary => Sys2Proof.Machine.execRenderBoundary s
  | .blockDeadline => Sys2Proof.Machine.execBlockDeadline s
  | .blockRenderComplete => Sys2Proof.Machine.execBlockRenderComplete s
  | .mixBlockStart => Sys2Proof.Machine.execMixBlockStart s
  | .playStart => Sys2Proof.Machine.execPlayStart s
  | .schedRun v => Sys2Proof.Machine.execSchedRun v s
  | .schedStart => Sys2Proof.Machine.execSchedStart s
  | .schedStop v => Sys2Proof.Machine.execSchedStop v s
  | .schedStopped => Sys2Proof.Machine.execSchedStopped s
  | .allOff v => Sys2Proof.Machine.execAllOff v s
  | .releaseLimitExpiry e => Sys2Proof.Machine.execReleaseLimitExpiry e s
  | .clipReport => Sys2Proof.Machine.execClipReport s
  | .summaryRecordTimer => Sys2Proof.Machine.execSummaryRecordTimer s
  | .nop c z => Sys2Proof.Machine.execNop c z s
  | .add c d a b => Sys2Proof.Machine.execAdd c d a b s
  | .sub c d a b => Sys2Proof.Machine.execSub c d a b s
  | .and c d a b => Sys2Proof.Machine.execAnd c d a b s
  | .or c d a b => Sys2Proof.Machine.execOr c d a b s
  | .xor c d a b => Sys2Proof.Machine.execXor c d a b s
  | .shl c d a b => Sys2Proof.Machine.execShl c d a b s
  | .shr c d a b => Sys2Proof.Machine.execShr c d a b s
  | .sar c d a b => Sys2Proof.Machine.execSar c d a b s
  | .shli c d a b => Sys2Proof.Machine.execShli c d a b s
  | .shri c d a b => Sys2Proof.Machine.execShri c d a b s
  | .sari c d a b => Sys2Proof.Machine.execSari c d a b s
  | .min c d a b => Sys2Proof.Machine.execMin c d a b s
  | .max c d a b => Sys2Proof.Machine.execMax c d a b s
  | .slt c d a b => Sys2Proof.Machine.execSlt c d a b s
  | .sltu c d a b => Sys2Proof.Machine.execSltu c d a b s
  | .seq c d a b => Sys2Proof.Machine.execSeq c d a b s
  | .mul c d a b => Sys2Proof.Machine.execMul c d a b s
  | .mvag c d a b => Sys2Proof.Machine.execMvag c d a b s
  | .mvga c d a b => Sys2Proof.Machine.execMvga c d a b s
  | .clz c d a b => Sys2Proof.Machine.execClz c d a b s
  | .addi c d a imm => Sys2Proof.Machine.execAddi c d a imm s
  | .andi c d a imm => Sys2Proof.Machine.execAndi c d a imm s
  | .ori c d a imm => Sys2Proof.Machine.execOri c d a imm s
  | .xori c d a imm => Sys2Proof.Machine.execXori c d a imm s
  | .movi c d a imm => Sys2Proof.Machine.execMovi c d a imm s
  | .movih c d a imm => Sys2Proof.Machine.execMovih c d a imm s
  | .ld c g ai mode circ slot imm => Sys2Proof.Machine.execLd c g ai mode circ slot imm s
  | .st c g ai mode circ slot imm => Sys2Proof.Machine.execSt c g ai mode circ slot imm s
  | .ldp c g ai mode circ slot imm => Sys2Proof.Machine.execLdp c g ai mode circ slot imm s
  | .stp c g ai mode circ slot imm => Sys2Proof.Machine.execStp c g ai mode circ slot imm s
  | .lda c g ai mode circ slot imm => Sys2Proof.Machine.execLda c g ai mode circ slot imm s
  | .sta c g ai mode circ slot imm => Sys2Proof.Machine.execSta c g ai mode circ slot imm s
  | .adda c d a imm => Sys2Proof.Machine.execAdda c d a imm s
  | .fadd c d a b => Sys2Proof.Machine.execFadd c d a b s
  | .fsub c d a b => Sys2Proof.Machine.execFsub c d a b s
  | .fmul c d a b => Sys2Proof.Machine.execFmul c d a b s
  | .fmin c d a b => Sys2Proof.Machine.execFmin c d a b s
  | .fmax c d a b => Sys2Proof.Machine.execFmax c d a b s
  | .fabs c d a b => Sys2Proof.Machine.execFabs c d a b s
  | .fneg c d a b => Sys2Proof.Machine.execFneg c d a b s
  | .fslt c d a b => Sys2Proof.Machine.execFslt c d a b s
  | .fseq c d a b => Sys2Proof.Machine.execFseq c d a b s
  | .ftoi c d a b => Sys2Proof.Machine.execFtoi c d a b s
  | .itof c d a b => Sys2Proof.Machine.execItof c d a b s
  | .ftoq c d a b => Sys2Proof.Machine.execFtoq c d a b s
  | .qtof c d a b => Sys2Proof.Machine.execQtof c d a b s
  | .ffloor c d a b => Sys2Proof.Machine.execFfloor c d a b s
  | .ffrac c d a b => Sys2Proof.Machine.execFfrac c d a b s
  | .qadd c d a b => Sys2Proof.Machine.execQadd c d a b s
  | .qsub c d a b => Sys2Proof.Machine.execQsub c d a b s
  | .qmul c d a b => Sys2Proof.Machine.execQmul c d a b s
  | .frcp c d a b => Sys2Proof.Machine.execFrcp c d a b s
  | .frsq c d a b => Sys2Proof.Machine.execFrsq c d a b s
  | .fexp2 c d a b => Sys2Proof.Machine.execFexp2 c d a b s
  | .flog2 c d a b => Sys2Proof.Machine.execFlog2 c d a b s
  | .fsin2p c d a b => Sys2Proof.Machine.execFsin2p c d a b s
  | .ftanp c d a b => Sys2Proof.Machine.execFtanp c d a b s
  | .fma c d a b e z => Sys2Proof.Machine.execFma c d a b e z s
  | .fms c d a b e z => Sys2Proof.Machine.execFms c d a b e z s
  | .mac c k x y z => Sys2Proof.Machine.execMac c k x y z s
  | .msu c k x y z => Sys2Proof.Machine.execMsu c k x y z s
  | .cmac c k x y z => Sys2Proof.Machine.execCmac c k x y z s
  | .cmsu c k x y z => Sys2Proof.Machine.execCmsu c k x y z s
  | .cmul c k x y z => Sys2Proof.Machine.execCmul c k x y z s
  | .cmacj c k x y z => Sys2Proof.Machine.execCmacj c k x y z s
  | .clra c k x y z => Sys2Proof.Machine.execClra c k x y z s
  | .mvgacc c k x y z => Sys2Proof.Machine.execMvgacc c k x y z s
  | .mula c k x y z => Sys2Proof.Machine.execMula c k x y z s
  | .mva c d k part sh z => Sys2Proof.Machine.execMva c d k part sh z s
  | .mvac c d k part sh z => Sys2Proof.Machine.execMvac c d k part sh z s
  | .tap c k ai aj dir z => Sys2Proof.Machine.execTap c k ai aj dir z s
  | .ctap c k ai aj dir z => Sys2Proof.Machine.execCtap c k ai aj dir z s
  | .b c cond z a ofs => Sys2Proof.Machine.execB c cond z a ofs s
  | .jmp c d a b f => Sys2Proof.Machine.execJmp c d a b f s
  | .call c cond z a ofs => Sys2Proof.Machine.execCall c cond z a ofs s
  | .loop c level len src cnt => Sys2Proof.Machine.execLoop c level len src cnt s
  | .swb c r u n v m => Sys2Proof.Machine.execSwb c r u n v m s
  | .mvs c r u n v m => Sys2Proof.Machine.execMvs c r u n v m s
  | .mvt c r u n v m => Sys2Proof.Machine.execMvt c r u n v m s
  | .bdone c r u v m => Sys2Proof.Machine.execBdone c r u v m s
  | .reti c z => Sys2Proof.Machine.execReti c z s
  | .wait c z => Sys2Proof.Machine.execWait c z s
  | .waitRelease c => Sys2Proof.Machine.execWaitRelease c s
  | .signal c r u n v m => Sys2Proof.Machine.execSignal c r u n v m s
  | .setm c r u n v m => Sys2Proof.Machine.execSetm c r u n v m s
  | .brk c z => Sys2Proof.Machine.execBrk c z s
  | .interruptEntry c => Sys2Proof.Machine.execInterruptEntry c s
  | .timerExpiry c => Sys2Proof.Machine.execTimerExpiry c s
  | .coreHalt c v => Sys2Proof.Machine.execCoreHalt c v s
  | .coreResume c v => Sys2Proof.Machine.execCoreResume c v s
  | .coreStep c v => Sys2Proof.Machine.execCoreStep c v s
  | .debugDataRead c => Sys2Proof.Machine.execDebugDataRead c s
  | .debugDataWrite c v => Sys2Proof.Machine.execDebugDataWrite c v s
  | .coreDmaGo c => Sys2Proof.Machine.execCoreDmaGo c s
  | .coreDmaDone c => Sys2Proof.Machine.execCoreDmaDone c s
  | .coreDmaStatusRead c => Sys2Proof.Machine.execCoreDmaStatusRead c s
  | .doorbell n v via => Sys2Proof.Machine.execDoorbell n v via s
  | .ringEnable n v => Sys2Proof.Machine.execRingEnable n v s
  | .ringDisable n v => Sys2Proof.Machine.execRingDisable n v s
  | .ringCheck n hdr => Sys2Proof.Machine.execRingCheck n hdr s
  | .descriptorFetch d host => Sys2Proof.Machine.execDescriptorFetch d host s
  | .fetchError => Sys2Proof.Machine.execFetchError s
  | .immediateHoldEnd n => Sys2Proof.Machine.execImmediateHoldEnd n s
  | .cast n d => Sys2Proof.Machine.execCast n d s
  | .release n d => Sys2Proof.Machine.execRelease n d s
  | .choke n d => Sys2Proof.Machine.execChoke n d s
  | .setParam n d => Sys2Proof.Machine.execSetParam n d s
  | .rampParam n d => Sys2Proof.Machine.execRampParam n d s
  | .setGroup n d => Sys2Proof.Machine.execSetGroup n d s
  | .loadMaquette n d host => Sys2Proof.Machine.execLoadMaquette n d host s
  | .maquetteCheckDone => Sys2Proof.Machine.execMaquetteCheckDone s
  | .unloadMaquette n d => Sys2Proof.Machine.execUnloadMaquette n d s
  | .migrateSend n d => Sys2Proof.Machine.execMigrateSend n d s
  | .park n d => Sys2Proof.Machine.execPark n d s
  | .resume n d => Sys2Proof.Machine.execResume n d s
  | .spillEstablish n d => Sys2Proof.Machine.execSpillEstablish n d s
  | .spillDissolve n d => Sys2Proof.Machine.execSpillDissolve n d s
  | .streamMap n d => Sys2Proof.Machine.execStreamMap n d s
  | .outSet n d => Sys2Proof.Machine.execOutSet n d s
  | .serialTx n d host => Sys2Proof.Machine.execSerialTx n d host s
  | .serialTxStart u => Sys2Proof.Machine.execSerialTxStart u s
  | .serialTxDone u => Sys2Proof.Machine.execSerialTxDone u s
  | .deHoldExpiry u => Sys2Proof.Machine.execDeHoldExpiry u s
  | .memDma n d => Sys2Proof.Machine.execMemDma n d s
  | .memDmaDone k host err => Sys2Proof.Machine.execMemDmaDone k host err s
  | .fabricSend n d host => Sys2Proof.Machine.execFabricSend n d host s
  | .fence n d => Sys2Proof.Machine.execFence n d s
  | .fenceRelease n => Sys2Proof.Machine.execFenceRelease n s
  | .powerStateRequest path => Sys2Proof.Machine.execPowerStateRequest path s
  | .fullResetRequest path => Sys2Proof.Machine.execFullResetRequest path s
  | .clusterResetRequest path => Sys2Proof.Machine.execClusterResetRequest path s
  | .transitWakeRequest p => Sys2Proof.Machine.execTransitWakeRequest p s
  | .clusterReturn k => Sys2Proof.Machine.execClusterReturn k s
  | .shutdown n d => Sys2Proof.Machine.execShutdown n d s
  | .shutdownComplete res rows => Sys2Proof.Machine.execShutdownComplete res rows s
  | .periodicEnable n d => Sys2Proof.Machine.execPeriodicEnable n d s
  | .periodicDisable n d => Sys2Proof.Machine.execPeriodicDisable n d s
  | .rollingUpdate n d host => Sys2Proof.Machine.execRollingUpdate n d host s
  | .updateFlashWritten good => Sys2Proof.Machine.execUpdateFlashWritten good s
  | .drainTimeout => Sys2Proof.Machine.execDrainTimeout s
  | .clusterReloadDone good => Sys2Proof.Machine.execClusterReloadDone good s
  | .challenge by_ => Sys2Proof.Machine.execChallenge by_ s
  | .signed by_ host => Sys2Proof.Machine.execSigned by_ host s
  | .password by_ host => Sys2Proof.Machine.execPassword by_ host s
  | .close by_ => Sys2Proof.Machine.execClose by_ s
  | .advance arg => Sys2Proof.Machine.execAdvance arg s
  | .programKey arg => Sys2Proof.Machine.execProgramKey arg s
  | .revokeKey arg => Sys2Proof.Machine.execRevokeKey arg s
  | .sessionExpiry => Sys2Proof.Machine.execSessionExpiry s
  | .nonceExpiry => Sys2Proof.Machine.execNonceExpiry s
  | .lockoutEnd => Sys2Proof.Machine.execLockoutEnd s
  | .flr => Sys2Proof.Machine.execFlr s
  | .perstNAssert => Sys2Proof.Machine.execPerstNAssert s
  | .perstNRelease => Sys2Proof.Machine.execPerstNRelease s
  | .pcieBmeChange bme d3hot => Sys2Proof.Machine.execPcieBmeChange bme d3hot s
  | .pcieLinkChange up speed width => Sys2Proof.Machine.execPcieLinkChange up speed width s
  | .eqEnable n v => Sys2Proof.Machine.execEqEnable n v s
  | .eqDisable n v => Sys2Proof.Machine.execEqDisable n v s
  | .eqConsWrite n v via => Sys2Proof.Machine.execEqConsWrite n v via s
  | .eqDrain n => Sys2Proof.Machine.execEqDrain n s
  | .moderationTimeout n => Sys2Proof.Machine.execModerationTimeout n s
  | .portEnable p v => Sys2Proof.Machine.execPortEnable p v s
  | .portDisable p v => Sys2Proof.Machine.execPortDisable p v s
  | .retrain p v => Sys2Proof.Machine.execRetrain p v s
  | .signalDetected p => Sys2Proof.Machine.execSignalDetected p s
  | .commaAligned p => Sys2Proof.Machine.execCommaAligned p s
  | .equalisationDone p step => Sys2Proof.Machine.execEqualisationDone p step s
  | .trainFail p => Sys2Proof.Machine.execTrainFail p s
  | .lossOfSignal p => Sys2Proof.Machine.execLossOfSignal p s
  | .codeErrorLimit p n => Sys2Proof.Machine.execCodeErrorLimit p n s
  | .helloReceived p => Sys2Proof.Machine.execHelloReceived p s
  | .helloSend p => Sys2Proof.Machine.execHelloSend p s
  | .helloTimeout p => Sys2Proof.Machine.execHelloTimeout p s
  | .rootCandidateOffer => Sys2Proof.Machine.execRootCandidateOffer s
  | .frameArrival p f hcrc crc aborted => Sys2Proof.Machine.execFrameArrival p f hcrc crc aborted s
  | .frameTransmit p => Sys2Proof.Machine.execFrameTransmit p s
  | .creditReceived p c n => Sys2Proof.Machine.execCreditReceived p c n s
  | .creditSend p c => Sys2Proof.Machine.execCreditSend p c s
  | .creditTimeout p c => Sys2Proof.Machine.execCreditTimeout p c s
  | .topoReceived p => Sys2Proof.Machine.execTopoReceived p s
  | .announceSend => Sys2Proof.Machine.execAnnounceSend s
  | .announceReceived p => Sys2Proof.Machine.execAnnounceReceived p s
  | .nodeTimeout a => Sys2Proof.Machine.execNodeTimeout a s
  | .floodExpiry a => Sys2Proof.Machine.execFloodExpiry a s
  | .addrRequestSend => Sys2Proof.Machine.execAddrRequestSend s
  | .addrRequestReceived p => Sys2Proof.Machine.execAddrRequestReceived p s
  | .addrGrantReceived p => Sys2Proof.Machine.execAddrGrantReceived p s
  | .addrFail => Sys2Proof.Machine.execAddrFail s
  | .bindingTableReady => Sys2Proof.Machine.execBindingTableReady s
  | .bindingExpiry a => Sys2Proof.Machine.execBindingExpiry a s
  | .mgmtRegisterRead p => Sys2Proof.Machine.execMgmtRegisterRead p s
  | .mgmtRegisterWrite p => Sys2Proof.Machine.execMgmtRegisterWrite p s
  | .exchangeRead path => Sys2Proof.Machine.execExchangeRead path s
  | .exchangeWrite path => Sys2Proof.Machine.execExchangeWrite path s
  | .mailboxGo m v => Sys2Proof.Machine.execMailboxGo m v s
  | .mgmtReplyReceived p => Sys2Proof.Machine.execMgmtReplyReceived p s
  | .mailboxTimeout m => Sys2Proof.Machine.execMailboxTimeout m s
  | .userFrameReceived p => Sys2Proof.Machine.execUserFrameReceived p s
  | .notifyReceived p => Sys2Proof.Machine.execNotifyReceived p s
  | .forwardingEntryWrite a v => Sys2Proof.Machine.execForwardingEntryWrite a v s
  | .bypassRaise => Sys2Proof.Machine.execBypassRaise s
  | .bypassDrop => Sys2Proof.Machine.execBypassDrop s
  | .syncSend p t => Sys2Proof.Machine.execSyncSend p t s
  | .dreqSend p t => Sys2Proof.Machine.execDreqSend p t s
  | .syncMarkReceived p q t => Sys2Proof.Machine.execSyncMarkReceived p q t s
  | .dreqMarkReceived p q t => Sys2Proof.Machine.execDreqMarkReceived p q t s
  | .syncFollowUp p => Sys2Proof.Machine.execSyncFollowUp p s
  | .drespReceived p => Sys2Proof.Machine.execDrespReceived p s
  | .tsMissing p => Sys2Proof.Machine.execTsMissing p s
  | .fabricReferenceLoss => Sys2Proof.Machine.execFabricReferenceLoss s
  | .stepFrameReceived p => Sys2Proof.Machine.execStepFrameReceived p s
  | .stepApply => Sys2Proof.Machine.execStepApply s
  | .streamTxWrite n k v => Sys2Proof.Machine.execStreamTxWrite n k v s
  | .streamRxWrite n k v => Sys2Proof.Machine.execStreamRxWrite n k v s
  | .streamFrameReceived p => Sys2Proof.Machine.execStreamFrameReceived p s
  | .spillReturnReceived p => Sys2Proof.Machine.execSpillReturnReceived p s
  | .offerReceived p => Sys2Proof.Machine.execOfferReceived p s
  | .acceptReceived p => Sys2Proof.Machine.execAcceptReceived p s
  | .refuseReceived p => Sys2Proof.Machine.execRefuseReceived p s
  | .commitReceived p => Sys2Proof.Machine.execCommitReceived p s
  | .commitAckReceived p => Sys2Proof.Machine.execCommitAckReceived p s
  | .abortReceived p => Sys2Proof.Machine.execAbortReceived p s
  | .migrateCmdReceived p => Sys2Proof.Machine.execMigrateCmdReceived p s
  | .migrationTimeout dest peer session => Sys2Proof.Machine.execMigrationTimeout dest peer session s
  | .establishReceived p => Sys2Proof.Machine.execEstablishReceived p s
  | .estAcceptReceived p => Sys2Proof.Machine.execEstAcceptReceived p s
  | .estRefuseReceived p => Sys2Proof.Machine.execEstRefuseReceived p s
  | .dissolveReceived p => Sys2Proof.Machine.execDissolveReceived p s
  | .spillCastReceived p => Sys2Proof.Machine.execSpillCastReceived p s
  | .castAnswerReceived p => Sys2Proof.Machine.execCastAnswerReceived p s
  | .spillCmdReceived p => Sys2Proof.Machine.execSpillCmdReceived p s
  | .spillEndReceived p => Sys2Proof.Machine.execSpillEndReceived p s
  | .spillTimeout pid num => Sys2Proof.Machine.execSpillTimeout pid num s
  | .channelEnable n v => Sys2Proof.Machine.execChannelEnable n v s
  | .channelDisable n v => Sys2Proof.Machine.execChannelDisable n v s
  | .spanWrite n v => Sys2Proof.Machine.execSpanWrite n v s
  | .cal n v => Sys2Proof.Machine.execCal n v s
  | .calibrationDone n => Sys2Proof.Machine.execCalibrationDone n s
  | .pairWrite n v => Sys2Proof.Machine.execPairWrite n v s
  | .clrcodeWrite n v => Sys2Proof.Machine.execClrcodeWrite n v s
  | .swclrWrite v => Sys2Proof.Machine.execSwclrWrite v s
  | .outClrNAssert => Sys2Proof.Machine.execOutClrNAssert s
  | .outClrNRelease => Sys2Proof.Machine.execOutClrNRelease s
  | .clearHeld => Sys2Proof.Machine.execClearHeld s
  | .slewRampComplete n => Sys2Proof.Machine.execSlewRampComplete n s
  | .rangeSettled n => Sys2Proof.Machine.execRangeSettled n s
  | .feedChange n => Sys2Proof.Machine.execFeedChange n s
  | .windowLeave n reading => Sys2Proof.Machine.execWindowLeave n reading s
  | .windowReturn n reading => Sys2Proof.Machine.execWindowReturn n reading s
  | .refWindowLeave r reading => Sys2Proof.Machine.execRefWindowLeave r reading s
  | .refWindowReturn r reading => Sys2Proof.Machine.execRefWindowReturn r reading s
  | .uartCharacterReceived u d fe pe => Sys2Proof.Machine.execUartCharacterReceived u d fe pe s
  | .breakReceived u short => Sys2Proof.Machine.execBreakReceived u short s
  | .lineStuck u => Sys2Proof.Machine.execLineStuck u s
  | .lineReleased u => Sys2Proof.Machine.execLineReleased u s
  | .rxdPop u => Sys2Proof.Machine.execRxdPop u s
  | .uartDisable u v => Sys2Proof.Machine.execUartDisable u v s
  | .dmxBreakDetected u => Sys2Proof.Machine.execDmxBreakDetected u s
  | .dmxPacketComplete u => Sys2Proof.Machine.execDmxPacketComplete u s
  | .dmxLoss u => Sys2Proof.Machine.execDmxLoss u s
  | .midiMessageReceived u => Sys2Proof.Machine.execMidiMessageReceived u s
  | .controlMapCommit c v => Sys2Proof.Machine.execControlMapCommit c v s
  | .tdmEnable n v => Sys2Proof.Machine.execTdmEnable n v s
  | .tdmLock n => Sys2Proof.Machine.execTdmLock n s
  | .tdmSlip n => Sys2Proof.Machine.execTdmSlip n s
  | .tdmClockLost n => Sys2Proof.Machine.execTdmClockLost n s
  | .gpioSet v => Sys2Proof.Machine.execGpioSet v s
  | .gpioClr v => Sys2Proof.Machine.execGpioClr v s
  | .gpioFuncWrite v => Sys2Proof.Machine.execGpioFuncWrite v s
  | .bankPowerWrite b v => Sys2Proof.Machine.execBankPowerWrite b v s
  | .bankPowerUpDone b => Sys2Proof.Machine.execBankPowerUpDone b s
  | .windowDescriptorWrite w r v => Sys2Proof.Machine.execWindowDescriptorWrite w r v s
  | .regionTestRestore fails sig => Sys2Proof.Machine.execRegionTestRestore fails sig s
  | .scrubLate => Sys2Proof.Machine.execScrubLate s
  | .vinLow mv => Sys2Proof.Machine.execVinLow mv s
  | .brownOut mv => Sys2Proof.Machine.execBrownOut mv s
  | .vinRecovered mv => Sys2Proof.Machine.execVinRecovered mv s
  | .plinthLoss => Sys2Proof.Machine.execPlinthLoss s
  | .powerOnReset mv => Sys2Proof.Machine.execPowerOnReset mv s
  | .vinHigh mv => Sys2Proof.Machine.execVinHigh mv s
  | .overvoltageCutoff mv => Sys2Proof.Machine.execOvervoltageCutoff mv s
  | .railOutOfWindow r mv => Sys2Proof.Machine.execRailOutOfWindow r mv s
  | .vauxOvercurrent mv => Sys2Proof.Machine.execVauxOvercurrent mv s
  | .vauxRetry => Sys2Proof.Machine.execVauxRetry s
  | .thermalWarnCross t => Sys2Proof.Machine.execThermalWarnCross t s
  | .thermalShutdown t => Sys2Proof.Machine.execThermalShutdown t s
  | .thermalRestart t => Sys2Proof.Machine.execThermalRestart t s
  | .domainEnableWrite v => Sys2Proof.Machine.execDomainEnableWrite v s
  | .pllUnlock p => Sys2Proof.Machine.execPllUnlock p s
  | .pllRelock p => Sys2Proof.Machine.execPllRelock p s
  | .referenceLoss => Sys2Proof.Machine.execReferenceLoss s
  | .referenceReturn => Sys2Proof.Machine.execReferenceReturn s
  | .napEntryRampsDone => Sys2Proof.Machine.execNapEntryRampsDone s
  | .wakePinRise held => Sys2Proof.Machine.execWakePinRise held s
  | .alarmCommit v => Sys2Proof.Machine.execAlarmCommit v s
  | .alarmReached => Sys2Proof.Machine.execAlarmReached s
  | .pcieWakeAccess => Sys2Proof.Machine.execPcieWakeAccess s
  | .uartWakeEdge u => Sys2Proof.Machine.execUartWakeEdge u s
  | .resetNAssert => Sys2Proof.Machine.execResetNAssert s
  | .resetNRelease => Sys2Proof.Machine.execResetNRelease s
  | .watchdogExpiry pc stack => Sys2Proof.Machine.execWatchdogExpiry pc stack s
  | .boot bootsel => Sys2Proof.Machine.execBoot bootsel s
  | .bootReady res rows => Sys2Proof.Machine.execBootReady res rows s
  | .bootGo => Sys2Proof.Machine.execBootGo s
  | .confirm => Sys2Proof.Machine.execConfirm s
  | .confirmTimeout => Sys2Proof.Machine.execConfirmTimeout s
  | .revert => Sys2Proof.Machine.execRevert s
  | .imageRequestReceived p => Sys2Proof.Machine.execImageRequestReceived p s
  | .imageDataReceived p => Sys2Proof.Machine.execImageDataReceived p s
  | .imageDoneReceived p => Sys2Proof.Machine.execImageDoneReceived p s
  | .imageRefuseReceived p => Sys2Proof.Machine.execImageRefuseReceived p s
  | .imageGapTimeout => Sys2Proof.Machine.execImageGapTimeout s
  | .imageRetryPauseEnd => Sys2Proof.Machine.execImageRetryPauseEnd s
  | .sliceStart => Sys2Proof.Machine.execSliceStart s
  | .sliceBudgetEnd => Sys2Proof.Machine.execSliceBudgetEnd s
  | .testComplete good sig => Sys2Proof.Machine.execTestComplete good sig s
  | .benchWaitExpiry => Sys2Proof.Machine.execBenchWaitExpiry s
  | .rawTestGo v => Sys2Proof.Machine.execRawTestGo v s
  | .debugPortInstruction x => Sys2Proof.Machine.execDebugPortInstruction x s
  | .curLimit n on => Sys2Proof.Machine.execCurLimit n on s
  | .vinWithinRange mv => Sys2Proof.Machine.execVinWithinRange mv s
  | .pcieError correctable aer => Sys2Proof.Machine.execPcieError correctable aer s
  | .tdmInputBlockReady n k frames => Sys2Proof.Machine.execTdmInputBlockReady n k frames s
  | .uartRxSummary u overrun => Sys2Proof.Machine.execUartRxSummary u overrun s
  | .updateBenchTimeout => Sys2Proof.Machine.execUpdateBenchTimeout s

end Sys2Proof.Machine
end

