-- ==== Sys2Proof/Machine/Idle.lean ====
section
/-!
DEFINITION. What happens while no command waits: time passes (R17), and what the module does of its own accord with it.
-/
namespace Sys2Proof.Machine

/-- One tick with no command: the counter and the resets due by it (R17, R518), a booting module's first request for an image
(R568), the roll back a double fault begins (R575). (Log: 14 DESIGN CHOICE.) -/
def State.idle (s : State) : State := s.powerIdle.firstAsk.updPoll

end Sys2Proof.Machine
end

