-- ==== Sys2Proof/Machine/Step.lean ====
section
/-!
DEFINITION. One step: the command at the front of the queue, or a tick of time while none waits.
-/
namespace Sys2Proof.Machine

/-- Take the front command and run it on the state with the rest of the queue; with no command waiting, time passes.
(Log: 14 DESIGN CHOICE, 147 DESIGN CHOICE.) -/
def step (s : State) : Host.Outcome State Fault Refusal :=
  match s.pending with
  | c :: rest => exec c { s with pending := rest }
  | [] => .next s.idle

/-- Put the command a word spells at the front of the queue; no row of the table has bits, so no word spells one.
(Log: 137 DESIGN CHOICE.) -/
def State.withFetchWord (s : State) (nbits w : Nat) : State :=
  match Sys2Proof.decodeTableWord nbits w with
  | some c => { s with pending := c :: s.pending }
  | none => s

end Sys2Proof.Machine
end

