-- ==== Sys2Proof/Safety.lean ====
section
/-!
DEFINITION. What a safe run is, in the terms claims use: completion, the invariant of every reachable state, frames, and
when a chisel core issues a word.
-/
namespace Sys2Proof.Machine

/-- A step completes: it answers a next state. -/
def Completes (o : Host.Outcome State Fault Refusal) : Prop := ∃ t, o = .next t

/-! ### The invariant -/

/-- Shared SRAM and DRAM are in their canonical form: equal memories are equal data. -/
def State.memWf (s : State) : Prop := s.sram.wf = true ∧ s.dram.wf = true

/-- A bank holds 32 G registers, 8 A registers, 4 accumulators of two parts, and BS to LE1 (R248, R249). -/
def Bank.shaped (b : Bank) : Prop := b.g.length = 32 ∧ b.a.length = 8 ∧ b.acc.length = 8 ∧ b.bs.length = 7

/-- A core holds four banks, one of them current, and eight window slots (R248, R250, R251). -/
def Core.shaped (k : Core) : Prop :=
  k.banks.length = 4 ∧ (∀ b ∈ k.banks, b.shaped) ∧ k.bank < 4 ∧ k.wmap.length = 8

/-- The module holds what the spec counts: 20 cores, 8 event queues, 4 ports, 64 groups, 20 DMA ports, 4 UARTs, 32 bus
channels, 16 outputs and their 8 references, 8 trigger inputs. -/
structure State.Shaped (s : State) : Prop where
  cores : s.cores.length = 20
  core : ∀ k ∈ s.cores, k.shaped
  eq : s.eq.length = 8
  ports : s.sw.ports.length = 4
  groups : s.al.groups.length = 64
  dma : s.ms.dma.length = 20
  uarts : s.ser.uarts.length = 4
  buses : s.mix.buses.length = 32
  chans : s.ao.chans.length = 16
  refs : s.ao.refEp.length = 8
  trig : s.tb.trig.length = 8

/-- What every step keeps, and what claims about every state may need. -/
def State.Inv (s : State) : Prop := s.memWf ∧ s.Shaped

/-- A safe step: it completes, and keeps the invariant. -/
def SafeStep (s : State) : Prop := s.Inv → ∃ t, step s = .next t ∧ t.Inv

/-! ### Frames -/

/-- Every register field but those of `fs` reads as before. -/
def RegsKept (s t : State) (fs : List Fld) : Prop := ∀ f : Fld, f.key ∉ fs.map Fld.key → t.get f = s.get f

/-- Every byte of shared SRAM and DRAM reads as before. -/
def MemKept (s t : State) : Prop := ∀ a, t.sram.byte a = s.sram.byte a ∧ t.dram.byte a = s.dram.byte a

/-- A part of the state beside its register fields and its queue of commands. -/
inductive Part where
  | shadows | rdata | out | fresh | tb | eq | held | hi | sch | al | progs | loads | sw | sv | sram | dram | cores | fw0 | life
  | boot | upd | ser | mix | ms | ao | st | pw
deriving DecidableEq, Repr

/-- A part is the same in both states. -/
def Part.Same (p : Part) (s t : State) : Prop :=
  match p with
  | .shadows => t.shadows = s.shadows
  | .rdata => t.rdata = s.rdata
  | .out => t.out = s.out
  | .fresh => t.fresh = s.fresh
  | .tb => t.tb = s.tb
  | .eq => t.eq = s.eq
  | .held => t.pcieHeld = s.pcieHeld ∧ t.pcieHold = s.pcieHold
  | .hi => t.hi = s.hi
  | .sch => t.sch = s.sch
  | .al => t.al = s.al
  | .progs => t.progs = s.progs
  | .loads => t.loads = s.loads
  | .sw => t.sw = s.sw
  | .sv => t.sv = s.sv
  | .sram => t.sram = s.sram
  | .dram => t.dram = s.dram
  | .cores => t.cores = s.cores
  | .fw0 => t.fw0 = s.fw0
  | .life => t.life = s.life
  | .boot => t.boot = s.boot
  | .upd => t.upd = s.upd
  | .ser => t.ser = s.ser
  | .mix => t.mix = s.mix
  | .ms => t.ms = s.ms
  | .ao => t.ao = s.ao
  | .st => t.st = s.st
  | .pw => t.pw = s.pw

/-- From `s` to `t` only the parts `ps` and the register fields `fs` may change; the queue of commands stays. -/
structure Moves (s t : State) (ps : List Part) (fs : List Fld) : Prop where
  pending : t.pending = s.pending
  parts : ∀ p : Part, p ∉ ps → p.Same s t
  regs : RegsKept s t fs

/-! ### Registers -/

/-- A word for TB_CTRL that changes nothing but FS, REF and REACQUIRE: BW and MANUAL as they stand. -/
def State.CtrlKept (s : State) (v : BitVec 32) (fs ref req : Nat) : Prop :=
  bits v.toNat 3 2 = s.get Reg.TB_CTRL_BW ∧ bits v.toNat 2 1 = s.get Reg.TB_CTRL_MANUAL ∧ bits v.toNat 8 3 = fs
  ∧ bits v.toNat 0 2 = ref ∧ bits v.toNat 5 1 = req

/-! ### Test results -/

/-- The fields a test result is shown in (R541, R542). -/
def resultFields : List Fld := [Reg.ST_LAST_UNIT, Reg.ST_LAST_VERDICT, Reg.ST_LAST_SIG, Reg.ST_LAST_COUNT, Reg.ST_CNT_PASS, Reg.ST_CNT_FAIL,
  Reg.ST_CNT_INCOMPLETE, Reg.ST_FLAGS_FAIL, Reg.ST_FLAGS_INCOMPLETE]

/-- From `u` to `v` a test result is reported: its record, the latest result, its count and its flag; beside these only the parts `ps`
and the fields `fs` change (R541 to R543). -/
def Reported (u v : State) (src unit verdict sig count profile : Nat) (ps : List Part) (fs : List Fld) : Prop :=
  v.get Reg.ST_LAST_UNIT = unit % 2 ^ 16 ∧ v.get Reg.ST_LAST_VERDICT = verdict ∧ v.get Reg.ST_LAST_SIG = sig % 2 ^ 32
  ∧ v.get Reg.ST_LAST_COUNT = count % 2 ^ 32
  ∧ (verdict = 1 → v.get Reg.ST_CNT_PASS = (u.get Reg.ST_CNT_PASS + 1) % 2 ^ 32)
  ∧ (verdict = 2 → v.get Reg.ST_CNT_FAIL = (u.get Reg.ST_CNT_FAIL + 1) % 2 ^ 32 ∧ v.get Reg.ST_FLAGS_FAIL = 1)
  ∧ (verdict = 3 → v.get Reg.ST_CNT_INCOMPLETE = (u.get Reg.ST_CNT_INCOMPLETE + 1) % 2 ^ 32 ∧ v.get Reg.ST_FLAGS_INCOMPLETE = 1)
  ∧ Moves (u.event 0x60 src unit verdict (pay 16 profile + pay 20 (sig % 2 ^ 32) + pay 24 (count % 2 ^ 32))) v ps (resultFields ++ fs)

/-! ### Chisel cores -/

/-- Register `i` of bank `b`: 0 to 31 G, 32 to 39 A, 40 to 47 the parts of the accumulators. -/
def Core.reg (k : Core) (b i : Nat) : BitVec 72 :=
  if i < 32 then ((k.bankOf b).g.getD i 0).setWidth 72
  else if i < 40 then ((k.bankOf b).a.getD (i - 32) 0).setWidth 72
  else (k.bankOf b).acc.getD (i - 40) 0

/-- Register `i` of bank `b` holds `v` after `n` more issue cycles: now, or in flight (R264). -/
def Core.Lands (k : Core) (b i : Nat) (v : BitVec 72) (n : Nat) : Prop :=
  if n = 0 then k.reg b i = v else (⟨n, b, i, v⟩ : Land) ∈ k.land

/-- Core `c` issues the word `w` next: it runs and is clocked, no HALT waits, no breakpoint and no uncorrectable IMEM word
stands at PC, and IMEM holds `w` there (R257, R277, R280, R283). -/
structure State.CoreAt (s : State) (c w : Nat) : Prop where
  run : s.chState c = 1
  clock : s.coreClock = true
  halt : s.get (Reg.CH_CTRL_HALT c) = 0
  good : (s.core c).imemBad.contains ((s.core c).pc / 4) = false
  brk : s.breaksAt c = false
  word : (s.core c).imem.nat (s.core c).pc 4 = w

/-- What an instruction of core `c` that writes the registers `ds` and the loop registers `ns` of its bank and raises the flags
`fl` leaves alone: the
other cores; shared memory; every register field but the counts of collisions and of corrected words; in core `c` each
register that is not in `ds` and that no earlier result in flight is for; the flags but `fl` and WCOLL; the loop starts and
ends; and the system registers. -/
structure CoreFrame (s t : State) (c : Nat) (ds ns : List Nat) (fl : Nat) : Prop where
  others : ∀ n, n ≠ c → t.core n = s.core n
  mem : MemKept s t
  regs : RegsKept s t [Reg.CH_WCOLL c, Reg.CH_FLAGS_WCOLL c, Reg.CH_ECC_CE c]
  reg : ∀ b i, ¬(b = (s.core c).bank ∧ i ∈ ds) → (∀ l ∈ (s.core c).land, ¬(l.bank = b ∧ l.dst = i)) →
    (t.core c).reg b i = (s.core c).reg b i
  flags : ((t.core c).bankOf (s.core c).bank).bs.getD 0 0 ||| 0x20
    = ((s.core c).bankOf (s.core c).bank).bs.getD 0 0 ||| BitVec.ofNat 32 fl ||| 0x20
  loops : ∀ b n, n ≠ 0 → n ≠ 1 → n ≠ 4 → n ∉ ns → ((t.core c).bankOf b).bs.getD n 0 = ((s.core c).bankOf b).bs.getD n 0
  sys : (t.core c).epc = (s.core c).epc ∧ (t.core c).ebank = (s.core c).ebank ∧ (t.core c).ecause = (s.core c).ecause
    ∧ (t.core c).vbase = (s.core c).vbase ∧ (t.core c).wmap = (s.core c).wmap ∧ (t.core c).drb = (s.core c).drb
    ∧ (t.core c).tmrld = (s.core c).tmrld ∧ (t.core c).sigsrc = (s.core c).sigsrc ∧ (t.core c).blk = (s.core c).blk
    ∧ (t.core c).tier = (s.core c).tier ∧ (t.core c).cyc = (s.core c).cyc + 1
  store : (t.core c).dmem = (s.core c).dmem ∧ (t.core c).imem = (s.core c).imem ∧ (t.core c).stores = (s.core c).stores

/-- An instruction that only computes: wherever core `c` issues its word, it completes; each result of `rs` (a register, its
value and its latency) is in its register or on its way, the flags of `fl` are raised, and nothing else changes. -/
def Computes (c : Fin 20) (w : Nat) (i : Instr) (rs : Core → List (Nat × BitVec 72 × Nat)) (fl : Core → Nat) : Prop :=
  ∀ s : State, s.Inv → s.CoreAt c.val w → ∃ t, exec i s = .next t
    ∧ (∀ r ∈ rs (s.core c.val), (t.core c.val).Lands (s.core c.val).bank r.1 r.2.1 (r.2.2 - 1))
    ∧ CoreFrame s t c.val ((rs (s.core c.val)).map (fun r => r.1)) [] (fl (s.core c.val))

/-- A 32-bit result for Gd after `lat` cycles. -/
def intoG (d : Nat) (v : BitVec 32) (lat : Nat) : List (Nat × BitVec 72 × Nat) := [(d, v.setWidth 72, lat)]
/-- A 32-bit result for Ai after `lat` cycles. -/
def intoA (i : Nat) (v : BitVec 32) (lat : Nat) : List (Nat × BitVec 72 × Nat) := [(32 + i, v.setWidth 72, lat)]
/-- The parts of ACCk, both readable by MVA after 3 cycles (R264). -/
def intoAcc (k : Nat) (re im : BitVec 72) : List (Nat × BitVec 72 × Nat) := [(40 + 2 * k, re, 3), (41 + 2 * k, im, 3)]
/-- An instruction that only computes one 32-bit result `(r k).1` for Gd, raising the flags `(r k).2`. -/
def ComputesF (c : Fin 20) (w : Nat) (i : Instr) (d lat : Nat) (r : Core → FRes) : Prop :=
  Computes c w i (fun k => intoG d (r k).1 lat) (fun k => (r k).2)
/-- An instruction that only computes both parts of ACCk. -/
def ComputesAcc (c : Fin 20) (w : Nat) (i : Instr) (k : Nat) (re im : Core → BitVec 72 × FBits) : Prop :=
  Computes c w i (fun r => intoAcc k (re r).1 (im r).1) (fun r => (re r).2 ||| (im r).2)
/-- An instruction that only computes the real part of ACCk. -/
def ComputesRe (c : Fin 20) (w : Nat) (i : Instr) (k : Nat) (re : Core → BitVec 72 × FBits) : Prop :=
  Computes c w i (fun r => [(40 + 2 * k, (re r).1, 3)]) (fun r => (re r).2)
/-- An integer held to the range of a Q1.31 or 32-bit value (R255, R260). -/
def clamp32 (x : Int) : Int := max (-(2 ^ 31)) (min (2 ^ 31 - 1) x)
/-- SAT where an integer leaves that range. -/
def satFlag (x : Int) : Nat := if clamp32 x = x then 0 else 16

/-- `CoreAt`, and the word needs no correction. -/
def State.CoreClean (s : State) (c w : Nat) : Prop :=
  s.CoreAt c w ∧ (s.core c).imemSoft.contains ((s.core c).pc / 4) = false

/-- What an instruction of core `c` that accesses memory leaves: `u` is the state its accesses leave, `ds` the registers it
writes and `fl` the flags it raises. Beside `u`, only those, the loop counts, WCOLL, and what each issue moves (PC, cycles,
results in flight). -/
structure MemFrame (s u t : State) (c : Nat) (ds : List Nat) (fl : Nat) : Prop where
  others : ∀ n, n ≠ c → t.core n = u.core n
  mem : t.sram = u.sram ∧ t.dram = u.dram ∧ (t.core c).dmem = (u.core c).dmem ∧ (t.core c).imem = (s.core c).imem
  stores : (t.core c).stores = (u.core c).stores
  regs : RegsKept u t [Reg.CH_WCOLL c, Reg.CH_FLAGS_WCOLL c]
  reg : ∀ b i, ¬(b = (s.core c).bank ∧ i ∈ ds) → (∀ l ∈ (s.core c).land, ¬(l.bank = b ∧ l.dst = i)) →
    (t.core c).reg b i = (s.core c).reg b i
  flags : ((t.core c).bankOf (s.core c).bank).bs.getD 0 0 ||| 0x20
    = ((s.core c).bankOf (s.core c).bank).bs.getD 0 0 ||| BitVec.ofNat 32 fl ||| 0x20
  loops : ∀ b n, n ≠ 0 → n ≠ 1 → n ≠ 4 → ((t.core c).bankOf b).bs.getD n 0 = ((s.core c).bankOf b).bs.getD n 0
  sys : (t.core c).epc = (s.core c).epc ∧ (t.core c).ebank = (s.core c).ebank ∧ (t.core c).ecause = (s.core c).ecause
    ∧ (t.core c).vbase = (s.core c).vbase ∧ (t.core c).wmap = (s.core c).wmap ∧ (t.core c).drb = (s.core c).drb
    ∧ (t.core c).tmrld = (s.core c).tmrld ∧ (t.core c).sigsrc = (s.core c).sigsrc ∧ (t.core c).blk = (s.core c).blk
    ∧ (t.core c).tier = (s.core c).tier

/-- The result of a write-back of Ai, where the mode has one (R262). -/
def backTo (ai : Nat) (e : Ea) : List (Nat × BitVec 72 × Nat) :=
  match e.back with | some v => intoA ai v 1 | none => []

/-- An instruction that loads `z` bytes at the address of its fields: wherever core `c` issues its word, the address stands and
the access succeeds with the value `v`, it completes; the results `rs v` and the write-back of Ai are on their way. -/
def Loads (c : Fin 20) (w : Nat) (i : Instr) (ai : Fin 8) (mode : Fin 4) (circ : Fin 2) (slot : Fin 8) (imm : BitVec 12) (z : Nat)
    (rs : Nat → List (Nat × BitVec 72 × Nat)) : Prop :=
  ∀ (s u : State) (e : Ea) (v : Nat), s.Inv → s.CoreClean c w → s.ea c ai mode (circ.val == 1) slot imm z = .ok e →
    s.loadEa c e.pieces = .ok u v → ∃ t, exec i s = .next t
      ∧ (∀ r ∈ rs v ++ backTo ai e, (t.core c).Lands (s.core c).bank r.1 r.2.1 (r.2.2 - 1))
      ∧ MemFrame s u t c ((rs v ++ backTo ai e).map (fun r => r.1)) 0
      ∧ MemKept s t ∧ (t.core c).dmem = (s.core c).dmem ∧ (t.core c).stores = (s.core c).stores

/-- An instruction that stores `z` bytes of the value `f` at the address of its fields: likewise, where the store may be made;
`u` holds what the store writes. -/
def Stores (c : Fin 20) (w : Nat) (i : Instr) (ai : Fin 8) (mode : Fin 4) (circ : Fin 2) (slot : Fin 8) (imm : BitVec 12) (z : Nat)
    (f : Core → Nat) : Prop :=
  ∀ (s u : State) (e : Ea) (x : Nat), s.Inv → s.CoreClean c w → s.ea c ai mode (circ.val == 1) slot imm z = .ok e →
    s.storeEa c e.pieces (f (s.core c)) = .ok u x → ∃ t, exec i s = .next t
      ∧ (∀ r ∈ backTo ai e, (t.core c).Lands (s.core c).bank r.1 r.2.1 (r.2.2 - 1))
      ∧ MemFrame s u t c ((backTo ai e).map (fun r => r.1)) 0

/-- A filter tap over elements of `z` bytes (R268): wherever core `c` issues its word, both addresses are aligned, all three
elements stand in the data space, the older place may be stored to, and both elements load, it completes: the accumulator
results `acc` of the datum and the coefficient, raising `fl`; Ai one element down and Aj one up or down; and memory holds what the
store of the datum one place older leaves. With Ai and Aj one register, Aj's result is the one kept (R266). -/
def Taps (c : Fin 20) (w : Nat) (i : Instr) (ai aj : Fin 8) (dir : Fin 2) (z : Nat)
    (acc : Core → Nat → Nat → List (Nat × BitVec 72 × Nat)) (fl : Core → Nat → Nat → Nat) : Prop :=
  ∀ (s u v : State) (d h x : Nat × Nat) (dv hv : Nat), s.Inv → s.CoreClean c w →
    ((s.core c).a ai).toNat % z = 0 → ((s.core c).a aj).toNat % z = 0 →
    (s.core c).place ((s.core c).a ai).toNat z = some d → (s.core c).place ((s.core c).a aj).toNat z = some h →
    (s.core c).place ((s.core c).a ai + BitVec.ofNat 32 z).toNat z = some x → s.storeFault c x.1 x.2 z = none →
    s.loadAt c d.1 d.2 z = .ok u dv → u.loadAt c h.1 h.2 z = .ok v hv → ∃ t, exec i s = .next t
      ∧ (∀ r ∈ acc (s.core c) dv hv, (t.core c).Lands (s.core c).bank r.1 r.2.1 (r.2.2 - 1))
      ∧ (ai ≠ aj → (t.core c).Lands (s.core c).bank (32 + ai) (((s.core c).a ai - BitVec.ofNat 32 z).setWidth 72) 0)
      ∧ (t.core c).Lands (s.core c).bank (32 + aj)
          ((if dir = 0 then (s.core c).a aj - BitVec.ofNat 32 z else (s.core c).a aj + BitVec.ofNat 32 z).setWidth 72) 0
      ∧ MemFrame s (v.storeAt c x.1 x.2 (leBytes z dv)) t c ((acc (s.core c) dv hv).map (fun r => r.1) ++ [32 + ai.val, 32 + aj.val])
          (fl (s.core c) dv hv)

/-! ### Branches and loops -/

/-- PC + 4 × a signed offset in words (R269). -/
def Core.branchTo (k : Core) (ofs : BitVec 16) : Nat := (((k.pc : Int) + 4 * ofs.toInt) % 65536).toNat

/-- The conditions of B on Ga as a signed integer (R269). -/
def CondTaken (cond : Nat) (x : Int) : Prop :=
  (cond = 0) ∨ (cond = 1 ∧ x = 0) ∨ (cond = 2 ∧ x ≠ 0) ∨ (cond = 3 ∧ x < 0) ∨ (cond = 4 ∧ 0 ≤ x) ∨ (cond = 5 ∧ 0 < x) ∨ (cond = 6 ∧ x ≤ 0)

/-- After a branch of core `c` at PC: its delay slot issues next, then `target` where it is taken; each active loop whose body
does not hold a taken target is over (R269, R270). -/
def Branched (s t : State) (c : Nat) (target : Option Nat) : Prop :=
  (t.core c).pc = ((s.core c).pc + 4) % 2 ^ 16 ∧ (t.core c).slot = some ((s.core c).pc, target) ∧ (t.core c).reti = (s.core c).reti
  ∧ (t.core c).bank = (s.core c).bank
  ∧ ∀ l, l < 2 → (t.core c).bs (1 + 3 * l) =
      if (match target with
          | some x => (s.core c).loopOn l && (decide (x < (s.core c).ls l) || decide ((s.core c).le l < x))
          | none => false) then 0
      else (s.core c).bs (1 + 3 * l)

end Sys2Proof.Machine
end

