-- ==== Sys2Proof/WellFormed.lean ====
section
/-!
DEFINITION. Which commands a sender may form: the limits the spec sets on what crosses a pin, a link or the bus. A command that
is not well formed still has its meaning in Machine/Dispatch.lean; these are the terms the outside world can make.
-/
namespace Sys2Proof

/-- A BAR2 access of `n` bytes at an offset: some bytes, at most 4 KiB, within the 1 MiB window (R307). -/
def bar2Wf (off : BitVec 20) (n : Nat) : Bool := decide (1 ≤ n) && decide (n ≤ 4096) && decide (off.toNat + n ≤ 2 ^ 20)

/-- A frame: its LEN field is 16 bits wide (R368). -/
def frameWf (f : Frame) : Bool := decide (f.payload.length < 2 ^ 16)

/-- Is a command one that can reach the module? Every command not named here is well formed with any operands of its types. -/
def Instr.wf : Instr → Bool
  | .registerWrite off _ _ => off.toNat % 4 == 0
  | .readClear off => off.toNat % 4 == 0
  | .exchangeRead path => match path with
    | .bar2 off n => bar2Wf off n.toNat
    | .frame _ => true
  | .exchangeWrite path => match path with
    | .bar2 off data => bar2Wf off data.length
    | .frame _ => true
  | .frameArrival _ f _ _ _ => frameWf f
  | .tdmInputBlockReady _ _ frames => frames.all (fun l => decide (l.length ≤ 16))
  | .watchdogExpiry _ stack => decide (stack.length ≤ 10)
  | .serialTx _ _ host => decide (host.length ≤ 65535)
  | .loadMaquette _ _ host => decide (host.length ≤ 131072)
  | .rollingUpdate _ _ host => decide (host.length ≤ 491520)
  | .signed _ host => decide (host.length ≤ 128)
  | .password _ host => decide (host.length ≤ 16)
  | .fabricSend _ _ host => decide (host.length ≤ 2032)
  | _ => true

end Sys2Proof
end

