-- ==== Sys2Proof/Certificates/Slice0/Obligations.lean ====
section
/-!
DEFINITION. The statements for the provers.
-/
open Sys2Proof Sys2Proof.Machine

/-- R259, whole: every function of the ALU group, its result and its latency; 32-bit two's complement that wraps. No flag. -/
def Obligations.AluResult : Prop :=
  ∀ (c : Fin 20) (d a b : Fin 32),
    Computes c (wA 0x01 d a b 0x000) (.add c d a b) (fun k => intoG d (k.g a + k.g b) 1) (fun _ => 0)
  ∧ Computes c (wA 0x01 d a b 0x001) (.sub c d a b) (fun k => intoG d (k.g a - k.g b) 1) (fun _ => 0)
  ∧ Computes c (wA 0x01 d a b 0x002) (.and c d a b) (fun k => intoG d (k.g a &&& k.g b) 1) (fun _ => 0)
  ∧ Computes c (wA 0x01 d a b 0x003) (.or c d a b) (fun k => intoG d (k.g a ||| k.g b) 1) (fun _ => 0)
  ∧ Computes c (wA 0x01 d a b 0x004) (.xor c d a b) (fun k => intoG d (k.g a ^^^ k.g b) 1) (fun _ => 0)
  ∧ Computes c (wA 0x01 d a b 0x005) (.shl c d a b) (fun k => intoG d (k.g a <<< (k.g b &&& 31)) 1) (fun _ => 0)
  ∧ Computes c (wA 0x01 d a b 0x006) (.shr c d a b) (fun k => intoG d (k.g a >>> (k.g b &&& 31)) 1) (fun _ => 0)
  ∧ Computes c (wA 0x01 d a b 0x007) (.sar c d a b) (fun k => intoG d ((k.g a).sshiftRight' (k.g b &&& 31)) 1) (fun _ => 0)
  ∧ Computes c (wA 0x01 d a b 0x008) (.shli c d a b) (fun k => intoG d (k.g a <<< b.val) 1) (fun _ => 0)
  ∧ Computes c (wA 0x01 d a b 0x009) (.shri c d a b) (fun k => intoG d (k.g a >>> b.val) 1) (fun _ => 0)
  ∧ Computes c (wA 0x01 d a b 0x00A) (.sari c d a b) (fun k => intoG d ((k.g a).sshiftRight b.val) 1) (fun _ => 0)
  ∧ Computes c (wA 0x01 d a b 0x00B) (.min c d a b)
      (fun k => intoG d (BitVec.ofInt 32 (min (k.g a).toInt (k.g b).toInt)) 1) (fun _ => 0)
  ∧ Computes c (wA 0x01 d a b 0x00C) (.max c d a b)
      (fun k => intoG d (BitVec.ofInt 32 (max (k.g a).toInt (k.g b).toInt)) 1) (fun _ => 0)
  ∧ Computes c (wA 0x01 d a b 0x00D) (.slt c d a b)
      (fun k => intoG d (if (k.g a).toInt < (k.g b).toInt then 1 else 0) 1) (fun _ => 0)
  ∧ Computes c (wA 0x01 d a b 0x00E) (.sltu c d a b)
      (fun k => intoG d (if (k.g a).toNat < (k.g b).toNat then 1 else 0) 1) (fun _ => 0)
  ∧ Computes c (wA 0x01 d a b 0x00F) (.seq c d a b) (fun k => intoG d (if k.g a = k.g b then 1 else 0) 1) (fun _ => 0)
  ∧ Computes c (wA 0x01 d a b 0x010) (.mul c d a b)
      (fun k => intoG d (BitVec.ofInt 32 ((k.g a).toInt * (k.g b).toInt)) 3) (fun _ => 0)
  ∧ Computes c (wA 0x01 d a b 0x011) (.mvag c d a b) (fun k => intoG d (k.a (b % 8)) 1) (fun _ => 0)
  ∧ Computes c (wA 0x01 d a b 0x012) (.mvga c d a b) (fun k => intoA (d % 8) (k.g a) 1) (fun _ => 0)
  ∧ Computes c (wA 0x01 d a b 0x013) (.clz c d a b) (fun k => intoG d (k.g a).clz 1) (fun _ => 0)

/-- R258, its immediate rows and NOP: result and latency. ADDA with a field a that is not 0 is ILLEGAL and not of this form. -/
def Obligations.ImmediateResult : Prop :=
  ∀ (c : Fin 20) (d a : Fin 32) (imm : BitVec 16) (z : BitVec 26),
    Computes c (wI 0x02 d a imm.toNat) (.addi c d a imm) (fun k => intoG d (k.g a + imm.signExtend 32) 1) (fun _ => 0)
  ∧ Computes c (wI 0x03 d a imm.toNat) (.andi c d a imm) (fun k => intoG d (k.g a &&& imm.zeroExtend 32) 1) (fun _ => 0)
  ∧ Computes c (wI 0x04 d a imm.toNat) (.ori c d a imm) (fun k => intoG d (k.g a ||| imm.zeroExtend 32) 1) (fun _ => 0)
  ∧ Computes c (wI 0x05 d a imm.toNat) (.xori c d a imm) (fun k => intoG d (k.g a ^^^ imm.zeroExtend 32) 1) (fun _ => 0)
  ∧ Computes c (wI 0x06 d a imm.toNat) (.movi c d a imm) (fun _ => intoG d (imm.signExtend 32) 1) (fun _ => 0)
  ∧ Computes c (wI 0x07 d a imm.toNat) (.movih c d a imm) (fun k => intoG d (imm ++ (k.g d).extractLsb' 0 16) 1) (fun _ => 0)
  ∧ Computes c (wI 0x16 d 0 imm.toNat) (.adda c d 0 imm) (fun k => intoA (d % 8) (k.a (d % 8) + imm.signExtend 32) 1) (fun _ => 0)
  ∧ Computes c z.toNat (.nop c z) (fun _ => []) (fun _ => 0)

/-- R260, the binary32 functions: each result is the shared operation of its row, with the flags it raises (R253).
(The model's choices in it: log entries 12, 13, 47, 48 and 140.) -/
def Obligations.FpuResult : Prop :=
  ∀ (c : Fin 20) (d a b : Fin 32),
    ComputesF c (wA 0x18 d a b 0x000) (.fadd c d a b) d 3 (fun k => FRes.of (fAddF (k.g a) (k.g b)))
  ∧ ComputesF c (wA 0x18 d a b 0x001) (.fsub c d a b) d 3 (fun k => FRes.of (fAddF (k.g a) (k.g b ^^^ 0x80000000)))
  ∧ ComputesF c (wA 0x18 d a b 0x002) (.fmul c d a b) d 3 (fun k => FRes.of (fMulF (k.g a) (k.g b)))
  ∧ ComputesF c (wA 0x18 d a b 0x003) (.fmin c d a b) d 1 (fun k => fMinMax false (k.g a) (k.g b))
  ∧ ComputesF c (wA 0x18 d a b 0x004) (.fmax c d a b) d 1 (fun k => fMinMax true (k.g a) (k.g b))
  ∧ ComputesF c (wA 0x18 d a b 0x005) (.fabs c d a b) d 1 (fun k => (k.g a &&& 0x7FFFFFFF, 0))
  ∧ ComputesF c (wA 0x18 d a b 0x006) (.fneg c d a b) d 1 (fun k => (k.g a ^^^ 0x80000000, 0))
  ∧ ComputesF c (wA 0x18 d a b 0x007) (.fslt c d a b) d 1 (fun k =>
      if fIsNaN (k.g a) ∨ fIsNaN (k.g b) then (0, 2) else (if fLt (k.g a) (k.g b) then 1 else 0, 0))
  ∧ ComputesF c (wA 0x18 d a b 0x008) (.fseq c d a b) d 1 (fun k =>
      if fIsNaN (k.g a) ∨ fIsNaN (k.g b) then (0, 2) else (if fEq (k.g a) (k.g b) then 1 else 0, 0))
  ∧ ComputesF c (wA 0x18 d a b 0x009) (.ftoi c d a b) d 3 (fun k => fToFix (k.g a) 0)
  ∧ ComputesF c (wA 0x18 d a b 0x00A) (.itof c d a b) d 3 (fun k => FRes.of (fRoundI (k.g a).toInt 0))
  ∧ ComputesF c (wA 0x18 d a b 0x00B) (.ftoq c d a b) d 3 (fun k => fToFix (k.g a) 31)
  ∧ ComputesF c (wA 0x18 d a b 0x00C) (.qtof c d a b) d 3 (fun k => FRes.of (fRoundI (k.g a).toInt (-31)))
  ∧ ComputesF c (wA 0x18 d a b 0x00D) (.ffloor c d a b) d 3 (fun k => fFloor (k.g a))
  ∧ ComputesF c (wA 0x18 d a b 0x00E) (.ffrac c d a b) d 3 (fun k => fFract (k.g a))
  ∧ ComputesF c (wA 0x18 d a b 0x020) (.frcp c d a b) d 6 (fun k => fRcp (k.g a))
  ∧ ComputesF c (wA 0x18 d a b 0x021) (.frsq c d a b) d 6 (fun k => fRsq (k.g a))
  ∧ ComputesF c (wA 0x18 d a b 0x022) (.fexp2 c d a b) d 6 (fun k => fExp2Core (k.g a))
  ∧ ComputesF c (wA 0x18 d a b 0x023) (.flog2 c d a b) d 6 (fun k => fLog2Core (k.g a))
  ∧ ComputesF c (wA 0x18 d a b 0x024) (.fsin2p c d a b) d 6 (fun k => fSinCore (k.g a))
  ∧ ComputesF c (wA 0x18 d a b 0x025) (.ftanp c d a b) d 6 (fun k => fTanCore (k.g a))

/-- R258, R260: the Q1.31 functions as integers, saturating with SAT; FMA and FMS by MODE, rounded once, in MODE 1 ties upward.
(The model's choices in it: log entry 48.) -/
def Obligations.FixedResult : Prop :=
  ∀ (c : Fin 20) (d a b e : Fin 32),
    ComputesF c (wA 0x18 d a b 0x010) (.qadd c d a b) d 1 (fun k =>
      let x := (k.g a).toInt + (k.g b).toInt; (BitVec.ofInt 32 (clamp32 x), satFlag x))
  ∧ ComputesF c (wA 0x18 d a b 0x011) (.qsub c d a b) d 1 (fun k =>
      let x := (k.g a).toInt - (k.g b).toInt; (BitVec.ofInt 32 (clamp32 x), satFlag x))
  ∧ ComputesF c (wA 0x18 d a b 0x012) (.qmul c d a b) d 3 (fun k =>
      let x := ((k.g a).toInt * (k.g b).toInt + 2 ^ 30) / 2 ^ 31; (BitVec.ofInt 32 (clamp32 x), satFlag x))
  ∧ ComputesF c (wF 0x19 d a b e 0) (.fma c d a b e 0) d 3 (fun k =>
      if k.q then
        let x := ((k.g e).toInt * 2 ^ 31 + (k.g a).toInt * (k.g b).toInt + 2 ^ 30) / 2 ^ 31; (BitVec.ofInt 32 (clamp32 x), satFlag x)
      else FRes.of (fFmaF (k.g a) (k.g b) (k.g e)))
  ∧ ComputesF c (wF 0x1A d a b e 0) (.fms c d a b e 0) d 3 (fun k =>
      if k.q then
        let x := ((k.g e).toInt * 2 ^ 31 - (k.g a).toInt * (k.g b).toInt + 2 ^ 30) / 2 ^ 31; (BitVec.ofInt 32 (clamp32 x), satFlag x)
      else FRes.of (fFmaF (k.g a ^^^ 0x80000000) (k.g b) (k.g e)))

/-- R261, whole: every function of the MAC group over the accumulator as the chain sees it (R267), by MODE; the complex forms
name even registers, and bits [7:0] are 0.
(The model's choices in it: log entry 140.) -/
def Obligations.MacResult : Prop :=
  ∀ (c : Fin 20) (k : Fin 4) (x y : Fin 32),
    ComputesRe c (wX 0x20 k x y 0x00 0) (.mac c k x y 0) k (fun r => macPart r.q (some (r.accChain (2 * k))) [(false, r.g x, r.g y)])
  ∧ ComputesRe c (wX 0x20 k x y 0x01 0) (.msu c k x y 0) k (fun r => macPart r.q (some (r.accChain (2 * k))) [(true, r.g x, r.g y)])
  ∧ ComputesAcc c (wX 0x20 k x y 0x06 0) (.clra c k x y 0) k (fun _ => (0, 0)) (fun _ => (0, 0))
  ∧ ComputesAcc c (wX 0x20 k x y 0x07 0) (.mvgacc c k x y 0) k
      (fun r => (if r.q then BitVec.ofInt 72 ((r.g x).toInt * 2 ^ 32) else (r.g x).setWidth 72, 0))
      (fun r => (if r.q then BitVec.ofInt 72 ((r.g y).toInt * 2 ^ 32) else (r.g y).setWidth 72, 0))
  ∧ ComputesAcc c (wX 0x20 k x y 0x08 0) (.mula c k x y 0) k (fun r => macPart r.q none [(false, r.g x, r.g y)]) (fun _ => (0, 0))
  ∧ (x.val % 2 = 0 → y.val % 2 = 0 →
      ComputesAcc c (wX 0x20 k x y 0x02 0) (.cmac c k x y 0) k
        (fun r => macPart r.q (some (r.accChain (2 * k))) [(false, r.g x, r.g y), (true, r.g (x + 1), r.g (y + 1))])
        (fun r => macPart r.q (some (r.accChain (2 * k + 1))) [(false, r.g x, r.g (y + 1)), (false, r.g (x + 1), r.g y)])
    ∧ ComputesAcc c (wX 0x20 k x y 0x03 0) (.cmsu c k x y 0) k
        (fun r => macPart r.q (some (r.accChain (2 * k))) [(true, r.g x, r.g y), (false, r.g (x + 1), r.g (y + 1))])
        (fun r => macPart r.q (some (r.accChain (2 * k + 1))) [(true, r.g x, r.g (y + 1)), (true, r.g (x + 1), r.g y)])
    ∧ ComputesAcc c (wX 0x20 k x y 0x04 0) (.cmul c k x y 0) k
        (fun r => macPart r.q none [(false, r.g x, r.g y), (true, r.g (x + 1), r.g (y + 1))])
        (fun r => macPart r.q none [(false, r.g x, r.g (y + 1)), (false, r.g (x + 1), r.g y)])
    ∧ ComputesAcc c (wX 0x20 k x y 0x05 0) (.cmacj c k x y 0) k
        (fun r => macPart r.q (some (r.accChain (2 * k))) [(false, r.g x, r.g y), (false, r.g (x + 1), r.g (y + 1))])
        (fun r => macPart r.q (some (r.accChain (2 * k + 1))) [(true, r.g x, r.g (y + 1)), (false, r.g (x + 1), r.g y)]))

/-- R255, R256, R258: MVA and MVAC read an accumulator as it has landed, shifted by a signed -8 to 7, by MODE: in MODE 1
rounded to Q1.31 with ties upward and saturated with SAT. -/
def Obligations.MoveAccumulator : Prop :=
  ∀ (c : Fin 20) (d : Fin 32) (k : Fin 4) (part : Fin 2) (sh : BitVec 4),
    ComputesF c (wV 0x21 d k part sh.toNat 0) (.mva c d k part sh 0) d 1 (fun r => moveAcc r.q (r.accSeen (2 * k + part)) sh.toInt)
  ∧ (d.val % 2 = 0 →
      Computes c (wV 0x22 d k 0 sh.toNat 0) (.mvac c d k 0 sh 0)
        (fun r => intoG d (moveAcc r.q (r.accSeen (2 * k)) sh.toInt).1 1 ++ intoG (d + 1) (moveAcc r.q (r.accSeen (2 * k + 1)) sh.toInt).1 1)
        (fun r => (moveAcc r.q (r.accSeen (2 * k)) sh.toInt).2 ||| (moveAcc r.q (r.accSeen (2 * k + 1)) sh.toInt).2))
  ∧ (∀ v : BitVec 72, moveAcc true v sh.toInt =
      (let x := (v.toInt + 2 ^ (31 - sh.toInt).toNat) / 2 ^ (32 - sh.toInt).toNat; (BitVec.ofInt 32 (clamp32 x), satFlag x)))

/-- R258, R262 to R264: a load brings its value to its registers after 2 cycles, and Ai, where its mode moves it, after 1;
memory keeps every byte. In every mode, linear or circular, wherever the address stands and the access succeeds.
(The model's choices in it: log entry 51.) -/
def Obligations.LoadResult : Prop :=
  ∀ (c : Fin 20) (g : Fin 32) (ai : Fin 8) (mode : Fin 4) (circ : Fin 2) (slot : Fin 8) (imm : BitVec 12),
    Loads c (wM 0x14 g ai mode circ slot imm.toNat) (.lda c g ai mode circ slot imm) ai mode circ slot imm 4
      (fun v => intoA (g % 8) (BitVec.ofNat 32 v) 2)
  ∧ Loads c (wM 0x10 g ai mode circ slot imm.toNat) (.ld c g ai mode circ slot imm) ai mode circ slot imm 4
      (fun v => intoG g (BitVec.ofNat 32 v) 2)
  ∧ (g.val % 2 = 0 →
      Loads c (wM 0x12 g ai mode circ slot imm.toNat) (.ldp c g ai mode circ slot imm) ai mode circ slot imm 8
        (fun v => intoG g (BitVec.ofNat 32 v) 2 ++ intoG (g + 1) (BitVec.ofNat 32 (v / 2 ^ 32)) 2))

/-- R258, R262: a store writes the register it names, by the access the spec gives its address, and moves Ai by its mode.
(The model's choices in it: log entry 50.) -/
def Obligations.StoreResult : Prop :=
  ∀ (c : Fin 20) (g : Fin 32) (ai : Fin 8) (mode : Fin 4) (circ : Fin 2) (slot : Fin 8) (imm : BitVec 12),
    Stores c (wM 0x11 g ai mode circ slot imm.toNat) (.st c g ai mode circ slot imm) ai mode circ slot imm 4 (fun k => (k.g g).toNat)
  ∧ Stores c (wM 0x15 g ai mode circ slot imm.toNat) (.sta c g ai mode circ slot imm) ai mode circ slot imm 4
      (fun k => (k.a (g % 8)).toNat)
  ∧ (g.val % 2 = 0 →
      Stores c (wM 0x13 g ai mode circ slot imm.toNat) (.stp c g ai mode circ slot imm) ai mode circ slot imm 8
        (fun k => (k.g g).toNat + 2 ^ 32 * (k.g (g + 1)).toNat))

/-- R262, R263: the address of a memory instruction by its mode, the write-back of Ai, and the faults ALIGN (1) and ACCESS (2).
(The model's choices in it: log entry 53.) -/
def Obligations.EffectiveAddress : Prop :=
  ∀ (s : State) (c ai mode slot : Nat) (imm : BitVec 12) (z : Nat), mode < 4 → z = 4 ∨ z = 8 →
    let k := s.core c
    let step : BitVec 32 := (if mode = 2 then k.g (imm.toNat % 32) else imm.signExtend 32) * BitVec.ofNat 32 z
    let addr : BitVec 32 := if mode = 0 ∨ mode = 3 then k.a ai + step else k.a ai
    (addr.toNat % z ≠ 0 → s.ea c ai mode false slot imm z = .error 1)
  ∧ (addr.toNat % z = 0 → k.place addr.toNat z = none → s.ea c ai mode false slot imm z = .error 2)
  ∧ (∀ sp x, addr.toNat % z = 0 → k.place addr.toNat z = some (sp, x) →
      s.ea c ai mode false slot imm z = .ok ⟨[(sp, x, z)], if mode = 0 then none else some (k.a ai + step)⟩)
  ∧ (¬(bit (k.wmap.getD slot 0) 31 = true ∧ s.win (k.wmap.getD slot 0 % 64) 0 = 1) → s.ea c ai mode true slot imm z = .error 2)
  ∧ (bit (k.wmap.getD slot 0) 31 = true → s.win (k.wmap.getD slot 0 % 64) 0 = 1 → ∃ e : Ea, s.ea c ai mode true slot imm z = .ok e
      ∧ e.pieces.length = z / 4
      ∧ (let w := k.wmap.getD slot 0 % 64
         let len : Int := (max 1 (s.win w 3) : Nat)
         let d : Int := (if mode = 2 then (k.g (imm.toNat % 32)).toInt else imm.toInt) * (z / 4 : Nat)
         let o : Int := if mode = 0 ∨ mode = 3 then ((k.a ai).toNat : Int) + d else ((k.a ai).toNat : Int)
         (∀ i, i < z / 4 → e.pieces[i]? = some (s.win w 1 + 1, 4 * (s.win w 2 + ((o + i) % len).toNat), 4))
         ∧ e.back = if mode = 0 then none else some (BitVec.ofInt 32 ((((k.a ai).toNat : Int) + d) % len))))

/-- R245, R247, R487: what a load reads and a store writes. A DMEM word is read without a freeze, or raises ECC where it is
spoilt; a store to DMEM changes exactly its bytes; a store to shared SRAM or DRAM enters the store buffer behind the others,
the oldest written first where it was full, and no other byte of memory changes.
(The model's choices in it: log entries 50 and 51.) -/
def Obligations.DataAccess : Prop :=
  ∀ (s : State) (c : Fin 20) (a n : Nat) (b : List (BitVec 8)), s.Inv →
    ((s.core c).dmemBad.contains (a / 8) = false → (s.core c).dmemSoft.contains (a / 8) = false →
      s.loadAt c 0 a n = .ok s (leNat ((s.core c).dmem.bytes a n)))
  ∧ ((s.core c).dmemBad.contains (a / 8) = true → ∃ u, s.loadAt c 0 a n = .fault 3 u)
  ∧ (let t := s.storeAt c 0 a b
     (t.core c).dmem.bytes a b.length = b ∧ (∀ x, x < a ∨ a + b.length ≤ x → (t.core c).dmem.byte x = (s.core c).dmem.byte x)
     ∧ MemKept s t)
  ∧ (∀ sp, sp = 2 ∨ sp = 1 ∧ ¬(dmaBase + 32 * c.val ≤ a ∧ a + b.length ≤ dmaBase + 32 * c.val + 32) →
     let t := s.storeAt c sp a b
     ((s.core c).stores.length < 4 → (t.core c).stores = (s.core c).stores ++ [(sp, a, b)] ∧ MemKept s t)
     ∧ (∀ e rest, (s.core c).stores = e :: rest → 4 ≤ (s.core c).stores.length →
         (t.core c).stores = rest ++ [(sp, a, b)] ∧ t.sram = (s.drainStore e).sram ∧ t.dram = (s.drainStore e).dram)
     ∧ (t.core c).dmem = (s.core c).dmem)
  ∧ (s.storeFault c 1 a n = some 2 ↔ ¬(dmaBase + 32 * c.val ≤ a ∧ a + n ≤ dmaBase + 32 * c.val + 32)
      ∧ ¬(s.bankOn (bankOf a) = true ∧ (a + n ≤ 0x16C0000 ∨ 0x1780000 ≤ a)))
  ∧ s.storeFault c 0 a n = none ∧ s.storeFault c 2 a n = none

/-- R268: TAP and CTAP accumulate the product of coefficient and datum, move the datum one place older, and step both
addresses; bits [16:0] are 0.
(The model's choices in it: log entry 52.) -/
def Obligations.TapResult : Prop :=
  ∀ (c : Fin 20) (k : Fin 4) (ai aj : Fin 8) (dir : Fin 2),
    Taps c (wT 0x24 k ai aj dir 0) (.tap c k ai aj dir 0) ai aj dir 4
      (fun r d h => [(40 + 2 * k, (macPart r.q (some (r.accChain (2 * k))) [(false, BitVec.ofNat 32 h, BitVec.ofNat 32 d)]).1, 3)])
      (fun r d h => (macPart r.q (some (r.accChain (2 * k))) [(false, BitVec.ofNat 32 h, BitVec.ofNat 32 d)]).2)
  ∧ (let re (r : Core) (d h : Nat) := macPart r.q (some (r.accChain (2 * k)))
        [(false, BitVec.ofNat 32 h, BitVec.ofNat 32 d), (true, BitVec.ofNat 32 (h / 2 ^ 32), BitVec.ofNat 32 (d / 2 ^ 32))]
     let im (r : Core) (d h : Nat) := macPart r.q (some (r.accChain (2 * k + 1)))
        [(false, BitVec.ofNat 32 h, BitVec.ofNat 32 (d / 2 ^ 32)), (false, BitVec.ofNat 32 (h / 2 ^ 32), BitVec.ofNat 32 d)]
     Taps c (wT 0x25 k ai aj dir 0) (.ctap c k ai aj dir 0) ai aj dir 8
      (fun r d h => intoAcc k (re r d h).1 (im r d h).1) (fun r d h => (re r d h).2 ||| (im r d h).2))

/-- R269: B, JMP and CALL outside a delay slot and the end of a loop body: the delay slot issues next, then the target where
the branch is taken; CALL leaves PC + 8 in G31. Where a field or the place is refused, or a JMP target is not a multiple of 4, the
instruction raises ILLEGAL (0) or ALIGN (1). -/
def Obligations.BranchResult : Prop :=
  ∀ (c : Fin 20) (cond : Fin 16) (z : Fin 2) (d a b : Fin 32) (ofs : BitVec 16) (f : BitVec 11) (s : State), s.Inv →
    (s.CoreClean c (wB 0x30 cond z a ofs.toNat) → cond.val ≤ 6 → z = 0 → (s.core c).badPlace = false → ∀ target,
      (CondTaken cond ((s.core c).g a).toInt → target = some ((s.core c).branchTo ofs)) →
      (¬CondTaken cond ((s.core c).g a).toInt → target = none) →
      ∃ t, exec (.b c cond z a ofs) s = .next t ∧ Branched s t c target ∧ CoreFrame s t c [] [] 0)
  ∧ (s.CoreClean c (wA 0x31 d a b f.toNat) → ((s.core c).g a).toNat % 4 = 0 → (s.core c).badPlace = false →
      ∃ t, exec (.jmp c d a b f) s = .next t ∧ Branched s t c (some (((s.core c).g a).toNat % 2 ^ 16)) ∧ CoreFrame s t c [] [] 0)
  ∧ (s.CoreClean c (wB 0x32 cond z a ofs.toNat) → cond = 0 → z = 0 → (s.core c).badPlace = false →
      ∃ t, exec (.call c cond z a ofs) s = .next t ∧ Branched s t c (some ((s.core c).branchTo ofs))
        ∧ (t.core c).Lands (s.core c).bank 31 ((BitVec.ofNat 32 ((s.core c).pc + 8)).setWidth 72) 0 ∧ CoreFrame s t c [31] [] 0)
  ∧ (s.CoreClean c (wB 0x30 cond z a ofs.toNat) → 6 < cond.val ∨ z ≠ 0 ∨ (s.core c).badPlace = true →
      exec (.b c cond z a ofs) s = .next (s.takeFault c 0))
  ∧ (s.CoreClean c (wB 0x32 cond z a ofs.toNat) → cond ≠ 0 ∨ z ≠ 0 ∨ (s.core c).badPlace = true →
      exec (.call c cond z a ofs) s = .next (s.takeFault c 0))
  ∧ (s.CoreClean c (wA 0x31 d a b f.toNat) → (s.core c).badPlace = true → exec (.jmp c d a b f) s = .next (s.takeFault c 0))
  ∧ (s.CoreClean c (wA 0x31 d a b f.toNat) → (s.core c).badPlace = false → ((s.core c).g a).toNat % 4 ≠ 0 →
      exec (.jmp c d a b f) s = .next (s.takeFault c 1))

/-- R270: LOOP sets LC, LS and LE of its level, and its body issues next; a count of 0 skips the body and starts no loop. Where
it may not stand it raises ILLEGAL.
(The model's choices in it: log entry 55.) -/
def Obligations.LoopResult : Prop :=
  ∀ (c : Fin 20) (level : Fin 2) (len : BitVec 10) (src : Fin 2) (cnt : BitVec 14) (s : State), s.Inv →
    s.CoreClean c (wL 0x33 level len.toNat src cnt.toNat) →
    let k := s.core c
    let n := if src = 1 then (k.g (cnt.toNat % 32)).toNat else cnt.toNat
    let ls := (k.pc + 4) % 2 ^ 16
    let le := (k.pc + 4 * (len.toNat + 1)) % 2 ^ 16
    let legal := k.badPlace = false ∧ k.loopOn level = false
      ∧ (level = 1 → k.loopOn 0 = true ∧ k.ls 0 ≤ k.pc ∧ k.pc ≤ k.le 0 ∧ ls ≤ le ∧ le ≤ k.le 0)
    (legal → n ≠ 0 → ∃ t, exec (.loop c level len src cnt) s = .next t
        ∧ (t.core c).bs (1 + 3 * level) = n ∧ (t.core c).bs (2 + 3 * level) = ls ∧ (t.core c).bs (3 + 3 * level) = le
        ∧ (t.core c).bs (1 + 3 * (1 - level.val)) = k.bs (1 + 3 * (1 - level.val))
        ∧ (t.core c).pc = ls ∧ (t.core c).slot = none ∧ CoreFrame s t c [] [1 + 3 * level, 2 + 3 * level, 3 + 3 * level] 0)
  ∧ (legal → n = 0 → ∃ t, exec (.loop c level len src cnt) s = .next t
        ∧ (∀ m, (m = 1 ∨ m = 4) → (t.core c).bs m = k.bs m) ∧ (t.core c).pc = (le + 4) % 2 ^ 16 ∧ (t.core c).slot = none
        ∧ CoreFrame s t c [] [] 0)
  ∧ (¬legal → exec (.loop c level len src cnt) s = .next (s.takeFault c 0))

/-- R269, R270, R274, shown by NOP: after an instruction that moves no PC itself, the next position issues, or LS of the innermost
active body that ends there, with LC one less while it is above 1, and 0 with the loop over after the last pass; after a delay
slot a taken target issues; and after the delay slot of RETI, EPC in bank EBANK with GIE set.
(The model's choices in it: log entries 55 and 63.) -/
def Obligations.NextInstruction : Prop :=
  ∀ (c : Fin 20) (z : BitVec 26) (s : State), s.Inv → s.CoreClean c z.toNat →
    let k := s.core c
    ∃ t, exec (.nop c z) s = .next t
      ∧ (k.slot = none → k.loopOn 0 = false → k.loopOn 1 = false → (t.core c).pc = (k.pc + 4) % 2 ^ 16)
      ∧ (k.slot = none → k.loopOn 1 = true → k.le 1 = k.pc → 1 < k.bs 4 → (t.core c).pc = k.ls 1 ∧ (t.core c).bs 4 = k.bs 4 - 1)
      ∧ (k.slot = none → k.loopOn 1 = false → k.loopOn 0 = true → k.le 0 = k.pc → 1 < k.bs 1 →
          (t.core c).pc = k.ls 0 ∧ (t.core c).bs 1 = k.bs 1 - 1)
      ∧ (k.slot = none → k.loopOn 1 = false → k.loopOn 0 = true → k.le 0 = k.pc → k.bs 1 = 1 →
          (t.core c).pc = (k.pc + 4) % 2 ^ 16 ∧ (t.core c).bs 1 = 0)
      ∧ (∀ p x, k.slot = some (p, some x) → k.reti = false → (t.core c).pc = x ∧ (t.core c).slot = none)
      ∧ (∀ p o, k.slot = some (p, o) → k.reti = true → (t.core c).pc = k.epc % 2 ^ 16 / 4 * 4 ∧ (t.core c).slot = none
          ∧ (t.core c).bank = k.ebank % 4 ∧ (t.core c).ie = k.ie % 2 ^ 31 + 2 ^ 31)
      ∧ CoreFrame s t c [] [] 0

/-- R251, R256: SWB makes bank n current for the next instruction and moves nothing else; with n = 3 or above, or in B3, it
raises ILLEGAL. SETM sets MODE to bit 10 and clears the bank's accumulators, readable by MVA after 3 cycles.
(The model's choices in it: log entry 54.) -/
def Obligations.BankSwitch : Prop :=
  ∀ (c : Fin 20) (r u v m : Fin 32) (n : Fin 64) (s : State), s.Inv →
    (s.CoreClean c (wS 0x34 r u n v m) → n.val < 3 → (s.core c).bank ≠ 3 → (s.core c).reti = false →
      ∃ t, exec (.swb c r u n v m) s = .next t ∧ (t.core c).bank = n ∧ CoreFrame s t c [] [] 0)
  ∧ (s.CoreClean c (wS 0x34 r u n v m) → 3 ≤ n.val ∨ (s.core c).bank = 3 → exec (.swb c r u n v m) s = .next (s.takeFault c 0))
  ∧ (s.CoreClean c (wS 0x3A r u n v m) →
      let mode : State := s.modCore c (fun k => k.setBs 0 (k.bs 0 / 2 * 2 + n.val % 2))
      ∃ t, exec (.setm c r u n v m) s = .next t ∧ ((mode.core c).q = true ↔ n.val % 2 = 1)
        ∧ (∀ p, p < 8 → (t.core c).Lands (s.core c).bank (40 + p) 0 2)
        ∧ CoreFrame mode t c [40, 41, 42, 43, 44, 45, 46, 47] [] 0)

/-- R250, R271: MVS brings a system register to Gd after 1 cycle: each number's value, an unlisted number reads 0; a read of BLK
clears BOUNDARY and CMD, one of SIGSRC clears it and SIGNAL, one of CYCL latches CYCH for the next read of it; no other number's read changes anything.
(The model's choices in it: log entry 54.) -/
def Obligations.SystemRead : Prop :=
  ∀ (c : Fin 20) (r u v m : Fin 32) (n : Fin 64) (s : State), s.Inv → s.CoreClean c (wS 0x35 r u n v m) →
    let k := s.core c
    let e := s.sysReadEffect c n
    (∃ t, exec (.mvs c r u n v m) s = .next t ∧ (t.core c).Lands k.bank r ((BitVec.ofNat 32 (s.sysRead c n)).setWidth 72) 0
      ∧ CoreFrame e t c [r.val] [] 0)
  ∧ (n.val < 7 → s.sysRead c n = k.bs n)
  ∧ s.sysRead c 0x08 = k.bank ∧ s.sysRead c 0x09 = k.ie ∧ s.sysRead c 0x0A = k.ip ∧ s.sysRead c 0x0B = k.epc
  ∧ s.sysRead c 0x0C = k.ebank ∧ s.sysRead c 0x0D = k.ecause ∧ s.sysRead c 0x0E = k.vbase
  ∧ (0x10 ≤ n.val → n.val < 0x18 → s.sysRead c n = k.wmap.getD (n - 0x10) 0)
  ∧ s.sysRead c 0x18 = k.drb ∧ s.sysRead c 0x19 = k.tmr ∧ s.sysRead c 0x1A = k.tmrld ∧ s.sysRead c 0x1B = k.sigsrc
  ∧ s.sysRead c 0x1C = c ∧ s.sysRead c 0x1D = k.cyc % 2 ^ 32 ∧ s.sysRead c 0x1F = k.blk ∧ s.sysRead c 0x20 = k.tier
  ∧ (∀ h, k.cych = some h → s.sysRead c 0x1E = h) ∧ (k.cych = none → s.sysRead c 0x1E = k.cyc / 2 ^ 32 % 2 ^ 32)
  ∧ (n = 7 ∨ n = 0x0F ∨ 0x20 < n.val → s.sysRead c n = 0)
  ∧ (n ≠ 0x1B → n ≠ 0x1D → n ≠ 0x1E → n ≠ 0x1F → e = s)
  ∧ (n = 0x1B → e.core c = { k with sigsrc := 0, ip := k.ip &&& 0xFFEF })
  ∧ (n = 0x1D → e.core c = { k with cych := some (k.cyc / 2 ^ 32 % 2 ^ 32) })
  ∧ (n = 0x1E → e.core c = { k with cych := none })
  ∧ (n = 0x1F → e.core c = { k with ip := k.ip &&& 0xFFFC })
  ∧ (∃ x, e = s.setCore c x)

/-- R250, R271: MVT writes a system register: each writable number, with the bits it holds; writes to the others are ignored. A
flag of BS is cleared by a 0, MODE stays; a write of TMR holds its value after the instruction and clears TIMER; bit 7 of IE set
while GIE is 0 raises SOFT.
(The model's choices in it: log entry 56.) -/
def Obligations.SystemWrite : Prop :=
  ∀ (c : Fin 20) (r u v m : Fin 32) (n : Fin 64) (s : State), s.Inv → s.CoreClean c (wS 0x36 r u n v m) → n ≠ 0x21 →
    let k := s.core c
    let x := (k.g r).toNat
    let w := s.sysWrite c n (k.g r)
    let k' := w.core c
    (∃ t, exec (.mvt c r u n v m) s = .next t ∧ CoreFrame w t c [] [] 0 ∧ (t.core c).ie % 2 ^ 31 = k'.ie % 2 ^ 31
      ∧ (n = 0x19 → (t.core c).tmr = x))
  ∧ w = s.setCore c k' ∧ k' = { k with
      banks := k'.banks
      ie := if n = 0x09 then x &&& 0x8000FFFF else k.ie
      ip := if n = 0x19 then k.ip &&& 0xFFF7 else if n = 0x09 ∧ bit x 7 ∧ bit k.ie 7 = false ∧ bit k.ie 31 = false then k.ip ||| 0x80 else k.ip
      epc := if n = 0x0B then x else k.epc
      ebank := if n = 0x0C then x % 4 else k.ebank
      vbase := if n = 0x0E then x / 0x800 * 0x800 else k.vbase
      wmap := if 0x10 ≤ n.val ∧ n.val < 0x18 then k.wmap.set (n - 0x10) (x &&& 0x8000003F) else k.wmap
      drb := if n = 0x18 then x % 8 else k.drb
      tmr := if n = 0x19 then (if x = 0 then 0 else x + 1) else k.tmr
      tmrld := if n = 0x1A then x else k.tmrld }
  ∧ (∀ b i, k'.reg b i = k.reg b i)
  ∧ (∀ b j, (k'.bankOf b).bs.getD j 0 = if b = k.bank ∧ n.val = j ∧ j < 7 then
      (if j = 0 then BitVec.ofNat 32 (k.bs 0 &&& (x ||| 1)) else k.g r) else (k.bankOf b).bs.getD j 0)

/-- R274 to R277, R281: RETI returns after its delay slot; WAIT stops issue where no enabled line is pending; SIGNAL, after the
stores before it, sets bit n of core m's SIGSRC and raises line 4 there, unless m is off, benched or in reset; BDONE, after
those stores, marks the core's share complete (a voice core's in the block's list of what was written, with the time; a core of
cluster E is waited for no longer), and one not owed does nothing more; BRK raises BREAK.
(The model's choices in it: log entries 46, 50 and 54.) -/
def Obligations.SignalAndWait : Prop :=
  ∀ (c : Fin 20) (r u v m : Fin 32) (n : Fin 64) (z : BitVec 26) (s : State), s.Inv →
    let k := s.core c
    (s.CoreClean c (0x37 * 2 ^ 26 + z.toNat) → k.badPlace = false →
      ∃ t, exec (.reti c z) s = .next t ∧ (t.core c).slot = some (k.pc, none) ∧ (t.core c).reti = true
        ∧ (t.core c).pc = (k.pc + 4) % 2 ^ 16 ∧ CoreFrame s t c [] [] 0)
  ∧ (s.CoreClean c (0x37 * 2 ^ 26 + z.toNat) → k.badPlace = true → exec (.reti c z) s = .next (s.takeFault c 0))
  ∧ (s.CoreClean c (0x38 * 2 ^ 26 + z.toNat) → (k.ip &&& k.ie) % 2 ^ 16 = 0 → ∃ t, exec (.wait c z) s = .next t
      ∧ t.chState c = 2 ∧ CoreFrame ((s.landAll c).put (Reg.CH_STAT_STATE c) 2) t c [] [] 0)
  ∧ (s.CoreClean c (0x38 * 2 ^ 26 + z.toNat) → (k.ip &&& k.ie) % 2 ^ 16 ≠ 0 → ∃ t, exec (.wait c z) s = .next t
      ∧ t.chState c = 1 ∧ CoreFrame s t c [] [] 0)
  ∧ (s.CoreClean c (wS 0x39 r u n v m) → let f := s.flushStores c
      ∃ t, exec (.signal c r u n v m) s = .next t
      ∧ (20 ≤ m.val ∨ s.chState m = 0 ∨ s.chState m = 5 ∨ s.chState m = 6 → CoreFrame f t c [] [] 0)
      ∧ (m.val < 20 → s.chState m ≠ 0 → s.chState m ≠ 5 → s.chState m ≠ 6 →
          CoreFrame (f.setCore m { f.core m with sigsrc := (f.core m).sigsrc ||| 2 ^ c.val, ip := (f.core m).ip ||| 0x10 }) t c [] [] 0))
  ∧ (s.CoreClean c (wS 0x36 r u 0x21 v m) → let f := s.flushStores c
      exec (.bdone c r u v m) s = .next ((f.bdone c).afterIssue c k none)
      ∧ (f.core c).stores = []
      ∧ (k.owed = false → ∃ t, exec (.bdone c r u v m) s = .next t ∧ t.sch = s.sch ∧ (t.core c).owed = false ∧ CoreFrame f t c [] [] 0)
      ∧ (k.owed = true → s.sch.cur = none → ∃ t, exec (.bdone c r u v m) s = .next t ∧ t.sch = s.sch ∧ (t.core c).owed = false)
      ∧ (∀ b, k.owed = true → s.sch.cur = some b → 16 ≤ c.val → ∃ t, exec (.bdone c r u v m) s = .next t ∧ (t.core c).owed = false
          ∧ t.sch = { s.sch with cur := some { b with waitE := b.waitE.filter (fun x => x != c.val) } })
      ∧ (∀ b, k.owed = true → s.sch.cur = some b → c.val < 16 → b.waiting.contains c.val = true → ∃ t x, exec (.bdone c r u v m) s = .next t
          ∧ t.sch.cur = some { b with waiting := b.waiting.filter (fun y => y != c.val), wrote := b.wrote ++ [c.val], lastBdone := x }))
  ∧ (s.CoreClean c (0x3E * 2 ^ 26 + z.toNat) → exec (.brk c z) s = .next (s.takeFault c 4)
      ∧ (k.bank ≠ 3 → ¬(s.debugOpen = true ∧ s.get (Reg.CH_CTRL_BRK_EN c) = 1) → ∃ t, exec (.brk c z) s = .next t
        ∧ (t.core c).pc = (k.vbase + 0x500) % 2 ^ 16 ∧ (t.core c).ecause = 20 ∧ (t.core c).bank = 3 ∧ (t.core c).ebank = k.bank
        ∧ (t.core c).epc = (match k.slot with | some (b, _) => b | none => k.pc) ∧ (t.core c).ie = k.ie % 2 ^ 31 ∧ t.chState c = 1
        ∧ (∀ n : Nat, n ≠ c.val → t.core n = s.core n)))

/-- R278, whole: a fault outside the handler, whatever GIE is: results in flight land, EPC holds the PC of the faulting instruction, or of the
branch whose delay slot it stands in, ECAUSE 16 + code, EBANK the bank, GIE is 0, B3 is current, and the handler issues from VBASE + 0x400 +
0x40 × code. CHn_FAULT and CHn_FAULT_PC note it; no other core changes. A BREAK that halts the core instead (R279) is not of this kind. -/
def Obligations.HandlerEntry : Prop :=
  ∀ (c : Fin 20) (code : Fin 5) (s : State), s.Inv →
    let k := s.core c
    let t := s.takeFault c code
    k.bank ≠ 3 → ¬(code = 4 ∧ s.debugOpen = true ∧ s.get (Reg.CH_CTRL_BRK_EN c) = 1) →
      (∃ tm ip, t.core c = { (s.landAll c).core c with
        epc := (match k.slot with | some (b, _) => b | none => k.pc), ebank := k.bank, ecause := 16 + code, ie := k.ie % 2 ^ 31
        bank := 3, slot := none, reti := false, resumed := false, pc := (k.vbase + 0x400 + 0x40 * code) % 2 ^ 16
        cyc := k.cyc + 2, tmr := tm, ip := ip })
      ∧ t.get (Reg.CH_FAULT_CODE c) = code ∧ t.get (Reg.CH_FAULT_PC c) = k.pc % 2 ^ 16 ∧ t.get (Reg.CH_FAULT_BANK c) = k.bank
      ∧ t.get (Reg.CH_FAULT_VALID c) = 1 ∧ t.get (Reg.CH_FAULT_DOUBLE c) = 0
      ∧ (∀ n : Nat, n ≠ c.val → t.core n = s.core n) ∧ t.chState c = s.chState c

/-- R279: a BREAK outside the handler while debug is open and BRK_EN is 1 halts the core instead of entering the handler; a fault inside the
handler stops the core FAULTED with DOUBLE set, and where FAULT_ACT is 0 or not honoured its cluster is reset.
(The model's choices in it: log entries 36 and 58.) -/
def Obligations.BreakAndDoubleFault : Prop :=
  ∀ (c : Fin 20) (code : Fin 5) (s : State), s.Inv →
    let k := s.core c
    let t := s.takeFault c code
    (k.bank ≠ 3 → code = 4 → s.debugOpen = true → s.get (Reg.CH_CTRL_BRK_EN c) = 1 →
      t.chState c = 3 ∧ t.cores = (s.landAll c).cores ∧ t.get (Reg.CH_FAULT_CODE c) = 4 ∧ t.get (Reg.CH_FAULT_DOUBLE c) = 0)
  ∧ (k.bank = 3 → s.debugOpen = true → s.get (Reg.CH_CTRL_FAULT_ACT c) = 1 → s.upd = none →
      t.chState c = 4 ∧ t.cores = (s.landAll c).cores ∧ t.get (Reg.CH_FAULT_CODE c) = code ∧ t.get (Reg.CH_FAULT_DOUBLE c) = 1
      ∧ t.get (Reg.CH_FAULT_BANK c) = 3 ∧ t.get (Reg.CH_FAULT_PC c) = k.pc % 2 ^ 16)
  ∧ (k.bank = 3 → ¬(s.debugOpen = true ∧ s.get (Reg.CH_CTRL_FAULT_ACT c) = 1) → s.upd = none → c.val < 16 → 2 ≤ s.schState →
      t.sch.resets = s.sch.resets ++ [c.val / 4] ∧ ∀ n : Nat, n / 4 = c.val / 4 → t.chState n = 0 ∧ t.core n = Core.zero)

/-- R272 to R275: INTERRUPT_ENTRY takes the lowest pending enabled line, where GIE is 1, outside B3, a delay slot and the first
resumed instruction: EPC, EBANK, ECAUSE, GIE 0, B3, PC at VBASE + 0x40 × line; SOFT is cleared. WAIT_RELEASE
ends a wait where an enabled line is pending; TIMER_EXPIRY runs TMR to 0, raises TIMER and reloads TMRLD.
(The model's choices in it: log entry 51.) -/
def Obligations.InterruptEntry : Prop :=
  ∀ (c : Fin 20) (s : State) (l : Nat), s.Inv → s.coreClock = true →
    let k := s.core c
    (l < 16 → bit k.ip l = true → bit k.ie l = true → (∀ j, j < l → ¬(bit k.ip j = true ∧ bit k.ie j = true)) →
      s.chState c = 1 → bit k.ie 31 = true → k.bank ≠ 3 → k.slot = none → k.resumed = false →
      ∃ t, exec (.interruptEntry c) s = .next t
        ∧ (∃ tm ip, t.core c = { (s.landAll c).core c with
              epc := k.pc, ebank := k.bank, ecause := l, ie := k.ie % 2 ^ 31, bank := 3, slot := none, reti := false, resumed := false, pc := (k.vbase + 0x40 * l) % 2 ^ 16, cyc := k.cyc + 2, tmr := tm, ip := ip }
              ∧ (l = 7 → bit ip 7 = false) ∧ (∀ j, j < 16 → j ≠ 7 → j ≠ 3 → bit ip j = bit k.ip j))
        ∧ (∀ n : Nat, n ≠ c.val → t.core n = s.core n) ∧ Moves s t [.cores] [Reg.CH_WCOLL c, Reg.CH_FLAGS_WCOLL c])
  ∧ (s.chState c = 1 → (bit k.ie 31 = false ∨ k.bank = 3 ∨ k.slot.isSome = true ∨ k.resumed = true ∨ k.lines = 0) →
      exec (.interruptEntry c) s = .next s)
  ∧ (s.chState c = 2 → k.lines = 0 → exec (.waitRelease c) s = .next s)
  ∧ (s.chState c = 2 → k.lines ≠ 0 → bit k.ie 31 = false ∨ k.bank = 3 → ∃ t, exec (.waitRelease c) s = .next t
      ∧ t.chState c = 1 ∧ (∃ cy tm ip, t.core c = { k with cyc := cy, tmr := tm, ip := ip }) ∧ Moves s t [.cores, .fresh] [Reg.CH_STAT_STATE c])
  ∧ (s.chState c = 1 ∨ s.chState c = 2 ∨ s.chState c = 3 → k.tmr ≠ 0 → ∃ t, exec (.timerExpiry c) s = .next t
      ∧ t = s.setCore c { k with cyc := k.cyc + k.tmr, tmr := k.tmrld, ip := k.ip ||| 8 })

/-- R283, R284: debug access. Outside BLANK, DEVELOP and SERVICE a write of HALT, STEP or BRK_EN, or of CHn_DBG_DATA, only sets DBG_DENIED and
CHn_DBG_DATA reads 0. While open: HALT halts a running core outside a delay slot with a HALT record; HALT = 0 resumes a HALTED one, past a
breakpoint at its PC; STEP issues the instruction at PC (shown of ADD, whose result has landed), and the core is HALTED again; a HALTED core's G and A registers, memories and accumulators are read and written through CHn_DBG_DATA.
(The model's choices in it: log entries 58, 59 and 64.) -/
def Obligations.DebugAccess : Prop :=
  ∀ (c : Fin 20) (v : BitVec 32) (s : State), s.Inv → s.st.cur = none →
    let k := s.core c
    let o := s.get (Reg.CH_DBG_ADDR_OFFSET c)
    let b := s.get (Reg.CH_DBG_ADDR_BANK c)
    (s.debugOpen = false → ∀ i ∈ [(.coreHalt c v : Instr), .coreStep c v, .coreResume c v], ∃ t, exec i s = .next t
      ∧ t.get (Reg.CH_FLAGS_DBG_DENIED c) = 1 ∧ t.get (Reg.CH_CTRL_FAULT_ACT c) = bits v.toNat 2 1
      ∧ Moves s t [] [Reg.CH_FLAGS_DBG_DENIED c, Reg.CH_CTRL_FAULT_ACT c])
  ∧ (s.debugOpen = false → ∃ t, exec (.debugDataWrite c v) s = .next t
      ∧ t.get (Reg.CH_FLAGS_DBG_DENIED c) = 1 ∧ Moves s t [] [Reg.CH_FLAGS_DBG_DENIED c])
  ∧ (s.debugOpen = false → ∃ t, exec (.debugDataRead c) s = .next t ∧ t.rdata = 0 ∧ Moves s t [.rdata] [])
  ∧ (s.debugOpen = true → bit v.toNat 1 = false → s.chState c = 1 ∨ s.chState c = 2 → k.slot = none → k.land = [] →
      ∃ t x, exec (.coreHalt c v) s = .next (t.event 0x21 (40 + c.val) c 1 0) ∧ t.chState c = 3 ∧ t.cores = s.cores
        ∧ t.get (Reg.CH_CTRL_HALT c) = 1 ∧ t.sch = { s.sch with cur := x }
        ∧ Moves s t [.cores, .sch] [Reg.CH_CTRL_HALT c, Reg.CH_CTRL_BRK_EN c, Reg.CH_CTRL_FAULT_ACT c, Reg.CH_STAT_STATE c])
  ∧ (s.debugOpen = true → bit v.toNat 1 = false → s.chState c = 3 →
      ∃ t, exec (.coreResume c v) s = .next (t.event 0x21 (40 + c.val) c 2 0) ∧ t.chState c = 1
        ∧ t.core c = { k with passed := some k.pc } ∧ (∀ n : Nat, n ≠ c.val → t.core n = s.core n)
        ∧ Moves s t [.cores] [Reg.CH_CTRL_HALT c, Reg.CH_CTRL_BRK_EN c, Reg.CH_CTRL_FAULT_ACT c, Reg.CH_STAT_STATE c])
  ∧ (s.debugOpen = true → s.chState c = 3 → ∃ s0 s1, Moves s s0 [] [Reg.CH_CTRL_HALT c, Reg.CH_CTRL_BRK_EN c, Reg.CH_CTRL_FAULT_ACT c]
      ∧ s1 = ((s0.put (Reg.CH_STAT_STATE c) 1).put (Reg.CH_CTRL_HALT c) 0).setCore c { k with passed := some k.pc }
      ∧ ((s1.stepWord c).renders c = true → ((s1.stepWord c).core c).slot = none →
          exec (.coreStep c v) s = .next ((((s1.stepWord c).put (Reg.CH_CTRL_HALT c) 1).landAll c).put (Reg.CH_STAT_STATE c) 3)))
  ∧ (∀ d x y : Fin 32, s.debugOpen = true → s.chState c = 3 → k.slot = none → k.land = [] → k.loopOn 0 = false → k.loopOn 1 = false →
      k.imemBad.contains (k.pc / 4) = false → k.imemSoft.contains (k.pc / 4) = false → k.imem.nat k.pc 4 = wA 0x01 d x y 0x000 →
      ∃ t, exec (.coreStep c v) s = .next t ∧ t.chState c = 3 ∧ (t.core c).pc = (k.pc + 4) % 2 ^ 16 ∧ (t.core c).cyc = k.cyc + 1
        ∧ (t.core c).reg k.bank d = (k.g x + k.g y).setWidth 72 ∧ t.get (Reg.CH_CTRL_HALT c) = 1
        ∧ (∀ b i, ¬(b = k.bank ∧ i = d.val) → (t.core c).reg b i = k.reg b i) ∧ (∀ n : Nat, n ≠ c.val → t.core n = s.core n)
        ∧ Moves s t [.cores] [Reg.CH_CTRL_HALT c, Reg.CH_CTRL_BRK_EN c, Reg.CH_CTRL_FAULT_ACT c])
  ∧ (s.debugOpen = true → s.chState c = 3 ∨ s.chState c = 4 → s.get (Reg.CH_DBG_ADDR_SPACE c) = 2 → o < 32 →
      (∃ t, exec (.debugDataRead c) s = .next t ∧ t.rdata = ((k.bankOf b).g.getD o 0).toNat ∧ Moves s t [.rdata] [])
      ∧ ∃ t, exec (.debugDataWrite c v) s = .next t ∧ ((t.core c).bankOf b).g.getD o 0 = v
          ∧ (∀ x i, ¬(x = b ∧ i = o) → (t.core c).reg x i = k.reg x i) ∧ Moves s t [.cores] []
          ∧ (∀ n : Nat, n ≠ c.val → t.core n = s.core n))
  ∧ (s.debugOpen = true → s.chState c = 3 ∨ s.chState c = 4 → s.get (Reg.CH_DBG_ADDR_SPACE c) = 1 → o < 0x20000 →
      (∃ t, exec (.debugDataRead c) s = .next t ∧ t.rdata = k.dmem.nat (o / 4 * 4) 4)
      ∧ ∃ t, exec (.debugDataWrite c v) s = .next t ∧ (t.core c).dmem.nat (o / 4 * 4) 4 = v.toNat
          ∧ (∀ x, x / 4 ≠ o / 4 → (t.core c).dmem.byte x = k.dmem.byte x) ∧ o / 8 ∉ (t.core c).dmemBad ∧ Moves s t [.cores] [])

/-! ### The time base -/

/-- R14 to R16: REGISTER_WRITE, READ_CLEAR, SHADOW_LOW_READ. A write with fewer than four byte enables, or unaligned, is ignored; an RW
field takes its bits (shown of TB_WCLK_OFS), a W1C flag is cleared by a 1 and kept by a 0 (TB_FLAGS), an RO register keeps its value
(TB_STAT). A read returns an RC field and clears it (HI_CNT_ACCEPT). A read of a pair's low half latches its high half.
(The model's choices in it: log entry 17.) -/
def Obligations.RegisterAccess : Prop :=
  ∀ (s : State) (off : BitVec 24) (be : BitVec 4) (v : BitVec 32), s.linkOpen = true → s.domOn 3 = true →
    (be ≠ 15 ∨ off.toNat % 4 ≠ 0 → exec (.registerWrite off be v) s = .next s)
  ∧ (s.get Reg.ID_BOOT_STAT_READY = 1 → ∃ t, exec (.registerWrite 0x60028 15 v) s = .next t
      ∧ t.get Reg.TB_WCLK_OFS = v.toNat ∧ Moves s t [] [Reg.TB_WCLK_OFS])
  ∧ (s.get Reg.ID_BOOT_STAT_READY = 1 → ∃ t, exec (.registerWrite 0x60014 15 v) s = .next t
      ∧ (∀ f ∈ [Reg.TB_FLAGS_STEPPED, Reg.TB_FLAGS_OFFSET_ALARM, Reg.TB_FLAGS_RATE_CLAMP, Reg.TB_FLAGS_WCLK0_LOSS, Reg.TB_FLAGS_WCLK1_LOSS,
          Reg.TB_FLAGS_SET_REFUSED, Reg.TB_FLAGS_FS_BUSY, Reg.TB_FLAGS_REF_REFUSED, Reg.TB_FLAGS_XT32_FAIL, Reg.TB_FLAGS_RESYNC],
          t.get f = if bit v.toNat f.lsb then 0 else s.get f)
      ∧ Moves s t [] [Reg.TB_FLAGS_STEPPED, Reg.TB_FLAGS_OFFSET_ALARM, Reg.TB_FLAGS_RATE_CLAMP, Reg.TB_FLAGS_WCLK0_LOSS,
          Reg.TB_FLAGS_WCLK1_LOSS, Reg.TB_FLAGS_SET_REFUSED, Reg.TB_FLAGS_FS_BUSY, Reg.TB_FLAGS_REF_REFUSED, Reg.TB_FLAGS_XT32_FAIL,
          Reg.TB_FLAGS_RESYNC])
  ∧ exec (.registerWrite 0x60010 15 v) s = .next s
  ∧ (s.get Reg.ID_BOOT_STAT_READY = 1 → s.domOn 13 = true → ∃ t, exec (.readClear 0x10010) s = .next t
      ∧ t.rdata = s.get Reg.HI_CNT_ACCEPT ∧ t.get Reg.HI_CNT_ACCEPT = 0 ∧ Moves s t [.rdata] [Reg.HI_CNT_ACCEPT])
  ∧ (∃ t, exec (.shadowLowRead .now) s = .next t ∧ t.rdata = s.ns % 2 ^ 32
      ∧ Tbl.get none t.shadows 0x60004 = some (s.ns / 2 ^ 32 % 2 ^ 32)
      ∧ Tbl.get none t.shadows 0x60008 = some (s.tb.now / 2 ^ 16 % 2 ^ 16) ∧ Moves s t [.rdata, .shadows] [])
  ∧ (∀ p : Pair, p ≠ .now → (∀ m : Fin 4, p = .cmpCount m → s.get (Reg.TB_CMP_CFG_LINK (2 * m)) = 1) →
      ∃ t, exec (.shadowLowRead p) s = .next t ∧ t.rdata = (s.pairVal p).1 % 2 ^ 32
        ∧ Tbl.get none t.shadows (s.pairVal p).2 = some ((s.pairVal p).1 / 2 ^ 32 % 2 ^ 32)
        ∧ (∀ o, o ≠ (s.pairVal p).2 → Tbl.get none t.shadows o = Tbl.get none s.shadows o) ∧ Moves s t [.rdata, .shadows] [])
  ∧ (∀ m : Fin 4, s.get (Reg.TB_CMP_CFG_LINK (2 * m)) = 0 → ∃ t, exec (.shadowLowRead (.cmpCount m)) s = .next t
      ∧ t.rdata = s.get (Reg.TB_CMP_COUNT (2 * m)) ∧ Moves s t [.rdata] [])

/-- R25, R26, R28, R30, R32, R33, R38: the counter is only ever set forward, and a refused set only notes it; a rate, a reference,
a re-acquisition and a correction act by the servo's state; the audio PLL's lock, HELD's end and XT32's failure. A set while a step is
pending is refused (R405).
(The model's choices in it: log entries 21, 22, 23 and 24.) -/
def Obligations.TimeSteering : Prop :=
  ∀ (s : State) (v : BitVec 32),
    (let w := s.get Reg.TB_SET_LO + 2 ^ 32 * v.toNat
     let free := s.get Reg.TB_STAT_ROOT = 1 ∨ s.anyPortUp = false
     (¬free ∨ w * 2 ^ 32 ≤ s.tb.now ∨ s.tb.step.isSome = true → ∃ u x, exec (.tbSetCommit v) s = .next (u.event 0x55 113 0 5 x)
        ∧ u.get Reg.TB_FLAGS_SET_REFUSED = 1 ∧ Moves s u [] [Reg.TB_FLAGS_SET_REFUSED])
     ∧ (s.tb.now < w * 2 ^ 32 → s.anyPortUp = false → s.tb.step = none → ∃ t, exec (.tbSetCommit v) s = .next t
        ∧ t.tb.now = w * 2 ^ 32 ∧ t.tb.prev = s.tb.now ∧ t.get Reg.TB_FLAGS_STEPPED = 1 ∧ t.cores = s.cores ∧ t.al = s.al)
     ∧ (s.tb.now < w * 2 ^ 32 → s.get Reg.TB_STAT_ROOT = 1 → s.anyPortUp = true → s.tb.step = none → ∃ t, exec (.tbSetCommit v) s = .next t
        ∧ t.tb = { s.tb with step := some (s.ns + 2000000, w - s.ns) }))
  ∧ (∀ f, f ≤ 5 → f ≠ s.fs → s.CtrlKept v f (s.get Reg.TB_CTRL_REF) 0 →
      (s.schState = 0 → ∃ t, exec (.tbFsWrite v) s = .next t ∧ t.fs = f ∧ t.get Reg.TB_STAT_AUDIO_LOCK = 0 ∧ t.tb = s.tb ∧ t.sch = s.sch
        ∧ t.cores = s.cores ∧ t.al = s.al)
      ∧ (s.schState ≠ 0 → ∃ u, exec (.tbFsWrite v) s = .next (u.event 0x57 115 0 4 (pay 16 s.fs)) ∧ u.fs = s.fs
        ∧ u.get Reg.TB_FLAGS_FS_BUSY = 1 ∧ Moves s u [] [Reg.TB_FLAGS_FS_BUSY]))
  ∧ (∀ r, s.get Reg.TB_CTRL_MANUAL = 0 → r ≠ s.get Reg.TB_CTRL_REF → s.CtrlKept v s.fs r 0 →
      (r = 0 ∨ r = 3 ∨ s.get Reg.TB_STAT_ROOT = 1 ∨ s.anyPortUp = false → ∃ t, exec (.tbRefWrite v) s = .next t
        ∧ t.get Reg.TB_CTRL_REF = r ∧ t.tb.now = s.tb.now
        ∧ (s.servo ≠ 5 → t.servo = if r = 0 then (if s.get Reg.TB_STAT_ROOT = 1 then 0 else 1) else if r = 3 then 0
            else if s.get (Reg.TB_WCAP_STAT_PRESENT (r - 1)) = 1 then 1 else 0))
      ∧ (r = 1 ∨ r = 2 → s.get Reg.TB_STAT_ROOT = 0 → s.anyPortUp = true → ∃ u, exec (.tbRefWrite v) s = .next (u.event 0x55 113 0 6 0)
        ∧ u.get Reg.TB_FLAGS_REF_REFUSED = 1 ∧ Moves s u [] [Reg.TB_FLAGS_REF_REFUSED]))
  ∧ (s.CtrlKept v s.fs (s.get Reg.TB_CTRL_REF) 1 → ∃ t, exec (.reacquire v) s = .next t ∧ t.tb.now = s.tb.now
      ∧ (s.servo = 2 ∨ s.servo = 3 → t.servo = 1) ∧ (s.servo = 1 → t.servo = 1 ∧ t.tb.inRange = 0)
      ∧ (s.servo = 0 ∨ 4 ≤ s.servo → Moves s t [] []))
  ∧ (s.get Reg.TB_CTRL_MANUAL = 0 → exec (.tbRateWrite v) s = .next s)
  ∧ (s.get Reg.TB_CTRL_MANUAL = 1 → s.servo ≠ 2 → ∃ t, exec (.tbRateWrite v) s = .next t
      ∧ toS 32 (t.get Reg.TB_RATE) = max (-3435974) (min 3435974 v.toInt) ∧ t.tb = s.tb
      ∧ (v.toInt < -3435974 ∨ 3435974 < v.toInt → t.get Reg.TB_FLAGS_RATE_CLAMP = 1)
      ∧ (-3435974 ≤ v.toInt → v.toInt ≤ 3435974 → Moves s t [] [Reg.TB_RATE]))
  ∧ (s.get Reg.TB_STAT_AUDIO_LOCK = 1 → exec .audioPllLock s = .next s)
  ∧ (s.get Reg.TB_STAT_AUDIO_LOCK = 0 → ∃ u, exec .audioPllLock s = .next (u.event 0x57 115 0 1 (pay 16 s.fs))
      ∧ u.get Reg.TB_STAT_AUDIO_LOCK = 1 ∧ u.get Reg.PWR_CLK_STAT_AUDIO = 1 ∧ Moves s u [] [Reg.TB_STAT_AUDIO_LOCK, Reg.PWR_CLK_STAT_AUDIO])
  ∧ (s.servo = 4 → ∃ t, exec .heldRelease s = .next t ∧ t.servo = 1 ∧ t.tb.now = s.tb.now ∧ t.cores = s.cores ∧ t.al = s.al)
  ∧ (s.servo ≠ 4 → exec .heldRelease s = .next s)
  ∧ (∃ u, exec .xt32Fail s = .next (u.event 0x56 114 0 1 0) ∧ u.get Reg.TB_FLAGS_XT32_FAIL = 1 ∧ u.get Reg.TB_STAT_XT32_OK = 0
      ∧ u.tb = { s.tb with xt32Dead := true } ∧ Moves s u [.tb] [Reg.TB_FLAGS_XT32_FAIL, Reg.TB_STAT_XT32_OK])

/-- R35, R40 to R46: captures. An edge shorter than FILT does nothing. A selected edge lands in its register or queue; a second in an unread register counts an
overrun, one more in a full queue is dropped and counted; reading takes the capture, or the head; with a capture
in the same cycle nothing is lost. Presence after 64 edges in spacing, and loss after 8 silent periods.
(The model's choices in it: log entries 16 and 160.) -/
def Obligations.Captures : Prop :=
  ∀ (s : State) (n : Fin 2) (k : Fin 8) (e : PinEdge) (h : Nat) (q : List Nat), s.Inv →
    let t := e.t.ns.toNat
    let wide (f : Nat) : Prop := (match f with | 0 => 0 | 1 => 8 | 2 => 32 | 3 => 128 | _ => 1000) ≤ e.t.width.toNat
    let ed := s.get (Reg.TB_WCAP_CFG_EDGE n)
    let falls := e.falling
    let sel (e : Nat) : Prop := e = 2 ∨ e = (if falls then 1 else 0)
    let c := s.get64 (Reg.TB_WCAP_LO n) (Reg.TB_WCAP_HI n)
    (s.capOn = false → exec (.wclkCapture n e.falling e.t) s = .next s ∧ exec (.trigCapture k e.falling e.t) s = .next s)
  ∧ (¬wide (s.get (Reg.TB_WCAP_CFG_FILT n)) → exec (.wclkCapture n e.falling e.t) s = .next s)
  ∧ (¬wide (s.get (Reg.TB_TRIG_CFG_FILT k)) → exec (.trigCapture k e.falling e.t) s = .next s)
  ∧ (s.capOn = true → s.servo ≠ 4 → s.servo ≠ 5 → s.get Reg.TB_CTRL_REF ≠ n + 1 → s.get (Reg.TB_WCAP_CFG_EVT_EN n) = 0 → sel ed → wide (s.get (Reg.TB_WCAP_CFG_FILT n)) →
      ∃ u, exec (.wclkCapture n e.falling e.t) s = .next u ∧ u.get64 (Reg.TB_WCAP_LO n) (Reg.TB_WCAP_HI n) = t
        ∧ u.get (Reg.TB_WCAP_STAT_VALID n) = 1
        ∧ (s.get (Reg.TB_WCAP_STAT_VALID n) = 1 → u.get (Reg.TB_WCAP_STAT_OVR n) = 1
            ∧ u.get (Reg.TB_WCAP_STAT_OVR_CNT n) = min (s.get (Reg.TB_WCAP_STAT_OVR_CNT n) + 1) 255)
        ∧ (s.get (Reg.TB_WCAP_STAT_VALID n) = 0 → u.get (Reg.TB_WCAP_STAT_OVR_CNT n) = s.get (Reg.TB_WCAP_STAT_OVR_CNT n))
        ∧ u.tb.now = s.tb.now ∧ Moves s u [.tb] [Reg.TB_WCAP_LO n, Reg.TB_WCAP_HI n, Reg.TB_WCAP_STAT_VALID n, Reg.TB_WCAP_STAT_OVR n,
            Reg.TB_WCAP_STAT_OVR_CNT n])
  ∧ (s.get (Reg.TB_WCAP_STAT_PRESENT n) = 1 ∨ Tbl.get 0 s.tb.wclkRun n < 64 → exec (.wclkPresent n) s = .next s)
  ∧ (s.get (Reg.TB_WCAP_STAT_PRESENT n) = 0 → 64 ≤ Tbl.get 0 s.tb.wclkRun n → ∃ u, exec (.wclkPresent n) s = .next u
      ∧ u.get (Reg.TB_WCAP_STAT_PRESENT n) = 1 ∧ u.tb.now = s.tb.now
      ∧ (s.get Reg.TB_CTRL_REF = n + 1 → s.get Reg.TB_CTRL_MANUAL = 0 →
          (s.servo = 3 → u.servo = 2) ∧ (s.servo = 0 → u.servo = 1) ∧ (s.servo ≠ 0 → s.servo ≠ 3 → u.servo = s.servo))
      ∧ (s.get Reg.TB_CTRL_REF ≠ n + 1 → u.servo = s.servo))
  ∧ (s.get (Reg.TB_WCAP_STAT_PRESENT n) = 0 ∨ s.wclkSilent n = false → exec (.wclkLoss n) s = .next s)
  ∧ (s.get (Reg.TB_WCAP_STAT_PRESENT n) = 1 → s.wclkSilent n = true → ∃ u, exec (.wclkLoss n) s = .next u
      ∧ u.get (Reg.TB_WCAP_STAT_PRESENT n) = 0 ∧ u.get (if n = 0 then Reg.TB_FLAGS_WCLK0_LOSS else Reg.TB_FLAGS_WCLK1_LOSS) = 1
      ∧ (s.get Reg.TB_CTRL_REF = n + 1 → s.get Reg.TB_CTRL_MANUAL = 0 →
          (s.servo = 2 → u.servo = 3 ∧ u.get Reg.TB_STAT_AUDIO_HOLD = 1) ∧ (s.servo = 1 ∨ s.servo = 4 → u.servo = 0)))
  ∧ (∃ u, exec (.wcapLowRead n none) s = .next u ∧ u.rdata = c % 2 ^ 32 ∧ Tbl.get none u.shadows (0x60044 + 0x10 * n) = some (c / 2 ^ 32)
      ∧ u.get (Reg.TB_WCAP_STAT_VALID n) = 0 ∧ Moves s u [.rdata, .shadows] [Reg.TB_WCAP_STAT_VALID n])
  ∧ (s.capOn = true → s.servo ≠ 4 → s.servo ≠ 5 → s.get Reg.TB_CTRL_REF ≠ n + 1 → s.get (Reg.TB_WCAP_CFG_EVT_EN n) = 0 → sel ed →
      wide (s.get (Reg.TB_WCAP_CFG_FILT n)) → ∃ u, exec (.wcapLowRead n (some e)) s = .next u ∧ u.rdata = c % 2 ^ 32
      ∧ Tbl.get none u.shadows (0x60044 + 0x10 * n) = some (c / 2 ^ 32) ∧ u.get (Reg.TB_WCAP_STAT_VALID n) = 1
      ∧ u.get64 (Reg.TB_WCAP_LO n) (Reg.TB_WCAP_HI n) = t
      ∧ Moves s u [.rdata, .shadows, .tb] [Reg.TB_WCAP_STAT_VALID n, Reg.TB_WCAP_LO n, Reg.TB_WCAP_HI n])
  ∧ (∀ x, s.trigStamp k e = some x ↔ s.capOn = true ∧ sel (s.get (Reg.TB_TRIG_CFG_EDGE k)) ∧ wide (s.get (Reg.TB_TRIG_CFG_FILT k)) ∧ x = s.stamp t)
  ∧ (s.servo ≠ 4 → s.servo ≠ 5 → s.stamp t = t) ∧ (s.servo = 4 → s.stamp t = min t s.ns)
  ∧ (∀ x, s.trigStamp k e = some x → s.get (Reg.TB_TRIG_CFG_EVT_EN k) = 0 →
      ((s.trigQ k).length < 8 → ∃ u, exec (.trigCapture k e.falling e.t) s = .next u ∧ u.trigQ k = s.trigQ k ++ [x]
        ∧ u.get (Reg.TB_TRIG_STAT_COUNT k) = (s.trigQ k).length + 1 ∧ Moves s u [.tb] [Reg.TB_TRIG_STAT_COUNT k])
      ∧ (8 ≤ (s.trigQ k).length → ∃ u, exec (.trigCapture k e.falling e.t) s = .next u ∧ u.get (Reg.TB_TRIG_STAT_OVF k) = 1
        ∧ u.get (Reg.TB_TRIG_STAT_DROP_CNT k) = min (s.get (Reg.TB_TRIG_STAT_DROP_CNT k) + 1) 255
        ∧ Moves s u [] [Reg.TB_TRIG_STAT_OVF k, Reg.TB_TRIG_STAT_DROP_CNT k]))
  ∧ (s.trigQ k = [] → ∃ u, exec (.trigPop k none) s = .next u ∧ u.rdata = 0
      ∧ Tbl.get none u.shadows (0x60104 + 0x10 * k) = some 0 ∧ Moves s u [.rdata, .shadows] [])
  ∧ (s.trigQ k = h :: q → q.length < 8 → ∃ u, exec (.trigPop k none) s = .next u ∧ u.rdata = h % 2 ^ 32
      ∧ Tbl.get none u.shadows (0x60104 + 0x10 * k) = some (h / 2 ^ 32 % 2 ^ 32) ∧ u.trigQ k = q
      ∧ u.get (Reg.TB_TRIG_STAT_COUNT k) = q.length ∧ Moves s u [.rdata, .shadows, .tb] [Reg.TB_TRIG_STAT_COUNT k])
  ∧ (∀ x, s.trigStamp k e = some x → s.trigQ k = h :: q → q.length < 8 → s.get (Reg.TB_TRIG_CFG_EVT_EN k) = 0 → ∃ u, exec (.trigPop k (some e)) s = .next u
      ∧ u.rdata = h % 2 ^ 32 ∧ u.trigQ k = q ++ [x] ∧ Moves s u [.rdata, .shadows, .tb] [Reg.TB_TRIG_STAT_COUNT k])
  ∧ (∀ x, s.trigStamp k e = some x → s.trigQ k = [] → s.get (Reg.TB_TRIG_CFG_EVT_EN k) = 0 → ∃ u, exec (.trigPop k (some e)) s = .next u
      ∧ u.rdata = x % 2 ^ 32 ∧ u.trigQ k = [])

/-- R48 to R55: a commit sets the live value and tests it; ENABLE 0 tests nothing, 0 to 1 is a commit, 1 to 1 is none; a match is
one-shot or moves the value on by periods and counts them; FORCE loads the latch; a pulse ends. Shown with EVT_EN 0 and LINK 0.
(The model's choices in it: log entry 25.) -/
def Obligations.Compares : Prop :=
  ∀ (s : State) (n : Fin 8) (v : BitVec 32), s.servo ≠ 4 → s.servo ≠ 5 → s.get (Reg.TB_CMP_CFG_EVT_EN n) = 0 → s.cmpLinked n = false →
    let hold := Tbl.get 0 s.tb.cmpHold n % 2 ^ 32
    let c := hold + 2 ^ 32 * v.toNat
    let on := s.get (Reg.TB_CMP_CFG_ENABLE n)
    let live := s.cmpLive n
    let hit (x : Nat) : Prop := s.tb.prev < x * 2 ^ 32 ∧ x * 2 ^ 32 ≤ s.tb.now
    (∃ t, exec (.compareCommit n v) s = .next t
      ∧ (on = 0 ∨ ¬hit c → t.cmpLive n = c ∧ t.get (Reg.TB_CMP_STAT_MATCH n) = s.get (Reg.TB_CMP_STAT_MATCH n))
      ∧ (on = 0 → t.get (Reg.TB_CMP_STAT_ARMED n) = 0 ∧ t.get (Reg.TB_CMP_STAT_MISSED n) = s.get (Reg.TB_CMP_STAT_MISSED n))
      ∧ (on = 1 → s.tb.now < c * 2 ^ 32 → t.get (Reg.TB_CMP_STAT_ARMED n) = 1)
      ∧ (on = 1 → c * 2 ^ 32 ≤ s.tb.prev → s.tb.prev ≤ s.tb.now → t.get (Reg.TB_CMP_STAT_MISSED n) = 1 ∧ t.get (Reg.TB_CMP_STAT_ARMED n) = 0)
      ∧ (on = 1 → hit c → t.get (Reg.TB_CMP_STAT_MATCH n) = 1)
      ∧ (on = 0 ∨ ¬hit c → Moves s t [] [Reg.TB_CMP_LO n, Reg.TB_CMP_HI n, Reg.TB_CMP_STAT_ARMED n, Reg.TB_CMP_STAT_MISSED n]))
  ∧ (bits v.toNat 4 1 = 0 → bits v.toNat 6 1 = 0 → bit v.toNat 8 = false →
      (bit v.toNat 0 = false → ∃ t, exec (.compareEnable n v) s = .next t ∧ t.get (Reg.TB_CMP_STAT_ARMED n) = 0
        ∧ t.get (Reg.TB_CMP_CFG_ENABLE n) = 0 ∧ t.get (Reg.TB_CMP_STAT_PIN n) = s.get (Reg.TB_CMP_STAT_PIN n))
      ∧ (bit v.toNat 0 = true → on = 1 → ∃ t, exec (.compareEnable n v) s = .next t ∧ t.cmpLive n = live ∧ t.get (Reg.TB_CMP_CFG_ENABLE n) = 1
        ∧ t.get (Reg.TB_CMP_STAT_ARMED n) = s.get (Reg.TB_CMP_STAT_ARMED n) ∧ t.get (Reg.TB_CMP_STAT_MATCH n) = s.get (Reg.TB_CMP_STAT_MATCH n))
      ∧ (bit v.toNat 0 = true → on = 0 → ∃ t, exec (.compareEnable n v) s = .next t ∧ t.get (Reg.TB_CMP_CFG_ENABLE n) = 1
        ∧ (hit live → t.get (Reg.TB_CMP_STAT_MATCH n) = 1)
        ∧ (s.tb.now < live * 2 ^ 32 → t.get (Reg.TB_CMP_STAT_ARMED n) = 1)
        ∧ (live * 2 ^ 32 ≤ s.tb.prev → s.tb.prev ≤ s.tb.now → t.get (Reg.TB_CMP_STAT_MISSED n) = 1 ∧ t.get (Reg.TB_CMP_STAT_ARMED n) = 0)))
  ∧ (bit v.toNat 8 = true → bit v.toNat 0 = false → ∃ t, exec (.force n v) s = .next t ∧ t.get (Reg.TB_CMP_STAT_PIN n) = bits v.toNat 7 1
      ∧ Tbl.get none t.tb.pulse n = none)
  ∧ (on = 0 ∨ s.get (Reg.TB_CMP_STAT_ARMED n) = 0 ∨ ¬hit live → exec (.compareMatch n) s = .next s)
  ∧ (on = 1 → s.get (Reg.TB_CMP_STAT_ARMED n) = 1 → hit live → ∃ t, exec (.compareMatch n) s = .next t ∧ t.get (Reg.TB_CMP_STAT_MATCH n) = 1
      ∧ t.tb.now = s.tb.now
      ∧ (s.get (Reg.TB_CMP_CFG_PERIODIC n) = 0 ∨ s.get (Reg.TB_CMP_PERIOD n) = 0 →
          t.get (Reg.TB_CMP_STAT_ARMED n) = 0 ∧ t.cmpLive n = live ∧ t.get (Reg.TB_CMP_COUNT n) = (s.get (Reg.TB_CMP_COUNT n) + 1) % 2 ^ 32)
      ∧ (s.get (Reg.TB_CMP_CFG_PERIODIC n) = 1 → s.get (Reg.TB_CMP_PERIOD n) ≠ 0 →
          let p := max 8 (s.get (Reg.TB_CMP_PERIOD n))
          let m := (s.ns - live) / p + 1
          t.get (Reg.TB_CMP_STAT_ARMED n) = 1 ∧ t.cmpLive n = (live + m * p) % 2 ^ 64
          ∧ t.get (Reg.TB_CMP_COUNT n) = (s.get (Reg.TB_CMP_COUNT n) + m) % 2 ^ 32)
      ∧ (s.get (Reg.TB_CMP_CFG_ACTION n) = 4 → t.get (Reg.TB_CMP_STAT_PIN n) = 1
          ∧ Tbl.get none t.tb.pulse n = some (live + 16 + max 8 (s.get (Reg.TB_CMP_WIDTH n) % 2 ^ 24)))
      ∧ (s.get (Reg.TB_CMP_CFG_ACTION n) = 1 → bit (s.get Reg.GPIO_FUNC) n = true → t.out = .pin n true (live + 16) :: s.out))
  ∧ (Tbl.get none s.tb.pulse n = none → exec (.pulseEnd n) s = .next s)
  ∧ (∀ e, Tbl.get none s.tb.pulse n = some e → s.ns < e → exec (.pulseEnd n) s = .next s)
  ∧ (∀ e, Tbl.get none s.tb.pulse n = some e → e ≤ s.ns → ∃ t, exec (.pulseEnd n) s = .next t ∧ t.get (Reg.TB_CMP_STAT_PIN n) = 0
      ∧ Tbl.get none t.tb.pulse n = none ∧ (bit (s.get Reg.GPIO_FUNC) n = true → t.out = .pin n false e :: s.out)
      ∧ (bit (s.get Reg.GPIO_FUNC) n = false → t.out = s.out) ∧ Moves s t [.tb, .out] [Reg.TB_CMP_STAT_PIN n])

/-! ### The render scheduler -/

/-- R196, R199, R207: RENDER_BOUNDARY begins the next block j, at the later of its window opening and the end of the block before;
the level of a block falls by one at full margin, rises by one where the margin did not grow, up to SHED or, with SHED_EN 0, ROUGH2, and is
held otherwise; SHED_EN = 0 first lowers SHED to ROUGH2 (R216). It comes while the scheduler is RUNNING, or STOPPING with something left
to silence, with no block rendering and the window open; else nothing happens.
(The model's choices in it: log entries 16 and 33.) -/
def Obligations.RenderBoundary : Prop :=
  ∀ (s : State),
    let j := s.sch.next
    let full : Int := (s.slack * s.blockT : Nat)
    let lv := if s.get Reg.AL_SCH_CTRL_SHED_EN = 0 then min s.level 2 else s.level
    (s.boundaryDue = false → exec .renderBoundary s = .next s)
  ∧ (s.schState < 2 ∨ s.sch.cur.isSome = true ∨ s.tu < s.opening j ∨ (s.schState = 3 ∧ s.sch.allOff = false ∧ s.silent = true) →
      s.boundaryDue = false)
  ∧ (s.schState = 2 ∨ (s.schState = 3 ∧ (s.sch.allOff = true ∨ s.silent = false)) → s.sch.cur = none → s.opening j ≤ s.tu →
      ∃ t b, exec .renderBoundary s = .next t ∧ t.sch.cur = some b ∧ t.sch.next = j + 1
        ∧ b.j = j ∧ b.start = max (s.opening j) s.sch.lastDone ∧ b.level = t.level ∧ b.wrote = [] ∧ b.mixOn = false ∧ b.late = false
        ∧ b.complete = none ∧ (∀ c ∈ b.waiting, c < 16) ∧ (∀ c ∈ b.waitE, 16 ≤ c)
        ∧ t.get64 Reg.AL_SCH_BLOCK_LO Reg.AL_SCH_BLOCK_HI = j % 2 ^ 64)
  ∧ (∀ r : Nat, s.sch.holdLevel = false → s.get Reg.AL_SCH_STAT_SHED_WAIT = 0 →
      let sig : Int := (s.playStart j : Int) - r
      let u := s.fixTier j r
      (full ≤ sig → u.level = lv - 1)
      ∧ (sig < full → s.sch.sigmaPrev < sig → u.level = lv)
      ∧ (sig < full → sig ≤ s.sch.sigmaPrev → s.get Reg.AL_SCH_CTRL_SHED_EN = 0 → u.level = min (lv + 1) 2)
      ∧ (sig < full → sig ≤ s.sch.sigmaPrev → lv ≤ 1 → u.level = lv + 1))
  ∧ (∀ r, s.sch.holdLevel = true → (s.fixTier j r).level = lv)

/-- R204 to R206: the deadline test marks a block still rendering at D_j late, once, and bus-late where every BDONE came in time;
cluster E begins where every awaited BDONE has arrived and a core of it is in service; the end of the render, once cluster E's cores have
written theirs and its time is over, makes the block ready; a play start with no block ready leaves the block owed, and one still owed
at the next is an underrun.
(The model's choices in it: log entries 39 and 42.) -/
def Obligations.BlockProgress : Prop :=
  ∀ (s : State) (b : Block),
    (s.sch.cur = none → exec .blockDeadline s = .next s ∧ exec .mixBlockStart s = .next s ∧ exec .blockRenderComplete s = .next s)
  ∧ (s.sch.cur = some b → b.late = true ∨ s.tu < s.deadline b.j → exec .blockDeadline s = .next s)
  ∧ (s.sch.cur = some b → b.late = false → s.deadline b.j ≤ s.tu → ∃ t, exec .blockDeadline s = .next t
      ∧ t.sch = { s.sch with lateEp := s.sch.lateEp + 1, cur := some { b with late := true } }
      ∧ t.get Reg.AL_SCH_CNT_LATEBLK = (s.get Reg.AL_SCH_CNT_LATEBLK + 1) % 2 ^ 32
      ∧ (b.waiting = [] → b.lastBdone < s.deadline b.j → t.get Reg.AL_SCH_FLAGS_BUS_LATE = 1)
      ∧ (b.waiting ≠ [] → t.get Reg.AL_SCH_FLAGS_BUS_LATE = s.get Reg.AL_SCH_FLAGS_BUS_LATE)
      ∧ t.al = s.al ∧ t.cores = s.cores ∧ t.tb = s.tb)
  ∧ (s.sch.cur = some b → b.waiting ≠ [] ∨ b.mixOn = true ∨ s.coresE = [] ∨ s.mix.out = true → exec .mixBlockStart s = .next s)
  ∧ (s.sch.cur = some b → b.waiting = [] → b.mixOn = false → s.coresE ≠ [] → s.mix.out = false →
      ∃ t e, exec .mixBlockStart s = .next t ∧ t.sch.cur = some { b with mixOn := true, mixEnd := e } ∧ b.mixFrom ≤ e
        ∧ t.sch.heardJ = b.j ∧ t.sch.heard = b.wrote)
  ∧ (s.sch.cur = some b → b.late = true ∨ s.tu < s.deadline b.j → b.mixOn = false ∨ b.waitE ≠ [] ∨ s.tu < b.mixEnd →
      exec .blockRenderComplete s = .next s)
  ∧ (s.sch.cur = some b → b.late = true ∨ s.tu < s.deadline b.j → b.mixOn = true → b.waitE = [] → b.mixEnd ≤ s.tu →
      s.sch.play ≤ b.j → s.sch.owe ≠ some b.j →
      ∃ t, exec .blockRenderComplete s = .next t ∧ t.sch.cur = none ∧ t.sch.lastDone = s.tu
        ∧ t.sch.ready = s.sch.ready ++ [{ b with complete := some s.tu }] ∧ t.al = s.al ∧ t.cores = s.cores)
  ∧ (s.tu < s.playStart s.sch.play ∨ s.schState < 2 → exec .playStart s = .next s)
  ∧ (s.schState = 2 → s.playStart s.sch.play ≤ s.tu → s.sch.ready = [] →
      (s.sch.owe = none → ∃ t, exec .playStart s = .next t
        ∧ t.sch = { s.sch with play := s.sch.play + 1, owe := some s.sch.play } ∧ Moves s t [.sch] [])
      ∧ (∀ j, s.sch.owe = some j → ∃ t, exec .playStart s = .next t
        ∧ t.sch = { s.sch with play := s.sch.play + 1, owe := some s.sch.play } ∧ t.get Reg.AL_SCH_FLAGS_UNDERRUN = 1
        ∧ t.al = s.al ∧ t.cores = s.cores))

/-- R163, R178, R211, R212, R216, R236, R359: starting, stopping and silencing. RUN = 1 waits for the audio PLL, then the first
block is the first whose window opens at least T later; RUN = 0 stops at once or through STOPPING with ALL_OFF; BLOCK and SLACK change only
while STOPPED. A RELEASE_LIMIT that expires before the next block ends its voice at that block's boundary; CLIP and summary records are written and their counts cleared.
(The model's choices in it: log entries 32 and 37.) -/
def Obligations.SchedulerControl : Prop :=
  ∀ (s : State) (v : BitVec 32),
    let same := bits v.toNat 1 2 = s.get Reg.AL_SCH_CTRL_BLOCK ∧ bits v.toNat 3 4 = s.get Reg.AL_SCH_CTRL_SLACK
    (same →
      (s.schState = 0 → ∃ t, exec (.schedRun v) s = .next t ∧ t.schState = 1)
      ∧ (s.schState = 3 → ∃ t, exec (.schedRun v) s = .next t ∧ t.schState = 3 ∧ t.get Reg.AL_SCH_FLAGS_CFG_REFUSED = 1)
      ∧ (s.schState = 1 ∨ s.schState = 2 → ∃ t, exec (.schedRun v) s = .next t ∧ t.schState = s.schState ∧ t.get Reg.AL_SCH_CTRL_RUN = 1
          ∧ Moves s t [] [Reg.AL_SCH_CTRL_RUN, Reg.AL_SCH_CTRL_SHED_EN, Reg.AL_SCH_CTRL_SHED_BATCH])
      ∧ (s.schState = 2 → ∃ t, exec (.schedStop v) s = .next t ∧ t.schState = 3 ∧ t.sch = { s.sch with allOff := true } ∧ t.al = s.al)
      ∧ (s.schState = 1 → ∃ t, exec (.schedStop v) s = .next t ∧ t.schState = 0))
  ∧ (s.schState = 0 → 1 ≤ bits v.toNat 3 4 → bits v.toNat 3 4 ≤ 8 → ∃ t, exec (.schedStop v) s = .next t
      ∧ t.get Reg.AL_SCH_CTRL_BLOCK = bits v.toNat 1 2 ∧ t.get Reg.AL_SCH_CTRL_SLACK = bits v.toNat 3 4
      ∧ t.get Reg.AL_SCH_CTRL_SHED_EN = bits v.toNat 8 1 ∧ t.get Reg.AL_SCH_CTRL_SHED_BATCH = bits v.toNat 16 8 ∧ t.schState = 0
      ∧ Moves s t [] [Reg.AL_SCH_CTRL_BLOCK, Reg.AL_SCH_CTRL_SLACK, Reg.AL_SCH_CTRL_SHED_EN, Reg.AL_SCH_CTRL_SHED_BATCH, Reg.AL_SCH_CTRL_RUN])
  ∧ (¬same → s.schState = 3 → ∃ t, exec (.schedStop v) s = .next t ∧ t.get Reg.AL_SCH_FLAGS_CFG_REFUSED = 1
      ∧ t.get Reg.AL_SCH_CTRL_BLOCK = s.get Reg.AL_SCH_CTRL_BLOCK ∧ t.get Reg.AL_SCH_CTRL_SLACK = s.get Reg.AL_SCH_CTRL_SLACK)
  ∧ (s.schState ≠ 1 ∨ s.get Reg.TB_STAT_AUDIO_LOCK = 0 → exec .schedStart s = .next s)
  ∧ (s.schState = 1 → s.get Reg.TB_STAT_AUDIO_LOCK = 1 → 1 ≤ s.slack → ∃ t, exec .schedStart s = .next t ∧ t.schState = 2 ∧ t.level = 0
      ∧ s.tu + s.blockT ≤ s.opening t.sch.next ∧ (∀ j, s.tu + s.blockT ≤ s.opening j → t.sch.next ≤ j)
      ∧ t.sch.play = t.sch.next ∧ t.sch.cur = none ∧ t.sch.ready = [] ∧ t.sch.owe = none ∧ t.al = s.al)
  ∧ (s.schState = 3 → s.sch.allOff = false → s.silent = true → s.sch.cur = none → s.sch.next ≤ s.sch.play →
      s.playStart s.sch.next ≤ s.tu → ∃ t, exec .schedStopped s = .next t ∧ t.schState = 0 ∧ t.sch.ready = [] ∧ t.sch.owe = none)
  ∧ (s.schState ≠ 3 ∨ s.silent = false ∨ s.sch.cur.isSome = true ∨ s.sch.play < s.sch.next ∨ s.tu < s.playStart s.sch.next →
      exec .schedStopped s = .next s)
  ∧ (2 ≤ s.schState → ∃ t, exec (.allOff v) s = .next t ∧ t.get Reg.AL_CTRL_CAST_EN = bits v.toNat 0 1
      ∧ t.sch = { s.sch with allOff := true } ∧ Moves s t [.sch] [Reg.AL_CTRL_CAST_EN])
  ∧ (∀ (e : Fin 256) (t0 l : Nat), (s.slot e).relT = some t0 → (s.group (s.slot e).group).relLimit = some l →
      let lim := Later.limit e (s.slot e).gen (t0 + l)
      let block := (t0 + l + s.fper - 1) / s.fper / s.blockLen
      ((s.slot e).st ≠ 3 ∨ s.sch.next < block ∨ lim ∈ s.al.later → exec (.releaseLimitExpiry e) s = .next s)
      ∧ (2 ≤ s.schState → (s.slot e).st = 3 → block ≤ s.sch.next → lim ∉ s.al.later → ∃ t, exec (.releaseLimitExpiry e) s = .next t
          ∧ t.al = { s.al with later := s.al.later ++ [lim] } ∧ Moves s t [.al] []))
  ∧ (∀ (e : Fin 256) (p t1 : Nat), (s.slot e).st = 3 → let t := s.makeLater p (.limit e (s.slot e).gen t1)
      (t.slot e).st = 4 ∧ (t.slot e).why = .limit ∧ (t.slot e).retrig = [] ∧ (∀ x : Nat, x ≠ e.val → t.slot x = s.slot x) ∧ Moves s t [.al] [])
  ∧ (∃ t, exec .clipReport s = .next t ∧ t.mix = { s.mix with clips := [], clipsAt := [] } ∧ t.al = s.al ∧ t.sch = s.sch)
  ∧ (∃ t, exec .summaryRecordTimer s = .next t ∧ t.sw.sums = s.sw.sums.filter (fun e => decide (92 ≤ e.1 / 256 ∧ e.1 / 256 < 100))
      ∧ t.al = s.al ∧ t.sch = s.sch)

/-! ### Rings and descriptors -/

/-- R311 to R315, R344, R345: a ring's states. ENABLE of a resting ring starts its check with HEAD and TAIL 0; a running one keeps its
place, size and owner, and a write that would move it is refused; disabling forgets the held descriptor and counts GEN on; the check of the
header names its REASON in order; a doorbell moves TAIL or sets BAD_DOORBELL; a failed fetch is an ERROR. Every change of state
writes the header.
(The model's choices in it: log entries 95 and 96.) -/
def Obligations.RingStates : Prop :=
  ∀ (n : Fin 16) (v : BitVec 32) (s : State),
    let w := v.toNat
    let sizeOk := 4 ≤ bits w 1 5 ∧ bits w 1 5 ≤ 16
    let same := bits w 1 5 = s.get (Reg.HI_RING_CFG_LOG2SIZE n) ∧ bits w 6 1 = s.get (Reg.HI_RING_CFG_LOC n)
      ∧ bits w 20 12 = s.get (Reg.HI_RING_CFG_OWNER n)
    let cfg := [Reg.HI_RING_CFG_ENABLE n, Reg.HI_RING_CFG_CQ n, Reg.HI_RING_CFG_PRIO n]
    let place := [Reg.HI_RING_CFG_LOG2SIZE n, Reg.HI_RING_CFG_LOC n, Reg.HI_RING_CFG_OWNER n]
    let took (t : State) := t.get (Reg.HI_RING_CFG_CQ n) = bits w 7 3 ∧ t.get (Reg.HI_RING_CFG_PRIO n) = bits w 10 2
    (s.ringIdle n = true → sizeOk → ∃ u, exec (.ringEnable n v) s = .next (u.ringHeader n) ∧ took u
      ∧ u.get (Reg.HI_RING_CFG_ENABLE n) = 1 ∧ u.get (Reg.HI_RING_CFG_LOG2SIZE n) = bits w 1 5
      ∧ u.get (Reg.HI_RING_CFG_LOC n) = bits w 6 1 ∧ u.get (Reg.HI_RING_CFG_OWNER n) = bits w 20 12 ∧ u.ringState n = 1
      ∧ u.get (Reg.HI_RING_HEAD n) = 0 ∧ u.get (Reg.HI_RING_TAIL n) = 0 ∧ u.get (Reg.HI_RING_STAT_REASON n) = 0
      ∧ u.get (Reg.HI_RING_STAT_VER n) = 0 ∧ Moves s u [] (cfg ++ place ++ [Reg.HI_RING_HEAD n, Reg.HI_RING_TAIL n,
          Reg.HI_RING_STAT_REASON n, Reg.HI_RING_STAT_VER n, Reg.HI_RING_STAT_STATE n]))
  ∧ (s.ringIdle n = false → sizeOk → ∃ t, exec (.ringEnable n v) s = .next t ∧ took t ∧ t.get (Reg.HI_RING_CFG_ENABLE n) = 1
      ∧ (same → Moves s t [] cfg) ∧ (¬same → t.get Reg.HI_FLAGS_CFG_REFUSED = 1 ∧ Moves s t [] (cfg ++ [Reg.HI_FLAGS_CFG_REFUSED])))
  ∧ (s.ringState n ≠ 0 → ∃ u, exec (.ringDisable n v) s = .next (u.ringHeader n) ∧ took u ∧ u.get (Reg.HI_RING_CFG_ENABLE n) = 0
      ∧ u.ringState n = 0 ∧ u.get (Reg.HI_RING_STAT_GEN n) = (s.get (Reg.HI_RING_STAT_GEN n) + 1) % 2 ^ 16 ∧ u.heldAt n = none
      ∧ u.get (Reg.HI_RING_STAT_REASON n) = 0 ∧ u.get (Reg.HI_RING_STAT_VER n) = 0 ∧ u.hi.flights = s.hi.flights
      ∧ Moves s u [.hi] (cfg ++ place ++ [Reg.HI_FLAGS_CFG_REFUSED, Reg.HI_RING_STAT_REASON n, Reg.HI_RING_STAT_VER n,
          Reg.HI_RING_STAT_STATE n, Reg.HI_RING_STAT_GEN n]))
  ∧ (s.ringState n = 0 → ∃ t, exec (.ringDisable n v) s = .next t ∧ took t ∧ t.get (Reg.HI_RING_CFG_ENABLE n) = 0
      ∧ Moves s t [] (cfg ++ place ++ [Reg.HI_FLAGS_CFG_REFUSED]))
  ∧ (∀ hdr : Option (BitVec 512),
      let h := if s.ringHost n then (if s.hostBlocked then none else hdr.map BitVec.toNat) else some (leNat (s.exchRead (s.ringBase n) 64))
      let hi (x : Nat) := min (bits x 40 8) (s.get Reg.ID_IFVER_RING_MAX)
      let why := match h with
        | none => 4
        | some x => if bits x 0 32 ≠ 0x474E4952 then 1
            else if hi x < max (bits x 32 8) (s.get Reg.ID_IFVER_RING_MIN) then 2
            else if (if s.ringHost n then 2 ^ 64 else 0x80000) < s.ringBase n + 64 + 64 * s.ringSize n then 3 else 0
      (s.ringState n ≠ 1 → exec (.ringCheck n hdr) s = .next s)
      ∧ (s.ringState n = 1 → why ≠ 0 → ∃ u, exec (.ringCheck n hdr) s = .next ((u.ringHeader n).event 2 (n / 4) n why
            (pay 16 4 + pay 18 (s.get (Reg.HI_RING_STAT_GEN n))))
          ∧ u.ringState n = 4 ∧ u.get (Reg.HI_RING_STAT_REASON n) = why
          ∧ Moves s u [] [Reg.HI_RING_STAT_REASON n, Reg.HI_RING_STAT_VER n, Reg.HI_RING_STAT_STATE n])
      ∧ (∀ x, s.ringState n = 1 → s.heldAt n = none → h = some x → why = 0 → ∃ u, exec (.ringCheck n hdr) s = .next (u.ringHeader n)
          ∧ u.ringState n = 2 ∧ u.get (Reg.HI_RING_STAT_VER n) = hi x % 8
          ∧ Moves s u [] [Reg.HI_RING_STAT_VER n, Reg.HI_RING_STAT_STATE n]))
  ∧ (∀ via : Option (BitVec 12),
      let good := v.toNat % 2 ^ 16 < s.ringSize n ∧ s.ringIdle n = false
        ∧ via = if s.ringHost n then none else some (BitVec.ofNat 12 (s.get (Reg.HI_RING_CFG_OWNER n)))
      (good → ∃ t, exec (.doorbell n v via) s = .next t ∧ t.get (Reg.HI_RING_TAIL n) = v.toNat % 2 ^ 16
        ∧ Moves s t [] [Reg.HI_RING_TAIL n])
      ∧ (¬good → ∃ t, exec (.doorbell n v via) s = .next t ∧ t.get Reg.HI_FLAGS_BAD_DOORBELL = 1
        ∧ Moves s t [] [Reg.HI_FLAGS_BAD_DOORBELL]))
  ∧ (s.served1 = none → exec .fetchError s = .next s)
  ∧ (∀ m, s.served1 = some m → ∃ u, exec .fetchError s = .next ((u.ringHeader m).event 2 (m / 4) m 4
        (pay 16 5 + pay 18 (s.get (Reg.HI_RING_STAT_GEN m))))
      ∧ u.get Reg.HI_FLAGS_FETCH_ERROR = 1 ∧ u.ringState m = 5 ∧ u.get (Reg.HI_RING_STAT_REASON m) = 4
      ∧ Moves s u [] [Reg.HI_FLAGS_FETCH_ERROR, Reg.HI_RING_STAT_REASON m, Reg.HI_RING_STAT_STATE m])
  ∧ (s.ringHost n = true → s.hostBlocked = false → ∃ b, s.ringHeader n = s.emit (.hostWrite (s.ringBase n + 6) b) ∧ b.length = 6
      ∧ leNat b = s.get (Reg.HI_RING_STAT_VER n) + 2 ^ 8 * s.ringState n + 2 ^ 16 * s.get (Reg.HI_RING_HEAD n)
          + 2 ^ 32 * s.get (Reg.HI_RING_STAT_GEN n))
  ∧ (s.ringHost n = true → s.hostBlocked = true → s.ringHeader n = s)

/-- R316, R317, R198, R310, R351: DESCRIPTOR_FETCH serves the highest priority that can be fetched, and within it the rings in turn; HEAD
moves on, the descriptor is accepted and the header written. A ring in the exchange region is read there; a spoilt word of it is a
fetch error. Nothing is fetched while CP_EN is 0, the timed queue is full, or 64 completions of immediate commands wait.
(The model's choices in it: log entry 97.) -/
def Obligations.DescriptorFetch : Prop :=
  ∀ (d : BitVec 512) (host : List (BitVec 8)) (s : State),
    (s.get Reg.HI_CTRL_CP_EN = 0 ∨ 4096 ≤ s.queueLen ∨ 64 ≤ s.heldImmediate ∨ (∀ k, k < 16 → s.canFetch k = false) → s.served1 = none)
  ∧ (s.served1 = none → exec (.descriptorFetch d host) s = .next s)
  ∧ (∀ m, s.served1 = some m → m < 16 ∧ s.canFetch m = true
      ∧ (∀ k, k < 16 → s.canFetch k = true → s.get (Reg.HI_RING_CFG_PRIO k) ≤ s.get (Reg.HI_RING_CFG_PRIO m))
      ∧ (∀ k, k < 16 → k ≠ m → s.canFetch k = true → s.get (Reg.HI_RING_CFG_PRIO k) = s.get (Reg.HI_RING_CFG_PRIO m) →
          let last := Tbl.get 15 s.hi.rr (s.get (Reg.HI_RING_CFG_PRIO m))
          last < 16 → (m + 15 - last) % 16 < (k + 15 - last) % 16))
  ∧ (∀ m, s.served1 = some m → s.ringHost m = true → ∃ u,
      exec (.descriptorFetch d host) s = .next ((u.acceptDesc m d.toNat host).ringHeader m)
      ∧ u.get (Reg.HI_RING_HEAD m) = (s.get (Reg.HI_RING_HEAD m) + 1) % s.ringSize m % 2 ^ 16
      ∧ u.hi = { s.hi with rr := Tbl.put 15 s.hi.rr (s.get (Reg.HI_RING_CFG_PRIO m)) m } ∧ Moves s u [.hi] [Reg.HI_RING_HEAD m])
  ∧ (∀ m, s.served1 = some m → s.ringHost m = false →
      let a := s.ringBase m + 64 + 64 * s.get (Reg.HI_RING_HEAD m)
      (s.sramSpoilt (exchBase + a) 64 = none → ∃ u,
        exec (.descriptorFetch d host) s = .next ((u.acceptDesc m (leNat (s.exchRead a 64)) host).ringHeader m)
        ∧ u.get (Reg.HI_RING_HEAD m) = (s.get (Reg.HI_RING_HEAD m) + 1) % s.ringSize m % 2 ^ 16 ∧ Moves s u [.hi] [Reg.HI_RING_HEAD m])
      ∧ (∀ w, s.sramSpoilt (exchBase + a) 64 = some w → ∃ u, exec (.descriptorFetch d host) s = .next ((u.sramUe (8 * w)).fetchError m)
        ∧ u.hi = { s.hi with rr := Tbl.put 15 s.hi.rr (s.get (Reg.HI_RING_CFG_PRIO m)) m } ∧ Moves s u [.hi] []))

/-- R198, R212, R319 to R321, R344, R292: a descriptor of a timed opcode, fetched from a running ring, is checked at once. In order, it is
accepted: it takes the next number, enters the timed queue with its time, and a cast notes its group's last key and replaces it, a SET_GROUP
clears it, a load's image is copied. Not in order, it completes with its status and is counted; while STOPPING it completes STOPPED; the
4096th entry sets QUEUE_FULL, and while the queue holds them nothing is fetched.
(The model's choices in it: log entries 61 and 67.) -/
def Obligations.TimedAcceptance : Prop :=
  ∀ (n : Fin 16) (d : BitVec 512) (host : List (BitVec 8)) (s : State), s.Inv → s.ringState n = 2 →
    let x := d.toNat
    let op := dfield x 0 1
    let mode := dfield x 27 1 % 4
    let rows := [((.cast n d : Instr), op == 0x01), (.release n d, op == 0x02), (.choke n d, op == 0x03), (.setParam n d, op == 0x04),
      (.setGroup n d, op == 0x05), (.rampParam n d, op == 0x06), (.loadMaquette n d host, op == 0x10), (.unloadMaquette n d, op == 0x11),
      (.migrateSend n d, op == 0x20 && mode == 0), (.park n d, op == 0x20 && mode == 1), (.resume n d, op == 0x20 && mode == 2),
      (.spillEstablish n d, op == 0x21 && dfield x 16 1 == 0), (.spillDissolve n d, op == 0x21 && dfield x 16 1 == 1),
      (.streamMap n d, op == 0x30), (.outSet n d, op == 0x31)]
    let g := dfield x 16 1 % 64
    let fl : Flight := ⟨s.hi.nextSeq, n, s.get (Reg.HI_RING_STAT_GEN n), op, dfield x 2 2, bit x 8⟩
    let c : TCmd := ⟨fl, .ring, dfield x 8 8, s.tu, (s.group g).lastKey, x, false⟩
    ∀ i, (i, true) ∈ rows →
    (rejectOf (s.get (Reg.HI_RING_STAT_VER n)) x = none → (needsCluster x = false ∨ s.pwState ≠ 1) → s.schState ≠ 3 →
      s.queueLen + 1 < 4096 → (∀ q ∈ s.sch.queue, q.fl.seq < s.hi.nextSeq) → ∃ t, exec i s = .next t
        ∧ t.sch.queue = s.sch.queue ++ [c] ∧ t.sch = { s.sch with queue := t.sch.queue, fullEp := false }
        ∧ t.hi = { s.hi with nextSeq := s.hi.nextSeq + 1, flights := s.hi.flights ++ [fl] }
        ∧ t.get Reg.HI_CNT_ACCEPT = (s.get Reg.HI_CNT_ACCEPT + 1) % 2 ^ 32
        ∧ (op = 0x10 → t.loads = s.loads ++ [⟨c, s.imageAt (dfield x 17 1) (dfield x 24 8) (dfield x 20 4) host, none⟩])
        ∧ (op ≠ 0x10 → t.loads = s.loads)
        ∧ (op = 1 → t.group g = { s.group g with lastKey := some (BitVec.ofNat 32 (dfield x 24 4)) })
        ∧ (op = 5 → t.group g = { s.group g with lastKey := none })
        ∧ (op ≠ 1 → op ≠ 5 → t.al = s.al) ∧ (∀ k, k ≠ g → t.group k = s.group k) ∧ (∀ e, t.ent e = s.ent e)
        ∧ Moves s t [.hi, .sch, .al, .loads] [Reg.HI_CNT_ACCEPT])
  ∧ (rejectOf (s.get (Reg.HI_RING_STAT_VER n)) x = none → op ≠ 0x10 → (needsCluster x = false ∨ s.pwState ≠ 1) → s.schState = 3 →
      s.queueLen < 4096 → ∃ u : State, exec i s = .next (u.finish c s.ns 0x0C 0 0) ∧ u.sch = s.sch ∧ (∀ e, u.ent e = s.ent e)
        ∧ u.get Reg.HI_CNT_ACCEPT = (s.get Reg.HI_CNT_ACCEPT + 1) % 2 ^ 32 ∧ Moves s u [.hi, .al] [Reg.HI_CNT_ACCEPT])
  ∧ (rejectOf (s.get (Reg.HI_RING_STAT_VER n)) x = none → op ≠ 0x10 → (needsCluster x = false ∨ s.pwState ≠ 1) → s.schState ≠ 3 →
      s.queueLen + 1 = 4096 → s.sch.fullEp = false → ∃ u : State, exec i s = .next (u.event 0x3F 71 0 0 0) ∧ u.get Reg.AL_SCH_FLAGS_QUEUE_FULL = 1
        ∧ u.sch = { s.sch with queue := s.sch.queue ++ [c], fullEp := true })
  ∧ (4096 ≤ s.queueLen → exec i s = .next s)
  ∧ (∀ st, op ≠ 0x30 → s.queueLen < 4096 → rejectOf (s.get (Reg.HI_RING_STAT_VER n)) x = some st → ∃ u : State,
        exec i s = .next (u.complete fl s.ns st (rejectDetail (s.get (Reg.HI_RING_STAT_VER n)) x) 0) ∧ (st = 2 ∨ st = 3) ∧ u.get Reg.HI_CNT_REJECT = (s.get Reg.HI_CNT_REJECT + 1) % 2 ^ 32 ∧ u.hi = { s.hi with nextSeq := s.hi.nextSeq + 1 }
        ∧ Moves s u [.hi] [Reg.HI_CNT_REJECT])

/-- R314, R318, R319, R324 to R333: what a descriptor must hold to be accepted, by opcode and ring version: an unknown opcode answers
BAD_OPCODE, a field out of order or a binary32 that is not finite BAD_VALUE. Shown of CAST, RELEASE and SET_PARAM.
(The model's choices in it: log entries 61 and 152.) -/
def Obligations.DescriptorChecks : Prop :=
  ∀ (ver d : Nat),
    let op := dfield d 0 1
    let f32 (b : Nat) := f32At d b
    (op = 0 ∨ op = 0x07 ∨ 0x80 ≤ op ∨ (ver < 2 ∧ (op = 0x20 ∨ op = 0x21 ∨ op = 0x60)) → rejectOf ver d = some 2)
  ∧ (op = 1 → (rejectOf ver d = none ↔ dfield d 1 1 < 2 ∧ dfield d 4 4 = 0 ∧ dfield d 16 1 < 64 ∧ dfield d 17 1 < 6 ∧ dfield d 18 1 < 8
      ∧ dfield d 19 1 = 0 ∧ inRangeF 0xC3000000 0x437F0000 (f32 24) = true ∧ inRangeF 0 0x3F800000 (f32 28) = true
      ∧ (dfield d 17 1 % 2 = 1 → dfield d 17 1 = 1 ∧ 2 ≤ ver) ∧ (dfield d 17 1 % 2 = 0 → dfield d 32 12 = 0)
      ∧ dfield d 44 1 ≤ (if ver < 3 then 0 else 2) ∧ dfield d 45 3 = 0
      ∧ (if dfield d 44 1 = 0 then dfield d 48 8 = 0 else dfield d 50 2 = 0)
      ∧ (if dfield d 44 1 ≤ 1 then dfield d 56 8 = 0 else dfield d 58 2 = 0)
      ∧ ∀ k : Nat, k < dfield d 44 1 → isReal false (dfield d (48 + 8 * k) 2) = true → fFinite (f32 (52 + 8 * k)) = true))
  ∧ (op = 2 → (rejectOf ver d = none ↔ dfield d 1 1 < 2 ∧ dfield d 4 4 = 0 ∧ dfield d 16 1 ≤ 3 ∧ dfield d 17 1 = 0 ∧ dfield d 19 1 = 0
      ∧ (if dfield d 16 1 = 2 ∨ dfield d 16 1 = 3 then dfield d 18 1 < 64 else dfield d 18 1 = 0)
      ∧ (dfield d 16 1 = 2 → fFinite (f32 20) = true) ∧ (dfield d 16 1 = 3 → dfield d 20 4 = 0)
      ∧ inRangeF 0 0x3F800000 (f32 24) = true ∧ dfield d 28 36 = 0))
  ∧ (op = 4 → (rejectOf ver d = none → 1 ≤ dfield d 17 1 ∧ dfield d 16 1 ≤ (if ver < 3 then 3 else 4)
      ∧ dfield d 17 1 ≤ (if ver < 3 then 1 else 4) ∧ dfield d 56 8 = 0
      ∧ ∀ k : Nat, k < dfield d 17 1 → isReal (dfield d 16 1 == 4) (dfield d (24 + 8 * k) 2) = true → fFinite (f32 (28 + 8 * k)) = true))
  ∧ (∀ st, rejectOf ver d = some st → st = 2 ∨ st = 3)

/-- R320, R334, R336, R337, R339, R540: immediate commands run as they are accepted, and hold their ring until their time. MEM_DMA starts a
transfer or completes ACCESS; its end writes what was read and completes OK, or DMA_ERROR with the bytes moved. FABRIC_SEND sends one user
frame or completes NODE_LOST. A FENCE completes once everything before it has. A SERIAL_TX joins its port's queue, or waits at its ring for
room. A hold ends at its time.
(The model's choices in it: log entries 61, 98, 100 and 102.) -/
def Obligations.ImmediateCommands : Prop :=
  ∀ (n : Fin 16) (d : BitVec 512) (host : List (BitVec 8)) (s : State), s.Inv →
    let x := d.toNat
    let op := dfield x 0 1
    let fl : Flight := ⟨s.hi.nextSeq, n, s.get (Reg.HI_RING_STAT_GEN n), op, dfield x 2 2, bit x 8⟩
    let good := s.ringState n = 2 ∧ rejectOf (s.get (Reg.HI_RING_STAT_VER n)) x = none ∧ (needsCluster x = false ∨ s.pwState ≠ 1)
      ∧ s.queueLen < 4096
    let now := dfield x 8 8 ≤ s.ns
    let taken (u : State) := u.hi = { s.hi with nextSeq := s.hi.nextSeq + 1, flights := s.hi.flights ++ [fl] }
      ∧ u.get Reg.HI_CNT_ACCEPT = (s.get Reg.HI_CNT_ACCEPT + 1) % 2 ^ 32 ∧ Moves s u [.hi] [Reg.HI_CNT_ACCEPT]
    let heldRing (o : Host.Outcome State Fault Refusal) := ∃ u : State, o = .next (u.ringHeader n) ∧ u.ringState n = 3
      ∧ u.heldAt n = some x ∧ u.hi.flights = s.hi.flights ∧ u.hi.nextSeq = s.hi.nextSeq ∧ Moves s u [.hi] [Reg.HI_RING_STAT_STATE n]
    let y : Dma := ⟨fl, dfield x 16 1, dfield x 17 1, dfield x 24 8, dfield x 32 8, dfield x 20 4⟩
    let inRange (y : Dma) := s.memRange y.sspace y.src y.len = true ∧ s.memRange y.dspace y.dst y.len = true
    (good → op = 0x50 → now → inRange y → ∃ t, exec (.memDma n d) s = .next t
      ∧ t.hi = { s.hi with nextSeq := s.hi.nextSeq + 1, flights := s.hi.flights ++ [fl], dmas := s.hi.dmas ++ [y] }
      ∧ t.get Reg.HI_CNT_ACCEPT = (s.get Reg.HI_CNT_ACCEPT + 1) % 2 ^ 32 ∧ Moves s t [.hi] [Reg.HI_CNT_ACCEPT])
  ∧ (good → op = 0x50 → now → ¬inRange y → ∃ u : State, exec (.memDma n d) s = .next (u.complete fl s.ns 0x1A 0 0) ∧ taken u)
  ∧ (good → ¬now → ∀ i, (i, op) ∈ [((.memDma n d : Instr), 0x50), (.fabricSend n d host, 0x60)] → heldRing (exec i s))
  ∧ (∀ (i : BitVec 16) (z : Dma) (u v : State) (b : List (BitVec 8)), s.hi.dmas[i.toNat]? = some z →
      ((z.sspace = 0 ∨ z.dspace = 0) → s.hostBlocked = true → exec (.memDmaDone i host none) s = .next s)
      ∧ ((z.sspace ≠ 0 ∧ z.dspace ≠ 0) ∨ s.hostBlocked = false → inRange z → u = { s with hi := { s.hi with dmas := s.hi.dmas.eraseIdx i.toNat } } →
          (u.memRead z.sspace z.src z.len host = (v, b, true) →
            exec (.memDmaDone i host none) s = .next ((v.memWrite z.dspace z.dst b).complete z.fl v.ns 0 0 0))
          ∧ (∀ k : BitVec 32, u.memRead z.sspace z.src z.len host = (v, b, true) → z.sspace = 0 ∨ z.dspace = 0 →
            let m := min k.toNat b.length
            exec (.memDmaDone i host (some k)) s = .next ((v.memWrite z.dspace z.dst (b.take m)).completeX z.fl v.ns 0x1B 0 0 m))
          ∧ (u.memRead z.sspace z.src z.len host = (v, b, false) →
            exec (.memDmaDone i host none) s = .next ((v.memWrite z.dspace z.dst b).completeX z.fl v.ns 0x1B 0 0 b.length))))
  ∧ (∀ i : BitVec 16, s.hi.dmas.length ≤ i.toNat → exec (.memDmaDone i host none) s = .next s)
  ∧ (good → op = 0x60 → now →
      let dst := dfield x 16 2
      let b := s.srcData x (dfield x 22 1) (dfield x 24 8) (dfield x 20 2) host
      ∃ u : State, taken u
        ∧ (s.dir dst = 5 → exec (.fabricSend n d host) s = .next ((u.sendTo (dfield x 18 1) 5 dst b none).1.complete fl s.ns 0 0 0))
        ∧ (s.dir dst = 0 → exec (.fabricSend n d host) s = .next (u.complete fl s.ns 0x0E 0 0))
        ∧ (s.dir dst ≠ 0 → s.dir dst ≠ 5 → exec (.fabricSend n d host) s = .next (u.sendTo (dfield x 18 1) 5 dst b (some fl)).1.sweep))
  ∧ (good → op = 0x7F → s.fenceFree n x s.hi.nextSeq = true →
      ∃ u : State, exec (.fence n d) s = .next (u.complete { fl with quiet := false } s.ns 0 0 0) ∧ taken u)
  ∧ (good → op = 0x7F → s.fenceFree n x s.hi.nextSeq = false → heldRing (exec (.fence n d) s))
  ∧ (∀ q, s.fenceFree n x q = true ↔ now ∧ ∀ f ∈ s.hi.flights, f.seq < q → f.ring ≠ n.val ∧ bit (dfield x 16 2) f.ring = false)
  ∧ (∀ q, s.heldAt n = some x → Tbl.get none s.hi.fenceAt n = some q →
      (s.fenceFree n x q = false → exec (.fenceRelease n) s = .next s)
      ∧ (s.fenceFree n x q = true → ∃ u : State, exec (.fenceRelease n) s
            = .next ((u.complete ⟨s.hi.nextSeq, n, s.get (Reg.HI_RING_STAT_GEN n), op, dfield x 2 2, false⟩ s.ns 0 0 0).settle n)
          ∧ u.heldAt n = none ∧ u.hi.flights = s.hi.flights ++ [fl] ∧ Moves s u [.hi] [Reg.HI_CNT_ACCEPT]))
  ∧ (s.heldAt n = none → exec (.fenceRelease n) s = .next s ∧ exec (.immediateHoldEnd n) s = .next s)
  ∧ (s.heldAt n = some x → op ≠ 0x40 → op ≠ 0x7F → ¬now → exec (.immediateHoldEnd n) s = .next s)
  ∧ (s.heldAt n = some x → op = 0x50 → now → inRange y → s.ringState n = 3 → s.ringHost n = false ∨ s.hostBlocked = false →
      ∃ u : State, exec (.immediateHoldEnd n) s = .next (u.ringHeader n) ∧ u.ringState n = 2 ∧ u.heldAt n = none
        ∧ u.hi.dmas = s.hi.dmas ++ [y] ∧ u.hi.flights = s.hi.flights ++ [fl]
        ∧ Moves s u [.hi] [Reg.HI_CNT_ACCEPT, Reg.HI_RING_STAT_STATE n])
  ∧ (good → op = 0x40 →
      let p := dfield x 16 1
      let len := dfield x 18 2
      let bytes := match dfield x 20 1 with
        | 0 => leBytes len (dfield x 32 32)
        | 1 => s.exchRead (dfield x 24 8) len
        | _ => host.take len
      (s.txCount p < 4 → ∃ t, exec (.serialTx n d host) s = .next t
        ∧ t.uart p = { s.uart p with txq := (s.uart p).txq ++ [⟨fl, dfield x 8 8, dfield x 17 1, bytes, dfield x 20 1 == 2⟩] }
        ∧ (∀ q, q ≠ p → t.uart q = s.uart q) ∧ t.hi = { s.hi with nextSeq := s.hi.nextSeq + 1, flights := s.hi.flights ++ [fl] }
        ∧ t.get Reg.HI_CNT_ACCEPT = (s.get Reg.HI_CNT_ACCEPT + 1) % 2 ^ 32 ∧ Moves s t [.hi, .ser] [Reg.HI_CNT_ACCEPT])
      ∧ (4 ≤ s.txCount p → heldRing (exec (.serialTx n d host) s)))
  ∧ (good → op = 0x70 → now → dfield x 16 1 = 3 → s.st.cur = none →
      (dfield x 20 1 = 3 → ∃ u : State, exec (.periodicEnable n d) s = .next (u.complete fl s.ns 0 0 0) ∧ u.get Reg.ST_CTRL_PER_EN = 1
        ∧ u.get Reg.ST_CTRL_CLASS_EN = s.get Reg.ST_CTRL_CLASS_EN
        ∧ Moves s u [.hi] [Reg.HI_CNT_ACCEPT, Reg.ST_CTRL_PER_EN, Reg.ST_STAT_PER_RUN])
      ∧ (dfield x 20 1 = 4 → ∃ u : State, exec (.periodicDisable n d) s = .next (u.complete fl s.ns 0 0 0) ∧ u.get Reg.ST_CTRL_PER_EN = 0
        ∧ u.get Reg.ST_STAT_PER_RUN = 0 ∧ u.get Reg.ST_CTRL_CLASS_EN = s.get Reg.ST_CTRL_CLASS_EN
        ∧ Moves s u [.hi] [Reg.HI_CNT_ACCEPT, Reg.ST_CTRL_PER_EN, Reg.ST_STAT_PER_RUN]))

/-! ### Event queues -/

/-- R346 to R354, R358: event queues. Enabling starts at PROD and CONS 0, PHASE 1, sequence 0, or sets RANGE; disabling discards what is
held; a CONS outside what is waiting is refused; a record goes where its source maps, is held while the queue waits, and is
written as 32 bytes at PROD with its phase and number; a signal covers every record written.
(The model's choices in it: log entry 65.) -/
def Obligations.EventQueues : Prop :=
  ∀ (n : Fin 8) (v : BitVec 32) (s : State), s.Inv →
    let w := v.toNat
    let q := s.queue n
    let z := s.qSize n
    let base := s.get (Reg.EQ_Q_BASE_LO n) * 64 + 2 ^ 32 * s.get (Reg.EQ_Q_BASE_HI n)
    let sizeOk := 4 ≤ bits w 1 5 ∧ bits w 1 5 ≤ 16
    let fits := base + 32 * 2 ^ bits w 1 5 ≤ (if bits w 6 1 = 0 then 2 ^ 64 else 0x80000)
    let cfg := [Reg.EQ_Q_CFG_ENABLE n, Reg.EQ_Q_CFG_VECTOR n, Reg.EQ_Q_CFG_LOG2SIZE n, Reg.EQ_Q_CFG_LOC n, Reg.EQ_Q_CFG_OWNER n]
    (q.on = false → sizeOk → fits → (∀ e ∈ s.pcieHeld, e.1 ≠ n.val) → ∃ t, exec (.eqEnable n v) s = .next t
      ∧ t.queue n = ⟨true, true, 0, [], 0, 0, none⟩ ∧ t.get (Reg.EQ_Q_PROD n) = 0 ∧ t.get (Reg.EQ_Q_CONS n) = 0
      ∧ t.get (Reg.EQ_Q_CFG_LOG2SIZE n) = bits w 1 5 ∧ t.get (Reg.EQ_Q_CFG_LOC n) = bits w 6 1
      ∧ t.get (Reg.EQ_Q_CFG_OWNER n) = bits w 20 12 ∧ t.get (Reg.EQ_Q_CFG_VECTOR n) = bits w 8 6
      ∧ (∀ m, m ≠ n.val → t.queue m = s.queue m) ∧ Moves s t [.eq, .held] (cfg ++ [Reg.EQ_Q_PROD n, Reg.EQ_Q_CONS n]))
  ∧ (q.on = false → sizeOk → ¬fits → ∃ t, exec (.eqEnable n v) s = .next t ∧ t.get (Reg.EQ_Q_STAT_RANGE n) = 1
      ∧ Moves s t [] (cfg ++ [Reg.EQ_Q_STAT_RANGE n]))
  ∧ (q.on = true → ∃ t, exec (.eqEnable n v) s = .next t ∧ t.get (Reg.EQ_Q_CFG_VECTOR n) = bits w 8 6
      ∧ Moves s t [] [Reg.EQ_Q_CFG_ENABLE n, Reg.EQ_Q_CFG_VECTOR n, Reg.EQ_Q_STAT_CFG_REFUSED n])
  ∧ (q.on = true → ∃ t, exec (.eqDisable n v) s = .next t ∧ t.queue n = { q with on := false, held := [], dropped := 0, unsig := 0, firstUnsig := none }
      ∧ t.get Reg.EQ_CNT_DISCARD = (s.get Reg.EQ_CNT_DISCARD + q.held.length) % 2 ^ 32
      ∧ (∀ h ∈ q.held, ∀ sq r g, h.kind = .completion sq r g → ∀ f ∈ t.hi.flights, f.seq ≠ sq)
      ∧ (∀ m, m ≠ n.val → t.queue m = s.queue m)
      ∧ Moves s t [.eq, .hi, .sch] [Reg.EQ_Q_CFG_ENABLE n, Reg.EQ_Q_CFG_VECTOR n, Reg.EQ_Q_STAT_CFG_REFUSED n, Reg.EQ_CNT_DISCARD])
  ∧ (q.on = false → ∃ t, exec (.eqDisable n v) s = .next t ∧ Moves s t [] (cfg ++ [Reg.EQ_Q_STAT_CFG_REFUSED n]))
  ∧ (∀ via : Option (BitVec 12),
      let c := s.get (Reg.EQ_Q_CONS n)
      let good := w % 2 ^ 16 < z ∧ (w % 2 ^ 16 + z - c) % z ≤ (s.get (Reg.EQ_Q_PROD n) + z - c) % z
        ∧ (s.get (Reg.EQ_Q_CFG_LOC n) = 0 ∨ via = some (BitVec.ofNat 12 (s.get (Reg.EQ_Q_CFG_OWNER n))))
      (good → ∃ t, exec (.eqConsWrite n v via) s = .next t ∧ t.get (Reg.EQ_Q_CONS n) = w % 2 ^ 16 ∧ Moves s t [] [Reg.EQ_Q_CONS n])
      ∧ (¬good → ∃ t, exec (.eqConsWrite n v via) s = .next t ∧ t.get (Reg.EQ_Q_STAT_BAD_CONS n) = 1 ∧ Moves s t [] [Reg.EQ_Q_STAT_BAD_CONS n]))
  ∧ (q.held = [] ∨ s.qState n ≠ 1 → exec (.eqDrain n) s = .next s)
  ∧ (∀ h, q.held = [h] → h.kind ≠ .marker → s.qState n = 1 →
      exec (.eqDrain n) s = .next ((s.setQueue n { q with held := [] }).qWrite n h))
  ∧ (q.firstUnsig = none → exec (.moderationTimeout n) s = .next s)
  ∧ (∀ t0 x, q.firstUnsig = some (t0, x) →
      (s.ns < t0 + 1000 * s.get (Reg.EQ_Q_MOD_MOD_TIME n) ∨ (s.get (Reg.EQ_Q_CFG_LOC n) = 0 ∧ s.hostBlocked = true) →
          exec (.moderationTimeout n) s = .next s)
      ∧ (t0 + 1000 * s.get (Reg.EQ_Q_MOD_MOD_TIME n) ≤ s.ns → s.get (Reg.EQ_Q_CFG_LOC n) = 0 → s.hostBlocked = false →
          let k := s.get (Reg.EQ_Q_CFG_VECTOR n)
          ∃ t, exec (.moderationTimeout n) s = .next t ∧ t.queue n = { q with unsig := 0, firstUnsig := none }
            ∧ (s.get (Reg.HI_MSIX_CTRL k) = 0 → t.out = .msix k (s.get64 (Reg.HI_MSIX_ADDR_LO k) (Reg.HI_MSIX_ADDR_HI k))
                (s.get (Reg.HI_MSIX_DATA k)) :: s.out ∧ Moves s t [.eq, .out] [])
            ∧ (s.get (Reg.HI_MSIX_CTRL k) = 1 → bit (t.get (Reg.HI_PBA (k / 32))) (k % 32) = true ∧ Moves s t [.eq] [Reg.HI_PBA (k / 32)])))
  ∧ (∀ r : Rec, s.get (Reg.EQ_SRC_QUEUE r.src) = n → (r.src < 8 ∨ 13 < r.src) →
      let h : HeldRec := ⟨r, s.on (Reg.EQ_SRC_URGENT r.src), .plain⟩
      (s.get (Reg.EQ_SRC_EN r.src) = 0 → s.record r = s)
      ∧ (s.get (Reg.EQ_SRC_EN r.src) = 1 → q.on = false → s.record r = s.count Reg.EQ_CNT_DISCARD 1)
      ∧ (s.get (Reg.EQ_SRC_EN r.src) = 1 → q.held = [] → s.qState n = 1 → s.record r = s.qWrite n h)
      ∧ (s.get (Reg.EQ_SRC_EN r.src) = 1 → q.on = true → q.held ≠ [] ∨ s.qState n = 2 → q.heldPlain < 63 →
          s.record r = s.setQueue n { q with held := q.held ++ [h] }))
  ∧ (∀ h : HeldRec, h.kind = .plain → h.urgent = false → q.unsig + 1 < max 1 (s.get (Reg.EQ_Q_MOD_MOD_COUNT n)) →
      s.get (Reg.EQ_Q_MOD_MOD_TIME n) ≠ 0 → s.get (Reg.EQ_Q_CFG_LOC n) = 0 → 1 ≤ s.get (Reg.EQ_Q_CFG_LOG2SIZE n) → s.get (Reg.EQ_Q_CFG_LOG2SIZE n) ≤ 16 →
      let p := (s.get (Reg.EQ_Q_PROD n) + 1) % z
      let b := h.r.bytes q.phase q.seq
      let t := s.qWrite n h
      b.length = 32 ∧ leNat b % 256 = h.r.typ % 256 ∧ bit (leNat b) 15 = q.phase
      ∧ t.out = .hostWrite (base + 32 * s.get (Reg.EQ_Q_PROD n)) b :: s.out ∧ t.get (Reg.EQ_Q_PROD n) = p
      ∧ (t.queue n).seq = (q.seq + 1) % 65536 ∧ (t.queue n).phase = (if p = 0 then !q.phase else q.phase) ∧ (t.queue n).unsig = q.unsig + 1
      ∧ Moves s t [.eq, .out] [Reg.EQ_Q_PROD n])

/-! ### Memory and self-test -/

/-- R244, R487, R491 to R496, R503: a core's DMA port starts a legal transfer or ends it with its cause, moves what could be read and
raises line 2, and a read of STATUS clears it; a bank's power keeps or zeroes its words, and is refused for banks 45 to 47 and for a window in
use; a window write waits for the boundary, or is refused whole.
(The model's choices in it: log entries 60, 88 and 154.) -/
def Obligations.SharedMemory : Prop :=
  ∀ (c : Fin 20) (b : Fin 48) (v : BitVec 32) (s : State), s.Inv →
    let f := s.flushStores c
    let d := f.dmaPort c
    let p := v.toNat % 4
    let powered := [Reg.MEM_BANK_PWR b, Reg.MEM_BANK_STATE b]
    let zeroed (t : State) := ∀ a, t.sram.byte a = if a / 0x80000 = b.val then 0 else s.sram.byte a
    (d.busy = true → exec (.coreDmaGo c) s = .next f)
  ∧ (d.busy = false → d.len % 8 = 0 → 8 ≤ d.len → d.len ≤ 65536 → f.dmaRange (bits d.regs 160 8) d.src d.len = 0 →
      f.dmaRange (bits d.regs 168 8) d.dst d.len = 0 → ∃ t, exec (.coreDmaGo c) s = .next t ∧ t.dmaPort c = { d with busy := true }
        ∧ (∀ k, k ≠ c.val → t.dmaPort k = f.dmaPort k) ∧ Moves f t [.ms] [])
  ∧ (d.busy = false → (d.len % 8 ≠ 0 ∨ d.src % 8 ≠ 0 ∨ d.dst % 8 ≠ 0 → exec (.coreDmaGo c) s = .next (f.dmaEnd c 3))
      ∧ (d.len % 8 = 0 → d.src % 8 = 0 → d.dst % 8 = 0 → d.len < 8 ∨ 65536 < d.len → exec (.coreDmaGo c) s = .next (f.dmaEnd c 1)))
  ∧ (∀ cause, (s.dmaEnd c cause).dmaPort c = { s.dmaPort c with busy := false, done := cause == 0, error := cause != 0, cause := cause }
      ∧ Moves s (s.dmaEnd c cause) [.ms, .cores] []
      ∧ (s.chState c = 1 → (s.dmaEnd c cause).core c = { s.core c with ip := (s.core c).ip ||| 4 }))
  ∧ ((s.dmaPort c).busy = false → exec (.coreDmaDone c) s = .next s)
  ∧ (let g := s.dmaPort c
     let dst := bits g.regs 168 8
     g.busy = true → bits g.regs 160 8 = 0 → (s.core c).dmemBad = [] →
      exec (.coreDmaDone c) s = .next (((s.dmemFix c g.src g.len).dmaWrite c dst g.dst ((s.core c).dmem.bytes g.src g.len)).dmaEnd c 0))
  ∧ (let g := s.dmaPort c
     let dst := bits g.regs 168 8
     g.busy = true → bits g.regs 160 8 = 2 → (s.dramSpoilt g.src g.len = none →
        exec (.coreDmaDone c) s = .next (((s.dramFix g.src g.len).dmaWrite c dst g.dst (s.dram.bytes g.src g.len)).dmaEnd c 0))
      ∧ (∀ w, s.dramSpoilt g.src g.len = some w → exec (.coreDmaDone c) s
          = .next ((((s.dramFix g.src (8 * w - g.src)).dramUe (8 * w)).dmaWrite c dst g.dst ((s.dram.bytes g.src g.len).take (8 * w - g.src))).dmaEnd c 2)))
  ∧ (∀ a l, (s.dmaWrite c 0 a l).cores.length = 20 ∧ Moves s (s.dmaWrite c 0 a l) [.cores] []
      ∧ ∀ x, ((s.dmaWrite c 0 a l).core c).dmem.byte x = if a ≤ x ∧ x < a + l.length then l.getD (x - a) 0 else (s.core c).dmem.byte x)
  ∧ (∀ a l x, (s.dmaWrite c 2 a l).dram.byte x = if a ≤ x ∧ x < a + l.length then l.getD (x - a) 0 else s.dram.byte x)
  ∧ (∃ t, exec (.coreDmaStatusRead c) s = .next t ∧ t.rdata = (s.dmaPort c).status
      ∧ t.dmaPort c = { s.dmaPort c with done := false, error := false, cause := 0 }
      ∧ t.core c = { s.core c with ip := (s.core c).ip &&& 0xFFFB } ∧ Moves s t [.rdata, .ms, .cores] [])
  ∧ (b.val < 45 → p = 3 → exec (.bankPowerWrite b v) s = .next s)
  ∧ (45 ≤ b.val → ∃ t, exec (.bankPowerWrite b v) s = .next t ∧ t.get Reg.MEM_FLAGS_PWR_REFUSED = 1 ∧ Moves s t [] [Reg.MEM_FLAGS_PWR_REFUSED])
  ∧ (b.val < 45 → p ≠ 3 → p ≠ s.get (Reg.MEM_BANK_PWR b) → s.get (Reg.MEM_BANK_PWR b) = 2 → s.winInBank b = true →
      ∃ t, exec (.bankPowerWrite b v) s = .next t ∧ t.get Reg.MEM_FLAGS_PWR_REFUSED = 1 ∧ Moves s t [] [Reg.MEM_FLAGS_PWR_REFUSED])
  ∧ (b.val < 45 → p ≠ 3 → p = s.get (Reg.MEM_BANK_PWR b) → exec (.bankPowerWrite b v) s = .next s)
  ∧ (b.val < 45 → p ≠ 3 → p ≠ s.get (Reg.MEM_BANK_PWR b) → (s.get (Reg.MEM_BANK_PWR b) = 2 → s.winInBank b = false) → s.ms.test = none →
      (p = 0 → ∃ t, exec (.bankPowerWrite b v) s = .next t ∧ t.get (Reg.MEM_BANK_STATE b) = 0 ∧ t.get (Reg.MEM_BANK_PWR b) = 0
        ∧ zeroed t ∧ Moves s t [.sram, .ms] powered)
      ∧ (p ≠ 0 → ∃ t, exec (.bankPowerWrite b v) s = .next t ∧ t.get (Reg.MEM_BANK_PWR b) = p
        ∧ t.get (Reg.MEM_BANK_STATE b) = (if s.get (Reg.MEM_BANK_STATE b) = 0 then 0 else p) ∧ Moves s t [] powered))
  ∧ (s.get (Reg.MEM_BANK_STATE b) = 0 → s.get (Reg.MEM_BANK_PWR b) ≠ 0 → ∃ t, exec (.bankPowerUpDone b) s = .next t
      ∧ t.get (Reg.MEM_BANK_STATE b) = s.get (Reg.MEM_BANK_PWR b) ∧ zeroed t ∧ Moves s t [.sram, .ms] [Reg.MEM_BANK_STATE b])
  ∧ (s.get (Reg.MEM_BANK_STATE b) ≠ 0 ∨ s.get (Reg.MEM_BANK_PWR b) = 0 → exec (.bankPowerUpDone b) s = .next s)
  ∧ (∀ (w : Fin 64) (r : Fin 4),
      let q (k : Nat) : Nat := match r.val, k with
        | 0, 2 => bits v.toNat 0 31 | 1, 3 => bits v.toNat 0 24 | 3, 0 => bits v.toNat 0 1 | 3, 1 => bits v.toNat 1 1 | 3, 5 => bits v.toNat 8 7
        | _, _ => s.winNext w k
      let ptr := if r = 2 then some (bits v.toNat 0 24) else Tbl.get none s.ms.winPend (8 * w + 4)
      let legal := 1 ≤ q 3 ∧ (∀ x, ptr = some x → x < q 3)
        ∧ (q 0 = 1 → if q 1 = 0 then 4 * (q 2 + q 3) ≤ 45 * 0x80000 else 0x10000 ≤ 4 * q 2 ∧ 4 * (q 2 + q 3) ≤ 2 ^ 33)
      (legal → ∃ t, exec (.windowDescriptorWrite w r v) s = .next t ∧ (∀ k ∈ [0, 1, 2, 3, 5], t.winNext w k = q k)
        ∧ Tbl.get none t.ms.winPend (8 * w + 4) = ptr
        ∧ (∀ k, k / 8 ≠ w.val → Tbl.get none t.ms.winPend k = Tbl.get none s.ms.winPend k) ∧ Moves s t [.ms] [])
      ∧ (¬legal → ∃ t, exec (.windowDescriptorWrite w r v) s = .next t ∧ t.get Reg.MEM_FLAGS_WIN_REFUSED = 1
        ∧ Moves s t [] [Reg.MEM_FLAGS_WIN_REFUSED]))
  ∧ (s.get Reg.MEM_CTRL_SCRUB_EN = 1 → ∃ t, exec .scrubLate s = .next t ∧ t.get Reg.MEM_FLAGS_SCRUB_LATE = 1 ∧ Moves s t [] [Reg.MEM_FLAGS_SCRUB_LATE])
  ∧ (s.get Reg.MEM_CTRL_SCRUB_EN = 0 → exec .scrubLate s = .next s)

/-- R497 to R501, R526 to R530, R535 to R539, R541 to R543: a slice serves the class whose turn it is; a region's test restores its
redirection and reports or goes on; a budget's end cuts a test short as INCOMPLETE; a test's end reports its verdict; a bench not granted
in time is withdrawn; a raw test outside its life-cycle states is DENIED.
(The model's choices in it: log entries 83, 85 and 87.) -/
def Obligations.SelfTestSlices : Prop :=
  ∀ (s : State), s.Inv →
    let show_ := [Reg.ST_STAT_ACTIVE, Reg.ST_STAT_UNIT, Reg.ST_STAT_REGION]
    let region (r : RegionTest) := [Reg.MEM_STAT_REGION, Reg.MEM_STAT_BANK, Reg.MEM_STAT_TEST_ACTIVE, Reg.MEM_STAT_REDIRECT, Reg.MEM_BANK_TEST r.bank]
    let wait := 1000000000 * max 1 (s.get Reg.ST_WAIT)
    (s.sliceDue = false ∨ s.get Reg.ST_CTRL_CLASS_EN = 0 → exec .sliceStart s = .next s)
  ∧ (s.sliceDue = true → s.st.turn = 3 → bit (s.get Reg.ST_CTRL_CLASS_EN) 3 = true → 150 ≤ s.stBudget → ∃ t, exec .sliceStart s = .next t
      ∧ t.st.cur = some ⟨0x60, false, some s.ns, 0, 0, 0, true⟩ ∧ t.st.turn = 0 ∧ t.get Reg.ST_STAT_ACTIVE = 3 ∧ t.get Reg.ST_STAT_UNIT = 0x60
      ∧ Moves s t [.st] show_)
  ∧ (∀ p, s.sliceDue = true → s.st.turn = 0 → s.stPos 0 = p → p < 60 → bit (s.get Reg.ST_CTRL_CLASS_EN) 0 = true → 330 ≤ s.stBudget → s.upd = none →
      s.st.pos.length = 4 →
      (s.chState (p / 3) = 5 → ∃ t, exec .sliceStart s = .next t ∧ t.st.cur = some ⟨p / 3 + 256 * (p % 3), false, some s.ns, 0, 0, 0, true⟩
        ∧ t.st.turn = 1 ∧ t.st.bench = none ∧ t.get Reg.ST_STAT_ACTIVE = 3 ∧ Moves s t [.st] show_)
      ∧ (s.chState (p / 3) ≠ 5 → s.st.bench = none → 2 ≤ s.schState → ∃ t, exec .sliceStart s = .next t ∧ t.st.bench = some (p / 3, s.ns)
        ∧ t.st.cur = none ∧ t.al.draining.contains (p / 3) = true ∧ Moves s t [.st, .al, .cores] []))
  ∧ (s.ms.test = none → ∀ n x, exec (.regionTestRestore n x) s = .next s)
  ∧ (∀ (r : RegionTest) (t : StTest) (n : BitVec 4) (x : BitVec 32), s.ms.test = some r → s.st.cur = some t → unitClass t.unit = 1 → t.unit < 2 ^ 16 →
      (∀ i, i < 4 → bit n.toNat i = false ∧ Tbl.get 0 s.ms.rowErr (512 * r.bank + (4 * r.region + i)) < 16) →
      let go := t.region + 1 < 128 ∧ (t.raw = true ∨ ∀ b, t.start = some b → s.ns + 20000 ≤ b + 1000 * s.stBudget)
      (¬go → ∃ u w, exec (.regionTestRestore n x) s = .next w ∧ u.ms.test = none ∧ u.get Reg.MEM_STAT_REDIRECT = 0
        ∧ u.get Reg.MEM_STAT_TEST_ACTIVE = 0 ∧ Moves s u [.ms] (region r) ∧ w.st.cur = none
        ∧ Reported u w 117 t.unit (if t.good then 1 else 2) x.toNat (10240 * (t.done + 1)) (if t.raw then 4 else 2) [.st] show_)
      ∧ (go → s.ms.sramBad = [] → s.ms.sramSoft = [] → ∃ w, exec (.regionTestRestore n x) s = .next w
        ∧ w.ms.test = some ⟨unitCode t.unit - 0x20, t.region + 1⟩ ∧ w.get Reg.MEM_STAT_REDIRECT = 1
        ∧ w.st = { s.st with cur := some { t with region := t.region + 1, done := t.done + 1, sig := x.toNat } }
        ∧ Moves s w [.ms, .st] (region r ++ show_ ++ [Reg.MEM_BANK_TEST (unitCode t.unit - 0x20)])))
  ∧ (∀ b row, b < 48 → row < 512 → s.get (Reg.MEM_BANK_REPAIRS b) < Tbl.get 4 s.ms.spares b → s.get (Reg.MEM_BANK_REPAIRS b) < 7 →
      ∃ u : State, s.repairRow b row = u.event 0x61 119 (0x20 + b) 2 (pay 16 b + pay 18 row)
        ∧ u.get (Reg.MEM_BANK_REPAIRS b) = s.get (Reg.MEM_BANK_REPAIRS b) + 1 ∧ u.ms.repaired = (512 * b + row) :: s.ms.repaired
        ∧ Moves s u [.ms] [Reg.MEM_BANK_REPAIRS b])
  ∧ (∀ b row, Tbl.get 4 s.ms.spares b ≤ s.get (Reg.MEM_BANK_REPAIRS b) → ∃ u : State,
      s.repairRow b row = u.event 0x61 119 (0x20 + b) 3 (pay 16 b + pay 18 row)
        ∧ u.get (Reg.MEM_BANK_DEGRADED b) = 1 ∧ Moves s u [] [Reg.MEM_BANK_DEGRADED b])
  ∧ (s.st.cur = none → exec .sliceBudgetEnd s = .next s ∧ ∀ g x, exec (.testComplete g x) s = .next s)
  ∧ (∀ t b, s.st.cur = some t → t.start = some b → t.raw = true ∨ s.ns < b + 1000 * s.stBudget → exec .sliceBudgetEnd s = .next s)
  ∧ (∀ t b, s.st.cur = some t → t.raw = false → t.start = some b → b + 1000 * s.stBudget ≤ s.ns → unitClass t.unit = 1 → s.ms.test = none →
      s.st.shut = none → ∃ w, exec .sliceBudgetEnd s = .next w ∧ w.st.cur = none
        ∧ Reported s w 117 t.unit 3 t.sig (10240 * t.done) 2 [.st] show_)
  ∧ (∀ (t : StTest) (b : Nat) (g : Bool) (x : BitVec 32), s.st.cur = some t → t.start = some b → t.raw = false → s.st.shut = none →
      (t.unit = 0x60 → ∃ w, exec (.testComplete g x) s = .next w ∧ w.st.cur = none
        ∧ Reported s w 117 0x60 (if x.toNat % 512 = 0x1FF then 1 else 2) (x.toNat % 512) 9 2 [.st] show_)
      ∧ (∀ c : Fin 20, t.unit = c.val → s.chState c = 5 → ∃ w, exec (.testComplete g x) s = .next w ∧ w.st.cur = none
        ∧ Reported s w 117 c (if g then 1 else 2) x.toNat 65536 2 [.st] (show_ ++ [Reg.ST_HELD_CORE])
        ∧ bit (w.get Reg.ST_HELD_CORE) c = !g ∧ w.chState c = 5)
      ∧ (∀ c : Fin 20, t.unit = c.val → s.chState c ≠ 5 → exec (.testComplete g x) s = .next s))
  ∧ (s.st.bench = none → s.st.cur = none → exec .benchWaitExpiry s = .next s)
  ∧ (∀ c b, s.st.bench = some (c, b) → s.st.cur = none → s.chState c = 5 ∨ s.ns < b + wait → exec .benchWaitExpiry s = .next s)
  ∧ (∀ c b, c < 20 → s.st.bench = some (c, b) → s.st.cur = none → s.chState c ≠ 5 → b + wait ≤ s.ns → s.st.pos.length = 4 → ∃ u w,
      exec .benchWaitExpiry s = .next w ∧ u.al.draining = s.al.draining.filter (fun x => x != c) ∧ u.st = { s.st with bench := none }
      ∧ Moves s u [.al, .st] [] ∧ Reported u w 117 (posUnit 0 (s.stPos 0)) 3 0 0 2 [.st] [] ∧ w.stPos 0 = 3 * (c + 1) % 60)
  ∧ (∀ v : BitVec 32,
      let u := bits v.toNat 0 16
      (s.rawOpen = false → ∃ t, exec (.rawTestGo v) s = .next t ∧ t.get Reg.ST_FLAGS_DENIED = 1 ∧ Moves s t [] [Reg.ST_FLAGS_DENIED])
      ∧ (s.get Reg.LC_STAT_STATE = 2 → s.rawOpen = false)
      ∧ (s.rawOpen = true → s.rawReady u = false → ∃ t, exec (.rawTestGo v) s = .next t ∧ t.get Reg.ST_FLAGS_DENIED = 1
          ∧ Moves s t [] [Reg.ST_FLAGS_DENIED, Reg.ST_RAW_CTRL_UNIT])
      ∧ (s.rawOpen = true → s.rawReady u = true → s.st.cur = none → (u = 0x60 ∨ (u < 20 ∧ s.chState u = 5)) → ∃ t, exec (.rawTestGo v) s = .next t
          ∧ t.st.cur = some ⟨u, true, some s.ns, 0, 0, 0, true⟩ ∧ t.get Reg.ST_STAT_ACTIVE = 4 ∧ t.get Reg.ST_STAT_UNIT = u
          ∧ Moves s t [.st] (Reg.ST_RAW_CTRL_UNIT :: show_)))

/-- R529, R533, R534, R539, R541: SHUTDOWN is refused while the scheduler runs or one is in progress; it takes the engine over, sets USED in
the record and puts every core on the bench; its end reports its verdict, writes the result record and completes its command.
(The model's choices in it: log entry 84.) -/
def Obligations.Shutdown : Prop :=
  ∀ (n : Fin 16) (d : BitVec 512) (s : State), s.Inv →
    let x := d.toNat
    let fl : Flight := ⟨s.hi.nextSeq, n, s.get (Reg.HI_RING_STAT_GEN n), 0x70, dfield x 2 2, bit x 8⟩
    (s.ringState n = 2 → rejectOf (s.get (Reg.HI_RING_STAT_VER n)) x = none → s.pwState ≠ 1 → dfield x 8 8 ≤ s.ns → dfield x 0 1 = 0x70 →
      dfield x 16 1 = 3 → dfield x 20 1 = 1 →
      s.queueLen < 4096 →
      (s.schState ≠ 0 ∨ s.st.shut ≠ none → ∃ u : State, exec (.shutdown n d) s = .next (u.complete fl s.ns 0x1C 2 0)
        ∧ u.hi.flights = s.hi.flights ++ [fl] ∧ Moves s u [.hi] [Reg.HI_CNT_ACCEPT])
      ∧ (s.schState = 0 → s.st.shut = none → s.st.cur = none → ∃ t, exec (.shutdown n d) s = .next t
        ∧ t.st.shut = some ⟨fl, bit (dfield x 21 1) 0⟩ ∧ t.st.bench = none ∧ t.get Reg.ST_STAT_ACTIVE = 2 ∧ t.get Reg.ST_STAT_UNIT = 0xFF
        ∧ bit (t.get (Reg.ST_REC 0)) 17 = true ∧ (∀ c, c < 20 → t.al.draining.contains c = true)
        ∧ t.hi.flights = s.hi.flights ++ [fl] ∧ t.dram = s.dram))
  ∧ (∀ res rows, s.st.shut = none → exec (.shutdownComplete res rows) s = .next s)
  ∧ (∀ sh : Shut, s.st.shut = some sh → ∀ res rows, ∃ (u : State) (verdict : Nat), exec (.shutdownComplete res rows) s = .next (u.complete sh.fl u.ns 0 verdict 0)
      ∧ u.st.shut = none ∧ (verdict = 1 ∨ verdict = 2 ∨ verdict = 3) ∧ bits (u.get (Reg.ST_REC 0)) 0 8 = 1
      ∧ bits (u.get (Reg.ST_REC 0)) 8 8 = verdict ∧ bits (u.get (Reg.ST_REC 0)) 16 8 = b2n sh.noSkip
      ∧ u.get (Reg.ST_REC 1) = (s.get (Reg.ST_REC 1) + 1) % 2 ^ 32 ∧ u.st.flash.length = 8)

/-! ### Serial ports, TDM and GPIO -/

/-- R461 to R471, R485: a listening UART queues each character with its flags, drops one that finds 128 waiting, and records errors at
most once in 100 ms; MODE 0 queues a break; a low line silences the receiver; MODE 1 collects a start-code-0 packet and makes it
visible in one step; MODE 2 parses messages. A read of RXD takes the oldest word.
(The model's choices in it: log entries 77 and 78.) -/
def Obligations.SerialReceive : Prop :=
  ∀ (u : Fin 4) (d : BitVec 8) (fe pe short : Bool) (s : State), s.Inv →
    let x := s.uart u
    let got := exec (.uartCharacterReceived u d fe pe) s
    let ser (y : Uart) : Ser := { s.ser with uarts := s.ser.uarts.set u y }
    let only (t : State) (y : Uart) (fs : List Fld) := t.ser = ser y ∧ Moves s t [.ser] fs
    let push (y : Uart) (w : Nat) : Uart := { y with rx := y.rx ++ [w] }
    let room := x.rx.length < 128
    let v := d.toNat
    let par := s.get (Reg.UART_CTRL_PARITY u)
    let mism := pe && (par == 1 || par == 2)
    let c := if s.get (Reg.UART_CTRL_DATA7 u) = 1 then v % 128 else v
    let w := c + (if fe then 256 else 0) + (if mism then 512 else 0)
    let parity (t : State) := if mism then t.put (Reg.UART_FLAGS_PE u) 1 else t
    let plain := s.uMode u = 0 ∨ (s.uMode u = 1 ∧ (x.dmx = 0 ∨ x.dmx = 3) ∧ pe = false ∧ s.get (Reg.UART_CTRL_DATA7 u) = 0)
    let gone : Uart := { x with dmx := 4, slots := [] }
    let packet (l : List (BitVec 8)) (next : Nat) (o : Host.Outcome State Fault Refusal) := ∃ z : State,
      z.ser = ser { x with dmx := next, slots := [], lastPkt := s.ns } ∧ z.get (Reg.UART_DMX_STAT_SLOTS u) = l.length - 1
      ∧ z.get (Reg.UART_CNT_PKT u) = (s.get (Reg.UART_CNT_PKT u) + 1) % 2 ^ 32 ∧ z.get (Reg.UART_STAT_DMX_LOSS u) = 0
      ∧ (∀ k, k < 516 → z.dmxSlot u k = if k < l.length then (l.getD k 0).toNat else s.dmxSlot u k)
      ∧ Moves s z [.ser] ([Reg.UART_DMX_STAT_SLOTS u, Reg.UART_CNT_PKT u, Reg.UART_STAT_DMX_LOSS u] ++ (List.range 129).map (Reg.UART_DMX u))
      ∧ ∃ y : State, y = (if s.get (Reg.UART_CTRL_PKT_EVT u) = 1 then z.rxRec u 4 0 (l.length - 1) else z)
        ∧ o = .next (y.ser.cm.foldl (fun a e => a.cmDmx e.1 u (a.dmxSlot u)) y)
    let listens := s.rxListens u = true
    (s.rxListens u = true ↔ s.get (Reg.UART_CTRL_EN u) = 1 ∧ s.get (Reg.UART_STAT_LINE_LOW u) ≠ 1
      ∧ (s.get (Reg.UART_STAT_DE u) ≠ 1 ∨ s.get (Reg.UART_CTRL_ECHO u) = 1))
  ∧ (¬listens → got = .next s ∧ exec (.breakReceived u short) s = .next s ∧ exec (.dmxBreakDetected u) s = .next s ∧ exec (.lineStuck u) s = .next s)
  ∧ (listens → plain → room → fe = false → ∃ t, got = .next t ∧ (mism = true → t.get (Reg.UART_FLAGS_PE u) = 1)
      ∧ (mism = false → t.get (Reg.UART_FLAGS_PE u) = s.get (Reg.UART_FLAGS_PE u)) ∧ only t (push x w) [Reg.UART_FLAGS_PE u])
  ∧ (listens → plain → room → fe = true → ∃ z : State, got = .next (parity (z.rxErr u 1)) ∧ z.get (Reg.UART_FLAGS_FE u) = 1
      ∧ z.get (Reg.UART_CNT_FE u) = (s.get (Reg.UART_CNT_FE u) + 1) % 2 ^ 32 ∧ only z (push x w) [Reg.UART_FLAGS_FE u, Reg.UART_CNT_FE u])
  ∧ (listens → plain → ¬room → fe = false → ∃ z : State, got = .next (parity (z.rxErr u 2)) ∧ z.get (Reg.UART_FLAGS_OVR u) = 1
      ∧ z.get (Reg.UART_CNT_OVR u) = (s.get (Reg.UART_CNT_OVR u) + 1) % 2 ^ 32 ∧ Moves s z [] [Reg.UART_FLAGS_OVR u, Reg.UART_CNT_OVR u])
  ∧ (∀ ovr : Bool,
      let reason := if ovr then 2 else 1
      let key := 256 * (92 + 2 * u.val) + reason
      let n := Tbl.get 0 s.sw.sums key
      let stamp := x.errAt.getD (reason - 1) none
      let told (y : State) := Tbl.get 0 y.sw.sums key = 0 ∧ Tbl.get 0 y.sw.sumsAt key = 0
        ∧ (∀ k, k ≠ key → Tbl.get 0 y.sw.sums k = Tbl.get 0 s.sw.sums k ∧ Tbl.get 0 y.sw.sumsAt k = Tbl.get 0 s.sw.sumsAt k)
        ∧ y.ser = ser { x with errAt := x.errAt.set (reason - 1) (some s.ns) }
        ∧ y.sw = { s.sw with sums := y.sw.sums, sumsAt := y.sw.sumsAt } ∧ Moves s y [.ser, .sw] []
      (stamp = none ∨ (∃ b, stamp = some b ∧ b + 100000000 ≤ s.ns) →
        ∃ y, s.rxErr u reason = y.rxRecAt (s.sumTime key) u reason (n + 1) 0 ∧ told y)
      ∧ (∀ b, stamp = some b → s.ns < b + 100000000 → Tbl.get 0 (s.rxErr u reason).sw.sums key = n + 1 ∧ Moves s (s.rxErr u reason) [.sw] []
          ∧ exec (.uartRxSummary u ovr) s = .next s)
      ∧ (∀ b, stamp = some b → b + 100000000 ≤ s.ns → n ≠ 0 → ∃ y : State, exec (.uartRxSummary u ovr) s = .next (y.rxRecAt (s.sumTime key) u reason n 0)
        ∧ told y)
      ∧ (n = 0 ∨ stamp = none → exec (.uartRxSummary u ovr) s = .next s))
  ∧ (listens → s.uMode u = 0 → room → ∃ z : State, exec (.breakReceived u short) s = .next (z.rxRec u 3 0 0) ∧ z.get (Reg.UART_FLAGS_BRK u) = 1
      ∧ only z (push x 0x400) [Reg.UART_FLAGS_BRK u])
  ∧ (listens → s.uMode u = 1 → short = true → ∃ t, exec (.breakReceived u short) s = .next t ∧ t.get (Reg.UART_FLAGS_DMX_SHORT u) = 1
      ∧ only t gone [Reg.UART_FLAGS_DMX_SHORT u])
  ∧ (listens → s.uMode u = 1 → short = false → exec (.breakReceived u short) s = .next s)
  ∧ (listens → s.uMode u = 2 → ∃ t, exec (.breakReceived u short) s = .next t ∧ only t { x with status := 0, part := [] } [])
  ∧ (listens → ∃ z : State, exec (.lineStuck u) s = .next (z.event 0x49 (93 + 2 * u) u 1 0) ∧ z.get (Reg.UART_STAT_LINE_LOW u) = 1
      ∧ z.get (Reg.UART_FLAGS_LINE_STUCK u) = 1 ∧ Moves s z [] [Reg.UART_STAT_LINE_LOW u, Reg.UART_FLAGS_LINE_STUCK u])
  ∧ (s.get (Reg.UART_STAT_LINE_LOW u) ≠ 1 → exec (.lineReleased u) s = .next s)
  ∧ (s.get (Reg.UART_STAT_LINE_LOW u) = 1 → ∃ z t : State, exec (.lineReleased u) s = .next t ∧ z.get (Reg.UART_STAT_LINE_LOW u) = 0
      ∧ Moves s z [] [Reg.UART_STAT_LINE_LOW u] ∧ t.ser = ser { x with dmx := 0, slots := [], status := 0, part := [] }
      ∧ Moves (z.event 0x49 (93 + 2 * u) u 2 0) t [.ser] [])
  ∧ (x.rx = [] → ∃ t, exec (.rxdPop u) s = .next t ∧ t.rdata = 0x80000000 ∧ Moves s t [.rdata] [])
  ∧ (∀ h r, x.rx = h :: r → ∃ t, exec (.rxdPop u) s = .next t ∧ t.rdata = h ∧ t.ser = ser { x with rx := r } ∧ Moves s t [.rdata, .ser] [])
  ∧ (listens → s.uMode u = 1 → x.dmx ≠ 2 → ∃ t, exec (.dmxBreakDetected u) s = .next t ∧ only t { x with dmx := 1, slots := [] } [])
  ∧ (listens → s.uMode u = 1 → x.dmx = 2 → x.slots.length ≤ 513 → x.slots ≠ [] → packet x.slots 1 (exec (.dmxBreakDetected u) s))
  ∧ (listens → s.uMode u = 1 → x.dmx = 1 → fe = false → v = 0 → ∃ t, got = .next t ∧ only t { x with dmx := 2, slots := [0] } [])
  ∧ (listens → s.uMode u = 1 → x.dmx = 1 → fe = false → v ≠ 0 → x.rx.length + 2 ≤ 128 → ∃ t, got = .next t ∧ t.get (Reg.UART_FLAGS_BRK u) = 1
      ∧ only t { x with dmx := 3, slots := [], rx := x.rx ++ [0x400, v] } [Reg.UART_FLAGS_BRK u])
  ∧ (listens → s.uMode u = 1 → (x.dmx = 1 ∨ x.dmx = 2) → fe = true → ∃ z : State, got = .next (z.rxErr u 1) ∧ z.get (Reg.UART_FLAGS_FE u) = 1
      ∧ only z gone [Reg.UART_FLAGS_FE u, Reg.UART_CNT_FE u])
  ∧ (listens → s.uMode u = 1 → x.dmx = 2 → fe = false → x.slots.length < 512 → ∃ t, got = .next t ∧ only t { x with slots := x.slots ++ [d] } [])
  ∧ (listens → s.uMode u = 1 → x.dmx = 2 → fe = false → x.slots.length = 512 → packet (x.slots ++ [d]) 0 got)
  ∧ (listens → s.uMode u = 1 → x.dmx = 4 → got = .next s)
  ∧ (x.dmx = 2 → x.slots.length ≤ 513 → x.slots ≠ [] → packet x.slots 0 (exec (.dmxPacketComplete u) s))
  ∧ (x.dmx ≠ 2 → exec (.dmxPacketComplete u) s = .next s)
  ∧ (let lost := s.get (Reg.UART_CTRL_EN u) = 1 ∧ s.uMode u = 1 ∧ x.lastPkt + 1250000000 ≤ s.ns;
      (lost → ∃ t, exec (.dmxLoss u) s = .next t ∧ t.get (Reg.UART_STAT_DMX_LOSS u) = 1 ∧ Moves s t [] [Reg.UART_STAT_DMX_LOSS u])
      ∧ (¬lost → exec (.dmxLoss u) s = .next s))
  ∧ (listens → s.uMode u = 2 → fe = false → room → 0xF8 ≤ v → ∃ t, got = .next t ∧ only t (push x v) [])
  ∧ (listens → s.uMode u = 2 → fe = false → room → 0xF0 ≤ v → v < 0xF8 → ∃ t, got = .next t ∧ only t (push { x with status := 0, part := [] } v) [])
  ∧ (listens → s.uMode u = 2 → fe = false → room → v < 0x80 → x.status = 0 → ∃ t, got = .next t ∧ only t (push x v) [])
  ∧ (listens → s.uMode u = 2 → fe = false → 0x80 ≤ v → v < 0xF0 → s.get (Reg.UART_CTRL_RAW_MIDI u) = 0 →
      ∃ t, got = .next t ∧ only t { x with status := v, part := [d] } [])
  ∧ (listens → s.uMode u = 2 → fe = false → v < 0x80 → x.status ≠ 0 → s.get (Reg.UART_CTRL_RAW_MIDI u) = 0 →
      let l := x.part ++ [d]
      let data := (l.filter (fun b => decide (b.toNat < 128))).map BitVec.toNat
      (data.length < midiLen x.status → ∃ t, got = .next t ∧ only t { x with part := l } [])
      ∧ (midiLen x.status ≤ data.length → ¬(x.status / 16 = 11 ∧ 120 ≤ data.getD 0 0) → ∃ t, got = .next t
          ∧ only t { x with part := [], msgs := x.msgs ++ [(x.status, data.getD 0 0, data.getD 1 0, s.ns)] } [])
      ∧ (midiLen x.status ≤ data.length → x.status / 16 = 11 → 120 ≤ data.getD 0 0 → x.rx.length + l.length ≤ 128 → ∃ t, got = .next t
          ∧ only t { x with part := [], rx := x.rx ++ l.map BitVec.toNat } []))

/-- R471 to R475: the oldest message drives each matching entry in ascending order; an entry's value is its message's or slot's,
normalised; a change drives the target with one SET_PARAM that waits, the newest; KIND 7 casts, releases and presses by NID. A
commit takes effect at the next boundary and resets the value.
(The model's choices in it: log entry 80.) -/
def Obligations.ControlMap : Prop :=
  ∀ (u : Fin 4) (c : Fin 1024) (v : BitVec 32) (s : State), s.Inv →
    let x := s.uart u
    let val := Reg.UART_CM_VAL c
    let cfg := [Reg.UART_CM_CFG_PORT c, Reg.UART_CM_CFG_KIND c, Reg.UART_CM_CFG_CHAN c, Reg.UART_CM_CFG_INDEX c, Reg.UART_CM_CFG_GROUP c,
      Reg.UART_CM_CFG_TGT_EN c, Reg.UART_CM_CFG_VPRI c]
    let e := s.cmEnt c
    let pend := s.sch.queue.any (fun q => q.org == .cm c && !q.done)
    let drives (d : Nat) (g : Nat) (p : Nat) (z : F32) := dfield d 0 1 = 4 ∧ dfield d 8 8 = 0 ∧ dfield d 16 1 = 3 ∧ dfield d 17 1 = 1
      ∧ dfield d 18 1 = g ∧ dfield d 24 2 = p ∧ dfield d 28 4 = z.toNat
    (x.msgs = [] → exec (.midiMessageReceived u) s = .next s)
  ∧ (∀ st a b k r, x.msgs = (st, a, b, k) :: r → ∃ z : State,
      exec (.midiMessageReceived u) s = .next (s.ser.cm.foldl (fun y m => y.cmMidi m.1 u (st / 16) (st % 16) a b k) z)
      ∧ z.ser = { s.ser with uarts := s.ser.uarts.set u { x with msgs := r } } ∧ Moves s z [.ser] [])
  ∧ (∃ t, exec (.controlMapCommit c v) s = .next t ∧ (∀ f ∈ cfg, t.get f = bits v.toNat f.lsb f.w) ∧ t.get val = 0 ∧ t.ser.cm = s.ser.cm
      ∧ t.ser.cmNext = s.ser.cmNext.filter (fun p => p.1 != c.val) ++ [(c.val, ⟨v.toNat, s.get (Reg.UART_CM_PARAM c),
          BitVec.ofNat 32 (s.get (Reg.UART_CM_SCALE c)), BitVec.ofNat 32 (s.get (Reg.UART_CM_OFFSET c))⟩)]
      ∧ t.ser.uarts = s.ser.uarts ∧ Tbl.get 0 t.ser.cm14 c = 0 ∧ Moves s t [.ser] (val :: cfg))
  ∧ (s.cmBoundary.ser.cmNext = [] ∧ (∀ n, n ∉ s.ser.cmNext.map (fun p => p.1) → s.cmBoundary.cmEnt n = s.cmEnt n) ∧ Moves s s.cmBoundary [.ser] []
      ∧ ∀ a l, s.ser.cmNext = l ++ [(c.val, a)] → s.cmBoundary.cmEnt c = a)
  ∧ (∀ y : F32, (y.toNat = s.get val ∨ e.tgt = false ∨ e.kind = 7) → (s.cmSet c y).get val = y.toNat ∧ Moves s (s.cmSet c y) [] [val])
  ∧ (∀ y : F32, y.toNat ≠ s.get val → e.tgt = true → e.kind ≠ 7 → ∃ (d : Nat) (z : State),
      drives d e.group (e.param % 2 ^ 16) (fAdd e.offset (fMul e.scale y)) ∧ z.get val = y.toNat ∧ Moves s z [] [val]
      ∧ (pend = false → s.cmSet c y = z.acceptOwn (.cm c) d)
      ∧ (pend = true → (s.cmSet c y).sch.queue.length = s.sch.queue.length ∧ Moves z (s.cmSet c y) [.sch] []
          ∧ ∀ q ∈ (s.cmSet c y).sch.queue, q.org = .cm c → q.done = false → q.desc = d))
  ∧ (s.cmOn e = false → (∀ p m ch a b k, s.cmMidi c p m ch a b k = s) ∧ ∀ p f, s.cmDmx c p f = s)
  ∧ (∀ p m ch a b k, e.port ≠ p ∨ e.chan ≠ ch → s.cmMidi c p m ch a b k = s)
  ∧ (∀ p f, e.port ≠ p → s.cmDmx c p f = s)
  ∧ (∀ f, s.cmOn e = true →
      (e.kind = 1 → s.cmDmx c e.port f = s.cmSet c (fRat (f e.index) 255))
      ∧ (e.kind = 2 → s.cmDmx c e.port f = s.cmSet c (fRat ((256 * f e.index + f (e.index + 1) : Nat) : Int) 65535)))
  ∧ (∀ (m a b k : Nat), s.cmOn e = true →
      let act := s.cmMidi c e.port m e.chan a b k
      (e.kind = 3 → act = if m = 11 ∧ a = e.index then s.cmSet c (fRat b 127) else s)
      ∧ (e.kind = 4 → m = 11 → a = e.index → ∃ z : State, act = z.cmSet c (fRat ((128 * b : Nat) : Int) 16383)
          ∧ Tbl.get 0 z.ser.cm14 c = 128 * b ∧ Moves s z [.ser] [])
      ∧ (e.kind = 4 → m = 11 → a = e.index + 32 → ∃ z : State, act = z.cmSet c (fRat ((Tbl.get 0 s.ser.cm14 c / 128 * 128 + b : Nat) : Int) 16383)
          ∧ Moves s z [.ser] [])
      ∧ (e.kind = 5 → act = if m = 13 then s.cmSet c (fRat a 127) else s)
      ∧ (e.kind = 6 → act = if m = 14 then s.cmSet c (fRat ((a + 128 * b : Nat) : Int) 16383) else s)
      ∧ (e.kind = 7 → (m < 8 ∨ 10 < m → act = s)))
  ∧ (∀ (m a b k : Nat), s.cmOn e = true → e.kind = 7 → a < 128 → k + 1000 * s.get (Reg.UART_AC_LEAD e.port) < 2 ^ 64 →
      let act := s.cmMidi c e.port m e.chan a b k
      let key := fAdd (fInt a) e.offset
      let nid := 0x4D000000 + 0x10000 * e.port + 0x100 * e.chan + a
      let at_ (d op : Nat) := act = s.acceptOwn .silent d ∧ dfield d 0 1 = op ∧ dfield d 8 8 = k + 1000 * s.get (Reg.UART_AC_LEAD e.port)
      (m = 9 → 1 ≤ b → fFinite key = true → fLe 0xC3000000 key = true → fLe key 0x437F0000 = true → e.param / 2 ^ 16 % 4 ≠ 3 →
        ∃ d, at_ d 1 ∧ dfield d 16 1 = e.group ∧ dfield d 17 1 = 2 * (e.param / 2 ^ 16 % 4) ∧ dfield d 18 1 = e.vpri
          ∧ dfield d 20 4 = nid ∧ dfield d 24 4 = key.toNat ∧ dfield d 28 4 = (fRat b 127).toNat)
      ∧ (m = 8 ∨ (m = 9 ∧ b = 0) → ∃ d, at_ d 2 ∧ dfield d 16 1 = 1 ∧ dfield d 20 4 = nid
          ∧ dfield d 24 4 = (fRat (if m = 8 then b else 64) 127).toNat)
      ∧ (m = 10 → ∃ d, at_ d 4 ∧ dfield d 16 1 = 1 ∧ dfield d 17 1 = 1 ∧ dfield d 20 4 = nid ∧ dfield d 24 2 = 0x6006
          ∧ dfield d 28 4 = (fRat b 127).toNat))

/-- R334, R335, R461, R465, R476 to R480, R54: a SERIAL_TX starts on time, or completes REFUSED, and completes at its last stop bit; DE falls
when nothing follows; EN = 0 stops and refuses what is queued; a TDM port takes only a legal configuration, locks, slips and loses its
clock with a record; GPIO_SET and GPIO_CLR act bit by bit; a pin given to a compare channel takes its latch.
(The model's choices in it: log entries 76, 79 and 81.) -/
def Obligations.SerialTdmGpio : Prop :=
  ∀ (u : Fin 4) (n : Fin 2) (v : BitVec 32) (g : BitVec 24) (s : State), s.Inv →
    let x := s.uart u
    let ser (y : Uart) : Ser := { s.ser with uarts := s.ser.uarts.set u y }
    let freed (z : State) := (z.txIdle u).txRelease u
    let cfs := [Reg.UART_CTRL_MODE u, Reg.UART_CTRL_DATA7 u, Reg.UART_CTRL_PARITY u, Reg.UART_CTRL_STOP2 u, Reg.UART_CTRL_ECHO u, Reg.UART_CTRL_RXTRIG u,
      Reg.UART_CTRL_TXTRIG u, Reg.UART_CTRL_RAW_MIDI u, Reg.UART_CTRL_PKT_EVT u, Reg.UART_CTRL_STUCK_TIME u]
    let vals := s.ser.cm.map (fun e => Reg.UART_CM_VAL e.1)
    let en := Reg.UART_CTRL_EN u
    let low := [Reg.UART_STAT_DE u, Reg.UART_STAT_LINE_LOW u]
    let idle := { x with run := none, txq := [], keep := none, dmx := 0, slots := [], status := 0, part := [] }
    let none_ := ∀ (m d : Nat), s.heldAt m = some d → ¬(dfield d 0 1 = 0x40 ∧ dfield d 16 1 = u.val)
    let off (t : State) := t.get en = 0 ∧ ∀ f ∈ cfs, t.get f = bits v.toNat f.lsb f.w
    let tfs := [Reg.TDM_CTRL_MASTER n, Reg.TDM_CTRL_FORMAT n, Reg.TDM_CTRL_DELAY n, Reg.TDM_CTRL_SLOTS n, Reg.TDM_CTRL_BCLK_INV n,
      Reg.TDM_CTRL_FS_INV n, Reg.TDM_CTRL_DIN_EN n, Reg.TDM_CTRL_DOUT_EN n]
    let k := bits v.toNat 5 5
    let legal := (bits v.toNat 2 2 < 2 ∧ k = 2 ∨ bits v.toNat 2 2 = 2 ∧ 1 ≤ k ∧ k ≤ 16) ∧ 32 * k * s.rate ≤ 24576000
    let clk := s.get (Reg.TDM_STAT_CLK n)
    let slave := s.get (Reg.TDM_CTRL_EN n) = 1 ∧ s.get (Reg.TDM_CTRL_MASTER n) = 0
    (s.bitTime u = if s.uMode u = 1 then 4000 else if s.uMode u = 2 then 32000 else
      max 0x400 (match x.keep with | some y => y.2 | none => s.get (Reg.UART_DIV u)) * 125 / 192)
  ∧ (x.run ≠ none ∨ x.txq = [] → exec (.serialTxStart u) s = .next s)
  ∧ (∀ j r, x.run = none → x.txq = j :: r →
      let refused (o : Nat) := ∃ z : State, exec (.serialTxStart u) s = .next (freed (z.complete j.fl s.ns 0x1C o 0))
        ∧ z.ser = ser { x with txq := r } ∧ Moves s z [.ser] []
      let good := s.get en = 1 ∧ (j.format = 1 → s.uMode u = 1)
      (s.get en = 0 → refused 1) ∧ (s.get en = 1 → j.format = 1 → s.uMode u ≠ 1 → refused 2)
      ∧ (good → s.ns + s.bitTime u < j.exec → exec (.serialTxStart u) s = .next s)
      ∧ (good → j.exec ≤ s.ns + s.bitTime u → ∃ t, exec (.serialTxStart u) s = .next t ∧ t.get (Reg.UART_STAT_DE u) = 1
          ∧ t.out = .serial u j.format j.data :: s.out
          ∧ (let late := decide (j.exec ≠ 0 ∧ j.exec + s.bitTime u < s.ns)
             let kept := x.keep.getD (s.get (Reg.UART_CTRL_MODE u), s.get (Reg.UART_DIV u))
             t.ser = ser { x with txq := r, run := some (j, s.ns, late), keep := some kept })
          ∧ Moves s t [.ser, .out] [Reg.UART_STAT_DE u]))
  ∧ (x.run = none → exec (.serialTxDone u) s = .next s)
  ∧ (∀ j b late, x.run = some (j, b, late) → ∃ z : State,
      exec (.serialTxDone u) s = .next (freed (z.complete j.fl s.ns (if late then 1 else 0) 0 0)) ∧ z.ser = ser { x with run := none } ∧ Moves s z [.ser] [])
  ∧ (x.run = none → x.txq = [] → (s.txIdle u).ser = ser { x with keep := none } ∧ Moves s (s.txIdle u) [.ser] [])
  ∧ (0 < s.txCount u → s.txIdle u = s)
  ∧ (none_ → s.txRelease u = s)
  ∧ (∀ (m : Fin 16) d, s.heldAt m = some d → dfield d 0 1 = 0x40 → dfield d 16 1 = u → s.txCount u < 4 → (∀ q, q ≠ m.val → s.heldAt q = none) →
      s.txRelease u = ((s.unhold m).txAccept m d (Tbl.get [] s.hi.heldData m)).settle m)
  ∧ (x.run = none → ∃ t, exec (.deHoldExpiry u) s = .next t ∧ t.get (Reg.UART_STAT_DE u) = 0 ∧ Moves s t [] [Reg.UART_STAT_DE u])
  ∧ (x.run ≠ none → exec (.deHoldExpiry u) s = .next s)
  ∧ (s.get en = 0 → ∃ t, exec (.uartDisable u v) s = .next t ∧ off t
      ∧ (∀ e ∈ s.ser.cm, t.cmOn e.2 = false → t.get (Reg.UART_CM_VAL e.1) = 0) ∧ Moves s t [] (en :: cfs ++ vals))
  ∧ (s.get en = 1 → none_ →
      (x.run = none → x.txq = [] → ∃ t, exec (.uartDisable u v) s = .next t ∧ off t ∧ t.ser = ser idle ∧ (∀ f ∈ low, t.get f = 0)
        ∧ (∀ e ∈ s.ser.cm, t.cmOn e.2 = false → t.get (Reg.UART_CM_VAL e.1) = 0) ∧ Moves s t [.ser] (en :: cfs ++ low ++ vals))
      ∧ (∀ j, x.run = none → x.txq = [j] → ∃ z t : State, exec (.uartDisable u v) s = .next t ∧ off z ∧ z.ser = ser idle ∧ Moves s z [.ser] (en :: cfs)
          ∧ (∀ f ∈ low, t.get f = 0) ∧ Moves (z.complete j.fl s.ns 0x1C 1 0) t [] (low ++ vals))
      ∧ (∀ j b l, x.run = some (j, b, l) → x.txq = [] → ∃ (z t : State) (m : Nat), exec (.uartDisable u v) s = .next t ∧ off z ∧ z.ser = ser idle
          ∧ m ≤ j.data.length ∧ Moves s z [.ser, .fresh] (en :: cfs)
          ∧ (∀ f ∈ low, t.get f = 0) ∧ Moves (z.completeX j.fl s.ns 0x1C 1 0 m) t [] (low ++ vals)))
  ∧ (s.get (Reg.TDM_CTRL_EN n) = 1 →
      ((∃ f ∈ tfs, s.get f ≠ bits v.toNat f.lsb f.w) → ∃ t, exec (.tdmEnable n v) s = .next t ∧ t.get (Reg.TDM_FLAGS_CFG_REFUSED n) = 1
        ∧ Moves s t [] [Reg.TDM_FLAGS_CFG_REFUSED n])
      ∧ ((∀ f ∈ tfs, s.get f = bits v.toNat f.lsb f.w) → exec (.tdmEnable n v) s = .next s))
  ∧ (s.get (Reg.TDM_CTRL_EN n) = 0 → ∃ t, exec (.tdmEnable n v) s = .next t ∧ (∀ f ∈ tfs, t.get f = bits v.toNat f.lsb f.w)
      ∧ (legal → t.get (Reg.TDM_CTRL_EN n) = 1 ∧ t.get (Reg.TDM_STAT_CLK n) = (if bit v.toNat 1 then 1 else 3)
          ∧ Moves s t [] (Reg.TDM_CTRL_EN n :: Reg.TDM_STAT_CLK n :: tfs))
      ∧ (¬legal → t.get (Reg.TDM_FLAGS_CFG_REFUSED n) = 1 ∧ Moves s t [] (Reg.TDM_FLAGS_CFG_REFUSED n :: tfs)))
  ∧ (slave → clk = 2 → ∃ z : State, exec (.tdmLock n) s = .next (z.event 0x4C (100 + n) n 2 0) ∧ z.get (Reg.TDM_STAT_CLK n) = 1
      ∧ Moves s z [] [Reg.TDM_STAT_CLK n])
  ∧ (slave → clk = 3 → ∃ t, exec (.tdmLock n) s = .next t ∧ t.get (Reg.TDM_STAT_CLK n) = 1 ∧ Moves s t [] [Reg.TDM_STAT_CLK n])
  ∧ (¬slave ∨ clk < 2 → exec (.tdmLock n) s = .next s)
  ∧ (slave → clk = 1 → ∃ z : State, exec (.tdmSlip n) s = .next (z.event 0x4C (100 + n) n 3 1) ∧ z.get (Reg.TDM_FLAGS_SLIP n) = 1
      ∧ z.get (Reg.TDM_CNT_SLIP n) = (s.get (Reg.TDM_CNT_SLIP n) + 1) % 2 ^ 32 ∧ Moves s z [] [Reg.TDM_FLAGS_SLIP n, Reg.TDM_CNT_SLIP n])
  ∧ (¬slave ∨ clk ≠ 1 → exec (.tdmSlip n) s = .next s)
  ∧ (slave → clk = 1 ∨ clk = 3 → ∃ z : State, exec (.tdmClockLost n) s = .next (z.event 0x4C (100 + n) n 1 0) ∧ z.get (Reg.TDM_STAT_CLK n) = 2
      ∧ z.get (Reg.TDM_FLAGS_CLK_LOST n) = 1 ∧ Moves s z [] [Reg.TDM_STAT_CLK n, Reg.TDM_FLAGS_CLK_LOST n])
  ∧ (¬slave ∨ clk = 0 ∨ clk = 2 → exec (.tdmClockLost n) s = .next s)
  ∧ (∀ (f0 : BitVec 40) (fr : List (List (BitVec 24))),
      let takes := s.get (Reg.TDM_CTRL_EN n) = 1 ∧ s.get (Reg.TDM_CTRL_DIN_EN n) = 1 ∧ clk = 1
      let got := exec (.tdmInputBlockReady n f0 fr) s
      let key := 256 * (102 + n.val) + 1
      (¬takes → got = .next s)
      ∧ (takes → s.coresE = [] ∨ s.mix.out = true → ∃ t, got = .next t ∧ t.get (Reg.TDM_FLAGS_IN_OVR n) = 1
          ∧ t.sw = { s.sw with
              sums := Tbl.put 0 s.sw.sums key (Tbl.get 0 s.sw.sums key + fr.length)
              sumsAt := if Tbl.get 0 s.sw.sums key = 0 ∧ fr.length ≠ 0 then Tbl.put 0 s.sw.sumsAt key (s.ns + 1) else s.sw.sumsAt }
          ∧ Moves s t [.sw] [Reg.TDM_FLAGS_IN_OVR n])
      ∧ (takes → s.coresE ≠ [] → s.mix.out = false → f0.toNat + fr.length ≤ 2 ^ 40 → ∃ t, got = .next t
          ∧ (∀ i c, i < fr.length → c < (fr.getD i []).length → c < s.get (Reg.TDM_CTRL_SLOTS n) →
              Tbl.get 0 t.mix.tdm ((16 * n + c) * 2 ^ 40 + (f0.toNat + i)) = ((fr.getD i []).getD c 0).toNat + 1)
          ∧ t.mix = { s.mix with tdm := t.mix.tdm } ∧ (∀ c ∈ s.coresE, (t.core c).ip = (s.core c).ip ||| 32)
          ∧ (∀ c, c ∉ s.coresE → t.core c = s.core c) ∧ Moves s t [.mix, .cores] []))
  ∧ (∃ t, exec (.gpioSet g) s = .next t ∧ (∀ i, i < 24 → bit (t.get Reg.GPIO_OUT) i = (bit (s.get Reg.GPIO_OUT) i || bit g.toNat i))
      ∧ Moves s t [] [Reg.GPIO_OUT])
  ∧ (∃ t, exec (.gpioClr g) s = .next t ∧ (∀ i, i < 24 → bit (t.get Reg.GPIO_OUT) i = (bit (s.get Reg.GPIO_OUT) i && !bit g.toNat i))
      ∧ Moves s t [] [Reg.GPIO_OUT])
  ∧ (∃ t, exec (.gpioFuncWrite v) s = .next t ∧ t.get Reg.GPIO_FUNC = v.toNat % 256
      ∧ t.out = (((List.range 8).filter (fun i => bit v.toNat i && !bit (s.get Reg.GPIO_FUNC) i)).reverse.map
          (fun i => Out.pin i (s.on (Reg.TB_CMP_STAT_PIN i)) s.ns)) ++ s.out
      ∧ Moves s t [.out] [Reg.GPIO_FUNC])

/-! ### Analogue outputs -/

/-- R432 to R441, R445 to R448: a channel not in a pair and not in test: what a write of its CFG does in each state, calibration, the ramps that
enable, disable, join and change range, feeding and the clear code; and how a pair is made.
(The model's choices in it: log entries 70, 74 and 75.) -/
def Obligations.AnalogueChannels : Prop :=
  ∀ (n : Fin 16) (v : BitVec 32) (s : State), s.Inv → s.aoTested = none → s.aoPaired n = false →
    let x := s.aoCh n
    let st := s.aoState n
    let w := v.toNat
    let state := Reg.AO_CH_STAT_STATE n
    let neg := Reg.AO_CH_FLAGS_NEG_CLIP n
    let plain := [Reg.AO_CH_CFG_SLEW_SIG n, Reg.AO_CH_CFG_CLR_STEP n, Reg.AO_CH_CFG_SLEW_RATE n, Reg.AO_CH_CFG_BENCH_OK n, Reg.AO_CH_CFG_WIN_ACT n,
      Reg.AO_CH_CFG_SLEW_STEP n]
    let cfg := [Reg.AO_CH_CFG_EN n, Reg.AO_CH_CFG_SPAN n, Reg.AO_CH_STAT_SPAN_ACTIVE n] ++ plain
    let wrote (t : State) (en : Nat) := t.get (Reg.AO_CH_CFG_EN n) = en ∧ t.get (Reg.AO_CH_CFG_SPAN n) = bits w 1 3 ∧ ∀ f ∈ plain, t.get f = bits w f.lsb f.w
    let unpaired := n.val % 2 = 1 ∨ bit w 4 = false
    let legal := unpaired ∧ bits w 1 3 ≠ 7
    let still := unpaired ∧ bits w 1 3 = s.get (Reg.AO_CH_CFG_SPAN n) ∧ bits w 1 3 ≠ 7 ∧ bit w 10 = false
    let others (t : State) := ∀ k, k ≠ n.val → t.aoCh k = s.aoCh k
    let off : AoCh := { x with code := 0, t0 := s.tu, ramp := false, back := false, ph := 0 }
    let ready := s.get Reg.AO_STAT_RAILS_OK = 1 ∧ s.get Reg.PWR_STAT_STATE ≤ 1 ∧ s.outHeld n = false
    let low := { off with ramp := true }
    let spanNow := if bits w 1 3 = s.get (Reg.AO_CH_CFG_SPAN n) then s.get (Reg.AO_CH_STAT_SPAN_ACTIVE n) else bits w 1 3
    (st = 0 → legal → bit w 0 = false → bit w 10 = false → ∀ i ∈ [(.channelDisable n v : Instr), (.spanWrite n v), (.pairWrite n v)],
      ∃ t, exec i s = .next t ∧ wrote t 0 ∧ t.get (Reg.AO_CH_STAT_SPAN_ACTIVE n) = spanNow ∧ Moves s t [] cfg)
  ∧ (st = 0 → unpaired → bits w 1 3 = 7 → bit w 0 = false → bit w 10 = false → ∃ t, exec (.spanWrite n v) s = .next t
      ∧ t.get (Reg.AO_CH_FLAGS_CFG_REFUSED n) = 1 ∧ t.get (Reg.AO_CH_CFG_SPAN n) = s.get (Reg.AO_CH_CFG_SPAN n)
      ∧ Moves s t [] (Reg.AO_CH_FLAGS_CFG_REFUSED n :: cfg))
  ∧ (st = 0 → legal → bit w 10 = false → s.get (Reg.AO_CH_CFG_EN n) = 0 →
      (s.get (Reg.AO_CH_STAT_CAL_DONE n) = 1 → ready → ∃ t, exec (.channelEnable n v) s = .next t ∧ wrote t 1 ∧ t.aoState n = 2 ∧ t.aoCh n = low
        ∧ others t ∧ Moves s t [.ao] (state :: neg :: cfg))
      ∧ (s.get (Reg.AO_CH_STAT_CAL_DONE n) = 0 ∨ ¬ready → ∃ t, exec (.channelEnable n v) s = .next t ∧ wrote t 1 ∧ Moves s t [] cfg))
  ∧ (2 ≤ st → st ≤ 5 → still → s.get (Reg.AO_CH_CFG_EN n) = 1 → ∃ t, exec (.channelDisable n v) s = .next t ∧ wrote t 0 ∧ t.aoState n = 6
      ∧ (∃ c, t.aoCh n = { x with code := c, t0 := s.tu, ramp := true, back := false, ph := 0 }
        ∧ (bits w 5 1 = s.get (Reg.AO_CH_CFG_SLEW_SIG n) → ∀ y, s.aoCode n s.tu = some y → c = y))
      ∧ others t ∧ Moves s t [.ao, .fresh] (state :: cfg))
  ∧ (st = 6 → still → s.get (Reg.AO_CH_CFG_EN n) = 0 → ∃ t, exec (.channelEnable n v) s = .next t ∧ wrote t 1 ∧ t.aoState n = 2
      ∧ (∃ c, t.aoCh n = { x with code := c, t0 := s.tu, ramp := true, back := true, ph := 0 }) ∧ others t ∧ Moves s t [.ao, .fresh] (state :: cfg))
  ∧ (2 ≤ st → st ≤ 4 → legal → bits w 1 3 ≠ s.get (Reg.AO_CH_CFG_SPAN n) → bit w 0 = true → bit w 10 = false → s.get (Reg.AO_CH_CFG_EN n) = 1 →
      ∃ t, exec (.spanWrite n v) s = .next t ∧ wrote t 1 ∧ t.aoState n = 5
        ∧ t.get (Reg.AO_CH_STAT_SPAN_ACTIVE n) = s.get (Reg.AO_CH_STAT_SPAN_ACTIVE n)
        ∧ (∃ c, t.aoCh n = { x with code := c, t0 := s.tu, ramp := true, back := false, ph := 1 }) ∧ others t ∧ Moves s t [.ao, .fresh] (state :: cfg))
  ∧ (st = 0 → legal → bit w 0 = false → ∃ t, exec (.cal n v) s = .next t ∧ wrote t 0 ∧ t.aoState n = 1 ∧ t.get (Reg.AO_CH_STAT_CAL_DONE n) = 0
      ∧ t.aoCh n = { x with cald := false } ∧ others t ∧ Moves s t [.ao] (state :: Reg.AO_CH_STAT_CAL_DONE n :: cfg))
  ∧ (st = 1 → legal → bit w 0 = false → ∃ t, exec (.cal n v) s = .next t ∧ wrote t 0 ∧ t.get (Reg.AO_CH_FLAGS_CFG_REFUSED n) = 1
      ∧ Moves s t [] (Reg.AO_CH_FLAGS_CFG_REFUSED n :: cfg))
  ∧ (st ≠ 1 → exec (.calibrationDone n) s = .next s)
  ∧ (st = 1 → ∃ t, exec (.calibrationDone n) s = .next t ∧ t.get (Reg.AO_CH_STAT_CAL_DONE n) = 1
      ∧ t.get (Reg.AO_CH_STAT_SPAN_ACTIVE n) = s.get (Reg.AO_CH_CFG_SPAN n)
      ∧ (s.get (Reg.AO_CH_CFG_EN n) = 0 → t.aoState n = 0 ∧ t.aoCh n = { off with cald := true })
      ∧ (s.get (Reg.AO_CH_CFG_EN n) = 1 → ready → t.aoState n = 2 ∧ t.aoCh n = { low with cald := true })
      ∧ others t ∧ Moves s t [.ao] [state, neg, Reg.AO_CH_STAT_CAL_DONE n, Reg.AO_CH_STAT_SPAN_ACTIVE n])
  ∧ (n.val % 2 = 0 → st = 0 → bit w 4 = true → bit w 0 = false → bit w 10 = false → bits w 1 3 = s.get (Reg.AO_CH_CFG_SPAN n) → bits w 1 3 ≠ 7 →
      (s.aoState (n + 1) = 0 → bits w 1 3 < 4 → s.aoEntry n = none → s.get (Reg.AO_CH_STAT_FED n) = 0 → s.get (Reg.AO_CH_STAT_FED (n + 1)) = 0 →
        ∃ t, exec (.pairWrite n v) s = .next t ∧ wrote t 0 ∧ t.get (Reg.AO_CH_CFG_PAIR n) = 1 ∧ (∀ f ∈ aoShared, t.get (f (n.val + 1)) = t.get (f n.val))
          ∧ t.get (Reg.AO_CH_STAT_SPAN_ACTIVE (n + 1)) = bits w 1 3
          ∧ Moves s t [] (Reg.AO_CH_CFG_PAIR n :: Reg.AO_CH_STAT_SPAN_ACTIVE (n + 1) :: cfg ++ aoShared.map (fun f => f (n.val + 1))))
      ∧ (s.aoState (n + 1) ≠ 0 ∨ 4 ≤ bits w 1 3 → ∃ t, exec (.pairWrite n v) s = .next t ∧ wrote t 0 ∧ t.get (Reg.AO_CH_FLAGS_CFG_REFUSED n) = 1
          ∧ Moves s t [] (Reg.AO_CH_FLAGS_CFG_REFUSED n :: cfg)))
  ∧ (let c := Reg.AO_CH_CLRCODE n
     let runs := (st = 3 ∧ s.get (Reg.AO_CH_STAT_FED n) = 0) ∨ (st = 4 ∧ s.get (Reg.AO_CH_CFG_CLR_STEP n) = 0)
     (st < 2 ∨ st = 7 → ∃ t, exec (.clrcodeWrite n v) s = .next t ∧ t.get c = w % 2 ^ 24 ∧ Moves s t [] [c])
      ∧ (runs → ∃ t, exec (.clrcodeWrite n v) s = .next t ∧ t.get c = w % 2 ^ 24 ∧ (t.aoCh n).ramp = true ∧ (t.aoCh n).t0 = s.tu
          ∧ (∀ y, s.aoCode n s.tu = some y → (t.aoCh n).code = y) ∧ others t ∧ Moves s t [.ao, .fresh] [c, neg])
      ∧ (st = 4 → s.get (Reg.AO_CH_CFG_CLR_STEP n) = 1 → ∃ t, exec (.clrcodeWrite n v) s = .next t ∧ t.get c = w % 2 ^ 24 ∧ (t.aoCh n).ramp = false
          ∧ t.aoCode n s.tu = some (toS 24 (w % 2 ^ 24)) ∧ others t ∧ Moves s t [.ao, .fresh] [c, neg]))
  ∧ (x.ramp = false → exec (.slewRampComplete n) s = .next s)
  ∧ (x.ramp = true →
      let ends (z : State) := z.aoState n = (if s.clrActive n then 4 else 3) ∧ (z.aoCh n).since = s.ns ∧ (z.aoCh n).ph = 0 ∧ (z.aoCh n).back = false
        ∧ (∀ y, s.aoTarget n s.tu = some y → (z.aoCh n).code = y) ∧ (z.aoCh n).t0 = s.tu ∧ others z
      (st = 2 → ∃ z : State, exec (.slewRampComplete n) s = .next ((z.outRecL n 3).aoNeg n) ∧ ends z
        ∧ (z.aoCh n).ramp = (!x.back && !s.clrActive n && s.on (Reg.AO_CH_STAT_FED n)) ∧ Moves s z [.ao, .fresh] [state])
      ∧ (st = 3 ∨ st = 4 → ∃ t, exec (.slewRampComplete n) s = .next t ∧ (∃ y, t.aoCh n = { x with code := y, t0 := s.tu, ramp := false }
          ∧ ∀ z, s.aoTarget n s.tu = some z → y = z) ∧ others t ∧ Moves s t [.ao, .fresh] [])
      ∧ (st = 5 → x.ph = 1 → ∃ t, exec (.slewRampComplete n) s = .next t ∧ t.aoCh n = { x with code := 0, t0 := s.tu, ramp := false, ph := 2 }
          ∧ others t ∧ Moves s t [.ao] [])
      ∧ (st = 5 → x.ph = 4 → ∃ z : State, exec (.slewRampComplete n) s = .next ((z.outRecL n 4).aoNeg n) ∧ ends z ∧ (z.aoCh n).ramp = false
          ∧ z.get (Reg.AO_CH_STAT_SPAN_ACTIVE n) = s.get (Reg.AO_CH_CFG_SPAN n) ∧ Moves s z [.ao, .fresh] [state, Reg.AO_CH_STAT_SPAN_ACTIVE n])
      ∧ (st = 6 → ∃ t, exec (.slewRampComplete n) s = .next t ∧ t.aoState n = 0 ∧ t.aoCh n = off
          ∧ t.get (Reg.AO_CH_STAT_SPAN_ACTIVE n) = s.get (Reg.AO_CH_CFG_SPAN n) ∧ others t ∧ Moves s t [.ao] [state, Reg.AO_CH_STAT_SPAN_ACTIVE n]))
  ∧ (st ≠ 5 ∨ x.ph ≠ 2 → exec (.rangeSettled n) s = .next s)
  ∧ (st = 5 → x.ph = 2 → ∃ t, exec (.rangeSettled n) s = .next t ∧ t.aoCh n = { x with code := 0, t0 := s.tu, ramp := true, ph := 4 }
      ∧ others t ∧ Moves s t [.ao] [neg])
  ∧ (let fed := match s.aoEntry n with
       | none => false
       | some r => if rType r.src = 4 then (s.aoCh n).vals.any (fun e => decide (s.frameTime (e.1 + r.align + 16) ≤ s.tu)) else s.schState == 2
     (fed = s.on (Reg.AO_CH_STAT_FED n) → exec (.feedChange n) s = .next s)
      ∧ (fed ≠ s.on (Reg.AO_CH_STAT_FED n) → ∃ t, exec (.feedChange n) s = .next t ∧ t.get (Reg.AO_CH_STAT_FED n) = (if fed then 1 else 0)
          ∧ (st = 3 → (t.aoCh n).ramp = true ∧ (t.aoCh n).t0 = s.tu ∧ ∀ y, s.aoCode n s.tu = some y → (t.aoCh n).code = y)
          ∧ others t ∧ Moves s t [.ao, .fresh] [Reg.AO_CH_STAT_FED n, neg]))

/-- R441 to R443, R449 to R453, R507: clear by AO_SWCLR or OUT_CLR_N moves each channel in RUN to CLEAR and back, with its records; CLEAR_HELD once
after 1 s; a judged reading leaves or returns to its window and acts by WIN_ACT; a reference does, and a rail fault clamps every channel.
(The model's choices in it: log entries 71 and 72.) -/
def Obligations.AnalogueMonitor : Prop :=
  ∀ (n : Fin 16) (r : Fin 8) (v : BitVec 32) (x : BitVec 16) (b : Bool) (s : State), s.Inv →
    let w := v.toNat
    let calm := s.aoTested = none
    let states := (List.range 16).map Reg.AO_CH_STAT_STATE ++ (List.range 16).map Reg.AO_CH_FLAGS_NEG_CLIP
    let follows (z : State) := ∀ k, k < 16 → z.aoState k =
      if s.aoState k = 3 ∧ s.clrActive k = false ∧ z.clrActive k = true then 4
      else if s.aoState k = 4 ∧ s.clrActive k = true ∧ z.clrActive k = false then 3 else s.aoState k
    let sense := [Reg.AO_CH_SENSE_LAST n, Reg.AO_CH_SENSE_EXP n]
    let noted (t : State) := t.get (Reg.AO_CH_SENSE_LAST n) = x.toNat
    let ch := s.aoCh n
    let inWin := Reg.AO_REF_IN_WIN r
    let trust := [Reg.AO_STAT_RAILS_OK, Reg.AO_STAT_MON_TRUST]
    let shown (z t : State) := t.get Reg.AO_STAT_RAILS_OK = (if z.get (Reg.AO_REF_IN_WIN 3) = 1 ∧ z.get (Reg.AO_REF_IN_WIN 4) = 1 then 1 else 0)
      ∧ t.get Reg.AO_STAT_MON_TRUST = (if z.get (Reg.AO_REF_IN_WIN 2) = 1 ∧ z.get (Reg.AO_REF_IN_WIN 7) = 1 then 1 else 0)
    let judged := (s.aoState n = 3 ∨ s.aoState n = 4) ∧ s.get Reg.AO_CTRL_MON_EN = 1 ∧ s.get Reg.AO_STAT_MON_TRUST = 1
      ∧ (s.get (Reg.AO_CH_WIN_MODE n) = 1 ∨ s.get (Reg.AO_CH_WIN_MODE n) = 2) ∧ ch.since + 20000 ≤ s.ns
    let mon := s.get Reg.AO_CTRL_MON_EN = 1
    (s.clrActive n = true ↔ bit (s.get Reg.AO_SWCLR) (s.aoLead n) = true ∨ (s.get Reg.AO_STAT_CLR_PIN = 1 ∧ bit (s.get Reg.AO_CLRPIN_EN) (s.aoLead n) = true))
  ∧ (calm → ∃ z : State, z.get Reg.AO_SWCLR = w % 2 ^ 16 ∧ follows z ∧ Moves s z [.ao, .fresh] (Reg.AO_SWCLR :: states)
      ∧ exec (.swclrWrite v) s = .next (if (List.range 16).any (fun k => bit w k && !bit (s.get Reg.AO_SWCLR) k) = true then z.event 0x45 91 0 4 0 else z))
  ∧ (s.get Reg.AO_STAT_CLR_PIN = 1 → exec .outClrNAssert s = .next s)
  ∧ (calm → s.get Reg.AO_STAT_CLR_PIN = 0 → ∃ z : State, exec .outClrNAssert s = .next (z.event 0x45 90 0 1 0) ∧ z.get Reg.AO_STAT_CLR_PIN = 1
      ∧ z.ao.clrAt = some s.ns ∧ follows z ∧ Moves s z [.ao, .fresh] (Reg.AO_STAT_CLR_PIN :: states))
  ∧ (s.get Reg.AO_STAT_CLR_PIN = 0 → exec .outClrNRelease s = .next s)
  ∧ (s.get Reg.AO_STAT_CLR_PIN = 1 → ∃ z : State, exec .outClrNRelease s = .next (z.event 0x45 90 0 2 0) ∧ z.get Reg.AO_STAT_CLR_PIN = 0
      ∧ z.ao.clrAt = none ∧ follows z ∧ Moves s z [.ao, .fresh] (Reg.AO_STAT_CLR_PIN :: states))
  ∧ (s.ao.clrAt = none → exec .clearHeld s = .next s)
  ∧ (∀ t0, s.ao.clrAt = some t0 → (s.ns < t0 + 1000000000 → exec .clearHeld s = .next s)
      ∧ (t0 + 1000000000 ≤ s.ns → ∃ z : State, exec .clearHeld s = .next (z.event 0x45 90 0 3 0) ∧ z.get Reg.AO_FLAGS_CLEAR_HELD = 1
          ∧ z.ao = { s.ao with clrAt := none } ∧ Moves s z [.ao] [Reg.AO_FLAGS_CLEAR_HELD]))
  ∧ (judged ↔ s.aoJudged n = true)
  ∧ (s.get (Reg.AO_CH_WIN_MODE n) = 2 → s.aoInWin n x.toInt
      = some (decide (toS 16 (s.get (Reg.AO_CH_WIN_ABS_LO n)) ≤ x.toInt ∧ x.toInt ≤ toS 16 (s.get (Reg.AO_CH_WIN_ABS_HI n)))))
  ∧ (∀ c, s.get (Reg.AO_CH_WIN_MODE n) = 1 → s.aoCode n (s.tu - 529) = some c → s.aoInWin n x.toInt
      = some (decide ((x.toInt - adcOf (s.get (Reg.AO_CH_STAT_SPAN_ACTIVE n)) c).natAbs ≤ s.get (Reg.AO_CH_WIN_TOL n))))
  ∧ (judged → ch.ep = false → s.aoInWin n x.toInt = some false → ∃ z : State, exec (.windowLeave n x) s = .next ((z.outRec n 1 x.toInt).winAct n)
      ∧ noted z ∧ z.get (Reg.AO_CH_FLAGS_WIN n) = 1 ∧ z.get (Reg.AO_CH_STAT_IN_WIN n) = 0 ∧ z.aoCh n = { ch with ep := true }
      ∧ Moves s z [.ao, .fresh] (Reg.AO_CH_FLAGS_WIN n :: Reg.AO_CH_STAT_IN_WIN n :: sense))
  ∧ (¬judged ∨ ch.ep = true ∨ s.aoInWin n x.toInt = some true → ∃ t, exec (.windowLeave n x) s = .next t ∧ noted t ∧ Moves s t [.fresh] sense)
  ∧ (judged → s.aoInWin n x.toInt = some true → ∃ z : State,
      exec (.windowReturn n x) s = .next (if ch.ep then z.outRec n 2 x.toInt else z) ∧ noted z ∧ z.get (Reg.AO_CH_STAT_IN_WIN n) = 1
      ∧ z.aoCh n = { ch with ep := false } ∧ Moves s z [.ao, .fresh] (Reg.AO_CH_STAT_IN_WIN n :: sense))
  ∧ (¬judged ∨ s.aoInWin n x.toInt = some false → ∃ t, exec (.windowReturn n x) s = .next t ∧ noted t ∧ Moves s t [.fresh] sense)
  ∧ (s.get (Reg.AO_CH_CFG_WIN_ACT n) = 0 ∨ s.get (Reg.AO_CH_CFG_WIN_ACT n) = 3 → s.winAct n = s)
  ∧ (s.get (Reg.AO_CH_CFG_WIN_ACT n) = 1 → let z := s.winAct n
      follows z ∧ (∀ k, k < 16 → bit (z.get Reg.AO_SWCLR) k = (bit (s.get Reg.AO_SWCLR) k || (s.aoGroup n).contains k))
      ∧ Moves s z [.ao, .fresh] (Reg.AO_SWCLR :: states))
  ∧ (s.get (Reg.AO_CH_CFG_WIN_ACT n) = 2 → s.get (Reg.AO_CH_CFG_EN n) = 1 → let z := s.winAct n
      (∀ k ∈ s.aoGroup n, z.get (Reg.AO_CH_CFG_EN k) = 0 ∧ (2 ≤ s.aoState k → s.aoState k ≤ 6 → z.aoState k = 6))
      ∧ Moves s z [.ao, .fresh] ((s.aoGroup n).map Reg.AO_CH_CFG_EN ++ (s.aoGroup n).map Reg.AO_CH_STAT_STATE))
  ∧ [refWin 0, refWin 1, refWin 2, refWin 3, refWin 4, refWin 5, refWin 6, refWin 7] = [(-2000, 2000), (4995000, 5005000), (2495000, 2505000),
      (3562500, 3937500), (-3937500, -3562500), (3135000, 3465000), (1710000, 1890000), (-1000, 1000)]
  ∧ (¬mon → exec (.refWindowLeave r x) s = .next s ∧ exec (.refWindowReturn r x) s = .next s)
  ∧ (mon → s.get inWin = 1 → refIn r x.toInt = false → ∃ z t : State, z.get inWin = 0 ∧ z.get Reg.AO_FLAGS_REF_WIN = 1 ∧ z.get (Reg.AO_REF_READING r) = x.toNat
      ∧ Moves s z [] [Reg.AO_REF_READING r, inWin, Reg.AO_FLAGS_REF_WIN] ∧ Moves (z.monRec r 1 x.toInt) t [.ao] trust ∧ shown z t
      ∧ t.ao = { s.ao with refEp := s.ao.refEp.set r true }
      ∧ exec (.refWindowLeave r x) s = .next (if r = 3 ∨ r = 4 then t.railFault r x.toInt else t))
  ∧ (mon → s.get inWin = 0 ∨ refIn r x.toInt = true → ∃ t, exec (.refWindowLeave r x) s = .next t ∧ t.get (Reg.AO_REF_READING r) = x.toNat
      ∧ Moves s t [] [Reg.AO_REF_READING r])
  ∧ (mon → s.get inWin = 0 → refIn r x.toInt = true → ∃ z t : State, z.get inWin = 1 ∧ z.get (Reg.AO_REF_READING r) = x.toNat
      ∧ Moves s z [] [Reg.AO_REF_READING r, inWin] ∧ Moves (if s.ao.refEp.getD r false then z.monRec r 2 x.toInt else z) t [.ao] trust ∧ shown z t
      ∧ t.ao = { s.ao with refEp := s.ao.refEp.set r false }
      ∧ exec (.refWindowReturn r x) s = .next (if s.get Reg.AO_STAT_RAILS_OK = 0 ∧ t.get Reg.AO_STAT_RAILS_OK = 1 then t.railsGood else t))
  ∧ (mon → s.get inWin = 1 ∨ refIn r x.toInt = false → ∃ t, exec (.refWindowReturn r x) s = .next t ∧ t.get (Reg.AO_REF_READING r) = x.toNat
      ∧ Moves s t [] [Reg.AO_REF_READING r])
  ∧ (calm → ∃ z : State, s.railFault r x.toInt = z.event 0x6A 124 (5 + r) 3 (ofS 32 (x.toInt * 16 / 10)) ∧ (∀ k, k < 16 → z.aoState k = 0)
      ∧ z.get Reg.AO_FLAGS_RAIL_FAULT = 1 ∧ z.get Reg.PWR_FLAGS_RAIL_FAULT = 1
      ∧ Moves s z [.ao] ([Reg.AO_FLAGS_RAIL_FAULT, Reg.PWR_FLAGS_RAIL_FAULT] ++ (List.range 16).map Reg.AO_CH_STAT_STATE
          ++ (List.range 16).map Reg.AO_CH_STAT_SPAN_ACTIVE))
  ∧ (∀ k, k < 16 → let e := s.aoState k = 0 ∧ (s.get (Reg.AO_CH_STAT_CAL_DONE k) = 0 ∨ s.get (Reg.AO_CH_CFG_EN k) = 1)
      s.railsGood.aoState k = (if e then 1 else s.aoState k) ∧ (e → s.railsGood.get (Reg.AO_CH_STAT_CAL_DONE k) = 0))
  ∧ (∃ t, exec (.curLimit n b) s = .next t ∧ t.get (Reg.AO_CH_STAT_CUR_LIMIT n) = (if b then 1 else 0)
      ∧ (b = true → t.get (Reg.AO_CH_FLAGS_CUR_LIMIT n) = 1) ∧ (b = false → t.get (Reg.AO_CH_FLAGS_CUR_LIMIT n) = s.get (Reg.AO_CH_FLAGS_CUR_LIMIT n))
      ∧ Moves s t [] [Reg.AO_CH_STAT_CUR_LIMIT n, Reg.AO_CH_FLAGS_CUR_LIMIT n])

/-! ### Fabric -/

/-- R362 to R367, R375, R385, R386, R388, R394, R398: link training goes one state on at each sign, fails with a record and goes down with
another; the second hello brings a port UP at the common version, or refuses it; the credits held are 256 less what is in
flight; the bypass relay follows its conditions.
(The model's choices in it: log entry 110.) -/
def Obligations.LinkTraining : Prop :=
  ∀ (p c : Fin 4) (v : BitVec 32) (k : BitVec 16) (step : Fin 16) (s : State), s.Inv →
    let w := v.toNat
    let x := s.port p
    let st := s.get (Reg.FP_STAT_LSTATE p)
    let lst := Reg.FP_STAT_LSTATE p
    let ctrl := [Reg.FP_CTRL_EN p, Reg.FP_CTRL_EQ p, Reg.FP_CTRL_BLOCK p]
    let wrote (t : State) (en : Nat) := t.get (Reg.FP_CTRL_EN p) = en ∧ t.get (Reg.FP_CTRL_EQ p) = bits w 2 2 ∧ t.get (Reg.FP_CTRL_BLOCK p) = bits w 4 1
    let same := bits w 4 1 = s.get (Reg.FP_CTRL_BLOCK p)
    let en := s.get (Reg.FP_CTRL_EN p) = 1
    let left := [lst, Reg.FP_STAT_ROLE p, Reg.FP_STAT_VER p, Reg.FP_STAT_NB_ADDR_VALID p]
    let quiet := ∀ b ∈ s.sw.buf, p.val ∉ b.out ∧ (b.out ≠ [] ∨ b.here = true)
    let ports (y : Port) := s.sw.ports.set p y
    let fresh : Port := { x with nb := none, hellos := 0, hbuf := [] }
    let flag (f : Fld) (i : Instr) (reason : Nat) := ∃ z : State, exec i s = .next ((z.linkRec p reason).linkDown p 1) ∧ z.get f = 1 ∧ Moves s z [] [f]
    let nb := [Reg.FP_NB_UID_LO p, Reg.FP_NB_UID_HI p, Reg.FP_NB_INFO_BOOTGEN p, Reg.FP_NB_INFO_VMIN p, Reg.FP_NB_INFO_VMAX p, Reg.FP_NB_INFO_PORT p,
      Reg.FP_NB_CAPS p, Reg.FP_STAT_NB_ADDR_VALID p, Reg.FP_STAT_NB_ADDR p]
    let creds := (List.range 4).map (Reg.FP_CRED_TX p) ++ (List.range 4).map (Reg.FP_CRED_RX p)
    (quiet → st ≠ 5 → ∀ d, d < 5 → (s.linkDown p d).get lst = d ∧ (s.linkDown p d).get (Reg.FP_STAT_ROLE p) = 0
      ∧ (s.linkDown p d).sw = { s.sw with ports := ports fresh } ∧ Moves s (s.linkDown p d) [.sw] left)
  ∧ (quiet → st = 5 → ∀ d, d < 5 → ∃ z y : State, s.linkDown p d = y.elect.sendTopo 1 ∧ z.get lst = d ∧ z.get (Reg.FP_STAT_ROLE p) = 0
      ∧ z.get (Reg.FP_CNT_DOWN p) = (s.get (Reg.FP_CNT_DOWN p) + 1) % 2 ^ 32 ∧ z.sw = { s.sw with ports := ports fresh }
      ∧ Moves s z [.sw] (Reg.FP_CNT_DOWN p :: left) ∧ Moves (z.linkRec p 2) y [.sw] [] ∧ ∀ b ∈ y.sw.buf, b.port ≠ p)
  ∧ (¬en → st = 0 → quiet → ∃ t, exec (.portEnable p v) s = .next t ∧ wrote t 1 ∧ t.get lst = s.get Reg.FSW_CTRL_EN
      ∧ t.sw = { s.sw with ports := ports fresh } ∧ Moves s t [.sw] (left ++ ctrl))
  ∧ (en → st ≠ 5 ∨ (bit w 1 = false ∧ same) → ∃ t, exec (.portEnable p v) s = .next t ∧ wrote t 1 ∧ Moves s t [] ctrl)
  ∧ (en → st ≠ 5 → bit w 0 = true → ∃ t, exec (.retrain p v) s = .next t ∧ wrote t 1 ∧ Moves s t [] ctrl)
  ∧ (en → st = 5 → bit w 0 = true → same → ∃ z : State, exec (.retrain p v) s = .next (z.linkDown p (s.get Reg.FSW_CTRL_EN)) ∧ wrote z 1 ∧ Moves s z [] ctrl)
  ∧ (st = 0 → ∃ t, exec (.portDisable p v) s = .next t ∧ wrote t 0 ∧ Moves s t [] ctrl)
  ∧ (st ≠ 0 → same → ∃ z : State, exec (.portDisable p v) s = .next (z.linkDown p 0) ∧ wrote z 0 ∧ Moves s z [] ctrl)
  ∧ (st = 1 → ∃ t, exec (.signalDetected p) s = .next t ∧ t.get (Reg.FP_STAT_SIGNAL p) = 1 ∧ t.get lst = 2 ∧ Moves s t [] [lst, Reg.FP_STAT_SIGNAL p])
  ∧ (st ≠ 1 → exec (.signalDetected p) s = .next s)
  ∧ (st = 2 → ∃ t, exec (.commaAligned p) s = .next t ∧ t.get lst = 3 ∧ Moves s t [] [lst])
  ∧ (st ≠ 2 → exec (.commaAligned p) s = .next s)
  ∧ (st = 3 → s.sw.genLoaded = true → ∃ t, exec (.equalisationDone p step) s = .next t ∧ t.get lst = 4 ∧ t.get (Reg.FP_EQ_STAT p) = step
      ∧ t.sw = { s.sw with ports := ports { x with hellos := 0, hbuf := [] } } ∧ Moves s t [.sw] [lst, Reg.FP_EQ_STAT p])
  ∧ (st ≠ 3 ∨ s.sw.genLoaded = false → exec (.equalisationDone p step) s = .next s)
  ∧ (2 ≤ st → st ≤ 4 → flag (Reg.FP_FLAGS_TRAIN_FAIL p) (.trainFail p) 4)
  ∧ (st < 2 ∨ 4 < st → exec (.trainFail p) s = .next s)
  ∧ (st = 0 → exec (.lossOfSignal p) s = .next s)
  ∧ (1 ≤ st → ∃ z : State, z.get (Reg.FP_FLAGS_LOS p) = 1 ∧ z.get (Reg.FP_STAT_SIGNAL p) = 0 ∧ Moves s z [] [Reg.FP_FLAGS_LOS p, Reg.FP_STAT_SIGNAL p]
      ∧ exec (.lossOfSignal p) s = .next (if 2 ≤ st then (z.linkRec p 3).linkDown p 1 else z))
  ∧ (st < 2 → exec (.codeErrorLimit p k) s = .next s)
  ∧ (2 ≤ st → ∃ z : State, z.get (Reg.FP_CNT_CODE p) = (s.get (Reg.FP_CNT_CODE p) + k.toNat) % 2 ^ 32
      ∧ Tbl.get 0 z.sw.sums (256 * (17 + 4 * p.val) + 1) = Tbl.get 0 s.sw.sums (256 * (17 + 4 * p.val) + 1) + k.toNat
      ∧ z.sw = { s.sw with sums := z.sw.sums, sumsAt := z.sw.sumsAt } ∧ Moves s z [.sw] [Reg.FP_CNT_CODE p, Reg.FP_FLAGS_CODE_ERR p]
      ∧ (16 ≤ k.toNat → z.get (Reg.FP_FLAGS_CODE_ERR p) = 1) ∧ (k.toNat < 16 → z.get (Reg.FP_FLAGS_CODE_ERR p) = s.get (Reg.FP_FLAGS_CODE_ERR p))
      ∧ exec (.codeErrorLimit p k) s = .next (if k.toNat < 16 then z else z.linkDown p 1))
  ∧ (x.hbuf = [] → exec (.helloReceived p) s = .next s)
  ∧ (∀ b l, x.hbuf = b :: l → ∃ z : State, exec (.helloReceived p) s = .next (z.hello p (parseHello b))
      ∧ z.sw = { s.sw with ports := ports { x with hbuf := l } } ∧ Moves s z [.sw] [])
  ∧ (∀ h : Hello,
      let y : Port := { x with nb := some h, hellos := x.hellos + 1 }
      let lo := max h.vmin (s.get Reg.ID_IFVER_FAB_MIN)
      let hi := min h.vmax (s.get Reg.ID_IFVER_FAB_MAX)
      let seen (z : State) (fs : List Fld) := z.get64 (Reg.FP_NB_UID_LO p) (Reg.FP_NB_UID_HI p) = h.uid % 2 ^ 64
        ∧ z.get (Reg.FP_NB_INFO_BOOTGEN p) = h.bootgen % 2 ^ 16 ∧ Moves s z [.sw] (nb ++ fs)
      (st = 4 → x.hellos = 0 → ∃ z, s.hello p h = z ∧ seen z [] ∧ z.sw = { s.sw with ports := ports y })
      ∧ (st = 4 → 1 ≤ x.hellos → lo ≤ hi → ∃ z u : State, s.hello p h = u.elect ∧ seen z ([lst, Reg.FP_STAT_VER p, Reg.FP_STAT_ROLE p] ++ creds)
          ∧ z.get lst = 5 ∧ z.get (Reg.FP_STAT_VER p) = hi % 8 ∧ z.get (Reg.FP_STAT_ROLE p) = 3
          ∧ (∀ q, q < 4 → z.get (Reg.FP_CRED_TX p q) = 256 ∧ z.get (Reg.FP_CRED_RX p q) = 0) ∧ Moves (z.linkRec p 1) u [.sw] [])
      ∧ (st = 4 → 1 ≤ x.hellos → hi < lo → ∃ z : State, s.hello p h = z.linkRec p 5 ∧ seen z [lst, Reg.FP_FLAGS_VER_REFUSED p] ∧ z.get lst = 6
          ∧ z.get (Reg.FP_FLAGS_VER_REFUSED p) = 1 ∧ z.sw = { s.sw with ports := ports y })
      ∧ (st = 5 → ∃ z : State, s.hello p h = z.elect ∧ seen z [] ∧ z.sw = { s.sw with ports := ports y })
      ∧ (st = 6 → hi < lo → ∃ z, s.hello p h = z ∧ seen z [] ∧ z.sw = { s.sw with ports := ports y }))
  ∧ (st < 4 → exec (.helloSend p) s = .next s)
  ∧ (4 ≤ st → ∃ t, exec (.helloSend p) s = .next t
      ∧ t.sw = { s.sw with buf := s.sw.buf ++ [⟨4, s.mkFrame 0 0 0 (s.helloBytes p), [p], false, s.ns, none⟩] } ∧ Moves s t [.sw] [])
  ∧ ((s.helloBytes p).length = 48 ∧ pfield (s.helloBytes p) 0 8 = s.uid % 2 ^ 64 ∧ pfield (s.helloBytes p) 8 2 = s.get Reg.FSW_BOOTGEN)
  ∧ (st = 5 → flag (Reg.FP_FLAGS_HELLO_TIMEOUT p) (.helloTimeout p) 6)
  ∧ (st ≠ 5 → exec (.helloTimeout p) s = .next s ∧ exec (.creditReceived p c k) s = .next s ∧ exec (.creditSend p c) s = .next s
      ∧ exec (.creditTimeout p c) s = .next s)
  ∧ (st = 5 → x.got.length = 4 → x.sent.length = 4 → ∃ t, exec (.creditReceived p c k) s = .next t
      ∧ t.sw = { s.sw with ports := ports { x with got := x.got.set c k.toNat } }
      ∧ t.get (Reg.FP_CRED_TX p c) = 256 - (x.sent.getD c 0 + 65536 - k.toNat) % 65536 ∧ Moves s t [.sw] [Reg.FP_CRED_TX p c])
  ∧ (st = 5 → ∃ t, exec (.creditSend p c) s = .next t ∧ t.out = .credit p c (x.freed.getD c 0) :: s.out ∧ Moves s t [.out] [])
  ∧ (let waits := ∃ b ∈ s.sw.buf, p.val ∈ b.out ∧ b.f.tc.toNat = c ∧ b.f.kind ≠ 0;
      (st = 5 → ¬waits → exec (.creditTimeout p c) s = .next s)
      ∧ (st = 5 → waits → ∃ z : State, exec (.creditTimeout p c) s = .next (z.linkDown p 1) ∧ z.get (Reg.FP_FLAGS_CREDIT_TIMEOUT p) = 1
          ∧ Tbl.get 0 z.sw.sums (256 * (17 + 4 * p.val) + 3) = Tbl.get 0 s.sw.sums (256 * (17 + 4 * p.val) + 3) + 1
          ∧ z.sw = { s.sw with sums := z.sw.sums, sumsAt := z.sw.sumsAt } ∧ Moves s z [.sw] [Reg.FP_FLAGS_CREDIT_TIMEOUT p]))
  ∧ (s.bypassOk = false ∨ s.sw.bypass = true → exec .bypassRaise s = .next s)
  ∧ (s.bypassOk = true ∨ s.sw.bypass = false → exec .bypassDrop s = .next s)
  ∧ (s.bypassOk ≠ s.sw.bypass → ∃ z : State, z.sw = { s.sw with bypass := s.bypassOk } ∧ z.out = .pin 0x200 s.bypassOk s.ns :: s.out
      ∧ Moves s z [.sw, .out] [] ∧ exec (if s.bypassOk then .bypassRaise else .bypassDrop) s
        = .next (z.event 0x1F 39 0 (if s.bypassOk then 1 else 2) 0))

/-- R368 to R372, R380 to R388, R396: a frame that arrives is judged in order; a good one goes on by its route, the forwarding entry or the tree, is
kept for this module, or is dropped with its count; of the frames that find credits the first by class leaves; taking a frame frees
its units; a write of a forwarding entry makes it static or clears it.
(The model's choices in it: log entries 111 and 112.) -/
def Obligations.FrameForwarding : Prop :=
  ∀ (p : Fin 4) (f : Frame) (v : BitVec 32) (a : BitVec 12) (s : State), s.Inv →
    let st := s.get (Reg.FP_STAT_LSTATE p)
    let rxf := Reg.FP_CNT_RXF p
    let got (hcrc crc ab : Bool) := exec (.frameArrival p f hcrc crc ab) s
    let counted (t : State) := t.get rxf = (s.get rxf + 1) % 2 ^ 32
    let x := s.port p
    let sw0 : Switch := if st = 5 ∧ f.kind ≠ 0 then { s.sw with ports := s.sw.ports.set p { x with
      freed := x.freed.set f.tc.toNat ((x.freed.getD f.tc.toNat 0 + frameUnits f) % 65536) } } else s.sw
    let only (o : Host.Outcome State Fault Refusal) := ∃ t, o = .next t ∧ counted t ∧ t.sw = sw0 ∧ Moves s t [.sw] [rxf]
    let sum (r : Nat) := 256 * (17 + 4 * p.val) + r
    let told (t : State) (r : Nat) := t.sw = { sw0 with
      sums := Tbl.put 0 s.sw.sums (sum r) (Tbl.get 0 s.sw.sums (sum r) + 1)
      sumsAt := if Tbl.get 0 s.sw.sums (sum r) = 0 then Tbl.put 0 s.sw.sumsAt (sum r) (s.ns + 1) else s.sw.sumsAt }
    let fcs (o : Host.Outcome State Fault Refusal) := ∃ t, o = .next t ∧ counted t ∧ t.get (Reg.FP_CNT_FCS p) = (s.get (Reg.FP_CNT_FCS p) + 1) % 2 ^ 32
      ∧ t.get (Reg.FP_FLAGS_FCS_ERR p) = 1 ∧ told t 2 ∧ Moves s t [.sw] [rxf, Reg.FP_CNT_FCS p, Reg.FP_FLAGS_FCS_ERR p]
    let clash := f.srcrt = true ∧ f.bcast = true
    let fits := f.payload.length ≤ 2032
    let good := 4 ≤ st ∧ ¬clash ∧ fits
    let tcOk := (f.tc = 1 ∧ f.kind.toNat ∈ [1, 2, 3, 5, 6, 10]) ∨ (f.tc = 3 ∧ f.kind.toNat ∈ [4, 5, 9, 11]) ∨ (f.tc = 0 ∧ f.kind = 7) ∨ (f.tc = 2 ∧ f.kind = 8)
    let open_ := s.get (Reg.FP_STAT_ROLE p) ≠ 3 ∨ f.srcrt = true ∨ f.kind = 2
    let taken := good ∧ st = 5 ∧ f.kind ≠ 0 ∧ tcOk ∧ open_
    let tree := taken ∧ f.kind ≠ 7 ∧ f.srcrt = false
    let cred := Reg.FP_CRED_RX p f.tc.toNat
    let kept (g : Frame) (ports : List Nat) (here : Bool) := ∃ t, got true true false = .next t ∧ counted t ∧ t.get cred = (s.get cred + frameUnits g) % 512
      ∧ t.sw = { s.sw with buf := s.sw.buf ++ [⟨p, g, ports, here, s.ns, none⟩] } ∧ Moves s t [.sw] [rxf, cred]
    let dropped (z : State) := z.get Reg.FSW_CNT_NOROUTE = (s.get Reg.FSW_CNT_NOROUTE + 1) % 2 ^ 32 ∧ z.get Reg.FSW_FLAGS_NO_ROUTE = 1 ∧ counted z
      ∧ Moves s z [] [rxf, Reg.FSW_CNT_NOROUTE, Reg.FSW_FLAGS_NO_ROUTE]
    let q := routePort f.payload f.hop.toNat
    let routed := taken ∧ f.kind ≠ 7 ∧ f.srcrt = true
    let rlen := pfield f.payload 0 2
    (∀ h c b, st < 4 → got h c b = .next s)
  ∧ (∀ c b, 4 ≤ st → fcs (got false c b))
  ∧ (∀ c b, 4 ≤ st → clash → only (got true c b))
  ∧ (∀ c b, 4 ≤ st → ¬clash → ¬fits → ∃ t, got true c b = .next t ∧ counted t ∧ t.get (Reg.FP_FLAGS_OVERSIZE p) = 1 ∧ told t 4
      ∧ Moves s t [.sw] [rxf, Reg.FP_FLAGS_OVERSIZE p])
  ∧ (∀ c, good → only (got true c true))
  ∧ (good → fcs (got true false false))
  ∧ (good → f.kind = 0 → ∃ t, got true true false = .next t ∧ counted t ∧ Moves s t [.sw] [rxf]
      ∧ t.sw = { s.sw with ports := s.sw.ports.set p { s.port p with hbuf :=
          (if (s.port p).hbuf.length < 2 then (s.port p).hbuf else (s.port p).hbuf.drop 1) ++ [f.payload] } })
  ∧ (good → f.kind ≠ 0 → st ≠ 5 ∨ ¬tcOk ∨ ¬open_ → only (got true true false))
  ∧ (taken → f.kind = 7 → kept f [] true)
  ∧ (tree → f.bcast = false → s.addr = some f.dst.toNat → s.isStale f = false → kept f [] true)
  ∧ (tree → f.bcast = false → s.addr = some f.dst.toNat → s.isStale f = true → f.kind ≠ 10 → ∃ t, got true true false = .next t ∧ counted t
      ∧ t.get Reg.FSW_CNT_STALE = (s.get Reg.FSW_CNT_STALE + 1) % 2 ^ 32 ∧ t.get Reg.FSW_FLAGS_STALE = 1
      ∧ t.sw = sw0 ∧ Moves s t [.sw] [rxf, Reg.FSW_CNT_STALE, Reg.FSW_FLAGS_STALE])
  ∧ (tree → f.bcast = false → s.addr ≠ some f.dst.toNat → f.hop = 4095 → ∃ t, got true true false = .next t ∧ counted t
      ∧ t.get Reg.FSW_CNT_TTL = (s.get Reg.FSW_CNT_TTL + 1) % 2 ^ 32 ∧ t.get Reg.FSW_FLAGS_TTL_DROP = 1
      ∧ t.sw = sw0 ∧ Moves s t [.sw] [rxf, Reg.FSW_CNT_TTL, Reg.FSW_FLAGS_TTL_DROP])
  ∧ (tree → f.bcast = false → s.dir f.dst.toNat = 0 → f.hop ≠ 4095 →
      ∃ z : State, got true true false = .next ((z.fwdRecord 2 f.dst.toNat).returnUnits p f) ∧ dropped z)
  ∧ (∀ o, tree → f.bcast = false → f.hop ≠ 4095 → s.dir f.dst.toNat = o + 1 → o < 4 → o ≠ p.val → s.inTree o = true → s.verCarries o f = true → kept f [o] false)
  ∧ (tree → f.bcast = true → f.hop ≠ 4095 → s.isStale f = false → (∀ o, o < 4 → s.verCarries o f = true) →
      kept f ((List.range 4).filter (fun o => o != p.val && s.inTree o)) true)
  ∧ (routed → f.hop.toNat = rlen → s.isStale f = false → kept f [] true)
  ∧ (routed → f.hop.toNat ≠ rlen → s.isUp q = true →
      kept { f with payload := setRoutePort f.payload f.hop.toNat p, hop := f.hop + 1 } [q] false)
  ∧ (routed → f.hop.toNat ≠ rlen → s.isUp q = false → ∃ z : State, got true true false = .next (z.returnUnits p f) ∧ dropped z)
  ∧ (st = 5 → f.kind ≠ 0 → (s.returnUnits p f).sw = sw0) ∧ (st ≠ 5 ∨ f.kind = 0 → s.returnUnits p f = s) ∧ Moves s (s.returnUnits p f) [.sw] []
  ∧ (st < 4 ∨ s.nextOut p = none → exec (.frameTransmit p) s = .next s)
  ∧ (∀ b, 4 ≤ st → s.nextOut p = some b → ∃ z : State,
      let g := if b.port < 4 ∧ b.f.srcrt = false then { b.f with hop := b.f.hop + 1 } else b.f
      let c := b.f.tc.toNat
      exec (.frameTransmit p) s = .next (match b.fl with | some fl => z.sweep.complete fl s.ns 0 0 0 | none => z.sweep)
      ∧ z.out = .frame p g :: s.out ∧ z.get (Reg.FP_CNT_TXF p) = (s.get (Reg.FP_CNT_TXF p) + 1) % 2 ^ 32
      ∧ z.get Reg.FSW_CNT_FWD = (s.get Reg.FSW_CNT_FWD + (if b.port < 4 then 1 else 0)) % 2 ^ 32
      ∧ (∃ l r, s.sw.buf = l ++ b :: r ∧ b ∉ l ∧ z.sw.buf = l ++ { b with out := b.out.filter (fun o => o != p.val), fl := none } :: r)
      ∧ (b.f.kind = 0 → z.sw = { s.sw with buf := z.sw.buf })
      ∧ (b.f.kind ≠ 0 → z.sw = { s.sw with buf := z.sw.buf, ports := s.sw.ports.set p { s.port p with
          sent := (s.port p).sent.set c (((s.port p).sent.getD c 0 + frameUnits b.f) % 65536) } } ∧ z.get (Reg.FP_CRED_TX p c) = z.credits p c % 512)
      ∧ Moves s z [.sw, .out] [Reg.FP_CNT_TXF p, Reg.FP_CRED_TX p c, Reg.FSW_CNT_FWD])
  ∧ (∀ b, s.nextOut p = some b →
      let fit (x : BufF) := p.val ∈ x.out ∧ (x.f.kind = 0 ∨ frameUnits x.f ≤ s.credits p x.f.tc.toNat)
      b ∈ s.sw.buf ∧ fit b ∧ ∀ x ∈ s.sw.buf, fit x →
        s.sw.buf.find? (fun y => y.out.contains p.val && y.f.tc == x.f.tc && (y.f.kind == 0) == (x.f.kind == 0)) = some x → s.sendRank b ≤ s.sendRank x)
  ∧ (∀ b : BufF, s.sendRank b = if b.f.kind = 0 then 1 else if b.f.tc = 0 then 0 else if b.f.tc = 1 then 3 else if b.f.tc = 2 then 4
      else if b.t + 100000 ≤ s.ns then 2 else 5)
  ∧ (∀ (o : Nat) (ok : Frame → Bool), (∀ b ∈ s.sw.buf, ¬(b.port = o ∧ b.here = true ∧ ok b.f = true)) → s.takeRx o ok = none)
  ∧ (∀ (ok : Frame → Bool) (l r : List BufF) (b : BufF), s.sw.buf = l ++ b :: r → b.port = p → b.here = true → ok b.f = true → b.out = [] → b.fl = none →
      (∀ x ∈ l, ¬(x.port = p ∧ x.here = true ∧ ok x.f = true)) → (∀ x ∈ l ++ r, x.out ≠ [] ∨ x.here = true) →
      ∃ u, s.takeRx p ok = some (b.f, u) ∧ u.sw.buf = l ++ r
        ∧ u.get (Reg.FP_CRED_RX p b.f.tc.toNat) = s.get (Reg.FP_CRED_RX p b.f.tc.toNat) - frameUnits b.f ∧ Moves s u [.sw] [Reg.FP_CRED_RX p b.f.tc.toNat])
  ∧ (∃ t, exec (.forwardingEntryWrite a v) s = .next t
      ∧ t.get (Reg.FSW_FWD_DIR a.toNat) = (if bit v.toNat 3 then bits v.toNat 0 3 else 0)
      ∧ t.get (Reg.FSW_FWD_STATIC a.toNat) = (if bit v.toNat 3 then 1 else 0) ∧ Moves s t [] [Reg.FSW_FWD_DIR a.toNat, Reg.FSW_FWD_STATIC a.toNat])
  ∧ (let due := s.get (Reg.FSW_FWD_DIR a.toNat) = 6 ∧ s.get (Reg.FSW_FWD_STATIC a.toNat) = 0;
      (due → ∃ t, exec (.floodExpiry a) s = .next t ∧ t.get (Reg.FSW_FWD_DIR a.toNat) = 0 ∧ Moves s t [] [Reg.FSW_FWD_DIR a.toNat])
      ∧ (¬due → exec (.floodExpiry a) s = .next s))

/-- R373 to R380, R382, R395: the best vector that can be taken, or the module's own, gives the root; roles follow; TOPO flushes what was learned;
announcements make nodes known and lost; the root grants each UID one address, and only the module that asked takes it.
(The model's choices in it: log entries 113 and 114.) -/
def Obligations.RootAndAddresses : Prop :=
  ∀ (p : Fin 5) (a : BitVec 12) (s : State), s.Inv →
    let n := a.toNat
    let root := s.get Reg.FSW_STAT_ROOT = 1
    let static (b : Nat) := s.get (Reg.FSW_FWD_STATIC b) = 1
    let isRoot (t : State) := t.get Reg.FSW_STAT_ROOT = 1 ∧ t.get Reg.FSW_STAT_ROOT_VALID = 1 ∧ t.get Reg.FSW_STAT_UP_VALID = 0
      ∧ t.get Reg.FSW_ROOT_INFO_HOPS = 0 ∧ t.get64 Reg.FSW_ROOT_UID_LO Reg.FSW_ROOT_UID_HI = s.uid
      ∧ t.get Reg.FSW_ROOT_INFO_PRI = s.get Reg.FSW_CTRL_ROOT_PRI ∧ t.sw.upUid = 0
    let first (k : Nat) (q : Frame → Bool) := s.takeRx p (fun f => f.kind.toNat == k && q f)
    let hasAddr := s.get Reg.FSW_STAT_ADDR_VALID = 1
    let alone := s.get Reg.FSW_STAT_ROOT_VALID = 0 ∧ s.vectors = [] ∧ s.get Reg.FSW_CTRL_EN = 1
    (alone → ∃ z : State, exec .rootCandidateOffer s = .next z.elect ∧ z.sw = { s.sw with held := false } ∧ Moves s z [.sw] [])
  ∧ (¬alone → exec .rootCandidateOffer s = .next s)
  ∧ (s.bestVector = none → root ∨ s.sw.held = false → isRoot s.elect)
  ∧ (∀ e, s.bestVector = some e → s.ownBeats e = true → isRoot s.elect)
  ∧ (∀ q h, s.bestVector = some (q, h) → s.ownBeats (q, h) = false → let t := s.elect
      q < 4 ∧ s.isUp q = true ∧ t.get Reg.FSW_STAT_ROOT = 0 ∧ t.get Reg.FSW_STAT_ROOT_VALID = 1 ∧ t.get Reg.FSW_STAT_UP_VALID = 1
      ∧ t.get Reg.FSW_STAT_UP_PORT = q ∧ t.get Reg.FSW_ROOT_INFO_HOPS = h.hops + 1 ∧ t.get Reg.FSW_ROOT_INFO_PRI = h.rpri % 256
      ∧ t.get Reg.FSW_ROOT_INFO_ADDR = h.raddr % 4096 ∧ t.get64 Reg.FSW_ROOT_UID_LO Reg.FSW_ROOT_UID_HI = h.ruid % 2 ^ 64 ∧ t.sw.upUid = h.uid)
  ∧ (s.bestVector = none → ¬root → s.sw.held = true → s.elect.get Reg.FSW_STAT_ROOT_VALID = 0)
  ∧ (∀ q, q < 4 → s.setRoles.1.get (Reg.FP_STAT_ROLE q) = if s.isUp q then s.roleOf q else s.get (Reg.FP_STAT_ROLE q))
  ∧ (∀ q, q < 4 → (s.get (Reg.FP_CTRL_BLOCK q) = 1 ∨ (s.port q).hellos < 2 → s.roleOf q = 3)
      ∧ (s.get (Reg.FP_CTRL_BLOCK q) = 0 → 2 ≤ (s.port q).hellos → s.get Reg.FSW_STAT_UP_VALID = 1 → s.get Reg.FSW_STAT_UP_PORT = q → s.roleOf q = 1))
  ∧ (let u := s.topoAct;
      (∀ b, b < 4096 → u.get (Reg.FSW_FWD_DIR b) = if 1 ≤ s.get (Reg.FSW_FWD_DIR b) ∧ s.get (Reg.FSW_FWD_DIR b) ≤ 4 ∧ ¬static b then 6 else s.get (Reg.FSW_FWD_DIR b))
      ∧ (hasAddr → u.sw = { s.sw with annDue := some (s.ns + 10000 + 2000 * (s.get Reg.FSW_STAT_ADDR % 64)) }) ∧ (¬hasAddr → u.sw = s.sw)
      ∧ Moves s u [.sw] ((List.range 4096).map Reg.FSW_FWD_DIR))
  ∧ (first 2 (fun _ => true) = none → exec (.topoReceived p) s = .next s)
  ∧ (∀ f u, first 2 (fun _ => true) = some (f, u) → exec (.topoReceived p) s = .next u.topoAct)
  ∧ (let due := ∀ t, s.sw.annDue = some t → t ≤ s.ns
  (¬hasAddr ∨ ¬due → exec .announceSend s = .next s)
  ∧ (hasAddr → due → ∃ t, exec .announceSend s = .next t ∧ t.sw.annDue = some (s.ns + 100000000)
      ∧ t.sw = { s.sw with annDue := t.sw.annDue, buf := s.sw.buf ++ [⟨4, { s.mkFrame 1 1 0 (leBytes 8 s.uid ++ leBytes 2 (s.get Reg.FSW_BOOTGEN)
          ++ leBytes 2 s.addrWord ++ leBytes 2 s.caps) with bcast := true }, (List.range 4).filter s.inTree, false, s.ns, none⟩] } ∧ Moves s t [.sw] []))
  ∧ (first 1 (fun _ => true) = none → exec (.announceReceived p) s = .next s)
  ∧ (∀ f u, first 1 (fun _ => true) = some (f, u) → let w := pfield f.payload 10 2
      exec (.announceReceived p) s = .next (if bit w 15 then u.heard p (pfield f.payload 0 8) (pfield f.payload 8 2) (w % 4096) else u))
  ∧ (∀ uid bg, s.addr ≠ some n → ¬root → static n →
      let old := s.sw.nodes.find? (fun x => x.uid == uid && x.addr == n)
      let node : Node := ⟨n, uid, bg, s.ns⟩
      let seen (z : State) := z.get (Reg.FSW_FWD_BOOTGEN n) = bg % 2 ^ 16 ∧ Moves s z [.sw] [Reg.FSW_FWD_BOOTGEN n]
        ∧ z.sw = { s.sw with nodes := s.sw.nodes.filter (fun x => !(x.uid == uid && x.addr == n)) ++ [node] }
      let last := (s.sw.nodes.filter (fun x => x.uid == uid)).getLast?
      let same := ∀ x, last = some x → x.bootgen = bg
      (old = none → same → ∃ z : State, s.heard p uid bg n = z.nodeRec node 1 ∧ seen z)
      ∧ (old ≠ none → same → seen (s.heard p uid bg n))
      ∧ (∀ x, last = some x → x.bootgen ≠ bg → ∃ z : State, s.heard p uid bg n = ((if old = none then z.nodeRec node 1 else z).nodeRec node 3).peerGone x.addr
          ∧ seen z))
  ∧ (∀ uid, s.addr = some n → uid < s.uid → ¬root → let t := s.addrConflict uid n
      t.get Reg.FSW_STAT_ADDR_VALID = 0 ∧ t.get Reg.FSW_FLAGS_ADDR_CONFLICT = 1 ∧ Moves s t [] [Reg.FSW_STAT_ADDR_VALID, Reg.FSW_FLAGS_ADDR_CONFLICT])
  ∧ (∀ q, q < 4 → (static n ∨ s.get (Reg.FSW_FWD_DIR n) = q + 1 → s.learn n q = s)
      ∧ (¬static n → s.get (Reg.FSW_FWD_DIR n) ≠ q + 1 → ∃ z : State, s.learn n q = z.fwdRecord 1 (n + 2 ^ 16 * q)
          ∧ z.get (Reg.FSW_FWD_DIR n) = q + 1 ∧ Moves s z [] [Reg.FSW_FWD_DIR n]))
  ∧ (s.sw.nodes.find? (fun x => x.addr == n) = none ∨ (∃ y ∈ s.sw.nodes, y.addr = n ∧ s.ns < y.seen + 350000000) → exec (.nodeTimeout a) s = .next s)
  ∧ (∀ x, s.sw.nodes.find? (fun x => x.addr == n) = some x → (∀ y ∈ s.sw.nodes, y.addr = n → y.seen + 350000000 ≤ s.ns) → ∃ z : State, exec (.nodeTimeout a) s = .next ((z.nodeRec x 2).peerGone n)
      ∧ z.get (Reg.FSW_FWD_DIR n) = (if s.get (Reg.FSW_FWD_STATIC n) = 1 then s.get (Reg.FSW_FWD_DIR n) else 0)
      ∧ z.sw = { s.sw with nodes := s.sw.nodes.filter (fun y => y.addr != n), binds := z.sw.binds }
      ∧ (∀ b ∈ z.sw.binds, b.2.1 = n → b.1 ≠ s.uid → b.2.2 = some s.ns) ∧ Moves s z [.sw] [Reg.FSW_FWD_DIR n])
  ∧ (hasAddr ∨ s.get Reg.FSW_STAT_ROOT_VALID = 0 → exec .addrRequestSend s = .next s)
  ∧ (¬hasAddr → s.get Reg.FSW_STAT_ROOT_VALID = 1 →
      (root → exec .addrRequestSend s = .next (if s.sw.bindReady then s.grant s.uid s.ownPref else s))
      ∧ (¬root → s.route (s.get Reg.FSW_ROOT_INFO_ADDR) 4 = none → exec .addrRequestSend s = .next s)
      ∧ (∀ ps, ¬root → s.route (s.get Reg.FSW_ROOT_INFO_ADDR) 4 = some ps → ∃ t, exec .addrRequestSend s = .next t
          ∧ t.sw = { s.sw with buf := s.sw.buf ++ [⟨4, { s.mkFrame 1 3 (s.get Reg.FSW_ROOT_INFO_ADDR) (leBytes 8 s.uid
              ++ leBytes 2 (s.get Reg.FSW_ADDR_PREF_ADDR + 32768 * s.get Reg.FSW_ADDR_PREF_VALID)) with noaddr := true, src := 0 }, ps, false, s.ns, none⟩] }
          ∧ Moves s t [.sw] []))
  ∧ (first 3 (fun f => !f.bcast) = none → exec (.addrRequestReceived p) s = .next s)
  ∧ (∀ f u, first 3 (fun f => !f.bcast) = some (f, u) → let w := pfield f.payload 8 2
      exec (.addrRequestReceived p) s = .next (if root ∧ s.sw.bindReady = true then u.grant (pfield f.payload 0 8) (if bit w 15 then some (w % 4096) else none) else u))
  ∧ (∀ uid pref x, s.sw.binds.find? (fun b => b.1 == uid) = some x → s.chooseAddr uid pref = some x.2.1)
  ∧ (∀ uid, s.sw.binds.find? (fun b => b.1 == uid) = none →
      let free (b : Nat) := ∀ x ∈ s.sw.binds, x.2.1 ≠ b
      (free n → s.chooseAddr uid (some n) = some n)
      ∧ (∀ b, s.chooseAddr uid none = some b → free b ∧ b < 4096 ∧ ∀ c, c < b → ¬free c)
      ∧ (s.chooseAddr uid none = none → ∀ b, b < 4096 → ¬free b))
  ∧ (∀ uid pref, s.chooseAddr uid pref = none → s.grant uid pref = s)
  ∧ (∀ uid pref b, s.chooseAddr uid pref = some b → let binds := s.sw.binds.filter (fun x => x.1 != uid) ++ [(uid, b, none)]
      (uid = s.uid → ∃ z : State, s.grant uid pref = z.takeAddr b ∧ z.sw = { s.sw with binds := binds } ∧ Moves s z [.sw] [])
      ∧ (uid ≠ s.uid → (s.grant uid pref).sw = { s.sw with binds := binds, buf := s.sw.buf ++
            [⟨4, { s.mkFrame 1 3 0 (leBytes 8 uid ++ leBytes 2 b) with bcast := true }, (List.range 4).filter s.inTree, false, s.ns, none⟩] }
          ∧ Moves s (s.grant uid pref) [.sw] []))
  ∧ (∃ z : State, s.takeAddr n = z.topoRec 0 4 ∧ z.get Reg.FSW_STAT_ADDR = n ∧ z.get Reg.FSW_STAT_ADDR_VALID = 1
      ∧ (root → z.get Reg.FSW_ROOT_INFO_ADDR = n) ∧ Moves s z [] [Reg.FSW_STAT_ADDR, Reg.FSW_STAT_ADDR_VALID, Reg.FSW_ROOT_INFO_ADDR])
  ∧ (first 3 (fun f => f.bcast) = none → exec (.addrGrantReceived p) s = .next s)
  ∧ (∀ f u, first 3 (fun f => f.bcast) = some (f, u) → let b := pfield f.payload 8 2 % 4096
      exec (.addrGrantReceived p) s = .next (if pfield f.payload 0 8 = s.uid ∧ s.addr ≠ some b then u.takeAddr b else u))
  ∧ (hasAddr → exec .addrFail s = .next s)
  ∧ (¬hasAddr → ∃ t, exec .addrFail s = .next t ∧ t.get Reg.FSW_FLAGS_ADDR_FAIL = 1 ∧ Moves s t [] [Reg.FSW_FLAGS_ADDR_FAIL])
  ∧ (¬root → exec .bindingTableReady s = .next s)
  ∧ (root → ∃ t, exec .bindingTableReady s = .next t ∧ t.sw = { s.sw with bindReady := true } ∧ Moves s t [.sw] [])
  ∧ (∃ t, exec (.bindingExpiry a) s = .next t ∧ t.sw = { s.sw with binds := t.sw.binds } ∧ Moves s t [.sw] []
      ∧ ∀ x, x ∈ t.sw.binds ↔ x ∈ s.sw.binds ∧ ¬(x.2.1 = n ∧ ∃ t0, x.2.2 = some t0 ∧ t0 + 10000000000 ≤ s.ns))

/-- R307, R381, R389 to R393, R490, R514, R518: a management request is answered once, along its route, with its TAG: refused BAD_OP, ASLEEP,
RANGE or DENIED, or applied; a mailbox sends one and takes the reply with its TAG, or NODE_LOST; a user frame or a notification goes into
the receive ring, or is dropped; BAR2 reads and writes the exchange region.
(The model's choices in it: log entries 106, 107, 108, 109, 115 and 116.) -/
def Obligations.MailboxesAndManagement : Prop :=
  ∀ (p : Fin 5) (m : Fin 4) (v : BitVec 32) (s : State), s.Inv →
    let w := v.toNat
    let request (ok : Frame → Bool) := s.takeRx p (fun f => f.kind.toNat == 4 && !frameIsReply f && ok f)
    let served (ok : Frame → Bool) (i : Instr) := (request ok = none → exec i s = .next s)
      ∧ (∀ f u, request ok = some (f, u) → exec i s = .next (if u.mgStatus f = 0 then u.mgApply p f else u.mgRefuse p f (u.mgStatus f)))
    let stt := Reg.FSW_MBX_STAT_STATE m
    let ofs := 64 * s.get (Reg.FSW_MBX_OFS m)
    let awake := s.get Reg.PWR_STAT_STATE ≠ 3 ∧ s.get Reg.ID_BOOT_STAT_READY = 1
    let bar := s.linkOpen = true ∧ s.domOn 13 = true
    served (fun f => mgOp f == 1 || mgOp f == 0 || decide (5 < mgOp f)) (.mgmtRegisterRead p)
  ∧ served (fun f => mgOp f == 2) (.mgmtRegisterWrite p)
  ∧ served (fun f => mgOp f == 3) (.exchangeRead (.frame p))
  ∧ served (fun f => mgOp f == 4) (.exchangeWrite (.frame p))
  ∧ served (fun f => mgOp f == 5 && mgAddr f == 4) (.transitWakeRequest p)
  ∧ served (fun f => mgOp f == 2 && mgAddr f == 0x30000) (.powerStateRequest (.frame p))
  ∧ served (fun f => mgOp f == 5 && mgAddr f != 2 && mgAddr f != 4) (.fullResetRequest (.frame p))
  ∧ served (fun f => mgOp f == 5 && mgAddr f == 2) (.clusterResetRequest (.frame p))
  ∧ (∀ f,
      let a := mgAddr f
      let n := mgLen f
      let spaced := (mgOp f = 1 ∨ mgOp f = 2) ∧ n % 4 = 0 ∧ 4 ≤ n ∧ n ≤ 512 ∧ a % 4 = 0 ∧ a + n ≤ 2 ^ 24 ∨ (mgOp f = 3 ∨ mgOp f = 4) ∧ 1 ≤ n ∧ n ≤ 512 ∧ a + n ≤ 0x80000
      let secret (b : Nat) := (0x40000 ≤ b ∧ b < 0x50000) ∨ (0x200000 ≤ b ∧ b < 0x340000)
      let listed := f.noaddr = false ∧ ∃ k, k < 8 ∧ s.get (Reg.FSW_MGMT_ALLOW_EN k) = 1 ∧ s.get (Reg.FSW_MGMT_ALLOW_ADDR k) = f.src.toNat
      let writes := s.get Reg.FSW_CTRL_MGMT = 0 ∨ (s.get Reg.FSW_CTRL_MGMT = 1 ∧ listed)
      (mgOp f = 0 ∨ 5 < mgOp f → s.mgStatus f = 3)
      ∧ (¬awake → (mgOp f = 3 ∨ mgOp f = 4 ∨ ((mgOp f = 1 ∨ mgOp f = 2) ∧ 0x10000 ≤ a ∧ a < 0xC0000)) → s.mgStatus f = 4)
      ∧ (awake → 1 ≤ mgOp f → mgOp f ≤ 4 → ¬spaced → s.mgStatus f = 2)
      ∧ (awake → mgOp f = 5 → ¬((a = 1 ∨ (a = 2 ∧ mgWord f 0 ≠ 0)) ∧ mgWord f 0 < 32) → s.mgStatus f = 2)
      ∧ (awake → spaced → mgOp f = 1 ∨ mgOp f = 3 → s.mgStatus f = 0)
      ∧ (awake → spaced → mgOp f = 2 → writes → ¬secret a → ¬secret (a + n - 1) → s.mgStatus f = 0)
      ∧ (awake → spaced → mgOp f = 2 → ¬writes ∨ secret a ∨ secret (a + n - 1) → s.mgStatus f = 1)
      ∧ (awake → spaced → mgOp f = 4 → (writes → s.mgStatus f = 0) ∧ (¬writes → s.mgStatus f = 1))
      ∧ (awake → mgOp f = 5 → (a = 1 ∨ (a = 2 ∧ mgWord f 0 ≠ 0)) → mgWord f 0 < 32 → s.mgStatus f = if s.get Reg.FSW_CTRL_RRST_EN = 1 then 0 else 1))
  ∧ (∀ f st, ∃ z : State, s.mgRefuse p f st = (z.mgRec f 2).mgReply p f st [] ∧ z.get Reg.FSW_FLAGS_MGMT_DENIED = 1
      ∧ z.get Reg.FSW_CNT_DENIED = (s.get Reg.FSW_CNT_DENIED + 1) % 2 ^ 32 ∧ Moves s z [] [Reg.FSW_FLAGS_MGMT_DENIED, Reg.FSW_CNT_DENIED])
  ∧ (∀ f,
      let a := mgAddr f
      let n := mgLen f
      (mgOp f = 1 → n = 4 → s.mgApply p f = (({ s.busRead a with rdata := s.rdata }).mgRec f 1).mgReply p f 0 (leBytes 4 (s.busRead a).rdata))
      ∧ (mgOp f = 2 → n = 4 → s.mgApply p f = ((s.busWrite a (mgWord f 0) (some f.src)).mgRec f 1).mgReply p f 0 [])
      ∧ (mgOp f = 3 → s.sramSpoilt (exchBase + a) n = none → s.mgApply p f = ((s.sramFix (exchBase + a) n).mgRec f 1).mgReply p f 0 (s.exchRead a n))
      ∧ (mgOp f = 4 → (f.payload.drop (opBlock f.payload + 12)).length = n → s.mgApply p f
          = ((s.sramWriteAll (exchBase + a) (f.payload.drop (opBlock f.payload + 12))).mgRec f 1).mgReply p f 0 [])
      ∧ (mgOp f = 5 → a = 1 → s.mgApply p f = ((s.mgRec f 1).mgReply p f 0 []).askReset 5 f.src.toNat)
      ∧ (mgOp f = 5 → a = 2 → s.mgApply p f = ((s.mgRec f 1).mgReply p f 0 []).resetClusters (mgWord f 0) none))
  ∧ (∀ f st data, s.domOn 3 = true → pfield f.payload 0 2 = 1 → 4 ≤ f.payload.length → p.val < 4 → s.isUp p = true → let t := s.mgReply p f st data
      ∃ g : Frame, t.sw = { s.sw with buf := s.sw.buf ++ [⟨4, g, [p.val], false, s.ns, none⟩] } ∧ Moves s t [.sw] [] ∧ g.kind = 4 ∧ g.srcrt = true ∧ g.hop = 1
        ∧ routePort g.payload 0 = p ∧ pfield g.payload 0 2 = 1 ∧ g.payload.drop 4 = leBytes 1 (mgOp f % 128 + 128) ++ leBytes 1 st
          ++ leBytes 2 (pfield f.payload 6 2) ++ leBytes 4 (mgAddr f) ++ leBytes 2 (mgLen f) ++ leBytes 2 0 ++ data)
  ∧ (s.get stt = 1 → ∃ t, exec (.mailboxGo m v) s = .next t ∧ t.get Reg.FSW_FLAGS_MBX_BUSY = 1 ∧ Moves s t [] [Reg.FSW_FLAGS_MBX_BUSY])
  ∧ (s.get stt ≠ 1 → let b := s.exchRead ofs (bits w 0 11)
      ∃ z : State, exec (.mailboxGo m v) s = .next (z.sendRouted b) ∧ z.get stt = 1 ∧ Tbl.get none z.sw.mbxTag m = some (pfield b (opBlock b + 2) 2)
        ∧ z.sw = { s.sw with mbxTag := z.sw.mbxTag } ∧ Moves s z [.sw] [stt])
  ∧ (∀ b, let f := { s.mkFrame 3 4 0 b with srcrt := true }
      (pfield b 0 2 = 0 → (s.sendRouted b).sw = { s.sw with buf := s.sw.buf ++ [⟨4, f, [], true, s.ns, none⟩] } ∧ Moves s (s.sendRouted b) [.sw] [])
      ∧ (pfield b 0 2 ≠ 0 → s.isUp (routePort b 0) = true → (s.sendRouted b).sw
          = { s.sw with buf := s.sw.buf ++ [⟨4, { f with hop := 1 }, [routePort b 0], false, s.ns, none⟩] } ∧ Moves s (s.sendRouted b) [.sw] [])
      ∧ (pfield b 0 2 ≠ 0 → s.isUp (routePort b 0) = false → s.sendRouted b = s.dropRoute))
  ∧ (let reply := s.takeRx p (fun f => f.kind.toNat == 4 && frameIsReply f);
     (reply = none → exec (.mgmtReplyReceived p) s = .next s)
      ∧ ∀ f u, reply = some (f, u) →
        let tag := pfield f.payload (opBlock f.payload + 2) 2
        let waits (k : Nat) := u.get (Reg.FSW_MBX_STAT_STATE k) = 1 ∧ Tbl.get none u.sw.mbxTag k = some tag
        ((∀ k, k < 4 → ¬waits k) → ∃ t, exec (.mgmtReplyReceived p) s = .next t ∧ t.get Reg.FSW_FLAGS_STALE = 1
          ∧ t.get Reg.FSW_CNT_STALE = (u.get Reg.FSW_CNT_STALE + 1) % 2 ^ 32 ∧ Moves u t [] [Reg.FSW_FLAGS_STALE, Reg.FSW_CNT_STALE])
        ∧ (waits m → (∀ k, k < m.val → ¬waits k) → ∃ t, exec (.mgmtReplyReceived p) s = .next t ∧ t.get stt = 2
          ∧ t.get (Reg.FSW_MBX_STAT_STATUS m) = pfield f.payload (opBlock f.payload + 1) 1 ∧ t.get (Reg.FSW_MBX_STAT_LEN m) = f.payload.length % 2 ^ 11
          ∧ t.sram = u.sram.setBytes (exchBase + ofs) (f.payload.take (0x80000 - ofs)) ∧ Tbl.get none t.sw.mbxTag m = none
          ∧ Moves u t [.sw, .sram] [stt, Reg.FSW_MBX_STAT_STATUS m, Reg.FSW_MBX_STAT_LEN m]))
  ∧ (s.get stt ≠ 1 → exec (.mailboxTimeout m) s = .next s)
  ∧ (s.get stt = 1 → ∃ t, exec (.mailboxTimeout m) s = .next t ∧ t.get stt = 3 ∧ Tbl.get none t.sw.mbxTag m = none ∧ Moves s t [.sw] [stt])
  ∧ (∀ (k : Nat) (i : Instr), (k, i) ∈ [(5, (.userFrameReceived p : Instr)), (6, .notifyReceived p)] →
      (s.takeRx p (fun f => f.kind.toNat == k) = none → exec i s = .next s)
      ∧ ∀ f u, s.takeRx p (fun f => f.kind.toNat == k) = some (f, u) → exec i s = .next (u.userIn f))
  ∧ (∀ f : Frame,
      let cnt := s.get Reg.FSW_URX_CFG_COUNT
      let prod := s.get Reg.FSW_URX_PROD
      let full := cnt = 0 ∨ (prod + 1) % cnt = s.get Reg.FSW_URX_CONS % cnt
      let at_ := 2048 * (s.get Reg.FSW_URX_BASE + prod)
      (full → ∃ z : State, s.userIn f = z.userRec f 2 0 ∧ z.get Reg.FSW_FLAGS_URX_DROP = 1
        ∧ z.get Reg.FSW_CNT_URXDROP = (s.get Reg.FSW_CNT_URXDROP + 1) % 2 ^ 32 ∧ Moves s z [] [Reg.FSW_FLAGS_URX_DROP, Reg.FSW_CNT_URXDROP])
      ∧ (¬full → ∃ z : State, s.userIn f = z.userRec f 1 at_ ∧ z.get Reg.FSW_URX_PROD = (prod + 1) % cnt ∧ Moves s z [.sram] [Reg.FSW_URX_PROD]
          ∧ z.sram = s.sram.setBytes (exchBase + at_) ((leBytes 2 f.src.toNat ++ leBytes 2 f.payload.length ++ leBytes 1 f.kind.toNat
              ++ leBytes 1 f.tc.toNat ++ leBytes 10 0 ++ f.payload).take (0x80000 - at_))))
  ∧ (∀ (a : BitVec 20) (n : BitVec 13), (¬bar → exec (.exchangeRead (.bar2 a n)) s = .next s)
      ∧ (bar → a.toNat + n.toNat ≤ 0x80000 → s.sramSpoilt (exchBase + a.toNat) n.toNat = none → ∃ t, exec (.exchangeRead (.bar2 a n)) s = .next t
          ∧ t.rdata = leNat (s.exchRead a.toNat n.toNat) ∧ Moves (s.sramFix (exchBase + a.toNat) n.toNat) t [.rdata] []))
  ∧ (∀ (a : BitVec 20) (b : List (BitVec 8)), (¬bar → exec (.exchangeWrite (.bar2 a b)) s = .next s)
      ∧ (bar → exec (.exchangeWrite (.bar2 a b)) s = .next (s.sramWriteAll (exchBase + a.toNat) (b.take (0x80000 - a.toNat)))))

/-- R400 to R405, R28, R29: marks and follow-ups of time sync: what each sends or notes; two that belong together give a delay or an offset, one
alone is TS_MISSING; the offset drives the servo once four delays are known; loss of the reference puts a locked servo in HOLDOVER; a step is
announced once, passed on, and applied at its time.
(The model's choices in it: log entries 22, 117 and 118.) -/
def Obligations.FabricTime : Prop :=
  ∀ (p : Fin 4) (r : Fin 5) (t : BitVec 80) (q : BitVec 16) (s : State), s.Inv →
    let x := s.port p
    let up := s.get (Reg.FP_STAT_LSTATE p) = 5
    let role := s.get (Reg.FP_STAT_ROLE p)
    let ports (y : Port) := s.sw.ports.set p y
    let frame (typ fl seq ns frac at_ by_ : Nat) := s.mkFrame 0 7 0 (timeFrameBytes typ fl seq ns frac (s.get Reg.FSW_ROOT_INFO_HOPS) at_ by_)
    let queued (g : Frame) (o : Nat) : BufF := ⟨4, g, [o], false, s.ns, none⟩
    let first (typ : Nat) := s.takeRx r (fun f => f.kind.toNat == 7 && pfield f.payload 0 1 == typ)
    let announced := match s.tb.step with
      | some (a, d) => if s.get Reg.TB_STAT_ROOT = 1 then (1, a, d) else (0, 0, 0)
      | none => (0, 0, 0)
    let off := ofS 64 (toS 32 (s.get Reg.TB_OFFSET))
    (¬up ∨ role ≠ 2 → exec (.syncSend p t) s = .next s)
  ∧ (up → role = 2 → ∃ u, exec (.syncSend p t) s = .next u ∧ u.out = .mark p 1 x.synSeq :: s.out ∧ Moves s u [.sw, .out] []
      ∧ u.sw = { s.sw with ports := ports { x with synSeq := (x.synSeq + 1) % 65536 },
                           buf := s.sw.buf ++ [queued (frame 1 announced.1 x.synSeq (t.toNat / 65536) (t.toNat % 65536) announced.2.1 announced.2.2) p] })
  ∧ (¬up ∨ role ≠ 1 → exec (.dreqSend p t) s = .next s)
  ∧ (up → role = 1 → ∃ u, exec (.dreqSend p t) s = .next u ∧ u.out = .mark p 2 x.dreqSeq :: s.out ∧ Moves s u [.sw, .out] []
      ∧ u.sw = { s.sw with ports := ports { x with dreqSeq := (x.dreqSeq + 1) % 65536, dreq := some (x.dreqSeq, t.toNat) } })
  ∧ (¬up → exec (.syncMarkReceived p q t) s = .next s ∧ exec (.dreqMarkReceived p q t) s = .next s)
  ∧ (up → ∃ u, exec (.syncMarkReceived p q t) s = .next u ∧ u.sw = { s.sw with ports := ports { x with mark := some (q.toNat, t.toNat) } } ∧ Moves s u [.sw] [])
  ∧ (up → ∃ u, exec (.dreqMarkReceived p q t) s = .next u ∧ Moves s u [.sw] []
      ∧ u.sw = { s.sw with buf := s.sw.buf ++ [queued (frame 2 0 q.toNat (t.toNat / 65536) (t.toNat % 65536) 0 0) p] })
  ∧ (x.mark = none → exec (.tsMissing p) s = .next s)
  ∧ (x.mark ≠ none → exec (.tsMissing p) s = .next (s.tsMissing p))
  ∧ (∃ z : State, s.tsMissing p = z.portTime p 2 0 ∧ z.get (Reg.FP_SVC_FLAGS_TS_MISSING p) = 1 ∧ z.sw = { s.sw with ports := ports { x with mark := none } }
      ∧ Moves s z [.sw] [Reg.FP_SVC_FLAGS_TS_MISSING p])
  ∧ (first 1 = none → exec (.syncFollowUp r) s = .next s)
  ∧ (∀ f u', r = p.castSucc → first 1 = some (f, u') →
      let u := if bit (pfield f.payload 1 1) 0 then u'.learnStep r (pfield f.payload 16 8) (pfield f.payload 24 8) else u'
      let y := u.port p
      let t1 : Int := ((65536 * pfield f.payload 4 8 + pfield f.payload 12 2 : Nat) : Int)
      (y.mark = none ∨ (∃ m, y.mark = some m ∧ m.1 ≠ pfield f.payload 2 2) → exec (.syncFollowUp r) s = .next (u.tsMissing p))
      ∧ (∀ t2 : Nat, y.mark = some (pfield f.payload 2 2, t2) → ∃ z : State,
          z.sw = { u.sw with ports := u.sw.ports.set p { y with mark := none, pair := some ((t2 : Int) - t1), syncAt := u.ns } } ∧ Moves u z [.sw] []
          ∧ exec (.syncFollowUp r) s = .next (if u.get (Reg.FP_STAT_ROLE p) = 1 ∧ y.delays ≠ [] then
              z.upOffset p ((t2 : Int) - t1 - (y.delay + toS 32 (u.get (Reg.FP_TS_ASYM p)) * 4096)) else z)))
  ∧ (∀ o : Int,
      let ns := o / 65536
      let tso := Reg.FP_TS_OFFSET p
      let noted (z : State) := z.get tso = ofS 32 (satS 32 (o / 4096)) % 2 ^ 32
      let ours := s.get Reg.TB_CTRL_REF = 0 ∧ s.get Reg.TB_STAT_ROOT = 0
      let acts := ours ∧ 4 ≤ x.nDelay
      let wide := s.servo = 2 ∧ (o < -6553600 ∨ 6553600 < o)
      let quiet := ∃ b, x.budgetAt = some b ∧ s.ns < b + 1000000000
      let flag := Reg.FP_SVC_FLAGS_TS_BUDGET p
      (¬ours → noted (s.upOffset p o) ∧ Moves s (s.upOffset p o) [] [tso])
      ∧ (ours → ¬acts → noted (s.upOffset p o) ∧ (s.upOffset p o).get Reg.TB_OFFSET = ofS 32 (satS 32 ns) % 2 ^ 32 ∧ Moves s (s.upOffset p o) [] [tso, Reg.TB_OFFSET])
      ∧ (acts → s.sw.refLost = false → ¬wide → ∃ z : State, s.upOffset p o = z.measure ns ∧ noted z ∧ Moves s z [] [tso])
      ∧ (acts → s.sw.refLost = false → wide → quiet → ∃ z : State, s.upOffset p o = z.measure ns ∧ noted z ∧ z.get flag = 1 ∧ Moves s z [] [tso, flag])
      ∧ (acts → s.sw.refLost = false → wide → ¬quiet → ∃ z : State, s.upOffset p o = (z.portTime p 1 ns).measure ns ∧ noted z ∧ z.get flag = 1
          ∧ z.sw = { s.sw with ports := ports { x with budgetAt := some s.ns } } ∧ Moves s z [.sw] [tso, flag])
      ∧ (acts → s.sw.refLost = true → ¬wide → ∃ z : State, s.upOffset p o = (z.event 0x1B 35 p 3 (ofS 64 ns)).measure ns ∧ noted z
          ∧ z.sw = { s.sw with refLost := false } ∧ Moves s z [.sw] [tso]))
  ∧ (first 2 = none → exec (.drespReceived r) s = .next s)
  ∧ (∀ f u, r = p.castSucc → first 2 = some (f, u) →
      let y := u.port p
      let t4 : Int := ((65536 * pfield f.payload 4 8 + pfield f.payload 12 2 : Nat) : Int)
      (y.dreq = none ∨ y.pair = none ∨ (∃ d, y.dreq = some d ∧ d.1 ≠ pfield f.payload 2 2) → exec (.drespReceived r) s = .next u)
      ∧ (∀ (t3 : Nat) (pr : Int), y.dreq = some (pfield f.payload 2 2, t3) → y.pair = some pr →
          let z : Port := { y with dreq := none, delays := ((pr + (t4 - (t3 : Int))) / 2 :: y.delays).take 8, nDelay := y.nDelay + 1 }
          ∃ v, exec (.drespReceived r) s = .next v ∧ v.sw = { u.sw with ports := u.sw.ports.set p z }
            ∧ v.get (Reg.FP_TS_DELAY p) = (z.delay / 4096).toNat % 2 ^ 32 ∧ Moves u v [.sw] [Reg.FP_TS_DELAY p]))
  ∧ (let gone := s.get Reg.FSW_STAT_UP_VALID = 0 ∨ (s.port (s.get Reg.FSW_STAT_UP_PORT)).syncAt + 8000000 ≤ s.ns;
     let lost := s.get Reg.TB_CTRL_REF = 0 ∧ s.get Reg.TB_STAT_ROOT = 0 ∧ s.sw.refLost = false ∧ gone ∧ s.servo = 2;
     (¬lost → exec .fabricReferenceLoss s = .next s)
      ∧ (lost → ∃ z : State, exec .fabricReferenceLoss s = .next ((z.setServo 3).event 0x1B 35 (s.get Reg.FSW_STAT_UP_PORT) 2 off)
          ∧ z.sw = { s.sw with refLost := true } ∧ Moves s z [.sw] []))
  ∧ (first 3 = none → exec (.stepFrameReceived r) s = .next s)
  ∧ (∀ f u, first 3 = some (f, u) → exec (.stepFrameReceived r) s = .next (u.learnStep r (pfield f.payload 16 8) (pfield f.payload 24 8)))
  ∧ (∀ a d, (a ∈ s.tb.stepSeen → s.learnStep r a d = s)
      ∧ (a ∉ s.tb.stepSeen → ∃ z : State, z.tb = { s.tb with stepSeen := a :: s.tb.stepSeen } ∧ Moves s z [.tb] [] ∧ let y := (z.sendStep a d).event 0x1B 35 r 4 d
          s.learnStep r a d = if a ≤ s.ns then y.forwardStep (d * 2 ^ 32) else { y with tb := { y.tb with step := some (a, d) } })
      ∧ (let down := (List.range 4).filter (fun o => s.isUp o && s.get (Reg.FP_STAT_ROLE o) == 2);
          (s.sendStep a d).sw = { s.sw with buf := s.sw.buf ++ down.map (fun o => queued (frame 3 0 0 0 0 a d) o) }) ∧ Moves s (s.sendStep a d) [.sw] [])
  ∧ (s.tb.step = none ∨ (∃ a d, s.tb.step = some (a, d) ∧ s.ns < a) → exec .stepApply s = .next s)
  ∧ (∀ a d, s.tb.step = some (a, d) → a ≤ s.ns → ∃ z : State, exec .stepApply s = .next (z.forwardStep (d * 2 ^ 32)) ∧ z.tb = { s.tb with step := none }
      ∧ Moves s z [.tb] [])

/-- R185, R186, R188, R406 to R411, R423 to R425: a write that would enable a stream its space cannot carry, or change an enabled one, is refused; an
arriving stream frame is stored at its stamped frames, or counted as lost or late; a spill partnership is answered, established, refused and
dissolved; a spilled cast and its later commands are queued in the lane and answered; its end is reported and its record freed.
(The model's choices in it: log entries 119, 120 and 121.) -/
def Obligations.StreamsAndSpill : Prop :=
  ∀ (n : Fin 4) (k j : Fin 8) (v : BitVec 32) (p : Fin 5) (s : State), s.Inv →
    let w := v.toNat
    let taken (kind : Nat) (q : Frame → Bool) := s.takeRx p (fun f => f.kind.toNat == kind && q f)
    let msg (i : Nat) := taken 10 (fun f => pfield f.payload 0 1 == i)
    let quiet (i : Instr) (m : Nat) := msg m = none → exec i s = .next s
    (∀ (tx : Bool) (i : Instr), (tx, i) ∈ [(true, .streamTxWrite n k v), (false, .streamRxWrite n k v)] →
      let en := streamEn tx n k
      let fs := streamFld tx n k
      let flag := Reg.FP_SVC_FLAGS_STREAM_REFUSED n
      let first := bits w 1 7
      let cnt := bits w 8 7 + 1
      let same := ∀ f ∈ fs, s.get f = bits w f.lsb f.w
      let stored (t : State) := (∀ f ∈ fs, t.get f = bits w f.lsb f.w) ∧ Moves s t [] (en :: flag :: fs)
      let ovr := (if 4 ≤ s.get Reg.TB_CTRL_FS then 64 else 128) < first + cnt
      let own := s.get Reg.FSW_STAT_ADDR_VALID = 1 ∧ s.get Reg.FSW_STAT_ADDR = bits w 20 12 ∧ (tx = true → bits w 15 1 = 0)
      let overlaps (o : Nat) := o ≠ k ∧ s.get (streamEn tx n o) = 1 ∧ first < (s.streamRun tx n o).1 + (s.streamRun tx n o).2 ∧ (s.streamRun tx n o).1 < first + cnt
      (s.get en = 1 → w % 2 = 1 → same → exec i s = .next s)
      ∧ (s.get en = 1 → w % 2 = 1 → ¬same → ∃ t, exec i s = .next t ∧ t.get flag = 1 ∧ Moves s t [] [flag])
      ∧ (w % 2 = 0 → ∃ t, exec i s = .next t ∧ stored t ∧ t.get en = 0 ∧ t.get flag = s.get flag)
      ∧ (s.get en = 0 → w % 2 = 1 → ovr ∨ own ∨ overlaps j → ∃ t, exec i s = .next t ∧ stored t ∧ t.get en = 0 ∧ t.get flag = 1)
      ∧ (s.get en = 0 → w % 2 = 1 → ¬ovr → ¬own → (∀ o, o < 8 → ¬overlaps o) → ∃ t, exec i s = .next t ∧ stored t ∧ t.get en = 1 ∧ t.get flag = s.get flag))
  ∧ (taken 8 (fun f => !bit (pfield f.payload 0 1) 5) = none → exec (.streamFrameReceived p) s = .next s)
  ∧ (∀ f u, taken 8 (fun f => !bit (pfield f.payload 0 1) 5) = some (f, u) →
      let sid := pfield f.payload 0 1
      let hits (x : Nat) := let z := u.strm false (x / 8) (x % 8)
        z % 2 = 1 ∧ bits z 20 12 = f.src.toNat ∧ bits z 15 2 = sid / 8 % 4 ∧ bits z 17 3 = sid % 8
      ((∀ x, x < 32 → ¬hits x) → exec (.streamFrameReceived p) s = .next u)
      ∧ (hits (8 * n.val + k) → (∀ x, x < 32 → x ≠ 8 * n.val + k → ¬hits x) → exec (.streamFrameReceived p) s = .next (u.streamTake n k f.payload)))
  ∧ (∀ b : List (BitVec 8),
      let i := 8 * n.val + k
      let first := bits (s.strm false n k) 1 7
      let cnt := bits (s.strm false n k) 8 7 + 1
      let x := s.rxStream i
      let loss := Reg.FP_SVC_FLAGS_STREAM_LOSS n
      let late := Reg.FP_SVC_FLAGS_STREAM_LATE n
      let f0 := s.stampFrame (pfield b 8 8)
      let begun := s.schState ≠ 0 ∧ (f0 + s.inputAlign first cnt n) / s.blockLen < s.sch.next
      let noted (t : State) (y : RxStream) := t.sv = { s.sv with streams := s.sv.streams.set i y }
      let next := (pfield b 6 2 + 1) % 65536
      let u := s.streamTake n k b
      (pfield b 1 1 % 8 ≠ s.get Reg.TB_CTRL_FS → x.loss = true → noted u { x with frames := x.frames + pfield b 4 2 } ∧ u.get loss = 1 ∧ Moves s u [.sv] [loss])
      ∧ (pfield b 1 1 % 8 ≠ s.get Reg.TB_CTRL_FS → x.loss = false → ∃ z : State, z.get loss = 1 ∧ Moves s z [] [loss]
          ∧ u = (z.streamRec n k 1 first cnt 0).setRxStream i { x with loss := true, frames := x.frames + pfield b 4 2 })
      ∧ (pfield b 1 1 % 8 = s.get Reg.TB_CTRL_FS → i < s.sv.streams.length → x.bseq = none ∨ x.bseq = some (pfield b 6 2) ∨ x.bseq = some next →
          let y := { x with bseq := some next }
          (begun → x.late = true → noted u { y with frames := x.frames + pfield b 4 2 } ∧ u.get late = 1 ∧ Moves s u [.sv] [late])
          ∧ (begun → x.late = false → ∃ z : State, noted z y ∧ z.get late = 1 ∧ Moves s z [.sv] [late]
              ∧ u = (z.streamRec n k 2 first cnt 0).setRxStream i { y with late := true, frames := x.frames + pfield b 4 2 })
          ∧ (¬begun → x.loss = false → x.late = false → Moves s u [.sv] [] ∧ u.sv = { s.sv with streams := s.sv.streams.set i y, rx := u.sv.rx })
          ∧ (¬begun → x.loss = true ∨ x.late = true → ∃ z : State, noted z y ∧ Moves s z [.sv] [] ∧ Moves (z.streamRec n k 3 first cnt x.frames) u [.sv] []
              ∧ u.rxStream i = { y with loss := false, late := false, frames := 0 })
          ∧ (¬begun → ∀ (fr c : Nat), fr < pfield b 4 2 → c < pfield b 3 1 → pfield b 2 1 + c < cnt →
              Tbl.get 0 u.sv.rx ((128 * n.val + first + pfield b 2 1 + c) * 2 ^ 40 + f0 + fr) = pfield b (24 + 3 * (fr * pfield b 3 1 + c)) 3 + 1))
      ∧ (∀ e, pfield b 1 1 % 8 = s.get Reg.TB_CTRL_FS → x.bseq = some e → e < 65536 → e ≠ pfield b 6 2 → e ≠ next → u.get loss = 1))
  ∧ (taken 8 (fun f => bit (pfield f.payload 0 1) 5) = none → exec (.spillReturnReceived p) s = .next s)
  ∧ (∀ f u, taken 8 (fun f => bit (pfield f.payload 0 1) 5) = some (f, u) →
      let b := f.payload
      let pid := pfield b 0 1 % 8
      let known := u.sv.partners.find? (fun q => q.active && q.pid == pid && q.node == f.src.toNat)
      let f0 := u.stampFrame (pfield b 8 8)
      (known = none ∨ pfield b 1 1 % 8 ≠ u.get Reg.TB_CTRL_FS → exec (.spillReturnReceived p) s = .next u)
      ∧ (∀ q, known = some q → pfield b 1 1 % 8 = u.get Reg.TB_CTRL_FS → ∃ t, exec (.spillReturnReceived p) s = .next t ∧ t.sv = { u.sv with ret := t.sv.ret }
          ∧ Moves u t [.sv] [] ∧ ∀ (fr c : Nat), fr < pfield b 4 2 → c < pfield b 3 1 → pfield b 2 1 + c < q.buses.length →
            Tbl.get 0 t.sv.ret ((256 * pid + pfield b 2 1 + c) * 2 ^ 40 + f0 + fr) = pfield b (24 + 3 * (fr * pfield b 3 1 + c)) 3 + 1))
  ∧ quiet (.establishReceived p) 1 ∧ quiet (.estAcceptReceived p) 2 ∧ quiet (.estRefuseReceived p) 3 ∧ quiet (.dissolveReceived p) 4
  ∧ quiet (.spillCastReceived p) 5 ∧ quiet (.castAnswerReceived p) 6 ∧ quiet (.spillCmdReceived p) 7 ∧ quiet (.spillEndReceived p) 8
  ∧ (∀ f u, msg 1 = some (f, u) →
      let b := f.payload
      let node := f.src.toNat
      let pid := pfield b 1 1
      let others := u.sv.lanes.filter (fun x => !(x.node == node && x.pid == pid))
      let refuse (d : Nat) := exec (.establishReceived p) s = .next (u.spillMsg node 3 pid 0 0 d 0 0 0 0 [])
      let equal := pfield b 9 1 = u.get Reg.TB_CTRL_FS ∧ pfield b 10 1 = u.get Reg.AL_SCH_CTRL_BLOCK
      let ready := u.schState = 2 ∧ u.get Reg.AL_CTRL_CAST_EN = 1
      (¬equal → refuse 1) ∧ (equal → ¬ready → refuse 2) ∧ (equal → ready → 8 ≤ others.length → refuse 3)
      ∧ (equal → ready → others.length < 8 → ∃ z : State, exec (.establishReceived p) s = .next (z.spillMsg node 2 pid 0 0 0 0 0 0 0 []) ∧ Moves u z [.sv] []
          ∧ z.sv = { u.sv with lanes := others ++ [⟨node, pid, pfield b 11 1 + 2, pfield b 12 1, [], false, 0⟩] }))
  ∧ (∀ f u, msg 2 = some (f, u) →
      let asked := u.sv.partners.find? (fun q => q.pid == pfield f.payload 1 1 && q.node == f.src.toNat)
      ((asked = none ∨ ∃ q, asked = some q ∧ q.cmd = none) → exec (.estAcceptReceived p) s = .next u)
      ∧ (∀ q c t st, asked = some q → q.cmd = some (c, t, st) → ∃ z : State, exec (.estAcceptReceived p) s = .next ((z.spillRec 0 3 q.node 0).finish c t st 0 0)
          ∧ z.sv = { u.sv with partners := u.sv.partners.map (fun x => if x.pid = q.pid then { x with active := true, cmd := none } else x) } ∧ Moves u z [.sv] []))
  ∧ (∀ f u, msg 3 = some (f, u) →
      let asked := u.sv.partners.find? (fun q => q.pid == pfield f.payload 1 1 && q.node == f.src.toNat)
      ((asked = none ∨ ∃ q, asked = some q ∧ q.cmd = none) → exec (.estRefuseReceived p) s = .next u)
      ∧ (∀ q c t st, asked = some q → q.cmd = some (c, t, st) → ∃ z : State, exec (.estRefuseReceived p) s = .next (z.finish c t 0x1C (pfield f.payload 8 1) 0)
          ∧ z.sv = { u.sv with partners := u.sv.partners.filter (fun x => x.pid != q.pid) } ∧ Moves u z [.sv] []))
  ∧ (∀ f u, msg 4 = some (f, u) →
      let asked := u.sv.partners.find? (fun q => q.pid == pfield f.payload 1 1 && q.node == f.src.toNat)
      let served := u.sv.lanes.find? (fun l => l.node == f.src.toNat && l.pid == pfield f.payload 1 1)
      (∀ l, served = some l → exec (.dissolveReceived p) s = .next (u.dropLane l))
      ∧ (∀ q, served = none → asked = some q → exec (.dissolveReceived p) s = .next (u.dropPartner q false))
      ∧ (served = none → asked = none → exec (.dissolveReceived p) s = .next u))
  ∧ (∀ l : Lane, (s.dropLane l).sv.lanes = s.sv.lanes.filter (fun x => !(x.node == l.node && x.pid == l.pid)))
  ∧ (∀ q : Partner, q.cmd = none → q.active = true → (∀ r ∈ s.sv.recs, r.pid ≠ q.pid) → ∀ lost, ∃ z : State, s.dropPartner q lost = z.spillRec 0 4 q.node 0
      ∧ z.sv = { s.sv with partners := s.sv.partners.filter (fun x => x.pid != q.pid) } ∧ Moves s z [.sv] [])
  ∧ (∀ (m : Nat) (i : Instr), (m, i) ∈ [(5, (.spillCastReceived p : Instr)), (7, .spillCmdReceived p)] → ∀ f u, msg m = some (f, u) →
      let served := u.sv.lanes.find? (fun l => l.node == f.src.toNat && l.pid == pfield f.payload 1 1)
      let num := pfield f.payload 2 2
      let d := leNat ((f.payload.drop 16).take 64)
      let same := pfield f.payload 4 4 = u.boundUid (dfield d 16 1 % 64)
      (served = none → exec i s = .next u)
      ∧ (∀ l, served = some l → m = 5 → same → exec i s = .next (u.acceptOwn (.spillCast l.node l.pid num l.lead) d))
      ∧ (∀ l, served = some l → m = 5 → ¬same → exec i s = .next (u.castAnswer l.node l.pid num 0 9))
      ∧ (∀ l, served = some l → m = 7 → exec i s = .next (u.acceptOwn (.spillCmd l.node l.pid num l.lead) d)))
  ∧ (∀ f u, msg 6 = some (f, u) →
      let h := pfield f.payload 4 4
      let ok := pfield f.payload 8 1 ≤ 1
      (u.recOf f = none ∨ (∃ r, u.recOf f = some r ∧ r.cmd = none) → exec (.castAnswerReceived p) s = .next u)
      ∧ (∀ r c t, u.recOf f = some r → r.cmd = some (c, t) → ok → ∃ z : State, exec (.castAnswerReceived p) s = .next (z.finishX c t 8 0 h f.src.toNat)
          ∧ z.get Reg.AL_CNT_SPILL = (u.get Reg.AL_CNT_SPILL + 1) % 2 ^ 32 ∧ Moves u z [.sv] [Reg.AL_CNT_SPILL]
          ∧ z.sv = { u.sv with recs := u.sv.recs.map (fun x => if x.num = r.num then { x with handle := some h, cmd := none } else x) })
      ∧ (∀ r c t, u.recOf f = some r → r.cmd = some (c, t) → ¬ok → ∃ z : State,
          exec (.castAnswerReceived p) s = .next ((z.spillRec r.group 1 f.src.toNat r.nid).finish c t 9 0 0)
          ∧ z.sv = { u.sv with recs := u.sv.recs.filter (fun x => x.num != r.num) } ∧ Moves u z [.sv] []))
  ∧ (∀ f u, msg 8 = some (f, u) → (u.recOf f = none → exec (.spillEndReceived p) s = .next u)
      ∧ ∀ r, u.recOf f = some r →
        let h := r.handle.getD (pfield f.payload 4 4)
        let told (reason : Nat) := exec (.spillEndReceived p) s = .next ((u.voiceRec u.ns reason r.group h r.nid).delRec r.num)
        let status := pfield f.payload 8 1
        (status = 1 → (u.group r.group).endEvt = true → told 2) ∧ (status = 2 → told 1) ∧ (status = 3 → told 3)
        ∧ (status = 0 ∨ 3 < status ∨ (status = 1 ∧ (u.group r.group).endEvt = false) → ∃ t, exec (.spillEndReceived p) s = .next t ∧ Moves u t [.sv] []
            ∧ t.sv = { u.sv with recs := u.sv.recs.filter (fun x => x.num != r.num) }))
  ∧ (∀ f, s.recOf f = (match s.sv.partners.find? (fun q => q.pid == pfield f.payload 1 1 && q.node == f.src.toNat) with
      | some q => s.sv.recs.find? (fun r => r.num == pfield f.payload 2 2 && r.pid == q.pid)
      | none => none))
  ∧ (let tmo := 100000 * max 1 (s.get Reg.FSW_TIMING_REQ_TMO);
     let part := s.sv.partners.find? (fun q => q.pid == k.val);
     (part = none ∨ (∃ q, part = some q ∧ (q.cmd = none ∨ s.ns < q.sent + tmo)) → exec (.spillTimeout k none) s = .next s)
      ∧ (∀ q c t st, part = some q → q.cmd = some (c, t, st) → q.sent + tmo ≤ s.ns → ∃ z : State, exec (.spillTimeout k none) s = .next (z.finish c t 0x0E 0 0)
          ∧ z.sv = { s.sv with partners := s.sv.partners.filter (fun x => x.pid != k.val) } ∧ Moves s z [.sv] [])
      ∧ ∀ num : BitVec 8,
        let rec_ := s.sv.recs.find? (fun r => r.num == num.toNat && r.pid == k.val)
        (rec_ = none ∨ (∃ r, rec_ = some r ∧ (r.cmd = none ∨ s.ns < r.sent + tmo)) → exec (.spillTimeout k (some num)) s = .next s)
        ∧ (∀ r c t, rec_ = some r → r.cmd = some (c, t) → r.sent + tmo ≤ s.ns → ∃ z : State, exec (.spillTimeout k (some num)) s = .next (z.finish c t 0x0E 0 0)
            ∧ z.sv = { s.sv with recs := s.sv.recs.filter (fun x => x.num != num.toNat) } ∧ Moves s z [.sv] []))

/-- R413 to R416, R418, R419, R421: each migration message finds its session by SESSION, peer and SRC_HANDLE: both parts of an OFFER are kept until a
boundary decides it, and a parked voice's offer is decided at once while none comes; ACCEPT in time is answered by COMMIT, COMMIT in time by COMMIT_ACK; a REFUSE, a late answer, an ABORT or
REQ_TMO ends the session with its cause, and what its end does to an entry waits for the next boundary; commands for the other copy are queued for it.
(The model's choices in it: log entries 122 and 167.) -/
def Obligations.Migration : Prop :=
  ∀ (p : Fin 5) (peer : BitVec 12) (session : BitVec 16) (s : State), s.Inv →
    let msg (i : Nat) := s.takeRx p (fun f => f.kind.toNat == 9 && pfield f.payload 0 1 == i)
    let quiet (i : Instr) (m : Nat) := msg m = none → exec i s = .next s
    let handle (x : MigSrc) := x.ent + 65536 * x.gen
    let srcOf (u : State) (f : Frame) := u.sv.src.find? (fun x => x.session == pfield f.payload 2 2 && x.peer == f.src.toNat && handle x == pfield f.payload 4 4
      && x.sent.isSome && !x.ended)
    let dstOf (u : State) (f : Frame) := u.sv.dst.find? (fun y => y.session == pfield f.payload 2 2 && y.peer == f.src.toNat && y.src == pfield f.payload 4 4)
    let isSrc (z u : State) (x : MigSrc) := z.sv = { u.sv with src := u.sv.src.map (fun y => if y.session = x.session then x else y) } ∧ Moves u z [.sv] []
    let isDst (z u : State) (x : MigDst) := z.sv = { u.sv with dst := u.sv.dst.map (fun y => if y.session = x.session ∧ y.peer = x.peer then x else y) }
      ∧ Moves u z [.sv] []
    let noSrc (z u : State) (x : MigSrc) := z.sv = { u.sv with src := u.sv.src.filter (fun y => y.session != x.session) } ∧ Moves u z [.sv] []
    let noDst (z u : State) (x : MigDst) := z.sv = { u.sv with dst := u.sv.dst.filter (fun y => !(y.session == x.session && y.peer == x.peer)) } ∧ Moves u z [.sv] []
    quiet (.offerReceived p) 1 ∧ quiet (.acceptReceived p) 2 ∧ quiet (.refuseReceived p) 3 ∧ quiet (.commitReceived p) 4 ∧ quiet (.commitAckReceived p) 5
  ∧ quiet (.abortReceived p) 6 ∧ quiet (.migrateCmdReceived p) 7
  ∧ (∀ f u, msg 1 = some (f, u) →
      let b := f.payload
      let fresh : MigDst := ⟨pfield b 2 2, f.src.toNat, pfield b 4 4, pfield b 12 8, pfield b 20 8, pfield b 28 1, pfield b 29 1, pfield b 31 1, none, none, none, false⟩
      let put (y : MigDst) : MigDst := if pfield b 1 1 = 0 then { y with part0 := some (b.drop 32) } else { y with part1 := some (b.drop 32) }
      let decides (z : State) (y : MigDst) := exec (.offerReceived p) s = .next (if y.flags / 2 % 2 = 1 ∧ z.schState < 2 then z.decideOffer none y else z)
      (dstOf u f = none → ∃ z : State, decides z (put fresh) ∧ z.sv = { u.sv with dst := z.sv.dst } ∧ put fresh ∈ z.sv.dst ∧ Moves u z [.sv] [])
      ∧ (∀ y, dstOf u f = some y → ∃ z : State, decides z (put y) ∧ isDst z u (put y)))
  ∧ (∀ (m : Option Nat) (y : MigDst) (a b : List (BitVec 8)), y.part0 = some a → y.part1 = some b → y.ent = none →
      let l := a ++ b
      let lo := s.get Reg.ID_IFVER_CTX_MIN
      let hi := s.get Reg.ID_IFVER_CTX_MAX
      let readable := lo ≤ ctxField l 0 1 ∧ ctxField l 0 1 ≤ hi
      let late := ∃ j, m = some j ∧ y.flags / 2 % 2 = 0 ∧ s.stampBlk y.tx ≤ j
      let g := y.dgroup % 64
      let accepted (z : State) (e : Nat) := let w := { ctxVoice l with progSlot := s.slotOfUid (ctxProg l) }
        let v : Voice := { w with group := g, st := 7, gen := (z.ent e).gen, prevSt := if w.relT = none then 2 else 3 }
        let h := e + 2 ^ 16 * v.gen
        s.decideOffer m y = (((((z.setEnt e v).setDst { y with ent := some (e, v.gen) }).dstMsg { y with ent := some (e, v.gen) } 2 0 0 0 []).parkRec 4 g h v.nid 0).migRec
            2 h v.nid y.peer 0)
      (¬readable → s.decideOffer m y = s.refuse y 0x11 (lo + 16 * hi))
      ∧ (∀ uid, readable → s.ctxMissing l = some uid → s.decideOffer m y = (s.event 0x78 127 0 5 uid).refuse y 0x10 0)
      ∧ (readable → s.ctxMissing l = none →
          (late → s.decideOffer m y = s.refuse y 0x01 0)
          ∧ (¬late → y.flags / 2 % 2 = 1 → (∀ q, q < 64 → (s.park q).st ≠ 0) → s.decideOffer m y = s.refuse y 0x0A 0)
          ∧ (∀ q, ¬late → y.flags / 2 % 2 = 1 → q < 64 → (s.park q).st = 0 → (∀ o, o < q → (s.park o).st ≠ 0) → accepted s (256 + q))
          ∧ (¬late → y.flags / 2 % 2 = 0 →
              let place := s.placeArriving g (ctxVoice l).key (bit y.flags 0)
              (place = .none → s.decideOffer m y = s.refuse y 0x06 0) ∧ (∀ e, place = .free e → accepted s e)
              ∧ (∀ e, place = .steal e → accepted (s.steal e (nsTu y.tx)) e))))
  ∧ (∀ (y : MigDst) cause ctx, noDst (s.refuse y cause ctx) ((s.dstMsg y 3 0 cause ctx []).migRec 4 y.src 0 y.peer cause) y)
  ∧ (∀ f u, msg 2 = some (f, u) →
      (srcOf u f = none ∨ (∃ x, srcOf u f = some x ∧ x.dst ≠ none) → exec (.acceptReceived p) s = .next u)
      ∧ ∀ x, srcOf u f = some x → x.dst = none →
        let answered : MigSrc := { x with dst := some (pfield f.payload 8 4), sent := if x.parked then some u.ns else x.sent }
        (x.parked = true ∨ u.tu < u.opening x.jx → ∃ z : State, exec (.acceptReceived p) s = .next (z.srcMsg answered 4 0 0 []) ∧ isSrc z u answered)
        ∧ (x.parked = false → u.opening x.jx ≤ u.tu → ∃ t, exec (.acceptReceived p) s = .next t ∧ isSrc t u { x with bad := some 1 }))
  ∧ (∀ f u, msg 3 = some (f, u) → (srcOf u f = none → exec (.refuseReceived p) s = .next u)
      ∧ ∀ x, srcOf u f = some x →
        let cause := pfield f.payload 30 1
        let ctx := pfield f.payload 31 1
        let y : MigSrc := { x with bad := some cause, dst := none, acked := false }
        let noted (z : State) := z.sv = { u.sv with ctxRange := if cause = 0x11 then u.sv.ctxRange.filter (fun r => r.1 != x.peer)
          ++ [(x.peer, u.get (Reg.FSW_FWD_BOOTGEN x.peer), ctx % 16, ctx / 16)] else u.sv.ctxRange } ∧ Moves u z [.sv] []
        ∃ z w : State, noted z ∧ isSrc w z y ∧ exec (.refuseReceived p) s = .next (if x.parked then w.migFail y cause else w))
  ∧ (∀ f u, msg 4 = some (f, u) →
      let inTime (y : MigDst) := y.flags / 2 % 2 = 1 ∨ u.sch.next ≤ u.stampBlk y.tx
      (dstOf u f = none ∨ (∃ y, dstOf u f = some y ∧ (y.ent = none ∨ ¬inTime y)) → exec (.commitReceived p) s = .next u)
      ∧ ∀ y e g, dstOf u f = some y → y.ent = some (e, g) → inTime y →
        let done : MigDst := { y with committed := true }
        let first := if y.committed then u else u.migRec 3 (e + 2 ^ 16 * g) (u.ent e).nid y.peer 0
        ∃ z : State, isDst z first done ∧ let a := z.dstMsg done 5 0 0 0 []
          (y.flags / 2 % 2 = 0 → exec (.commitReceived p) s = .next a)
          ∧ (y.flags / 2 % 2 = 1 → ∃ t, exec (.commitReceived p) s = .next t
              ∧ noDst t (a.postpone (.keep e g)) y))
  ∧ (∀ f u, msg 5 = some (f, u) →
      (srcOf u f = none ∨ (∃ x, srcOf u f = some x ∧ (x.dst = none ∨ (x.parked = false ∧ u.opening x.jx < u.tu))) → exec (.commitAckReceived p) s = .next u)
      ∧ ∀ x h, srcOf u f = some x → x.dst = some h →
        (x.parked = false → u.tu ≤ u.opening x.jx → ∃ t, exec (.commitAckReceived p) s = .next t ∧ isSrc t u { x with acked := true })
        ∧ (x.parked = true → let z := u.migRec 3 (handle x) (u.ent x.ent).nid x.peer 0
            ∃ t, noSrc t (if z.srcLive x then z.postpone (.gone x.ent x.gen) else z) x ∧ exec (.commitAckReceived p) s = .next (t.trackDone x.seq (b2n x.late) h 0)))
  ∧ (∀ f u, msg 6 = some (f, u) →
      (∀ y, dstOf u f = some y → y.ent = none → ∃ t, exec (.abortReceived p) s = .next t ∧ noDst t u y)
      ∧ (∀ y e g, dstOf u f = some y → y.ent = some (e, g) → y.committed = false → exec (.abortReceived p) s = .next (u.dropRes y))
      ∧ (∀ y e g, dstOf u f = some y → y.ent = some (e, g) → y.committed = true → ∃ t, exec (.abortReceived p) s = .next t
          ∧ noDst t (u.postpone (.abort e g (u.fper * u.frameOf u.ns))) y)
      ∧ (dstOf u f = none → u.lookup (pfield f.payload 8 4) = none → exec (.abortReceived p) s = .next u)
      ∧ (∀ e, dstOf u f = none → u.lookup (pfield f.payload 8 4) = some e →
          exec (.abortReceived p) s = .next (u.postpone (.abort e (u.ent e).gen (u.fper * u.frameOf u.ns)))))
  ∧ (∀ x : Later, 2 ≤ s.schState → s.postpone x = { s with al := { s.al with later := s.al.later ++ [x] } })
  ∧ (∀ (e g q t0 : Nat), let v := s.ent e
      let made := s.makeLater q (.abort e g t0)
      (v.gen = g → v.st = 2 ∨ v.st = 3 → made = s.endInPlace e t0 .migrate) ∧ (v.gen = g → v.st = 5 ∨ v.st = 7 → made = s.freeEnt e)
      ∧ (v.gen ≠ g ∨ v.st = 0 → made = s))
  ∧ (∀ y : MigDst, (y.ent = none → noDst (s.dropRes y) s y) ∧ ∀ e g, y.ent = some (e, g) → noDst (s.dropRes y) (s.postpone (.unreserve e g)) y)
  ∧ (∀ (e g q : Nat), let v := s.ent e
      let freed := s.makeLater q (.unreserve e g)
      (v.gen = g → v.st = 7 → freed = (s.parkRec 5 v.group (e + 2 ^ 16 * g) v.nid 0).setEnt e (Voice.free g)) ∧ (v.gen ≠ g ∨ v.st ≠ 7 → freed = s))
  ∧ (∀ (e g q : Nat), let v := s.ent e
      let sent := v.gen = g ∧ v.st = 6
      let kept := v.gen = g ∧ v.st = 7
      (sent → s.makeLater q (.back e g) = s.setEnt e { v with st := if v.prevSt = 0 then 2 else v.prevSt } ∧ s.makeLater q (.gone e g) = s.freeEnt e)
      ∧ (¬sent → s.makeLater q (.back e g) = s ∧ s.makeLater q (.gone e g) = s)
      ∧ (kept → s.makeLater q (.keep e g) = s.setEnt e { v with st := 5 }) ∧ (¬kept → s.makeLater q (.keep e g) = s))
  ∧ (∀ y : MigDst, (y.ent = none → noDst (s.releaseRes y) s y)
      ∧ ∀ e g, y.ent = some (e, g) → let v := s.ent e
        let live := v.gen = g ∧ v.st = 7
        (live → noDst (s.releaseRes y) ((s.parkRec 5 v.group (e + 2 ^ 16 * g) v.nid 0).setEnt e (Voice.free g)) y) ∧ (¬live → noDst (s.releaseRes y) s y))
  ∧ (∀ f u, msg 7 = some (f, u) →
      let desc (i : Nat) := leNat ((f.payload.drop (32 + 64 * i)).take 64)
      let queues (h : Nat) := (pfield f.payload 1 1 = 0 → exec (.migrateCmdReceived p) s = .next u)
        ∧ (pfield f.payload 1 1 = 1 → exec (.migrateCmdReceived p) s = .next (u.acceptOwn (.fwd h) (desc 0)))
        ∧ (pfield f.payload 1 1 = 2 → exec (.migrateCmdReceived p) s = .next ((u.acceptOwn (.fwd h) (desc 0)).acceptOwn (.fwd h) (desc 1)))
      (dstOf u f = none → srcOf u f = none → exec (.migrateCmdReceived p) s = .next u) ∧ (∀ x, dstOf u f = none → srcOf u f = some x → queues (handle x))
      ∧ (∀ y e g, dstOf u f = some y → y.ent = some (e, g) → queues (e + 2 ^ 16 * g)))
  ∧ (let tmo := 100000 * max 1 (s.get Reg.FSW_TIMING_REQ_TMO);
     let there := s.sv.dst.find? (fun y => y.session == session.toNat && y.peer == peer.toNat && bit y.flags 1 && !y.committed);
     let here := s.sv.src.find? (fun x => x.session == session.toNat && x.peer == peer.toNat && !x.ended);
     let due (x : MigSrc) := x.bad = none ∧ (x.dst = none ∨ x.parked = true) ∧ ∃ t, x.sent = some t ∧ t + tmo ≤ s.ns;
     (there = none → exec (.migrationTimeout true peer session) s = .next s)
      ∧ (∀ y, there = some y → exec (.migrationTimeout true peer session) s = .next (s.dropRes y))
      ∧ (here = none ∨ (∃ x, here = some x ∧ ¬due x) → exec (.migrationTimeout false peer session) s = .next s)
      ∧ (∀ x, here = some x → due x → exec (.migrationTimeout false peer session) s = .next (s.migFail x 0x0E)))
  ∧ (∀ (x : MigSrc) cause,
      let v := s.ent x.ent
      let live := v.gen = x.gen ∧ v.st ≠ 0
      let back := if live ∧ v.st = 6 then s.postpone (.back x.ent x.gen) else s
      ∃ z : State, noSrc z ((if x.dst = none then back else back.srcMsg x 6 0 0 []).migRec 4 (handle x) v.nid x.peer cause) x
        ∧ s.migFail x cause = z.trackDone x.seq 0x0F 0 cause)
  ∧ (∀ (x : MigSrc) m part ctx body ps, s.route x.peer 4 = some ps → (∀ o ∈ ps, s.get (Reg.FP_STAT_VER o) ≠ 1) → let t := s.srcMsg x m part ctx body
      t.sw = { s.sw with buf := s.sw.buf ++ [⟨4, s.mkFrame 3 9 x.peer (leBytes 1 m ++ leBytes 1 part ++ leBytes 2 x.session ++ leBytes 4 (handle x)
          ++ leBytes 4 (x.dst.getD 0) ++ leBytes 8 (s.playStart x.jx / 441) ++ leBytes 8 (if x.parked then 0 else s.playStart (x.jx - 3) / 441) ++ leBytes 1 x.dgroup
          ++ leBytes 1 ((if x.noSteal then 1 else 0) + (if x.parked then 2 else 0)) ++ leBytes 1 0 ++ leBytes 1 ctx ++ body), ps, s.dir x.peer == 5, s.ns, none⟩] }
      ∧ Moves s t [.sw] [])

/-- R308, R342, R343, R345, R351, R356: a function-level reset and PERST_N reset what faces the host and nothing else: rings, queues, transfers and MSI-X
of host memory; a change of Bus Master Enable or the D-state makes queues and rings in host memory wait or go on; the link and errors are
reported.
(The model's choices in it: log entries 40 and 124.) -/
def Obligations.HostSide : Prop :=
  ∀ (b d : Bool) (speed width : BitVec 2) (aer : BitVec 32) (s : State), s.Inv →
    let down := s.hi.perst = true
    let r := s.pcieReset
    let sent (typ src reason n err : Nat) (z : State) := z.event typ src 0 reason (z.get Reg.HI_STAT_SPEED + 2 ^ 8 * z.get Reg.HI_STAT_WIDTH
      + 2 ^ 16 * (if z.hi.d3hot then 3 else 0) + 2 ^ 24 * (if z.hi.bme then 1 else 0) + 2 ^ 32 * n + 2 ^ 64 * err)
    let pcie := sent 0x08
    let links := [Reg.HI_STAT_LINK_UP, Reg.HI_STAT_SPEED, Reg.HI_STAT_WIDTH]
    let off (u t : State) := (u.get Reg.HI_STAT_LINK_UP = 0 → t = u) ∧ (u.get Reg.HI_STAT_LINK_UP = 1 → ∃ z : State, t = pcie 8 2 0 0 z
      ∧ z.get Reg.HI_STAT_LINK_UP = 0 ∧ z.get Reg.HI_STAT_SPEED = 0 ∧ z.get Reg.HI_STAT_WIDTH = 0 ∧ Moves u z [] links)
    (∀ n, n < 16 → s.get (Reg.HI_RING_CFG_LOC n) = 0 → r.get (Reg.HI_RING_STAT_STATE n) = 0 ∧ r.get (Reg.HI_RING_BASE_LO n) = 0 ∧ r.get (Reg.HI_RING_BASE_HI n) = 0
      ∧ r.get (Reg.HI_RING_CFG_ENABLE n) = 0 ∧ r.get (Reg.HI_RING_CFG_LOG2SIZE n) = 4 ∧ r.get (Reg.HI_RING_CFG_CQ n) = 0 ∧ r.get (Reg.HI_RING_CFG_PRIO n) = 0
      ∧ r.get (Reg.HI_RING_CFG_OWNER n) = 0 ∧ r.get (Reg.HI_RING_HEAD n) = 0 ∧ r.get (Reg.HI_RING_TAIL n) = 0
      ∧ r.get (Reg.HI_RING_STAT_GEN n) = (s.get (Reg.HI_RING_STAT_GEN n) + 1) % 2 ^ 16)
  ∧ (∀ n, n < 16 → s.get (Reg.HI_RING_CFG_LOC n) = 1 → ∀ f ∈ [Reg.HI_RING_BASE_LO n, Reg.HI_RING_BASE_HI n, Reg.HI_RING_CFG_ENABLE n, Reg.HI_RING_CFG_LOG2SIZE n,
      Reg.HI_RING_CFG_LOC n, Reg.HI_RING_CFG_CQ n, Reg.HI_RING_CFG_PRIO n, Reg.HI_RING_CFG_OWNER n, Reg.HI_RING_HEAD n, Reg.HI_RING_TAIL n, Reg.HI_RING_STAT_GEN n],
      r.get f = s.get f)
  ∧ (∀ c ∈ r.sch.queue, c ∈ s.sch.queue ∧ (s.get (Reg.HI_RING_CFG_LOC c.fl.ring) = 0 → c.fl.ring < 16 → c.done = true ∨ c.org ≠ Org.ring))
  ∧ r.hi.dmas = s.hi.dmas.filter (fun x => !(x.sspace == 0 || x.dspace == 0))
  ∧ (∀ n, n < 8 → s.get (Reg.EQ_Q_CFG_LOC n) = 0 → (r.queue n).on = false ∧ (r.queue n).held = [] ∧ n ∈ r.pcieHold ∧ r.get (Reg.EQ_Q_CFG_LOG2SIZE n) = 4
      ∧ ∀ f ∈ [Reg.EQ_Q_BASE_LO n, Reg.EQ_Q_BASE_HI n, Reg.EQ_Q_CFG_ENABLE n, Reg.EQ_Q_CFG_VECTOR n, Reg.EQ_Q_PROD n, Reg.EQ_Q_CONS n], r.get f = 0)
  ∧ (∀ n, n < 8 → s.get (Reg.EQ_Q_CFG_LOC n) = 1 → (r.queue n).on = (s.queue n).on ∧ r.get (Reg.EQ_Q_CFG_ENABLE n) = s.get (Reg.EQ_Q_CFG_ENABLE n))
  ∧ (∀ v, v < 64 → r.get (Reg.HI_MSIX_CTRL v) = 1 ∧ r.get (Reg.HI_MSIX_ADDR_LO v) = 0 ∧ r.get (Reg.HI_MSIX_DATA v) = 0 ∧ r.get (Reg.HI_PBA (v / 32)) = 0)
  ∧ r.hi.bme = false ∧ r.hi.d3hot = false ∧ r.hi.perst = s.hi.perst
  ∧ (∀ q ∈ [Part.tb, .al, .progs, .loads, .sv, .dram, .cores, .fw0, .life, .boot, .upd, .mix, .ms, .ao, .st, .pw], q.Same s r)
  ∧ (down → exec .flr s = .next s)
  ∧ (¬down → ∃ z : State, exec .flr s = .next (pcie 9 5 0 0 z) ∧ z.get Reg.HI_FLAGS_FLR_SEEN = 1 ∧ Moves (pcie 9 4 0 0 r) z [] [Reg.HI_FLAGS_FLR_SEEN])
  ∧ (down → exec .perstNAssert s = .next s)
  ∧ (¬down → ∃ z t : State, z.hi = { s.hi with perst := true } ∧ Moves s z [.hi] [] ∧ exec .perstNAssert s = .next t ∧ off (pcie 10 6 0 0 z.pcieReset) t)
  ∧ (¬down → exec .perstNRelease s = .next s)
  ∧ (down → ∃ z : State, z.hi = { s.hi with perst := false } ∧ Moves s z [.hi] [] ∧ exec .perstNRelease s = .next (pcie 10 7 0 0 z).pcieWake)
  ∧ (∃ z : State, z.hi = { s.hi with bme := b, d3hot := d } ∧ Moves s z [.hi] [] ∧
      let host (n : Nat) : Prop := s.get (Reg.EQ_Q_CFG_LOC n) = 0 ∧ (s.queue n).on = true
      let first (n : Nat) := host n ∧ ∀ k, k < 8 → k ≠ n → ¬host k
      let tell (u : State) : State :=
        let u := if s.hi.d3hot ≠ d then pcie 13 10 0 0 u else u
        let u := if s.hi.bme ≠ b then pcie 13 11 0 0 u else u
        u.settleAll.drainHost
      (∃ y : State, exec (.pcieBmeChange b d) s = .next (tell y) ∧ y.hi = z.hi)
      ∧ (s.hostBlocked = z.hostBlocked ∨ (∀ n, n < 8 → ¬host n) → exec (.pcieBmeChange b d) s = .next (tell z))
      ∧ (∀ n, n < 8 → s.hostBlocked = false → z.hostBlocked = true → first n → exec (.pcieBmeChange b d) s = .next (tell (z.eqState n 3)))
      ∧ (∀ n, n < 8 → s.hostBlocked = true → z.hostBlocked = false → first n → exec (.pcieBmeChange b d) s = .next (tell (z.eqState n 4))))
  ∧ (∀ n, n < 16 → let st := s.get (Reg.HI_RING_STAT_STATE n)
      let waits := (s.get (Reg.HI_RING_CFG_LOC n) = 0 ∧ (s.hi.bme = false ∨ s.hi.d3hot = true ∨ s.hi.perst = true)) ∨ s.heldAt n ≠ none
      (st ≠ 2 → st ≠ 3 → s.settle n = s) ∧ (st = 2 → ¬waits → s.settle n = s) ∧ (st = 3 → waits → s.settle n = s)
      ∧ (st = 2 → waits → (s.settle n).get (Reg.HI_RING_STAT_STATE n) = 3) ∧ (st = 3 → ¬waits → (s.settle n).get (Reg.HI_RING_STAT_STATE n) = 2))
  ∧ (down → exec (.pcieLinkChange b speed width) s = .next s)
  ∧ (¬down → b = false → ∃ t, exec (.pcieLinkChange b speed width) s = .next t ∧ off s t)
  ∧ (¬down → b = true →
      let set (z : State) := z.get Reg.HI_STAT_LINK_UP = 1 ∧ z.get Reg.HI_STAT_SPEED = speed.toNat ∧ z.get Reg.HI_STAT_WIDTH = width.toNat ∧ Moves s z [] links
      let was := s.get Reg.HI_STAT_LINK_UP = 1
      let same := s.get Reg.HI_STAT_SPEED = speed.toNat ∧ s.get Reg.HI_STAT_WIDTH = width.toNat
      ∃ z : State, set z ∧ (¬was → exec (.pcieLinkChange b speed width) s = .next (pcie 8 1 0 0 z))
        ∧ (was → same → exec (.pcieLinkChange b speed width) s = .next z) ∧ (was → ¬same → exec (.pcieLinkChange b speed width) s = .next (pcie 8 3 0 0 z)))
  ∧ exec (.pcieError false aer) s = .next (pcie 12 9 1 aer.toNat s)
  ∧ (∃ t, exec (.pcieError true aer) s = .next t ∧ t.sw = { s.sw with sums := t.sw.sums, sumsAt := t.sw.sumsAt } ∧ Moves s t [.sw] []
      ∧ ∀ k, Tbl.get 0 t.sw.sums k = if k = 256 * 11 + 8 then Tbl.get 0 s.sw.sums k + 1 else Tbl.get 0 s.sw.sums k)

/-- R510, R513 to R516, R518, R520: a request for a power state is refused for the causes listed, else the state is entered: what each keeps and loses;
NAP is complete once its ramps are; a wake source that is enabled in the state the module stands in wakes it, from NAP to RUN, from the
others to a boot, and is latched during a transition; a domain is switched off only where software may; a cluster reset completes once
its clusters are back.
(The model's choices in it: log entries 125, 127 and 128.) -/
def Obligations.PowerStates : Prop :=
  ∀ (v : BitVec 32) (n : Fin 16) (x : BitVec 512) (k : Fin 5) (u : Fin 4) (held : Bool) (s : State), s.Inv →
    let st := s.get Reg.PWR_STAT_STATE
    let busy := s.get Reg.PWR_STAT_BUSY = 1
    let op := dfield x.toNat 0 1
    let fl : Flight := ⟨s.hi.nextSeq, n, s.get (Reg.HI_RING_STAT_GEN n), op, dfield x.toNat 2 2, bit x.toNat 8⟩
    let mgmt (sub : Nat) := s.ringState n = 2 ∧ rejectOf (s.get (Reg.HI_RING_STAT_VER n)) x.toNat = none ∧ op = 0x70 ∧ dfield x.toNat 16 1 = sub ∧ dfield x.toNat 8 8 ≤ s.ns
      ∧ s.queueLen < 4096
    let taken (z : State) := z.hi = { s.hi with nextSeq := s.hi.nextSeq + 1, flights := s.hi.flights ++ [fl] }
      ∧ z.get Reg.HI_CNT_ACCEPT = (s.get Reg.HI_CNT_ACCEPT + 1) % 2 ^ 32 ∧ Moves s z [.hi] [Reg.HI_CNT_ACCEPT]
    let host := s.linkOpen = true ∧ s.get Reg.ID_BOOT_STAT_READY = 1
    let napBusy := s.hi.dmas ≠ [] ∨ s.loads ≠ [] ∨ s.sv.src ≠ [] ∨ s.sv.dst ≠ [] ∨ (∃ a ∈ s.ser.uarts, a.run ≠ none ∨ a.txq ≠ []) ∨ s.ms.test ≠ none
    let refused (t : Nat) := busy ∨ t = st ∨ 6 ≤ t ∨ (1 ≤ t ∧ t ≤ 3 ∧ (s.schState ≠ 0 ∨ s.upd ≠ none)) ∨ (t = 2 ∧ napBusy) ∨ (t = 0 ∧ st ≠ 1)
    let ask := v.toNat % 8
    let t0 := dfield x.toNat 20 1
    let lost (z : State) (d : Nat) := ∀ f : Fld, f.lsb < 32 → regDom f.off = some d → f.key ≠ Reg.TB_STAT_SERVO.key → z.get f = f.reset % 2 ^ f.w
    let flag (i : Instr) (f : Fld) := ∃ z, exec i s = .next z ∧ z.get f = 1 ∧ Moves s z [] [f]
    (host → refused ask → flag (.powerStateRequest (.reg v)) Reg.PWR_FLAGS_REQ_REFUSED)
  ∧ (host → ¬refused ask → exec (.powerStateRequest (.reg v)) s = .next (s.pwEnter ask))
  ∧ (mgmt 1 → refused t0 → ∃ z y : State, taken z ∧ y.get Reg.PWR_FLAGS_REQ_REFUSED = 1 ∧ Moves z y [] [Reg.PWR_FLAGS_REQ_REFUSED]
      ∧ exec (.powerStateRequest (.ring n x)) s = .next (y.complete fl s.ns 0x1C 2 0))
  ∧ (mgmt 1 → ¬refused t0 → ∃ z : State, taken z ∧ exec (.powerStateRequest (.ring n x)) s = .next ((z.complete fl s.ns 0 0 0).pwEnter t0))
  ∧ (∃ z : State, s.pwEnter 0 = z.powerRec 0 st ∧ z.get Reg.PWR_STAT_STATE = 0 ∧ Moves s z [] [Reg.PWR_STAT_STATE, Reg.ST_STAT_PER_RUN])
  ∧ (s.st.cur = none → ∃ z : State, s.pwEnter 1 = z.powerRec 1 st ∧ z.get Reg.PWR_STAT_STATE = 1 ∧ z.get Reg.ST_STAT_PER_RUN = 0
      ∧ Moves s z [] [Reg.PWR_STAT_STATE, Reg.ST_STAT_PER_RUN])
  ∧ (s.st.cur = none → let z := s.pwEnter 2;
      z.get Reg.PWR_STAT_BUSY = 1 ∧ z.get Reg.PWR_STAT_STATE = st ∧ z.get Reg.ST_STAT_PER_RUN = 0 ∧ z.sw.bypass = false ∧ z.cores = s.cores ∧ z.al = s.al ∧ z.dram = s.dram)
  ∧ (let z := s.pwEnter 3;
      z.get Reg.PWR_STAT_STATE = 3 ∧ z.get Reg.PWR_CLK_STAT_PLL = 10 ∧ z.sram = [] ∧ z.dram = [] ∧ z.sw.nodes = s.sw.nodes ∧ z.tb.now = s.tb.now ∧ z.sw.bypass = s.sw.bypass
      ∧ (∀ d, 1 ≤ d → d ≤ 16 → d ≠ 3 → (4 ≤ d → d ≤ 7 → s.get (Reg.FP_CTRL_EN (d - 4)) = 0) → lost z d)
      ∧ z.get Reg.TB_STAT_AUDIO_LOCK = 0 ∧ z.get Reg.PWR_CLK_STAT_AUDIO = 0
      ∧ (s.get (Reg.TB_WCAP_STAT_PRESENT 0) = 0 → s.get (Reg.TB_WCAP_STAT_PRESENT 1) = 0 →
          ∀ f : Fld, f.lsb < 32 → regDom f.off = some 3 → f.key ≠ Reg.TB_STAT_AUDIO_LOCK.key → z.get f = s.get f)
      ∧ (s.get (Reg.TB_WCAP_STAT_PRESENT 0) = 1 → z.get Reg.TB_FLAGS_WCLK0_LOSS = 1)
      ∧ (s.get (Reg.TB_WCAP_STAT_PRESENT 1) = 1 → z.get Reg.TB_FLAGS_WCLK1_LOSS = 1))
  ∧ (let z := s.pwEnter 4;
      z.get Reg.PWR_STAT_STATE = 4 ∧ z.sram = [] ∧ z.dram = [] ∧ z.sw.bypass = false ∧ (∀ d, 1 ≤ d → d ≤ 16 → lost z d)
      ∧ z.tb.now = (if s.tb.xt32Dead then 0 else s.tb.now) ∧ ∀ w, w < 64 → z.get (Reg.PWR_SCRATCH w) = s.get (Reg.PWR_SCRATCH w))
  ∧ (let z := s.pwEnter 5;
      z.get Reg.PWR_STAT_STATE = 5 ∧ z.get Reg.PWR_DOM_STAT = 0 ∧ z.sram = [] ∧ z.dram = [] ∧ z.sw.bypass = false ∧ z.tb.now = 0 ∧ (∀ d, 1 ≤ d → d ≤ 16 → lost z d)
      ∧ ∀ w, w < 64 → z.get (Reg.PWR_SCRATCH w) = 0)
  ∧ (¬busy → exec .napEntryRampsDone s = .next s)
  ∧ (busy → ∃ z, exec .napEntryRampsDone s = .next z ∧ (s.pw.latched = 0 → z.get Reg.PWR_STAT_STATE = 2 ∧ z.get Reg.PWR_STAT_BUSY = 0 ∧ z.servo = 5 ∧ z.cores = s.cores
      ∧ z.get Reg.PWR_CLK_STAT_PLL = 0 ∧ z.dram = s.dram ∧ (∀ b, b < 48 → z.get (Reg.MEM_BANK_STATE b) = if s.get (Reg.MEM_BANK_STATE b) = 2 then 1 else s.get (Reg.MEM_BANK_STATE b))
      ∧ ∀ p, p < 4 → z.get (Reg.FP_STAT_LSTATE p) = 0))
  ∧ (∀ c, (s.pw.down ≠ .no ∨ s.pw.booting = true ∨ (¬busy ∧ st < 2) → s.wake c = s)
      ∧ (s.pw.down = .no → s.pw.booting = false → busy → (s.wake c).pw = { s.pw with latched := s.pw.latched ||| c } ∧ Moves s (s.wake c) [.pw] [])
      ∧ (s.pw.down = .no → s.pw.booting = false → ¬busy → st = 2 → let z := s.wake c;
          z.get Reg.PWR_STAT_STATE = 0 ∧ z.get Reg.PWR_WAKE_CAUSE = c % 2 ^ 10 ∧ z.get Reg.PWR_CLK_STAT_PLL = 0x3F ∧ z.cores = s.cores ∧ z.dram = s.dram ∧ z.pw.booting = false)
      ∧ (s.pw.down = .no → s.pw.booting = false → ¬busy → 3 ≤ st → let z := s.wake c;
          z.get Reg.PWR_STAT_STATE = 0 ∧ z.get Reg.PWR_WAKE_CAUSE = (c ||| if s.pw.hot then 0x100 else 0) % 2 ^ 10 ∧ z.pw.booting = true ∧ z.pw.woke = some st ∧ z.pw.hot = false
          ∧ z.pw.refsel = s.get Reg.PWR_CLK_CFG_REFSEL ∧ Moves s z [.pw] [Reg.PWR_STAT_STATE, Reg.PWR_WAKE_CAUSE, Reg.PWR_STAT_VAUX_OK]))
  ∧ (let asleep := if busy then 2 else st;
     let wakes (i : Instr) (c : Prop) (m : Nat) := (c → exec i s = .next (s.wake m)) ∧ (¬c → exec i s = .next s);
     wakes (.wakePinRise held) (if asleep = 5 then held = true else 2 ≤ asleep ∧ s.get Reg.PWR_WAKE_CFG_WAKE_PIN = 1) 1
      ∧ wakes .alarmReached (2 ≤ asleep ∧ asleep ≤ 4 ∧ s.get Reg.PWR_WAKE_CFG_ALARM = 1 ∧ s.pw.alarm ≤ s.ns) 4
      ∧ wakes .pcieWakeAccess (asleep = 2 ∧ s.get Reg.PWR_WAKE_CFG_PCIE = 1) 8
      ∧ wakes (.uartWakeEdge u) (asleep = 2 ∧ s.get Reg.PWR_WAKE_CFG_UART / 2 ^ u.val % 2 = 1) (2 ^ (4 + u.val)))
  ∧ (∃ z : State, exec (.alarmCommit v) s = .next z.alarm ∧ z.get Reg.PWR_ALARM_HI = v.toNat ∧ z.pw = { s.pw with alarm := s.get Reg.PWR_ALARM_LO + 2 ^ 32 * v.toNat }
      ∧ Moves s z [.pw] [Reg.PWR_ALARM_HI])
  ∧ (2 ≤ st → exec (.domainEnableWrite v) s = .next s)
  ∧ (let en := s.get Reg.PWR_DOM_EN;
     let same (e : Nat) := bit v.toNat e = bit en e;
     let benched (c : Nat) := ∀ i, i < 4 → s.chState (4 * c + i) = 5;
     (∀ d, (d = 0 ∨ d = 1 ∨ d = 3 ∨ d = 13 ∨ 17 ≤ d → s.domFree d = none)
      ∧ ((4 ≤ d ∧ d ≤ 7) ∨ d = 2 ∨ d = 15 ∨ d = 16 → s.domFree d = some true) ∧ (8 ≤ d → d ≤ 11 → (s.domFree d = some true ↔ benched (d - 8)))
      ∧ (d = 12 → (s.domFree d = some true ↔ s.schState = 0 ∧ benched 4))
      ∧ (d = 14 → (s.domFree d = some true ↔ s.schState = 0 ∧ ∀ w, w < 64 → s.get (Reg.MEM_WIN_CTRL_EN w) = 0 ∨ s.get (Reg.MEM_WIN_CTRL_SPACE w) = 0)))
      ∧ (st < 2 → (∀ e, e < 17 → s.domFree e ≠ none → same e) → exec (.domainEnableWrite v) s = .next s)
      ∧ (∀ d, d < 17 → st < 2 → ¬same d → (∀ e, e < 17 → e ≠ d → s.domFree e ≠ none → same e) →
          (s.domFree d = some false → bit en d = true → flag (.domainEnableWrite v) Reg.PWR_FLAGS_DOM_REFUSED)
          ∧ (s.domFree d = some true → bit en d = true → ∃ z, exec (.domainEnableWrite v) s = .next z ∧ z.get Reg.PWR_DOM_EN = en - 2 ^ d
              ∧ bit (z.get Reg.PWR_DOM_STAT) d = false ∧ lost z d)
          ∧ (s.domFree d ≠ none → bit en d = false → ∃ z, exec (.domainEnableWrite v) s = .next z ∧ z.get Reg.PWR_DOM_EN = en + 2 ^ d
              ∧ (8 ≤ d → d ≤ 12 → ∀ i, i < 4 → z.chState (4 * (d - 8) + i) = 5))))
  ∧ (host → exec (.fullResetRequest (.reg v)) s = .next (s.fullReset 4 0))
  ∧ (mgmt 2 → t0 = 1 → s.pw.due = none → ∃ z t : State, taken z ∧ exec (.fullResetRequest (.ring n x)) s = .next t
      ∧ t.pw = { (z.complete fl s.ns 0 0 0).pw with due := some (s.tb.real + 100000 * 2 ^ 32, 4, 0) } ∧ Moves (z.complete fl s.ns 0 0 0) t [.pw] [])
  ∧ (let mask := v.toNat / 2 ^ 8 % 32;
      (host → mask = 0 → flag (.clusterResetRequest (.reg v)) Reg.PWR_FLAGS_REQ_REFUSED)
      ∧ (host → mask ≠ 0 → exec (.clusterResetRequest (.reg v)) s = .next (s.resetClusters mask none)))
  ∧ (mgmt 2 → t0 = 2 → ∃ z : State, taken z ∧ exec (.clusterResetRequest (.ring n x)) s = .next (z.resetClusters (dfield x.toNat 24 4) (some fl)))
  ∧ (∀ mask f, let l := (List.range 5).filter (fun j => bit mask j && s.domOn (8 + j))
      (l = [] → s.resetClusters mask none = s ∧ s.resetClusters mask (some fl) = s.complete fl s.ns 0 0 0)
      ∧ (l ≠ [] → s.st.cur = none → (s.resetClusters mask f).pw = { s.pw with clusters := s.pw.clusters ++ [(f, l)] }
          ∧ ∀ j ∈ l, ∀ i, i < 4 → (s.resetClusters mask f).chState (4 * j + i) = 0))
  ∧ (s.pw.clusters = [] → ∃ z, exec (.clusterReturn k) s = .next z ∧ (∀ i, i < 4 → s.chState (4 * k.val + i) = 0 → z.chState (4 * k.val + i) = 1)
      ∧ (∀ c, c < 20 → c / 4 ≠ k.val → z.core c = s.core c) ∧ z.dram = s.dram)
  ∧ (∀ f, s.pw.clusters = [(some f, [k.val])] → ∃ z : State, exec (.clusterReturn k) s = .next (z.complete f z.ns 0 0 0) ∧ z.pw = { s.pw with clusters := [] }
      ∧ ∀ i, i < 4 → s.chState (4 * k.val + i) = 0 → z.chState (4 * k.val + i) = 1)

/-- R506 to R509, R511, R512, R518 to R520, R523: what supply, rails, temperature, clocks, RESET_N and the watchdog do: their flags and records, the domains
they switch off, the full reset they cause with its cause bit, the boot it makes due, and what survives it: the plinth always, DRAM and the
crash record by the cause.
(The model's choices in it: log entries 125, 126, 127 and 129.) -/
def Obligations.SupplyAndResets : Prop :=
  ∀ (mv : BitVec 16) (mvl pc : BitVec 32) (tj : BitVec 16) (p : Fin 6) (stack : List (BitVec 32)) (s : State), s.Inv →
    let st := s.get Reg.PWR_STAT_STATE
    let up := s.pw.down ≠ .plinth ∧ st ≠ 5
    let m := mv.toNat
    let supply (z : State) (unit reason v : Nat) := z.event 0x6A 124 unit reason v
    let lost (z : State) := (∀ f : Fld, f.lsb < 32 → (∃ d, 1 ≤ d ∧ d ≤ 16 ∧ regDom f.off = some d) → f.key ≠ Reg.TB_STAT_SERVO.key → z.get f = f.reset % 2 ^ f.w)
      ∧ z.servo = 5 ∧ z.sram = [] ∧ z.al = Alloc.zero ∧ z.sch = Sched.zero ∧ z.progs = [] ∧ z.ao = Analog.zero ∧ z.ser = Ser.zero ∧ z.sv = Services.zero
      ∧ (∀ c, c < 20 → z.core c = Core.zero) ∧ z.sw.bypass = false ∧ z.pending = s.pending
    let cold (z : State) := lost z ∧ z.get Reg.PWR_STAT_STATE = 0 ∧ z.get Reg.PWR_STAT_BUSY = 0 ∧ z.get Reg.PWR_STAT_PG = 0 ∧ z.get Reg.PWR_CLK_STAT_PLL = 0
    let plinth (z : State) := z.tb.now = s.tb.now ∧ (∀ w, w < 64 → z.get (Reg.PWR_SCRATCH w) = s.get (Reg.PWR_SCRATCH w))
      ∧ ∀ f ∈ [Reg.PWR_WAKE_CFG_WAKE_PIN, Reg.PWR_WAKE_CFG_FABRIC, Reg.PWR_WAKE_CFG_ALARM, Reg.PWR_WAKE_CFG_PCIE, Reg.PWR_WAKE_CFG_UART, Reg.PWR_CFG_AUTO_RESTART,
          Reg.PWR_CFG_VAUX_SLEEP, Reg.PWR_CFG_TH_WARN, Reg.PWR_ALARM_LO, Reg.PWR_ALARM_HI, Reg.PWR_CLK_CFG_REFSEL], z.get f = s.get f
    let crash (z : State) := ∀ w, w < 16 → z.get (Reg.PWR_CRASH w) = 0
    let causes := [Reg.PWR_RST_CAUSE_POR, Reg.PWR_RST_CAUSE_BROWNOUT, Reg.PWR_RST_CAUSE_RESET_N, Reg.PWR_RST_CAUSE_WDOG, Reg.PWR_RST_CAUSE_SOFT, Reg.PWR_RST_CAUSE_REMOTE,
      Reg.PWR_RST_CAUSE_REF_LOST, Reg.PWR_RST_CAUSE_RAIL]
    let rail (z : State) := s.pw.down = .no ∧ z.get Reg.PWR_FLAGS_RAIL_FAULT = 1 ∧ Moves s z [] [Reg.PWR_FLAGS_RAIL_FAULT]
    let vinSet (z : State) (ok : Nat) (fs : List Fld) := z.get Reg.PWR_VIN = m ∧ z.get Reg.PWR_STAT_VIN_OK = ok ∧ Moves s z [] (Reg.PWR_VIN :: Reg.PWR_STAT_VIN_OK :: fs)
    (∀ c node, c < 8 → node < 4096 → let z := s.fullReset c node
      cold z ∧ plinth z ∧ z.pw.booting = true ∧ z.pw.down = s.pw.down ∧ z.pw.due = none ∧ z.pw.clusters = []
      ∧ (c = 3 ∨ c = 4 ∨ c = 5 → z.dram = s.dram ∧ ∀ w, w < 16 → z.get (Reg.PWR_CRASH w) = s.get (Reg.PWR_CRASH w))
      ∧ (c ≠ 3 → c ≠ 4 → c ≠ 5 → z.dram = [] ∧ crash z)
      ∧ (∀ j, j < 8 → z.get (causes.getD j Reg.PWR_RST_CAUSE_POR) = if j = c then 1 else if s.pw.booting then s.get (causes.getD j Reg.PWR_RST_CAUSE_POR) else 0)
      ∧ z.get Reg.PWR_RST_CAUSE_NODE = if c = 5 then node else if s.pw.booting then s.get Reg.PWR_RST_CAUSE_NODE else 0)
  ∧ (¬(up ∧ m < 4400) → exec (.vinLow mv) s = .next s)
  ∧ (up → m < 4400 → ∃ z : State, exec (.vinLow mv) s = .next (supply z 0 1 m) ∧ vinSet z 0 [Reg.PWR_FLAGS_VIN_LOW] ∧ z.get Reg.PWR_FLAGS_VIN_LOW = 1)
  ∧ (¬(up ∧ 50000 < m) → exec (.vinHigh mv) s = .next s)
  ∧ (up → 50000 < m → ∃ z : State, exec (.vinHigh mv) s = .next (supply z 0 2 m) ∧ vinSet z 0 [Reg.PWR_FLAGS_VIN_HIGH] ∧ z.get Reg.PWR_FLAGS_VIN_HIGH = 1)
  ∧ (let back := up ∧ s.pw.down = .no ∧ s.get Reg.PWR_STAT_VIN_OK = 0 ∧ 4500 ≤ m ∧ m ≤ 48000;
      (¬back → exec (.vinWithinRange mv) s = .next s)
      ∧ (back → ∃ z : State, exec (.vinWithinRange mv) s = .next (supply z 0 4 m) ∧ vinSet z 1 []))
  ∧ (∀ (i : Instr) (why : Down) (c : Prop), (i, why, c) ∈ [((.brownOut mv : Instr), Down.brown, m < 4000), (.overvoltageCutoff mv, .overvolt, 54000 < m)] →
      (¬(up ∧ c) → exec i s = .next s)
      ∧ (up → c → ∃ z, exec i s = .next z ∧ cold z ∧ plinth z ∧ z.dram = [] ∧ z.pw.down = why ∧ z.pw.booting = false ∧ z.get Reg.PWR_VIN = m
          ∧ z.get Reg.PWR_STAT_VIN_OK = 0 ∧ z.get Reg.PWR_STAT_VAUX_OK = 0))
  ∧ (let back := (s.pw.down = .brown ∧ 4400 < m) ∨ (s.pw.down = .overvolt ∧ m < 50000);
      (¬back → exec (.vinRecovered mv) s = .next s)
      ∧ (back → ∃ z, exec (.vinRecovered mv) s = .next z ∧ cold z ∧ plinth z ∧ z.pw.down = .no ∧ z.pw.booting = true ∧ z.get Reg.PWR_RST_CAUSE_BROWNOUT = 1 ∧ z.get Reg.PWR_VIN = m
          ∧ z.get Reg.PWR_WAKE_CAUSE = 0x200 + (if s.pw.hot then 0x100 else 0)))
  ∧ (∃ z, exec .plinthLoss s = .next z ∧ lost z ∧ z.dram = [] ∧ z.pw.down = .plinth ∧ z.pw.booting = false ∧ z.tb.now = 0 ∧ crash z
      ∧ ∀ w, w < 64 → z.get (Reg.PWR_SCRATCH w) = 0)
  ∧ (¬(s.pw.down = .plinth ∧ 4400 < m) → exec (.powerOnReset mv) s = .next s)
  ∧ (s.pw.down = .plinth → 4400 < m → ∃ z, exec (.powerOnReset mv) s = .next z ∧ z.pw = Power.zero ∧ z.tb = TimeBase.zero ∧ z.sram = [] ∧ z.dram = []
      ∧ z.get Reg.PWR_VIN = m ∧ (∀ j, j < 8 → z.get (causes.getD j Reg.PWR_RST_CAUSE_POR) = if j = 0 then 1 else 0)
      ∧ ∀ f : Fld, f.lsb < 32 → (∃ d, 1 ≤ d ∧ d ≤ 16 ∧ regDom f.off = some d) ∨ (0x30000 ≤ f.off ∧ f.off < 0x40000 ∧ f.key ≠ Reg.PWR_VIN.key) →
          f.key ≠ Reg.TB_STAT_SERVO.key → z.get f = f.reset % 2 ^ f.w)
  ∧ (∀ (r : Fin 11) v, v = mvl.toNat →
      (s.railJudged r = false → exec (.railOutOfWindow r mvl) s = .next s)
      ∧ (s.railJudged r = true → ∃ z : State, rail z ∧
          (r.val = 7 → ∃ t, exec (.railOutOfWindow r mvl) s = .next t ∧ t.get Reg.PWR_STAT_VAUX_OK = 0 ∧ Moves (supply z 7 3 v) t [] [Reg.PWR_STAT_VAUX_OK])
          ∧ (r.val = 10 → 1000 ≤ v → exec (.railOutOfWindow r mvl) s = .next (supply z 10 3 v))
          ∧ (r.val = 10 → v < 1000 → exec (.railOutOfWindow r mvl) s = exec .plinthLoss (supply z 10 3 v))
          ∧ (r.val ≠ 7 → r.val ≠ 10 → exec (.railOutOfWindow r mvl) s = .next ((supply z r 3 v).fullReset 7 0)))
      ∧ (s.railJudged r = true ↔ s.pw.down = .no ∧ (r.val = 10 ∨ (r.val = 7 ∧ s.get Reg.PWR_STAT_VAUX_OK = 1) ∨ (r.val = 2 ∧ s.domOn 13 = true)
          ∨ (r.val = 3 ∧ (s.domOn 14 = true ∨ s.domOn 15 = true)) ∨ ((r.val = 4 ∨ r.val = 5) ∧ s.domOn 14 = true) ∨ (r.val = 6 ∧ (s.domOn 1 = true ∨ s.domOn 3 = true))
          ∨ (r.val = 1 ∧ ∃ d, ((1 ≤ d ∧ d ≤ 13) ∨ d = 16) ∧ s.domOn d = true))))
  ∧ (s.get Reg.PWR_STAT_VAUX_OK = 0 → exec (.vauxOvercurrent mvl) s = .next s)
  ∧ (s.get Reg.PWR_STAT_VAUX_OK = 1 → ∃ z : State, exec (.vauxOvercurrent mvl) s = .next (supply z 7 3 mvl.toNat) ∧ z.pw = { s.pw with vauxOff := true }
      ∧ z.get Reg.PWR_STAT_VAUX_OK = 0 ∧ z.get Reg.PWR_FLAGS_VAUX_OC = 1 ∧ Moves s z [.pw] [Reg.PWR_STAT_VAUX_OK, Reg.PWR_FLAGS_VAUX_OC])
  ∧ (s.pw.vauxOff = false → exec .vauxRetry s = .next s)
  ∧ (s.pw.vauxOff = true → ∃ t, exec .vauxRetry s = .next t ∧ t.pw = { s.pw with vauxOff := false } ∧ Moves s t [.pw] [Reg.PWR_STAT_VAUX_OK]
      ∧ t.get Reg.PWR_STAT_VAUX_OK = if s.pw.down = .no ∧ (s.pw.booting = false ∨ s.pw.woke ≠ none) ∧ (st ≤ 3 ∨ (st = 4 ∧ s.get Reg.PWR_CFG_VAUX_SLEEP = 1)) then 1 else 0)
  ∧ (let warn : Int := 10 * ((max 60 (min 115 (s.get Reg.PWR_CFG_TH_WARN)) : Nat) : Int);
     let hot := s.get Reg.PWR_STAT_THERM = 1;
     let seen (z : State) (v : Nat) (reason : Nat) := exec (.thermalWarnCross tj) s = .next (z.event 0x69 123 0 reason tj.toNat) ∧ z.get Reg.PWR_TEMP = tj.toNat
       ∧ z.get Reg.PWR_STAT_THERM = v ∧ z.get Reg.PWR_FLAGS_THERM_WARN = 1 ∧ Moves s z [] [Reg.PWR_TEMP, Reg.PWR_STAT_THERM, Reg.PWR_FLAGS_THERM_WARN];
      (¬up → exec (.thermalWarnCross tj) s = .next s)
      ∧ (up → ¬hot → warn ≤ tj.toInt → ∃ z : State, seen z 1 1) ∧ (up → hot → tj.toInt ≤ warn - 50 → ∃ z : State, seen z 0 3)
      ∧ (up → (hot ∧ warn - 50 < tj.toInt) ∨ (¬hot ∧ tj.toInt < warn) → ∃ t, exec (.thermalWarnCross tj) s = .next t ∧ t.get Reg.PWR_TEMP = tj.toNat ∧ Moves s t [] [Reg.PWR_TEMP]))
  ∧ (let shut := s.pw.down = .no ∧ st ≤ 3 ∧ 1250 ≤ tj.toInt;
      (¬shut → exec (.thermalShutdown tj) s = .next s)
      ∧ (shut → ∃ z y : State, z.get Reg.PWR_TEMP = tj.toNat ∧ Moves s z [] [Reg.PWR_TEMP] ∧ y.pw = { s.pw with booting := false, hot := true }
          ∧ Moves (z.event 0x69 123 0 2 tj.toNat) y [.pw] [] ∧ exec (.thermalShutdown tj) s = .next (y.pwEnter 4)))
  ∧ (let restart := st = 4 ∧ s.pw.hot = true ∧ s.get Reg.PWR_CFG_AUTO_RESTART = 1 ∧ tj.toInt < 950;
      (¬restart → exec (.thermalRestart tj) s = .next s)
      ∧ (restart → ∃ z : State, exec (.thermalRestart tj) s = .next (z.wake 0x100) ∧ z.get Reg.PWR_TEMP = tj.toNat ∧ Moves s z [] [Reg.PWR_TEMP]))
  ∧ (let plls := s.get Reg.PWR_CLK_STAT_PLL;
     let locked := bit plls p.val = true;
     let gone (z : State) (fs : List Fld) := z.get Reg.PWR_CLK_STAT_PLL = plls - 2 ^ p.val ∧ Moves s z [] (Reg.PWR_CLK_STAT_PLL :: fs);
      (¬locked → exec (.pllUnlock p) s = .next s)
      ∧ (locked → p.val = 0 ∨ p.val = 4 ∨ p.val = 5 → ∃ z : State, exec (.pllUnlock p) s = .next (z.event 0x6B 125 p 1 0) ∧ z.get Reg.PWR_FLAGS_PLL_UNLOCK = 1
          ∧ gone z [Reg.PWR_FLAGS_PLL_UNLOCK])
      ∧ (locked → p.val = 3 → ∃ z : State, exec (.pllUnlock p) s = .next ((z.event 0x6B 125 3 1 0).setBypass false) ∧ z.get Reg.PWR_FLAGS_PLL_UNLOCK = 1
          ∧ gone z [Reg.PWR_FLAGS_PLL_UNLOCK])
      ∧ (locked → p.val = 1 ∨ (p.val = 2 ∧ s.get Reg.TB_STAT_AUDIO_LOCK = 0) → ∃ t, exec (.pllUnlock p) s = .next t ∧ gone t [])
      ∧ (locked → p.val = 2 → s.get Reg.TB_STAT_AUDIO_LOCK = 1 → ∃ z : State, exec (.pllUnlock p) s = .next (z.event 0x57 115 0 2 s.fs)
          ∧ z.get Reg.TB_STAT_AUDIO_LOCK = 0 ∧ gone z [Reg.TB_STAT_AUDIO_LOCK, Reg.PWR_CLK_STAT_AUDIO])
      ∧ (locked ∨ 2 ≤ st ∨ s.pw.down ≠ .no → exec (.pllRelock p) s = .next s)
      ∧ (¬locked → st < 2 → s.pw.down = .no → ∃ t, exec (.pllRelock p) s = .next t ∧ t.get Reg.PWR_CLK_STAT_PLL = plls + 2 ^ p.val ∧ Moves s t [] [Reg.PWR_CLK_STAT_PLL]))
  ∧ (let runs := s.pw.down = .no ∧ s.get Reg.PWR_CLK_STAT_REF_OK = 1 ∧ st ≤ 3;
      (¬runs → exec .referenceLoss s = .next s)
      ∧ (runs → ∃ z, exec .referenceLoss s = .next z ∧ z.servo = 5 ∧ z.sw.bypass = false ∧ z.pw = { s.pw with down := .ref } ∧ z.get Reg.PWR_CLK_STAT_REF_OK = 0
          ∧ z.get Reg.PWR_CLK_STAT_PLL = 0 ∧ z.get Reg.TB_STAT_AUDIO_LOCK = 0 ∧ (∀ c, c < 16 → z.get (Reg.AO_CH_STAT_STATE c) = 0) ∧ z.cores = s.cores ∧ z.dram = s.dram ∧ z.al = s.al))
  ∧ (s.pw.down ≠ .ref → exec .referenceReturn s = .next s)
  ∧ (s.pw.down = .ref → ∃ z, exec .referenceReturn s = .next z ∧ cold z ∧ plinth z ∧ z.dram = [] ∧ z.pw.down = .no ∧ z.pw.booting = true ∧ z.pw.refBack = true
      ∧ z.get Reg.PWR_RST_CAUSE_REF_LOST = 1 ∧ z.get Reg.PWR_CLK_STAT_REF_OK = 1)
  ∧ (s.pw.down = .plinth ∨ st = 5 → exec .resetNAssert s = .next s)
  ∧ (up → ∃ z, exec .resetNAssert s = .next z ∧ cold z ∧ plinth z ∧ z.dram = [] ∧ crash z ∧ z.pw.down = .held ∧ z.pw.booting = true ∧ z.get Reg.PWR_RST_CAUSE_RESET_N = 1
      ∧ z.get Reg.PWR_STAT_VAUX_OK = 0)
  ∧ (s.pw.down ≠ .held → exec .resetNRelease s = .next s)
  ∧ (s.pw.down = .held → ∃ t, exec .resetNRelease s = .next t ∧ t.pw = { s.pw with down := .no } ∧ Moves s t [.pw] [Reg.PWR_STAT_VAUX_OK])
  ∧ (let fed := s.pw.down ≠ .no ∨ s.pw.booting = true ∨ 2 ≤ st;
      (fed → exec (.watchdogExpiry pc stack) s = .next s)
      ∧ (¬fed → ∃ z, exec (.watchdogExpiry pc stack) s = .next z ∧ cold z ∧ plinth z ∧ z.dram = s.dram ∧ z.pw.booting = true ∧ z.get Reg.PWR_RST_CAUSE_WDOG = 1
          ∧ z.get (Reg.PWR_CRASH 0) = 8 ∧ z.get (Reg.PWR_CRASH 1) = pc.toNat ∧ z.get (Reg.PWR_CRASH 2) + 2 ^ 32 * z.get (Reg.PWR_CRASH 3) = s.ns % 2 ^ 64
          ∧ z.get (Reg.PWR_CRASH 4) = s.get Reg.ID_FW_VER ∧ z.get (Reg.PWR_CRASH 5) = (if s.get Reg.ID_BOOT_STAT_SOURCE = 1 then 1 else 0)
          ∧ ∀ w, w < 10 → z.get (Reg.PWR_CRASH (6 + w)) = (stack.getD w 0).toNat))

/-- R36, R544, R547 to R555: service access and the life cycle: CHALLENGE draws a nonce of 32 open bytes, SIGNED and PASSWORD open a session, fail and
are counted, start a lockout or are refused; the session's end closes debug; ADVANCE moves the state forward only, PROGRAM_KEY fills an empty
field, REVOKE_KEY blows a revoke bit; each command ends in LC_RESULT or in its completion; a closed debug port changes nothing.
(The model's choices in it: log entries 130 and 131.) -/
def Obligations.ServiceAccess : Prop :=
  ∀ (n : Fin 16) (x : BitVec 512) (host : List (BitVec 8)) (arg : BitVec 3) (s : State), s.Inv →
    let st := s.get Reg.LC_STAT_STATE
    let l := s.life
    let opens := st = 2 ∨ st = 3
    let holds (f : List (BitVec 8)) := fieldEmpty f = false ∧ fieldGone f = false
    let sec := 1000000000 * 2 ^ 32
    let since (t : Nat) := (s.tb.real - t) / sec
    let scopeBit (k : Nat) := st = 3 ∧ bit (s.get Reg.LC_STAT_SCOPE) k = true
    let lc := [Reg.LC_STAT_STATE, Reg.LC_STAT_FUSED, Reg.LC_STAT_SCOPE, Reg.LC_STAT_LOCKED, Reg.LC_STAT_NONCE_VALID, Reg.LC_STAT_FAILS, Reg.LC_KEYS_SLOT 0,
      Reg.LC_KEYS_SLOT 1, Reg.LC_KEYS_SLOT 2, Reg.LC_KEYS_SLOT 3, Reg.LC_KEYS_SVCKEY, Reg.LC_KEYS_PASSWD]
    let shows (z : State) := z.get Reg.LC_STAT_FUSED = z.life.fused ∧ z.get Reg.LC_STAT_STATE = (if z.life.fused = 2 ∧ z.life.opened ≠ none then 3 else z.life.fused)
      ∧ z.get Reg.LC_STAT_LOCKED = (if z.life.lock = none then 0 else 1) ∧ z.get Reg.LC_STAT_NONCE_VALID = (if z.life.nonce = none then 0 else 1)
      ∧ z.get Reg.LC_STAT_FAILS = z.life.fails % 256 ∧ (∀ k, k < 4 → z.get (Reg.LC_KEYS_SLOT k) = z.life.slotStat k) ∧ z.get Reg.LC_KEYS_SVCKEY = fieldStat z.life.svc
      ∧ z.get Reg.LC_KEYS_PASSWD = fieldStat z.life.pwd ∧ (z.life.opened = none → z.get Reg.LC_STAT_SCOPE = 0)
    let set (u z : State) (y : Life) := z.life = y ∧ shows z ∧ Moves u z [.life] lc
    let rec_ (z : State) (reason old new lock : Nat) := z.event 0x70 126 0 reason (old + 2 ^ 8 * new + 2 ^ 32 * lock)
    let locked := s.lockLeft ≠ 0
    let no (op scope : Nat) (data : List (BitVec 8)) (d t : Nat) := s.lcOp op scope data = (s, ⟨0x1C, d, t⟩)
    let opened (u : State) (op scope : Nat) (data : List (BitVec 8)) := ∃ z : State, s.lcOp op scope data = (rec_ z 2 (u.get Reg.LC_STAT_STATE) 3 0, ⟨0, 0, 28800⟩)
      ∧ z.life = { u.life with fails := 0, opened := some s.tb.real } ∧ shows z ∧ z.get Reg.LC_STAT_SCOPE = scope ∧ Moves u z [.life] lc
    let failed (u : State) (op scope : Nat) (data : List (BitVec 8)) :=
      let f := min 255 (u.life.fails + 1)
      let len := min (60 * 2 ^ (f - 5)) 61440
      ∃ z : State, z.life = { u.life with fails := f } ∧ shows z ∧ z.get Reg.LC_FLAGS_AUTH_FAIL = 1 ∧ Moves u z [.life] (Reg.LC_FLAGS_AUTH_FAIL :: lc)
        ∧ let y := rec_ z 4 (z.get Reg.LC_STAT_STATE) (z.get Reg.LC_STAT_STATE) 0
          (f < 5 → s.lcOp op scope data = (y, ⟨0x1A, f, 0⟩))
          ∧ (5 ≤ f → ∃ w : State, s.lcOp op scope data = (rec_ w 5 (w.get Reg.LC_STAT_STATE) (w.get Reg.LC_STAT_STATE) len, ⟨0x1A, f, 0⟩)
              ∧ w.life = { z.life with lock := some (s.tb.real, len) } ∧ shows w ∧ w.get Reg.LC_FLAGS_LOCKOUT = 1 ∧ Moves y w [.life] (Reg.LC_FLAGS_LOCKOUT :: lc))
    let op := dfield x.toNat 20 1
    let fl : Flight := ⟨s.hi.nextSeq, n, s.get (Reg.HI_RING_STAT_GEN n), 0x70, dfield x.toNat 2 2, bit x.toNat 8⟩
    let ringed := s.ringState n = 2 ∧ rejectOf (s.get (Reg.HI_RING_STAT_VER n)) x.toNat = none ∧ dfield x.toNat 0 1 = 0x70 ∧ dfield x.toNat 16 1 = 5
      ∧ dfield x.toNat 8 8 ≤ s.ns ∧ dfield x.toNat 21 1 = 0 ∧ s.queueLen < 4096
    let ends (i : Instr) (z : State) (status : Nat) := exec i s = .next (z.lcEnd status)
    let put (i : Instr) (y : Life) := ∃ z, ends i z 0 ∧ set s z y
    let data8 := (List.range 8).flatMap (fun w => leBytes 4 (s.get (Reg.LC_DATA w)))
    let early := st = 0 ∨ st = 1
    let a := arg.toNat
    (∀ c data, (¬(opens ∧ holds l.svc) → no 1 c data 1 0) ∧ (opens → holds l.svc → locked → no 1 c data 2 s.lockLeft)
      ∧ (opens → holds l.svc → ¬locked → ∃ (z : State) (nonce : List (BitVec 8)), s.lcOp 1 c data = (z, ⟨0, 0, 0⟩) ∧ nonce.length = 32
          ∧ z.life = { l with nonce := some (nonce, s.tb.real) } ∧ shows z ∧ Moves s z [.life, .fresh] lc))
  ∧ (∀ c data, c = 0 ∨ 8 ≤ c → s.lcOp 2 c data = (s, ⟨3, 0, 0⟩) ∧ s.lcOp 3 c data = (s, ⟨3, 0, 0⟩))
  ∧ (∀ c data, 1 ≤ c → c < 8 →
      (¬(opens ∧ holds l.svc) → no 2 c data 1 0) ∧ (opens → holds l.svc → locked → no 2 c data 2 s.lockLeft)
      ∧ (opens → holds l.svc → ¬locked → l.nonce = none ∨ (∃ m t, l.nonce = some (m, t) ∧ 60 ≤ since t) → no 2 c data 2 0)
      ∧ (∀ m t, opens → holds l.svc → ¬locked → l.nonce = some (m, t) → since t < 60 →
          let good := sha256 (data.take 64) = l.svc ∧ sigOk (data.take 64) (m ++ leBytes 8 s.uid ++ leBytes 4 c) ((data.drop 64).take 64) = true
          ∃ u : State, set s u { l with nonce := none } ∧ (good → opened u 2 c data) ∧ (¬good → failed u 2 c data))
      ∧ (¬(opens ∧ holds l.pwd ∧ c < 4) → no 3 c data 1 0) ∧ (opens → holds l.pwd → c < 4 → locked → no 3 c data 2 s.lockLeft)
      ∧ (opens → holds l.pwd → c < 4 → ¬locked →
          (sha256 (l.salt ++ data.take 16) = l.pwd → opened s 3 c data) ∧ (sha256 (l.salt ++ data.take 16) ≠ l.pwd → failed s 3 c data)))
  ∧ (∀ c data, (l.opened = none → s.lcOp 4 c data = (s, ⟨0, 0, 0⟩))
      ∧ (∀ t, l.opened = some t → ∃ z : State, set s z { l with opened := none } ∧ s.lcOp 4 c data = (rec_ z.closeDebug 3 3 2 0, ⟨0, 0, 0⟩)))
  ∧ (∀ t len, l.lock = some (t, len) → (s.lockLeft = 0 ↔ len ≤ since t)) ∧ (l.lock = none → s.lockLeft = 0)
  ∧ (s.st.cur = none → let z := s.closeDebug
      ∀ c, c < 20 → z.get (Reg.CH_CTRL_BRK_EN c) = 0 ∧ (∀ m, m < 4 → z.get (Reg.CH_BRK_EN c m) = 0 ∧ z.get (Reg.CH_BRK_PC c m) = 0) ∧ z.chState c ≠ 3)
  ∧ (∀ (k : Nat) (i : Instr), (k, i) ∈ [(1, (.challenge none : Instr)), (2, .signed none host), (3, .password none host), (4, .close none)] →
      let r := s.lcOp k (s.get Reg.LC_SCOPE) ((List.range 32).flatMap (fun w => leBytes 4 (s.get (Reg.LC_DATA w))))
      exec i s = .next (r.1.lcEnd r.2.status))
  ∧ (∀ (k : Nat) (i : Instr), (k, i) ∈ [(1, (.challenge (some (n, x)) : Instr)), (2, .signed (some (n, x)) host), (3, .password (some (n, x)) host), (4, .close (some (n, x)))] →
      ringed → op = k → ∃ u : State, u.hi = { s.hi with nextSeq := s.hi.nextSeq + 1, flights := s.hi.flights ++ [fl] }
        ∧ u.get Reg.HI_CNT_ACCEPT = (s.get Reg.HI_CNT_ACCEPT + 1) % 2 ^ 32 ∧ Moves s u [.hi] [Reg.HI_CNT_ACCEPT]
        ∧ let r := u.lcOp k (dfield x.toNat 24 4) (padTo (if k = 2 then 128 else 16) (if k = 1 ∨ k = 4 then [] else host))
          (k ≠ 1 ∨ r.2.status ≠ 0 ∨ s.hostBlocked = true → exec i s = .next (r.1.completeX fl r.1.ns r.2.status r.2.detail 0 r.2.sec))
          ∧ (∀ m t, k = 1 → r.2.status = 0 → s.hostBlocked = false → r.1.life.nonce = some (m, t) →
              exec i s = .next ((r.1.emit (.hostWrite (dfield x.toNat 32 8) m)).completeX fl r.1.ns 0 0 0 0)))
  ∧ (∀ status, status < 256 → let z := s.lcEnd status
      z.get Reg.LC_RESULT_STATUS = status ∧ z.get Reg.LC_RESULT_BUSY = 0 ∧ (∀ w, w < 32 → z.get (Reg.LC_DATA w) = 0)
      ∧ z.get Reg.LC_FLAGS_CMD_REFUSED = (if status = 0 ∨ status = 0x1A then s.get Reg.LC_FLAGS_CMD_REFUSED else 1)
      ∧ Moves s z [] (Reg.LC_RESULT_STATUS :: Reg.LC_RESULT_BUSY :: Reg.LC_FLAGS_CMD_REFUSED :: (List.range 32).map Reg.LC_DATA))
  ∧ (let usable := s.slotUsable 1 = true ∨ s.slotUsable 2 = true ∨ s.slotUsable 3 = true;
     let toField := st = 1 ∧ a = 2 ∧ (holds l.svc ∨ holds l.pwd) ∧ usable;
     let retires := a = 4 ∧ (early ∨ scopeBit 2) ∧ s.get (Reg.LC_DATA 0) = 0x45524954;
     let gone := List.replicate 32 (0xFF : BitVec 8);
      (st = 0 → a = 1 → ∃ z : State, set s z (l.blow 1) ∧ ends (.advance arg) (rec_ z 1 0 1 0) 0)
      ∧ (toField → ∃ z : State, set s z (l.blow 2) ∧ ends (.advance arg) (rec_ z.closeDebug 1 1 2 0) 0)
      ∧ (retires → ∃ z w : State, set s z { l.blow 3 with opened := none } ∧ ends (.advance arg) ((rec_ w 1 st 4 0).askReset 4 0) 0 ∧ shows w
          ∧ w.life = { z.closeDebug.life with slots := z.closeDebug.life.slots.take 1 ++ [gone, gone, gone], svc := gone, salt := List.replicate 16 0xFF, pwd := gone,
                                              keys := [[], [], []] }
          ∧ w.boot.slots = [[], []] ∧ w.st.flash = List.replicate 8 0 ∧ w.progs = [] ∧ Moves z.closeDebug w [.life, .boot, .st, .progs] lc)
      ∧ (¬(st = 0 ∧ a = 1) → ¬toField → ¬retires → ends (.advance arg) s 0x1C))
  ∧ (let slot := l.slots.getD a [];
     let free := (a = 0 ∧ st = 0 ∨ 1 ≤ a ∧ a ≤ 3 ∧ (early ∨ scopeBit 2)) ∧ fieldEmpty slot = true;
      (free → a = 0 → put (.programKey arg) { l with slots := l.slots.set 0 data8 })
      ∧ (free → 1 ≤ a → put (.programKey arg) { l with slots := l.slots.set a data8, bad := l.bad.set a (decide (sha256 (l.keys.getD (a - 1) []) ≠ data8)) })
      ∧ (a = 4 → early → fieldEmpty l.svc = true → put (.programKey arg) { l with svc := data8 })
      ∧ (a = 5 → early → fieldEmpty l.pwd = true → ∃ (z : State) (salt : List (BitVec 8)), ends (.programKey arg) z 0 ∧ salt.length = 16 ∧ shows z
          ∧ z.life = { l with salt := salt, pwd := sha256 (salt ++ data8.take 16) } ∧ Moves s z [.life, .fresh] lc)
      ∧ ((a ≤ 3 ∧ ¬free) ∨ (a = 4 ∧ ¬(early ∧ fieldEmpty l.svc = true)) ∨ (a = 5 ∧ ¬(early ∧ fieldEmpty l.pwd = true)) ∨ 6 ≤ a → ends (.programKey arg) s 0x1C))
  ∧ (let may := 1 ≤ a ∧ a ≤ 3 ∧ (early ∨ scopeBit 2);
      (may → put (.revokeKey arg) { l with revoked := l.revoked.set a true }) ∧ (¬may → ends (.revokeKey arg) s 0x1C))
  ∧ (l.opened = none ∨ (∃ t, l.opened = some t ∧ since t < 28800) → exec .sessionExpiry s = .next s)
  ∧ (∀ t, l.opened = some t → 28800 ≤ since t → ∃ z y : State, set s z { l with opened := none } ∧ exec .sessionExpiry s = .next y
      ∧ y.get Reg.LC_FLAGS_EXPIRED = 1 ∧ Moves (rec_ z.closeDebug 3 3 2 0) y [] [Reg.LC_FLAGS_EXPIRED])
  ∧ (l.nonce = none → ∃ z, exec .nonceExpiry s = .next z ∧ set s z l)
  ∧ (∀ m t, l.nonce = some (m, t) → (since t < 60 → exec .nonceExpiry s = .next s)
      ∧ (60 ≤ since t → ∃ z, exec .nonceExpiry s = .next z ∧ set s z { l with nonce := none }))
  ∧ (locked → exec .lockoutEnd s = .next s) ∧ (¬locked → ∃ z, exec .lockoutEnd s = .next z ∧ set s z { l with lock := none })
  ∧ (∀ i : DebugInstr, (s.debugOpen = false → exec (.debugPortInstruction i) s = .next s)
      ∧ (s.debugOpen = true ↔ early ∨ scopeBit 0)
      ∧ (s.debugOpen = true → i ≠ .halt → i ≠ .release → exec (.debugPortInstruction i) s = .next s))
  ∧ (let stands := s.pw.halt = true ∨ s.pw.down ≠ .no ∨ 2 ≤ s.get Reg.PWR_STAT_STATE;
      (s.debugOpen = true → stands → exec (.debugPortInstruction .halt) s = .next s)
      ∧ (s.debugOpen = true → ¬stands → ∃ t, exec (.debugPortInstruction .halt) s = .next t ∧ t.pw = { s.pw with halt := true } ∧ Moves (s.setServo 5) t [.pw] [])
      ∧ (s.debugOpen = true → s.pw.halt = false → exec (.debugPortInstruction .release) s = .next s)
      ∧ (s.debugOpen = true → s.pw.halt = true → ∃ z : State, exec (.debugPortInstruction .release) s = .next z.resync ∧ z.pw = { s.pw with halt := false }
          ∧ Moves s z [.pw] []))

/-- R558 to R569, R577: BOOT takes the boot source, chooses a flash slot by the boot record, or waits for an image; an image that passes every check
starts: firmware, program store and benched cores; READY; a trial is confirmed or reverted; images are asked of neighbours, taken, checked,
and served.
(The model's choices in it: log entries 132, 133 and 136.) -/
def Obligations.BootAndImages : Prop :=
  ∀ (bs : BitVec 2) (p : Fin 5) (res : List TestRes) (rows : List (BitVec 15)) (s : State), s.Inv →
    let phase (z : State) := z.get Reg.ID_BOOT_STAT_PHASE
    let slot (z : State) (k : Nat) := z.boot.slots.getD k []
    let runs (img : List (BitVec 8)) (source : Nat) (z : State) := phase z = 3 ∧ z.get Reg.ID_BOOT_STAT_SOURCE = source ∧ z.get Reg.ID_FW_VER = imgNat img 12 4 % 2 ^ 32
      ∧ z.get Reg.ID_ARM_REV = imgNat img 16 4 % 2 ^ 32 ∧ z.fw0 = List.replicate 5 ((img.drop (imgNat img 36 4)).take (imgNat img 40 4)) ∧ z.boot.image = img ∧ z.boot.req = none
      ∧ z.ms.trained = true ∧ ∀ c, c < 20 → z.chState c = 5
    let tries (u : State) (i : Instr) (img : List (BitVec 8)) (source : Nat) (fails : State → State) :=
      (u.imageErr img = 0 → ∃ z, exec i s = .next z ∧ runs img source z ∧ z.get Reg.ID_BOOT_STAT_ERR = 0)
      ∧ (u.imageErr img ≠ 0 → ∃ z : State, exec i s = .next (fails z) ∧ z.get Reg.ID_BOOT_STAT_ERR = u.imageErr img ∧ phase z = 1
          ∧ Moves u z [] [Reg.ID_BOOT_STAT_ERR, Reg.ID_BOOT_STAT_PHASE])
    let wants := phase s = 1 ∧ (2 ≤ s.get Reg.ID_BOOT_STAT_BOOTSEL ∨ s.boot.recovery = true)
    let msg (op : Nat) := s.takeRx p (fun f => f.kind.toNat == 11 && pfield f.payload 0 1 == op)
    let mine (u : State) (f : Frame) := phase u = 1 ∧ (2 ≤ u.get Reg.ID_BOOT_STAT_BOOTSEL ∨ u.boot.recovery = true) ∧ ∃ r, u.boot.req = some r ∧ r.pause = false
      ∧ f.src.toNat = r.node ∧ pfield f.payload 2 2 = r.session
    let due := s.pw.booting = true ∧ s.pw.down = .no
    let sel := bs.toNat
    (∀ img, s.imageErr img = 0 ↔ s.imageSigned 0 img = true ∧ imgNat img 0 4 = 0x5746555A ∧ imgNat img 4 2 = 1 ∧ imgNat img 6 1 = 1 ∧ imgNat img 7 1 = 0
      ∧ imgNat img 8 4 = img.length ∧ img.length ≤ 491520 ∧ sectionOk img 28 393216 = true ∧ sectionOk img 36 32768 = true ∧ imgNat img 40 4 % 4 = 0
      ∧ imgZero img 22 2 = true ∧ imgZero img 44 20 = true ∧ imgNat img 20 2 ≤ 0xA0 ∧ rangesContain (imgNat img 24 4) s.ifver = true)
  ∧ (¬due → exec (.boot bs) s = .next s)
  ∧ (due → s.life.fused = 4 → ∃ z, exec (.boot bs) s = .next z ∧ z.pw.booting = false ∧ z.get Reg.PWR_STAT_STATE = 0 ∧ z.get Reg.PWR_STAT_PG = 1
      ∧ z.get Reg.PWR_DOM_STAT = 15 ∧ z.boot.slots = [[], []] ∧ z.progs = [] ∧ fieldGone z.life.svc = true ∧ fieldGone z.life.pwd = true ∧ z.life.slots.take 1 = s.life.slots.take 1)
  ∧ (due → s.life.fused ≠ 4 → ∃ u : State, u.boot = { s.boot with gen := s.boot.gen + 1 } ∧ u.pw.booting = false ∧ u.get Reg.ID_BOOT_STAT_BOOTSEL = sel ∧ phase u = 0
      ∧ u.get Reg.PWR_STAT_STATE = 0 ∧ u.get Reg.PWR_STAT_PG = 1 ∧ u.get Reg.PWR_DOM_STAT = 0x1FFFF ∧ u.get Reg.PWR_CLK_STAT_PLL = 0x3F ∧ u.get Reg.TB_STAT_AUDIO_LOCK = 1
      ∧ u.get Reg.PWR_CLK_STAT_AUDIO = 1 ∧ u.get Reg.FSW_BOOTGEN = (s.boot.gen + 1) % 2 ^ 16 ∧ u.sw.genLoaded = true ∧ u.life.slots = s.life.slots ∧ u.life.fails = s.life.fails
      ∧ (sel = 1 ∨ sel = 2 → ∃ z, exec (.boot bs) s = .next z ∧ phase z = 1 ∧ z.boot = { u.boot with recovery := false, req := none } ∧ z.fw0 = u.fw0)
      ∧ (sel = 0 ∨ sel = 3 →
          let r := u.bootRec
          let gives := r.trial = true ∧ 2 ≤ r.tries
          let k := if (if gives then !r.active else r.active) then 1 else 0
          let valid (j : Nat) := u.imageErr (slot u j) = 0
          let shown (z : State) (j : Nat) := ∀ i, i < 2 → (z.get (Reg.ID_SLOT_VALID i) = 1 ↔ valid i) ∧ (z.get (Reg.ID_SLOT_CHOSEN i) = 1 ↔ i = j)
          (valid k → ∃ z, exec (.boot bs) s = .next z ∧ runs (slot u k) k z ∧ shown z k
              ∧ (r.trial = false → z.boot.plinth = s.boot.plinth ∧ z.boot.flash = s.boot.flash ∧ z.get Reg.ID_BOOT_STAT_CONFIRMED = 1 ∧ z.get Reg.ID_BOOT_STAT_TRIAL = 0)
              ∧ (r.trial = true → ¬gives → let w : BootRec := { r with tries := r.tries + 1, seq := r.seq + 1 }
                  z.boot.plinth = some w ∧ z.boot.flash = [some w, some w] ∧ z.get Reg.ID_BOOT_STAT_TRIAL = 1 ∧ z.get Reg.ID_BOOT_STAT_CONFIRMED = 0)
              ∧ (gives → let w : BootRec := ⟨!r.active, false, 0, r.seq + 1⟩
                  z.boot.plinth = some w ∧ z.boot.flash = [some w, some w] ∧ z.get Reg.ID_BOOT_STAT_REVERTED = 1))
          ∧ (¬valid k → valid (1 - k) → ∃ z w, exec (.boot bs) s = .next z ∧ runs (slot u (1 - k)) (1 - k) z ∧ shown z (1 - k) ∧ z.get Reg.ID_BOOT_STAT_REVERTED = 1
              ∧ z.boot.plinth = some w ∧ z.boot.flash = [some w, some w] ∧ w.active = decide (k = 0) ∧ w.trial = false ∧ w.tries = 0)
          ∧ (¬valid k → ¬valid (1 - k) → ∃ z, exec (.boot bs) s = .next z ∧ phase z = 1 ∧ z.boot.recovery = decide (sel = 0) ∧ z.boot.req = none
              ∧ z.get Reg.ID_BOOT_STAT_ERR = u.imageErr (slot u (1 - k)))))
  ∧ (phase s ≠ 3 → exec (.bootReady res rows) s = .next s)
  ∧ (phase s = 3 → ∃ z, exec (.bootReady res rows) s = .next z ∧ phase z = 4 ∧ z.get Reg.ID_BOOT_STAT_READY = 1 ∧ z.boot = { s.boot with readyAt := s.tb.real }
      ∧ z.pw.woke = none ∧ z.pw.refBack = false ∧ ∀ c, c < 20 → s.chState c = 5 → z.coreHeld c = false → z.chState c = 1)
  ∧ (let open_ := phase s = 1 ∧ (s.get Reg.ID_BOOT_STAT_BOOTSEL = 1 ∨ s.boot.recovery = true);
      (¬open_ → exec .bootGo s = .next s)
      ∧ (open_ → tries s .bootGo (s.exchRead 0 (min (leNat (s.exchRead 8 4)) 491521)) 2 id))
  ∧ (let trial := s.get Reg.ID_BOOT_STAT_TRIAL = 1;
     let shown (z : State) (parts : List Part) := z.get Reg.ID_BOOT_STAT_CONFIRMED = 1 ∧ z.get Reg.ID_BOOT_STAT_TRIAL = 0 ∧ z.get Reg.ID_BOOT_STAT_TRIES = 0
       ∧ Moves s z parts [Reg.ID_BOOT_STAT_CONFIRMED, Reg.ID_BOOT_STAT_TRIAL, Reg.ID_BOOT_STAT_TRIES];
     let r := s.bootRec;
     let own := r.trial = true ∧ (if r.active then 1 else 0) = s.get Reg.ID_BOOT_STAT_SOURCE;
     let w : BootRec := { r with trial := false, tries := 0, seq := r.seq + 1 };
     let ovr := s.get Reg.ID_BOOT_STAT_READY = 1 ∧ max 1 (s.get Reg.ID_UPD_CFG_CONFIRM_TIME) ≤ (s.tb.real - s.boot.readyAt) / (1000000000 * 2 ^ 32);
     let confirms (i : Instr) := (¬trial → exec i s = .next s) ∧ (trial → ¬own → ∃ z, exec i s = .next z ∧ shown z [])
       ∧ (trial → own → ∃ z, exec i s = .next z ∧ shown z [.boot] ∧ z.boot = { s.boot with plinth := some w, flash := [some w, some w] });
      confirms .confirm ∧ (ovr → confirms .confirmTimeout) ∧ (¬ovr → exec .confirmTimeout s = .next s))
  ∧ (let r := s.bootRec;
     let other := if r.active then 0 else 1;
     let w : BootRec := ⟨!r.active, false, 0, r.seq + 1⟩;
      (s.imageErr (slot s other) ≠ 0 → exec .revert s = .next s)
      ∧ (s.imageErr (slot s other) = 0 → ∃ z : State, exec .revert s = .next (z.mcRec 2) ∧ z.boot = { s.boot with plinth := some w, flash := [some w, some w] } ∧ Moves s z [.boot] []))
  ∧ (∀ q, let n := s.boot.nextSession
      ∃ z : State, s.askImage q = (z.sendTo 3 11 (s.get (Reg.FP_STAT_NB_ADDR q)) (leBytes 1 1 ++ leBytes 1 0 ++ leBytes 2 n ++ leBytes 4 0 ++ leBytes 4 0 ++ leBytes 4 0) none).1
        ∧ z.boot = { s.boot with req := some ⟨q, s.get (Reg.FP_STAT_NB_ADDR q), n, false, s.tb.real⟩, nextSession := (n + 1) % 65536 } ∧ Moves s z [.boot] [])
  ∧ (∀ r, s.boot.req = some r → let can (q : Nat) := q < 4 ∧ s.isUp q = true ∧ s.get (Reg.FP_STAT_NB_ADDR_VALID q) = 1
      (∀ q, can q → r.port < q → (∀ o, r.port < o → o < q → ¬can o) → s.nextAsk = s.askImage q)
      ∧ ((∀ q, can q → q ≤ r.port) → s.nextAsk.boot = { s.boot with req := some { r with pause := true, last := s.tb.real } } ∧ Moves s s.nextAsk [.boot] []))
  ∧ (∀ (op : Nat) (i : Instr), (op, i) ∈ [(1, (.imageRequestReceived p : Instr)), (2, .imageDataReceived p), (3, .imageDoneReceived p), (4, .imageRefuseReceived p)] →
      (msg op = none → exec i s = .next s) ∧ ∀ f u, msg op = some (f, u) → op ≠ 1 → ¬mine u f → exec i s = .next u)
  ∧ (∀ f u, msg 2 = some (f, u) → mine u f → let at_ := pfield f.payload 4 4
      ∃ z, exec (.imageDataReceived p) s = .next z ∧ z.sram = u.sram.setBytes (exchBase + at_) ((f.payload.drop 16).take (0x80000 - at_))
        ∧ z.boot = { u.boot with req := u.boot.req.map (fun r => { r with last := u.tb.real }) } ∧ Moves u z [.sram, .boot] [])
  ∧ (∀ f u, msg 3 = some (f, u) → mine u f → tries u (.imageDoneReceived p) (u.exchRead 0 (min (pfield f.payload 8 4) 491521)) 3 State.nextAsk)
  ∧ (∀ f u, msg 4 = some (f, u) → mine u f → exec (.imageRefuseReceived p) s = .next u.nextAsk)
  ∧ (let late := wants ∧ ∃ r, s.boot.req = some r ∧ r.pause = false ∧ r.last + 100000000 * 2 ^ 32 ≤ s.tb.real;
      (¬late → exec .imageGapTimeout s = .next s)
      ∧ (late → ∃ z : State, exec .imageGapTimeout s = .next z.nextAsk ∧ z.get Reg.ID_BOOT_STAT_ERR = 6 ∧ Moves s z [] [Reg.ID_BOOT_STAT_ERR]))
  ∧ (let again := ∃ r, s.boot.req = some r ∧ r.pause = true ∧ r.last + 1000000000 * 2 ^ 32 ≤ s.tb.real;
      (¬again → exec .imageRetryPauseEnd s = .next s)
      ∧ (again → ∃ z : State, exec .imageRetryPauseEnd s = .next z.firstAsk ∧ z.boot = { s.boot with req := none } ∧ Moves s z [.boot] []))
  ∧ (wants → s.get Reg.FSW_STAT_ADDR_VALID = 1 → s.boot.req = none → let can (q : Nat) := q < 4 ∧ s.isUp q = true ∧ s.get (Reg.FP_STAT_NB_ADDR_VALID q) = 1
      let up (q : Nat) := can q ∧ s.get (Reg.FP_STAT_ROLE q) = 1
      (∀ q, up q → (∀ o, o < q → ¬up o) → s.firstAsk = s.askImage q) ∧ (∀ q, can q → (∀ o, o < 4 → ¬up o) → (∀ o, o < q → ¬can o) → s.firstAsk = s.askImage q))
  ∧ (∀ f u, msg 1 = some (f, u) →
      let node := f.src.toNat
      let n := pfield f.payload 2 2
      let r := u.bootRec
      let img := slot u (if r.active then 1 else 0)
      let serves := u.get Reg.ID_UPD_CFG_SERVE_EN = 1 ∧ u.get Reg.ID_BOOT_STAT_READY = 1 ∧ r.trial = false ∧ u.imageErr img = 0 ∧ u.serving = false
      let frame (op ofs total : Nat) (data : List (BitVec 8)) := leBytes 1 op ++ leBytes 1 0 ++ leBytes 2 n ++ leBytes 4 ofs ++ leBytes 4 total ++ leBytes 4 0 ++ data
      (¬serves → exec (.imageRequestReceived p) s = .next (u.sendTo 3 11 node (frame 4 0 0 []) none).1)
      ∧ (serves → exec (.imageRequestReceived p) s = .next ((u.sendImage node n img 480 0).sendTo 3 11 node (frame 3 0 img.length []) none).1)
      ∧ (∀ m ofs, ofs < img.length → u.sendImage node n img (m + 1) ofs
          = (u.sendTo 3 11 node (frame 2 ofs img.length ((img.drop ofs).take 1024)) none).1.sendImage node n img m (ofs + 1024))
      ∧ (∀ m ofs, img.length ≤ ofs → u.sendImage node n img m ofs = u))

/-- R292, R294, R560, R570 to R575: a rolling update is refused for the causes listed or begins; each of its steps leads to the next: the slot written, unit
after unit benched, reloaded and returned, the boot record set to a trial; a failure rolls back what was updated. The checks of a load
end in its status or in its place in the program store.
(The model's choices in it: log entries 66, 134 and 135.) -/
def Obligations.UpdatesAndLoads : Prop :=
  ∀ (n : Fin 16) (x : BitVec 512) (host : List (BitVec 8)) (good : Bool) (s : State), s.Inv →
    let step := s.get Reg.ID_UPD_STAT_STEP
    let a := dfield x.toNat 24 8
    let fl : Flight := ⟨s.hi.nextSeq, n, s.get (Reg.HI_RING_STAT_GEN n), 0x70, dfield x.toNat 2 2, bit x.toNat 8⟩
    let ringed := s.ringState n = 2 ∧ rejectOf (s.get (Reg.HI_RING_STAT_VER n)) x.toNat = none ∧ dfield x.toNat 0 1 = 0x70 ∧ dfield x.toNat 16 1 = 4
      ∧ dfield x.toNat 8 8 ≤ s.ns ∧ dfield x.toNat 21 1 = 0 ∧ s.pwState ≠ 1 ∧ s.queueLen < 4096
    let taken (z : State) := z.hi = { s.hi with nextSeq := s.hi.nextSeq + 1, flights := s.hi.flights ++ [fl] }
      ∧ z.get Reg.HI_CNT_ACCEPT = (s.get Reg.HI_CNT_ACCEPT + 1) % 2 ^ 32 ∧ Moves s z [.hi] [Reg.HI_CNT_ACCEPT]
    let ends (status detail : Nat) := ∃ z : State, taken z ∧ exec (.rollingUpdate n x host) s = .next (z.complete fl s.ns status detail 0)
    let len := min (imgNat (host ++ List.replicate 12 0) 8 4) 491520
    let img := host.take len
    let free := s.upd = none ∧ s.st.shut = none
    let whole := a + 12 ≤ 2 ^ 64 ∧ a + len ≤ 2 ^ 64 ∧ 12 ≤ host.length ∧ len ≤ host.length
    let target := if s.bootRec.active then 0 else 1
    let benched (u : Update) := u.unit ≠ [] ∧ ∀ c ∈ u.unit, s.chState c = 5 ∨ s.chState c = 6
    let drain := max 1 (s.get Reg.ID_UPD_CFG_DRAIN_MAX)
    let since (t : Nat) := (s.tb.real - t) / (1000000000 * 2 ^ 32)
    (ringed → ¬free → ends 0x1C 2)
  ∧ (ringed → free → (2 ^ 64 < a + 12 ∨ 2 ^ 64 < a + len) → 12 ≤ host.length → ends 0x1A 0)
  ∧ (ringed → free → a + 12 ≤ 2 ^ 64 → a + len ≤ 2 ^ 64 → 12 ≤ host.length → host.length < len → ends 0x1B 0)
  ∧ (ringed → free → whole → let e := s.imageErr img
      (e = 1 → ends 0x12 0) ∧ (e = 2 ∨ e = 3 → ends 0x14 0) ∧ (e = 4 ∨ e = 5 → ends 0x13 0)
      ∧ (e = 0 → (∃ k p, k < 16 ∧ s.prog k = some p ∧ imgNat img 16 4 < imgNat p.image 16 4) → ends 0x15 0)
      ∧ (e = 0 → (∀ k p, k < 16 → s.prog k = some p → imgNat p.image 16 4 ≤ imgNat img 16 4) → ∃ z y w : State, taken z
          ∧ y.get Reg.ID_UPD_STAT_STEP = 1 ∧ Moves z y [] [Reg.ID_UPD_STAT_STEP, Reg.ID_UPD_STAT_CORE]
          ∧ exec (.rollingUpdate n x host) s = .next (w.mcRec 3) ∧ w.get Reg.ID_UPD_STAT_STEP = 2 ∧ w.boot = { s.boot with slots := s.boot.slots.set target [] }
          ∧ w.upd = some ⟨some fl, img, [], s.tb.real, [], [], false, false, s.fw0, target⟩
          ∧ Moves (y.mcRec 3) w [.upd, .boot] [Reg.ID_UPD_STAT_STEP, Reg.ID_UPD_STAT_CORE, Reg.ID_SLOT_VALID 0, Reg.ID_SLOT_VALID 1, Reg.ID_SLOT_CHOSEN 0, Reg.ID_SLOT_CHOSEN 1,
              Reg.ID_SLOT_VER 0, Reg.ID_SLOT_VER 1]))
  ∧ (s.upd = none → exec (.updateFlashWritten good) s = .next s ∧ exec .drainTimeout s = .next s ∧ exec (.clusterReloadDone good) s = .next s ∧ exec .updateBenchTimeout s = .next s)
  ∧ (∀ u, s.upd = some u →
      (step ≠ 2 → exec (.updateFlashWritten good) s = .next s)
      ∧ (step = 2 → good = false → exec (.updateFlashWritten good) s = .next (s.updEnd u 0x1C 4))
      ∧ (step = 2 → good = true → ∃ z : State, z.boot = { s.boot with slots := s.boot.slots.set u.slot u.image } ∧ z.upd = s.upd ∧ z.fw0 = s.fw0
          ∧ exec (.updateFlashWritten good) s = .next ((z.mcRec 3).updNext { u with left := if s.schState = 0 then [List.range 16, [16, 17, 18, 19]]
              else [[0, 1, 2, 3], [4, 5, 6, 7], [8, 9, 10, 11], [12, 13, 14, 15], [16], [17], [18], [19]] }))
      ∧ (¬benched u → exec (.clusterReloadDone good) s = .next s)
      ∧ (benched u → good = true ∨ u.rolling = true → exec (.clusterReloadDone good) s
          = .next ((s.updReload u (fun k => if u.rolling then u.old.getD k [] else coreSection u.image)).updNext { u with done := u.unit :: u.done }))
      ∧ (benched u → good = false → u.rolling = false → exec (.clusterReloadDone good) s
          = .next ((s.updReload u (fun k => u.old.getD k [])).updNext { u with rolling := true, failed := false, unit := [], left := u.done, done := [] }))
      ∧ ((since u.asked < drain ∨ u.unit = []) → exec .drainTimeout s = .next s)
      ∧ (drain ≤ since u.asked → u.unit ≠ [] → ∃ z, exec .drainTimeout s = .next z ∧ z.upd = s.upd ∧ z.boot = s.boot ∧ z.fw0 = s.fw0
          ∧ ((∀ v, v < 256 → v / 16 ∈ u.unit → (s.slot v).st = 0 ∨ (s.slot v).st = 4) → z = s))
      ∧ ((since u.asked < drain + 1 ∨ u.unit = [] ∨ benched u ∨ u.rolling = true) → exec .updateBenchTimeout s = .next s)
      ∧ (drain + 1 ≤ since u.asked → u.unit ≠ [] → ¬benched u → u.rolling = false → exec .updateBenchTimeout s
          = .next ((u.unit.foldl (fun z c => z.coreReturn c) s).updNext { u with rolling := true, failed := false, unit := [], left := u.done, done := [] })))
  ∧ (∀ u status detail, let z := s.updEnd u status detail
      ∃ y : State, y.upd = none ∧ y.get Reg.ID_UPD_STAT_STEP = 0 ∧ Moves s y [.upd] [Reg.ID_UPD_STAT_STEP, Reg.ID_UPD_STAT_CORE]
        ∧ (u.fl = none → z = y) ∧ ∀ f, u.fl = some f → z = y.complete f y.ns status detail 0)
  ∧ (∀ u : Update, u.left = [] →
      (u.rolling = true → ∃ z : State, s.updNext u = (z.mcRec 3).updEnd u 0x1C 3 ∧ z.boot = { s.boot with slots := s.boot.slots.set u.slot [] })
      ∧ (u.rolling = false → let w : BootRec := ⟨decide (u.slot = 1), true, 0, s.bootRec.seq + 1⟩
          ∃ z : State, s.updNext u = (z.mcRec 3).updEnd u 0 0 ∧ z.boot = { s.boot with plinth := some w, flash := [some w, some w] }
            ∧ z.get Reg.ID_ARM_REV = imgNat u.image 16 4 % 2 ^ 32 ∧ Moves s z [.boot] [Reg.ID_ARM_REV]))
  ∧ (∀ (u : Update) l rest, u.left = l :: rest → s.st.cur = none → s.schState = 2 → let z := s.updNext u
      z.get Reg.ID_UPD_STAT_STEP = (if u.rolling then 6 else 3) ∧ z.upd = some { u with unit := l, left := rest, asked := s.tb.real } ∧ z.boot = s.boot
      ∧ (∀ c ∈ l, c ∈ z.al.draining ∧ (c < 16 → c ∈ z.al.moving)) ∧ ∀ c ∈ s.al.draining, c ∈ z.al.draining)
  ∧ (∀ (u : Update) prog, s.upd = some u → u.unit = [0, 1, 2, 3] → (∀ c, c < 4 → s.chState c = 5 ∧ s.coreHeld c = false) → let z := s.updReload u prog
      z.fw0 = [prog 0, s.fw0.getD 1 [], s.fw0.getD 2 [], s.fw0.getD 3 [], s.fw0.getD 4 []] ∧ z.boot = s.boot ∧ ∀ c, c < 4 → z.chState c = 1)
  ∧ (s.loads.find? (fun l => l.res.isNone) = none → exec .maquetteCheckDone s = .next s)
  ∧ (∀ l, s.loads.find? (fun l => l.res.isNone) = some l →
      let at_ := l.cmd.u 16 1
      let status := s.maqStatus at_ (l.cmd.u 32 8) l.image
      (status ≠ 0 → ∃ z : State, exec .maquetteCheckDone s = .next ((z.maqRec 3 at_ (maqUid l.image) status).finish l.cmd s.ns status 0 0)
        ∧ z.loads = s.loads.filter (fun y => y.cmd.fl.seq != l.cmd.fl.seq) ∧ Moves s z [.loads, .sch] [])
      ∧ (∀ code data, status = 0 → s.placeMaq l.image = some (code, data) → ∃ t, exec .maquetteCheckDone s = .next t ∧ Moves s t [.progs, .loads, .cores] []
          ∧ t.loads = s.loads.map (fun y => if y.cmd.fl.seq = l.cmd.fl.seq then { y with res := some 0 } else y)
          ∧ t.prog at_ = some ⟨maqUid l.image, imgNat l.image 6 1, imgNat l.image 7 1, imgNat l.image 8 1, parseParams l.image, l.image, code, data, false, false, none⟩
          ∧ (∀ k, k ≠ at_ → t.prog k = s.prog k)
          ∧ ∀ c, c < 20 → (imgNat l.image 6 1 = 3 ↔ 16 ≤ c) → s.chState c ≠ 0 → s.chState c ≠ 6 →
              (t.core c).imem = (s.core c).imem.setBytes code ((l.image.drop (imgNat l.image 20 4)).take (imgNat l.image 24 4))
              ∧ (t.core c).dmem = (s.core c).dmem.setBytes data ((l.image.drop (imgNat l.image 28 4)).take (imgNat l.image 32 4))))
  ∧ (∀ at_ mask (m : List (BitVec 8)), s.imageSigned (imgNat m 9 1) m = false → s.maqStatus at_ mask m = 0x12)
  ∧ (∀ at_ mask (m : List (BitVec 8)), s.imageSigned (imgNat m 9 1) m = true →
      let kind := imgNat m 6 1
      (imgNat m 4 2 ≠ 2 → s.maqStatus at_ mask m = 0x13)
      ∧ (imgNat m 4 2 = 2 → headerOk m mask = false → s.maqStatus at_ mask m = 0x14)
      ∧ (imgNat m 4 2 = 2 → headerOk m mask = true → paramsOk kind (parseParams m) = true → s.get Reg.ID_ARM_REV < imgNat m 16 4 → s.maqStatus at_ mask m = 0x15)
      ∧ (imgNat m 4 2 = 2 → headerOk m mask = true → paramsOk kind (parseParams m) = true → imgNat m 16 4 ≤ s.get Reg.ID_ARM_REV → s.placeMaq m = none →
          s.maqStatus at_ mask m = 0x16)
      ∧ (s.maqStatus at_ mask m = 0 → at_ ≠ 0 ∧ s.prog at_ = none ∧ s.upd = none))

/-- The block's step: with a command at the front of its queue, step is exec of that command on the state with the queue's rest; with none
waiting, time goes on by one tick. Every command completes: no command faults or is refused.
(The model's choices in it: log entry 14.) -/
def Obligations.StepRunsFrontCommand : Prop :=
  (∀ (c : Instr) (s : State) rest, step { s with pending := c :: rest } = exec c { s with pending := rest })
  ∧ (∀ s : State, s.pending = [] → ∃ t, step s = .next t)
  ∧ (∀ (c : Instr) (s : State), ∃ t, exec c s = .next t)

/-- R3, R4, R21, R163, R215, R250, R283, R311, R396, R457, R481, R505: what the state after reset holds: each register the value its table
gives, no queue, ring, voice or program in use, the cores at their reset values.
(The model's choices in it: log entries 1, 2, 3 and 4.) -/
def Obligations.ResetState : Prop :=
  let s := State.reset
  s.Inv
  ∧ (∀ f : Fld, s.get f = f.reset % 2 ^ f.w)
  ∧ (∀ e ∈ [(Reg.ID_PART, 0x5A000256), (Reg.ID_REV, 0xA0), (Reg.ID_IFVER_RING_MIN, 1), (Reg.ID_IFVER_RING_MAX, 3), (Reg.ID_IFVER_FAB_MIN, 1),
      (Reg.ID_IFVER_FAB_MAX, 2), (Reg.ID_IFVER_CTX_MIN, 2), (Reg.ID_IFVER_CTX_MAX, 3), (Reg.ID_IFVER_MAQ_MIN, 2), (Reg.ID_IFVER_MAQ_MAX, 2),
      (Reg.TB_CTRL_REF, 0), (Reg.TB_CTRL_MANUAL, 0), (Reg.TB_CTRL_BW, 1), (Reg.TB_CTRL_FS, 3), (Reg.TB_STAT_SERVO, 1), (Reg.AL_CTRL_CAST_EN, 1),
      (Reg.AL_CAP_CAPACITY, 256), (Reg.AL_CAP_AVAIL, 0xFFFF), (Reg.AL_STAT_USED, 0), (Reg.AL_SCH_CTRL_RUN, 0), (Reg.AL_SCH_CTRL_BLOCK, 1),
      (Reg.AL_SCH_CTRL_SLACK, 2), (Reg.AL_SCH_CTRL_SHED_EN, 1), (Reg.AL_SCH_CTRL_SHED_BATCH, 16), (Reg.AL_SCH_STAT_STATE, 0),
      (Reg.HI_CTRL_CP_EN, 1), (Reg.FSW_CTRL_EN, 1), (Reg.FSW_CTRL_ROOT_PRI, 0x80), (Reg.FSW_TIMING_REQ_TMO, 20), (Reg.FSW_TIMING_HELLO_MISS, 3),
      (Reg.AO_CTRL_MON_EN, 1), (Reg.AO_CLRPIN_EN, 0xFFFF), (Reg.MEM_CTRL_SCRUB_EN, 1), (Reg.MEM_CTRL_SCRUB_PERIOD, 24),
      (Reg.PWR_DOM_EN, 0x1FFFF), (Reg.PWR_CFG_TH_WARN, 100), (Reg.PWR_WAKE_CFG_WAKE_PIN, 1), (Reg.PWR_WAKE_CFG_FABRIC, 1), (Reg.PWR_RST_CAUSE_POR, 1),
      (Reg.ST_CTRL_PER_EN, 0), (Reg.ST_CTRL_CLASS_EN, 15), (Reg.ST_PERIOD_PERIOD, 100), (Reg.ST_PERIOD_BUDGET, 500), (Reg.ST_WAIT, 10),
      (Reg.ID_UPD_CFG_SERVE_EN, 1), (Reg.ID_UPD_CFG_DRAIN_MAX, 10), (Reg.ID_UPD_CFG_CONFIRM_TIME, 60)], s.get e.1 = e.2)
  ∧ (∀ n, n < 20 → s.chState n = 6) ∧ (∀ n, n < 16 → s.get (Reg.HI_RING_CFG_LOG2SIZE n) = 4 ∧ s.ringState n = 0 ∧ s.get (Reg.AO_CH_CFG_SLEW_STEP n) = 8192)
  ∧ (∀ n, n < 8 → s.get (Reg.EQ_Q_CFG_LOG2SIZE n) = 4 ∧ s.get (Reg.EQ_Q_MOD_MOD_COUNT n) = 1 ∧ s.get (Reg.TB_CMP_WIDTH n) = 100)
  ∧ (∀ n, n < 4 → s.get (Reg.FP_CTRL_EN n) = 1 ∧ s.get (Reg.UART_DIV n) = 6144 ∧ s.get (Reg.UART_RXD n) = 0x80000000 ∧ s.get (Reg.UART_DMX_CFG_BRK_TX n) = 176)
  ∧ (∀ n, n < 64 → s.get (Reg.AL_GRP_CFG0 n) = 0x148100 ∧ s.get (Reg.AL_GRP_CFG1 n) = 0x300000 ∧ s.get (Reg.MEM_WIN_LEN n) = 1)
  ∧ (∀ n, n < 48 → s.get (Reg.MEM_BANK_PWR n) = 2 ∧ s.get (Reg.MEM_BANK_STATE n) = 2)
  ∧ (∀ c, c < 20 → let k := s.core c
      k.pc = 0 ∧ k.bank = 0 ∧ k.ie = 0 ∧ k.ip = 0 ∧ k.epc = 0 ∧ k.ebank = 0 ∧ k.ecause = 0 ∧ k.vbase = 0 ∧ k.drb = 0 ∧ k.tmr = 0 ∧ k.tmrld = 0 ∧ k.sigsrc = 0
        ∧ k.cyc = 0 ∧ k.blk = 0 ∧ k.tier = 0 ∧ k.land = [] ∧ k.stores = [] ∧ (∀ a, k.dmem.byte a = 0)
        ∧ (∀ w, w < 8 → k.wmap.getD w 1 = 0) ∧ (∀ b i, b < 4 → k.reg b i = 0) ∧ ∀ b n, b < 4 → n < 7 → (k.bankOf b).bs.getD n 1 = 0)
  ∧ (∀ a, s.sram.byte a = 0 ∧ s.dram.byte a = 0)
  ∧ s.pending = [] ∧ s.hi.flights = [] ∧ s.sch.queue = [] ∧ (∀ v, (s.slot v).st = 0) ∧ ∀ n, s.prog n = none

/-- R257 to R261, the encoding whole: the fields of every format, at every value, reach the operation of their row; an opcode or a function
that no row lists raises ILLEGAL. -/
def Obligations.CoreEncoding : Prop :=
  ∀ (c : Nat) (d a b e : Fin 32) (z : BitVec 6) (imm : BitVec 16),
    (∀ p ∈ [(0x00, opAdd c d a b), (0x01, opSub c d a b), (0x02, opAnd c d a b), (0x03, opOr c d a b), (0x04, opXor c d a b), (0x05, opShl c d a b),
        (0x06, opShr c d a b), (0x07, opSar c d a b), (0x08, opShli c d a b), (0x09, opShri c d a b), (0x0A, opSari c d a b), (0x0B, opMin c d a b),
        (0x0C, opMax c d a b), (0x0D, opSlt c d a b), (0x0E, opSltu c d a b), (0x0F, opSeq c d a b), (0x10, opMul c d a b), (0x11, opMvag c d a b),
        (0x12, opMvga c d a b), (0x13, opClz c d a b)], coreWord c (wA 0x01 d a b p.1) = p.2)
  ∧ (∀ f, 0x14 ≤ f → f < 0x800 → coreWord c (wA 0x01 d a b f) = illegal)
  ∧ (∀ p ∈ [(0x02, opAddi c d a imm), (0x03, opAndi c d a imm), (0x04, opOri c d a imm), (0x05, opXori c d a imm), (0x06, opMovi c d a imm),
        (0x07, opMovih c d a imm), (0x16, opAdda c d a imm)], coreWord c (wI p.1 d a imm.toNat) = p.2)
  ∧ (∀ p ∈ [(0x00, opFadd c d a b), (0x01, opFsub c d a b), (0x02, opFmul c d a b), (0x03, opFmin c d a b), (0x04, opFmax c d a b), (0x05, opFabs c d a b),
        (0x06, opFneg c d a b), (0x07, opFslt c d a b), (0x08, opFseq c d a b), (0x09, opFtoi c d a b), (0x0A, opItof c d a b), (0x0B, opFtoq c d a b),
        (0x0C, opQtof c d a b), (0x0D, opFfloor c d a b), (0x0E, opFfrac c d a b), (0x10, opQadd c d a b), (0x11, opQsub c d a b), (0x12, opQmul c d a b),
        (0x20, opFrcp c d a b), (0x21, opFrsq c d a b), (0x22, opFexp2 c d a b), (0x23, opFlog2 c d a b), (0x24, opFsin2p c d a b), (0x25, opFtanp c d a b)],
        coreWord c (wA 0x18 d a b p.1) = p.2)
  ∧ (∀ f, f < 0x800 → f ∉ [0, 1, 2, 3, 4, 5, 6, 7, 8, 9, 10, 11, 12, 13, 14, 16, 17, 18, 32, 33, 34, 35, 36, 37] → coreWord c (wA 0x18 d a b f) = illegal)
  ∧ coreWord c (wF 0x19 d a b e z.toNat) = opFma c d a b e z ∧ coreWord c (wF 0x1A d a b e z.toNat) = opFms c d a b e z
  ∧ (∀ (ai : Fin 8) (mode : Fin 4) (circ : Fin 2) (slot : Fin 8) (off : BitVec 12),
      ∀ p ∈ [(0x10, opLd c d ai mode circ slot off), (0x11, opSt c d ai mode circ slot off), (0x12, opLdp c d ai mode circ slot off),
        (0x13, opStp c d ai mode circ slot off), (0x14, opLda c d ai mode circ slot off), (0x15, opSta c d ai mode circ slot off)],
        coreWord c (wM p.1 d ai mode circ slot off.toNat) = p.2)
  ∧ (∀ (k : Fin 4) (u : BitVec 8),
      (∀ p ∈ [(0, opMac c k a b u), (1, opMsu c k a b u), (2, opCmac c k a b u), (3, opCmsu c k a b u), (4, opCmul c k a b u), (5, opCmacj c k a b u),
        (6, opClra c k a b u), (7, opMvgacc c k a b u), (8, opMula c k a b u)], coreWord c (wX 0x20 k a b p.1 u.toNat) = p.2)
      ∧ ∀ f, 9 ≤ f → f < 64 → coreWord c (wX 0x20 k a b f u.toNat) = illegal)
  ∧ (∀ (k : Fin 4) (part : Fin 2) (sh : BitVec 4) (u : BitVec 14), coreWord c (wV 0x21 d k part sh.toNat u.toNat) = opMva c d k part sh u
      ∧ coreWord c (wV 0x22 d k part sh.toNat u.toNat) = opMvac c d k part sh u)
  ∧ (∀ (k : Fin 4) (ai aj : Fin 8) (dir : Fin 2) (u : BitVec 17), coreWord c (wT 0x24 k ai aj dir u.toNat) = opTap c k ai aj dir u
      ∧ coreWord c (wT 0x25 k ai aj dir u.toNat) = opCtap c k ai aj dir u)
  ∧ (∀ (cond : Fin 16) (u : Fin 2), coreWord c (wB 0x30 cond u a imm.toNat) = opB c cond u a imm ∧ coreWord c (wB 0x32 cond u a imm.toNat) = opCall c cond u a imm)
  ∧ (∀ r : Fin (2 ^ 16), coreWord c (0x31 * 2 ^ 26 + d * 2 ^ 21 + a * 2 ^ 16 + r) = opJmp c a)
  ∧ (∀ (level src : Fin 2) (len : BitVec 10) (cnt : BitVec 14), coreWord c (wL 0x33 level len.toNat src cnt.toNat) = opLoop c level len src cnt)
  ∧ (∀ n : Fin 64, ∀ p ∈ [(0x34, opSwb c d a n b e), (0x35, opMvs c d a n b e), (0x36, opMvt c d a n b e), (0x39, opSignal c d a n b e), (0x3A, opSetm c d a n b e)],
      coreWord c (wS p.1 d a n b e) = p.2)
  ∧ (∀ r : Fin (2 ^ 26), ∀ p ∈ [(0x00, opNop), (0x37, opReti c), (0x38, opWait c), (0x3E, opBrk c)], coreWord c (p.1 * 2 ^ 26 + r) = p.2)
  ∧ (∀ w, w < 2 ^ 32 → w / 2 ^ 26 ∉ [0, 1, 2, 3, 4, 5, 6, 7, 0x10, 0x11, 0x12, 0x13, 0x14, 0x15, 0x16, 0x18, 0x19, 0x1A, 0x20, 0x21, 0x22, 0x24, 0x25,
      0x30, 0x31, 0x32, 0x33, 0x34, 0x35, 0x36, 0x37, 0x38, 0x39, 0x3A, 0x3E] → coreWord c w = illegal)

/-- What every step keeps, from every state that meets it, whatever command waits: shared SRAM and DRAM keep their canonical form, every core its four
banks of 32 + 8 registers and four accumulators with one bank current, the module its counts of cores, queues, ports, groups, UARTs, buses
and channels; and the queue loses its front command and nothing else. -/
def Obligations.EveryStepKeepsInv : Prop :=
  ∀ s t : State, s.Inv → step s = .next t → t.Inv ∧ t.pending = s.pending.tail
end

