-- ==== Sys2Proof/Laws/Tbl.lean ====
section
/-!
SUPPORT. Sparse tables and memory: a read after a write, and the canonical form that every operation keeps.
-/
namespace Sys2Proof.Machine

variable {α : Type}

/-! ### Reads after writes -/

theorem Tbl.get_erase_self (d : α) (t : Tbl α) (k : Nat) : Tbl.get d (Tbl.erase t k) k = d := by
  induction t with
  | nil => rfl
  | cons e t ih =>
    obtain ⟨k', v⟩ := e
    by_cases h : k' = k <;> simp [Tbl.erase, Tbl.get, h, ih]

theorem Tbl.get_erase_ne (d : α) (t : Tbl α) {k k' : Nat} (h : k ≠ k') : Tbl.get d (Tbl.erase t k) k' = Tbl.get d t k' := by
  induction t with
  | nil => rfl
  | cons e t ih =>
    obtain ⟨j, v⟩ := e
    by_cases hj : j = k
    · subst hj; simp [Tbl.erase, Tbl.get, h, ih]
    · by_cases hk : j = k'
      · subst hk; simp [Tbl.erase, Tbl.get, hj]
      · simp [Tbl.erase, Tbl.get, hj, hk, ih]

theorem Tbl.get_insert_ne (d : α) (t : Tbl α) {k k' : Nat} (v : α) (h : k ≠ k') :
    Tbl.get d (Tbl.insert t k v) k' = Tbl.get d t k' := by
  induction t with
  | nil => simp [Tbl.insert, Tbl.get, h]
  | cons e t ih =>
    obtain ⟨j, w⟩ := e
    by_cases hj : k < j
    · simp [Tbl.insert, Tbl.get, hj, h]
    · by_cases hk : j = k'
      · subst hk; simp [Tbl.insert, Tbl.get, hj]
      · simp [Tbl.insert, Tbl.get, hj, hk, ih]

theorem Tbl.get_insert_erase (d : α) (t : Tbl α) (k : Nat) (v : α) : Tbl.get d (Tbl.insert (Tbl.erase t k) k v) k = v := by
  induction t with
  | nil => simp [Tbl.erase, Tbl.insert, Tbl.get]
  | cons e t ih =>
    obtain ⟨j, w⟩ := e
    by_cases hj : j = k
    · simp [Tbl.erase, hj, ih]
    · by_cases hk : k < j <;> simp [Tbl.erase, Tbl.insert, Tbl.get, hj, hk, ih]

/-- A key just written reads as written. -/
theorem Tbl.get_put_self [DecidableEq α] (d : α) (t : Tbl α) (k : Nat) (v : α) : Tbl.get d (Tbl.put d t k v) k = v := by
  unfold Tbl.put
  split
  · next h => rw [Tbl.get_erase_self, h]
  · exact Tbl.get_insert_erase d t k v

/-- A write leaves every other key alone, whatever an unlisted key reads as. -/
theorem Tbl.get_put_ne [DecidableEq α] (d d' : α) (t : Tbl α) {k k' : Nat} (v : α) (h : k ≠ k') :
    Tbl.get d' (Tbl.put d t k v) k' = Tbl.get d' t k' := by
  unfold Tbl.put
  split
  · exact Tbl.get_erase_ne d' t h
  · rw [Tbl.get_insert_ne d' _ v h, Tbl.get_erase_ne d' t h]

theorem Tbl.get_drop (d : α) (p : Nat → Bool) (t : Tbl α) (k : Nat) :
    Tbl.get d (Tbl.drop p t) k = if p k then d else Tbl.get d t k := by
  induction t with
  | nil => simp [Tbl.drop, Tbl.get]
  | cons e t ih =>
    obtain ⟨j, w⟩ := e
    simp only [Tbl.drop] at ih
    by_cases hj : j = k
    · subst hj
      cases hp : p j <;> simp [Tbl.drop, Tbl.get, List.filter, hp, ih]
    · cases hp : p j <;> simp [Tbl.drop, Tbl.get, List.filter, hp, hj, ih]

/-! ### The canonical form -/

theorem Tbl.wfFrom_mono [DecidableEq α] (d : α) {lo lo' : Nat} (t : Tbl α) (h : lo' ≤ lo) (w : Tbl.wfFrom d lo t = true) :
    Tbl.wfFrom d lo' t = true := by
  cases t with
  | nil => rfl
  | cons e t =>
    obtain ⟨j, v⟩ := e
    simp only [Tbl.wfFrom, Bool.and_eq_true, decide_eq_true_eq] at w ⊢
    exact ⟨⟨by omega, w.1.2⟩, w.2⟩

theorem Tbl.wfFrom_erase [DecidableEq α] (d : α) (lo : Nat) (t : Tbl α) (k : Nat) (w : Tbl.wfFrom d lo t = true) :
    Tbl.wfFrom d lo (Tbl.erase t k) = true := by
  induction t generalizing lo with
  | nil => rfl
  | cons e t ih =>
    obtain ⟨j, v⟩ := e
    simp only [Tbl.wfFrom, Bool.and_eq_true, decide_eq_true_eq] at w
    unfold Tbl.erase
    split
    · exact ih lo (Tbl.wfFrom_mono d t (by omega) w.2)
    · simp only [Tbl.wfFrom, Bool.and_eq_true, decide_eq_true_eq]
      exact ⟨w.1, ih _ w.2⟩

/-- No entry of a table has the key. -/
def Tbl.lacks (t : Tbl α) (k : Nat) : Prop := ∀ e ∈ t, e.1 ≠ k

theorem Tbl.lacks_erase (t : Tbl α) (k : Nat) : Tbl.lacks (Tbl.erase t k) k := by
  induction t with
  | nil => intro e h; cases h
  | cons e t ih =>
    obtain ⟨j, v⟩ := e
    unfold Tbl.erase
    split
    · exact ih
    · next hj =>
      intro x hx
      rcases List.mem_cons.mp hx with rfl | hx
      · exact hj
      · exact ih x hx

theorem Tbl.wfFrom_insert [DecidableEq α] (d : α) (lo : Nat) (t : Tbl α) (k : Nat) (v : α) (w : Tbl.wfFrom d lo t = true)
    (hk : lo ≤ k) (hv : v ≠ d) (hl : Tbl.lacks t k) : Tbl.wfFrom d lo (Tbl.insert t k v) = true := by
  induction t generalizing lo with
  | nil => simp [Tbl.insert, Tbl.wfFrom, hk, hv]
  | cons e t ih =>
    obtain ⟨j, x⟩ := e
    have hjk : j ≠ k := hl (j, x) (List.mem_cons_self ..)
    simp only [Tbl.wfFrom, Bool.and_eq_true, decide_eq_true_eq] at w
    unfold Tbl.insert
    split
    · next h =>
      simp only [Tbl.wfFrom, Bool.and_eq_true, decide_eq_true_eq]
      exact ⟨⟨hk, hv⟩, ⟨by omega, w.1.2⟩, w.2⟩
    · next h =>
      simp only [Tbl.wfFrom, Bool.and_eq_true, decide_eq_true_eq]
      exact ⟨w.1, ih _ w.2 (by omega) (fun e he => hl e (List.mem_cons_of_mem _ he))⟩

/-- A write keeps the canonical form. -/
theorem Tbl.wf_put [DecidableEq α] (d : α) (t : Tbl α) (k : Nat) (v : α) (w : Tbl.wf d t = true) : Tbl.wf d (Tbl.put d t k v) = true := by
  unfold Tbl.put
  split
  · exact Tbl.wfFrom_erase d 0 t k w
  · next hv => exact Tbl.wfFrom_insert d 0 _ k v (Tbl.wfFrom_erase d 0 t k w) (Nat.zero_le _) hv (Tbl.lacks_erase t k)

theorem Tbl.wfFrom_drop [DecidableEq α] (d : α) (lo : Nat) (p : Nat → Bool) (t : Tbl α) (w : Tbl.wfFrom d lo t = true) :
    Tbl.wfFrom d lo (Tbl.drop p t) = true := by
  induction t generalizing lo with
  | nil => rfl
  | cons e t ih =>
    obtain ⟨j, v⟩ := e
    simp only [Tbl.wfFrom, Bool.and_eq_true, decide_eq_true_eq] at w
    cases hp : p j
    · simp only [Tbl.drop, List.filter, hp, Bool.not_false, Tbl.wfFrom, Bool.and_eq_true, decide_eq_true_eq]
      exact ⟨w.1, ih _ w.2⟩
    · simp only [Tbl.drop, List.filter, hp, Bool.not_true]
      exact ih lo (Tbl.wfFrom_mono d t (by omega) w.2)

/-- Removing keys keeps the canonical form. -/
theorem Tbl.wf_drop [DecidableEq α] (d : α) (p : Nat → Bool) (t : Tbl α) (w : Tbl.wf d t = true) : Tbl.wf d (Tbl.drop p t) = true :=
  Tbl.wfFrom_drop d 0 p t w

/-! ### Memory -/

theorem Memory.byte_setByte_self (m : Memory) (a : Nat) (b : BitVec 8) : (m.setByte a b).byte a = b := Tbl.get_put_self 0 m a b

theorem Memory.byte_setByte_ne (m : Memory) {a a' : Nat} (b : BitVec 8) (h : a ≠ a') : (m.setByte a b).byte a' = m.byte a' :=
  Tbl.get_put_ne 0 0 m b h

/-- A byte outside a write is left alone. -/
theorem Memory.byte_setBytes_out (m : Memory) (a k : Nat) (l : List (BitVec 8)) (h : k < a ∨ a + l.length ≤ k) :
    (m.setBytes a l).byte k = m.byte k := by
  induction l generalizing m a with
  | nil => rfl
  | cons b l ih =>
    simp only [List.length_cons] at h
    rw [Memory.setBytes, ih (m.setByte a b) (a + 1) (by omega), Memory.byte_setByte_ne m b (by omega)]

/-- A byte within a write reads as written. -/
theorem Memory.byte_setBytes_in (m : Memory) (a i : Nat) (l : List (BitVec 8)) (h : i < l.length) :
    (m.setBytes a l).byte (a + i) = l[i] := by
  induction l generalizing m a i with
  | nil => simp at h
  | cons b l ih =>
    cases i with
    | zero => simp only [Memory.setBytes, Nat.add_zero, List.getElem_cons_zero]
              rw [Memory.byte_setBytes_out _ _ _ _ (by omega), Memory.byte_setByte_self]
    | succ i =>
      have := ih (m.setByte a b) (a + 1) i (by simpa using h)
      simp only [Memory.setBytes, List.getElem_cons_succ]
      rw [← this]; congr 1; omega

theorem Memory.byte_clear (m : Memory) (a n k : Nat) : (m.clear a n).byte k = if a ≤ k ∧ k < a + n then 0 else m.byte k := by
  simp [Memory.clear, Memory.byte, Tbl.get_drop]

theorem Memory.wf_setByte (m : Memory) (a : Nat) (b : BitVec 8) (w : m.wf = true) : (m.setByte a b).wf = true := Tbl.wf_put 0 m a b w

theorem Memory.wf_setBytes (m : Memory) (a : Nat) (l : List (BitVec 8)) (w : m.wf = true) : (m.setBytes a l).wf = true := by
  induction l generalizing m a with
  | nil => exact w
  | cons b l ih => exact ih _ _ (Memory.wf_setByte m a b w)

theorem Memory.wf_setNat (m : Memory) (a n v : Nat) (w : m.wf = true) : (m.setNat a n v).wf = true := Memory.wf_setBytes m a _ w

theorem Memory.wf_clear (m : Memory) (a n : Nat) (w : m.wf = true) : (m.clear a n).wf = true := Tbl.wf_drop 0 _ m w

theorem Memory.bytes_length (m : Memory) (a n : Nat) : (m.bytes a n).length = n := by
  induction n generalizing a with
  | zero => rfl
  | succ n ih => simp [Memory.bytes, ih]

/-- Bytes that agree read as one list. -/
theorem Memory.bytes_congr (m m' : Memory) (a n : Nat) (h : ∀ i, i < n → m.byte (a + i) = m'.byte (a + i)) : m.bytes a n = m'.bytes a n := by
  induction n generalizing a with
  | zero => rfl
  | succ n ih =>
    have h0 := h 0 (by omega)
    simp only [Nat.add_zero] at h0
    rw [Memory.bytes, Memory.bytes, h0, ih (a + 1) (fun i hi => by have := h (i + 1) (by omega); rwa [Nat.add_assoc, Nat.add_comm 1 i])]

/-- A read of what was just written. -/
theorem Memory.bytes_setBytes (m : Memory) (a : Nat) (l : List (BitVec 8)) : (m.setBytes a l).bytes a l.length = l := by
  induction l generalizing m a with
  | nil => rfl
  | cons b l ih =>
    simp only [List.length_cons, Memory.bytes, Memory.setBytes, ih]
    rw [Memory.byte_setBytes_out _ _ _ _ (by omega), Memory.byte_setByte_self]

theorem leBytes_length (n v : Nat) : (leBytes n v).length = n := by
  induction n generalizing v with
  | zero => rfl
  | succ n ih => simp [leBytes, ih]

theorem leNat_leBytes (n v : Nat) : leNat (leBytes n v) = v % 256 ^ n := by
  induction n generalizing v with
  | zero => simp [leBytes, leNat, Nat.mod_one]
  | succ n ih =>
    simp only [leBytes, leNat, ih, BitVec.toNat_ofNat]
    have h : 256 ^ (n + 1) = 256 * 256 ^ n := by rw [Nat.pow_succ, Nat.mul_comm]
    rw [h, Nat.mod_mul]

/-- A number just written reads back, held to its bytes. -/
theorem Memory.nat_setNat (m : Memory) (a n v : Nat) : (m.setNat a n v).nat a n = v % 256 ^ n := by
  unfold Memory.nat Memory.setNat
  have := Memory.bytes_setBytes m a (leBytes n v)
  rw [leBytes_length] at this
  rw [this, leNat_leBytes]

end Sys2Proof.Machine
end

