-- ==== Sys2Proof/Laws/State.lean ====
section
/-!
SUPPORT. What each update of one field leaves alone: one lemma for each other field; and what a register field reads after it.
-/
namespace Sys2Proof.Machine

/-! ### put -/

@[simp] theorem State.put_pending (s : State) (f : Fld) (v : Nat) : (s.put f v).pending = s.pending := rfl
@[simp] theorem State.put_shadows (s : State) (f : Fld) (v : Nat) : (s.put f v).shadows = s.shadows := rfl
@[simp] theorem State.put_rdata (s : State) (f : Fld) (v : Nat) : (s.put f v).rdata = s.rdata := rfl
@[simp] theorem State.put_out (s : State) (f : Fld) (v : Nat) : (s.put f v).out = s.out := rfl
@[simp] theorem State.put_fresh (s : State) (f : Fld) (v : Nat) : (s.put f v).fresh = s.fresh := rfl
@[simp] theorem State.put_tb (s : State) (f : Fld) (v : Nat) : (s.put f v).tb = s.tb := rfl
@[simp] theorem State.put_eq (s : State) (f : Fld) (v : Nat) : (s.put f v).eq = s.eq := rfl
@[simp] theorem State.put_pcieHeld (s : State) (f : Fld) (v : Nat) : (s.put f v).pcieHeld = s.pcieHeld := rfl
@[simp] theorem State.put_pcieHold (s : State) (f : Fld) (v : Nat) : (s.put f v).pcieHold = s.pcieHold := rfl
@[simp] theorem State.put_hi (s : State) (f : Fld) (v : Nat) : (s.put f v).hi = s.hi := rfl
@[simp] theorem State.put_sch (s : State) (f : Fld) (v : Nat) : (s.put f v).sch = s.sch := rfl
@[simp] theorem State.put_al (s : State) (f : Fld) (v : Nat) : (s.put f v).al = s.al := rfl
@[simp] theorem State.put_progs (s : State) (f : Fld) (v : Nat) : (s.put f v).progs = s.progs := rfl
@[simp] theorem State.put_loads (s : State) (f : Fld) (v : Nat) : (s.put f v).loads = s.loads := rfl
@[simp] theorem State.put_sw (s : State) (f : Fld) (v : Nat) : (s.put f v).sw = s.sw := rfl
@[simp] theorem State.put_sv (s : State) (f : Fld) (v : Nat) : (s.put f v).sv = s.sv := rfl
@[simp] theorem State.put_sram (s : State) (f : Fld) (v : Nat) : (s.put f v).sram = s.sram := rfl
@[simp] theorem State.put_dram (s : State) (f : Fld) (v : Nat) : (s.put f v).dram = s.dram := rfl
@[simp] theorem State.put_cores (s : State) (f : Fld) (v : Nat) : (s.put f v).cores = s.cores := rfl
@[simp] theorem State.put_fw0 (s : State) (f : Fld) (v : Nat) : (s.put f v).fw0 = s.fw0 := rfl
@[simp] theorem State.put_life (s : State) (f : Fld) (v : Nat) : (s.put f v).life = s.life := rfl
@[simp] theorem State.put_boot (s : State) (f : Fld) (v : Nat) : (s.put f v).boot = s.boot := rfl
@[simp] theorem State.put_upd (s : State) (f : Fld) (v : Nat) : (s.put f v).upd = s.upd := rfl
@[simp] theorem State.put_ser (s : State) (f : Fld) (v : Nat) : (s.put f v).ser = s.ser := rfl
@[simp] theorem State.put_mix (s : State) (f : Fld) (v : Nat) : (s.put f v).mix = s.mix := rfl
@[simp] theorem State.put_ms (s : State) (f : Fld) (v : Nat) : (s.put f v).ms = s.ms := rfl
@[simp] theorem State.put_ao (s : State) (f : Fld) (v : Nat) : (s.put f v).ao = s.ao := rfl
@[simp] theorem State.put_st (s : State) (f : Fld) (v : Nat) : (s.put f v).st = s.st := rfl
@[simp] theorem State.put_pw (s : State) (f : Fld) (v : Nat) : (s.put f v).pw = s.pw := rfl

/-! ### set1 -/

@[simp] theorem State.set1_pending (s : State) (f : Fld) : (s.set1 f).pending = s.pending := rfl
@[simp] theorem State.set1_shadows (s : State) (f : Fld) : (s.set1 f).shadows = s.shadows := rfl
@[simp] theorem State.set1_rdata (s : State) (f : Fld) : (s.set1 f).rdata = s.rdata := rfl
@[simp] theorem State.set1_out (s : State) (f : Fld) : (s.set1 f).out = s.out := rfl
@[simp] theorem State.set1_fresh (s : State) (f : Fld) : (s.set1 f).fresh = s.fresh := rfl
@[simp] theorem State.set1_tb (s : State) (f : Fld) : (s.set1 f).tb = s.tb := rfl
@[simp] theorem State.set1_eq (s : State) (f : Fld) : (s.set1 f).eq = s.eq := rfl
@[simp] theorem State.set1_pcieHeld (s : State) (f : Fld) : (s.set1 f).pcieHeld = s.pcieHeld := rfl
@[simp] theorem State.set1_pcieHold (s : State) (f : Fld) : (s.set1 f).pcieHold = s.pcieHold := rfl
@[simp] theorem State.set1_hi (s : State) (f : Fld) : (s.set1 f).hi = s.hi := rfl
@[simp] theorem State.set1_sch (s : State) (f : Fld) : (s.set1 f).sch = s.sch := rfl
@[simp] theorem State.set1_al (s : State) (f : Fld) : (s.set1 f).al = s.al := rfl
@[simp] theorem State.set1_progs (s : State) (f : Fld) : (s.set1 f).progs = s.progs := rfl
@[simp] theorem State.set1_loads (s : State) (f : Fld) : (s.set1 f).loads = s.loads := rfl
@[simp] theorem State.set1_sw (s : State) (f : Fld) : (s.set1 f).sw = s.sw := rfl
@[simp] theorem State.set1_sv (s : State) (f : Fld) : (s.set1 f).sv = s.sv := rfl
@[simp] theorem State.set1_sram (s : State) (f : Fld) : (s.set1 f).sram = s.sram := rfl
@[simp] theorem State.set1_dram (s : State) (f : Fld) : (s.set1 f).dram = s.dram := rfl
@[simp] theorem State.set1_cores (s : State) (f : Fld) : (s.set1 f).cores = s.cores := rfl
@[simp] theorem State.set1_fw0 (s : State) (f : Fld) : (s.set1 f).fw0 = s.fw0 := rfl
@[simp] theorem State.set1_life (s : State) (f : Fld) : (s.set1 f).life = s.life := rfl
@[simp] theorem State.set1_boot (s : State) (f : Fld) : (s.set1 f).boot = s.boot := rfl
@[simp] theorem State.set1_upd (s : State) (f : Fld) : (s.set1 f).upd = s.upd := rfl
@[simp] theorem State.set1_ser (s : State) (f : Fld) : (s.set1 f).ser = s.ser := rfl
@[simp] theorem State.set1_mix (s : State) (f : Fld) : (s.set1 f).mix = s.mix := rfl
@[simp] theorem State.set1_ms (s : State) (f : Fld) : (s.set1 f).ms = s.ms := rfl
@[simp] theorem State.set1_ao (s : State) (f : Fld) : (s.set1 f).ao = s.ao := rfl
@[simp] theorem State.set1_st (s : State) (f : Fld) : (s.set1 f).st = s.st := rfl
@[simp] theorem State.set1_pw (s : State) (f : Fld) : (s.set1 f).pw = s.pw := rfl

/-! ### count -/

@[simp] theorem State.count_pending (s : State) (f : Fld) (n : Nat) : (s.count f n).pending = s.pending := rfl
@[simp] theorem State.count_shadows (s : State) (f : Fld) (n : Nat) : (s.count f n).shadows = s.shadows := rfl
@[simp] theorem State.count_rdata (s : State) (f : Fld) (n : Nat) : (s.count f n).rdata = s.rdata := rfl
@[simp] theorem State.count_out (s : State) (f : Fld) (n : Nat) : (s.count f n).out = s.out := rfl
@[simp] theorem State.count_fresh (s : State) (f : Fld) (n : Nat) : (s.count f n).fresh = s.fresh := rfl
@[simp] theorem State.count_tb (s : State) (f : Fld) (n : Nat) : (s.count f n).tb = s.tb := rfl
@[simp] theorem State.count_eq (s : State) (f : Fld) (n : Nat) : (s.count f n).eq = s.eq := rfl
@[simp] theorem State.count_pcieHeld (s : State) (f : Fld) (n : Nat) : (s.count f n).pcieHeld = s.pcieHeld := rfl
@[simp] theorem State.count_pcieHold (s : State) (f : Fld) (n : Nat) : (s.count f n).pcieHold = s.pcieHold := rfl
@[simp] theorem State.count_hi (s : State) (f : Fld) (n : Nat) : (s.count f n).hi = s.hi := rfl
@[simp] theorem State.count_sch (s : State) (f : Fld) (n : Nat) : (s.count f n).sch = s.sch := rfl
@[simp] theorem State.count_al (s : State) (f : Fld) (n : Nat) : (s.count f n).al = s.al := rfl
@[simp] theorem State.count_progs (s : State) (f : Fld) (n : Nat) : (s.count f n).progs = s.progs := rfl
@[simp] theorem State.count_loads (s : State) (f : Fld) (n : Nat) : (s.count f n).loads = s.loads := rfl
@[simp] theorem State.count_sw (s : State) (f : Fld) (n : Nat) : (s.count f n).sw = s.sw := rfl
@[simp] theorem State.count_sv (s : State) (f : Fld) (n : Nat) : (s.count f n).sv = s.sv := rfl
@[simp] theorem State.count_sram (s : State) (f : Fld) (n : Nat) : (s.count f n).sram = s.sram := rfl
@[simp] theorem State.count_dram (s : State) (f : Fld) (n : Nat) : (s.count f n).dram = s.dram := rfl
@[simp] theorem State.count_cores (s : State) (f : Fld) (n : Nat) : (s.count f n).cores = s.cores := rfl
@[simp] theorem State.count_fw0 (s : State) (f : Fld) (n : Nat) : (s.count f n).fw0 = s.fw0 := rfl
@[simp] theorem State.count_life (s : State) (f : Fld) (n : Nat) : (s.count f n).life = s.life := rfl
@[simp] theorem State.count_boot (s : State) (f : Fld) (n : Nat) : (s.count f n).boot = s.boot := rfl
@[simp] theorem State.count_upd (s : State) (f : Fld) (n : Nat) : (s.count f n).upd = s.upd := rfl
@[simp] theorem State.count_ser (s : State) (f : Fld) (n : Nat) : (s.count f n).ser = s.ser := rfl
@[simp] theorem State.count_mix (s : State) (f : Fld) (n : Nat) : (s.count f n).mix = s.mix := rfl
@[simp] theorem State.count_ms (s : State) (f : Fld) (n : Nat) : (s.count f n).ms = s.ms := rfl
@[simp] theorem State.count_ao (s : State) (f : Fld) (n : Nat) : (s.count f n).ao = s.ao := rfl
@[simp] theorem State.count_st (s : State) (f : Fld) (n : Nat) : (s.count f n).st = s.st := rfl
@[simp] theorem State.count_pw (s : State) (f : Fld) (n : Nat) : (s.count f n).pw = s.pw := rfl

/-! ### countSat -/

@[simp] theorem State.countSat_pending (s : State) (f : Fld) (n : Nat) : (s.countSat f n).pending = s.pending := rfl
@[simp] theorem State.countSat_shadows (s : State) (f : Fld) (n : Nat) : (s.countSat f n).shadows = s.shadows := rfl
@[simp] theorem State.countSat_rdata (s : State) (f : Fld) (n : Nat) : (s.countSat f n).rdata = s.rdata := rfl
@[simp] theorem State.countSat_out (s : State) (f : Fld) (n : Nat) : (s.countSat f n).out = s.out := rfl
@[simp] theorem State.countSat_fresh (s : State) (f : Fld) (n : Nat) : (s.countSat f n).fresh = s.fresh := rfl
@[simp] theorem State.countSat_tb (s : State) (f : Fld) (n : Nat) : (s.countSat f n).tb = s.tb := rfl
@[simp] theorem State.countSat_eq (s : State) (f : Fld) (n : Nat) : (s.countSat f n).eq = s.eq := rfl
@[simp] theorem State.countSat_pcieHeld (s : State) (f : Fld) (n : Nat) : (s.countSat f n).pcieHeld = s.pcieHeld := rfl
@[simp] theorem State.countSat_pcieHold (s : State) (f : Fld) (n : Nat) : (s.countSat f n).pcieHold = s.pcieHold := rfl
@[simp] theorem State.countSat_hi (s : State) (f : Fld) (n : Nat) : (s.countSat f n).hi = s.hi := rfl
@[simp] theorem State.countSat_sch (s : State) (f : Fld) (n : Nat) : (s.countSat f n).sch = s.sch := rfl
@[simp] theorem State.countSat_al (s : State) (f : Fld) (n : Nat) : (s.countSat f n).al = s.al := rfl
@[simp] theorem State.countSat_progs (s : State) (f : Fld) (n : Nat) : (s.countSat f n).progs = s.progs := rfl
@[simp] theorem State.countSat_loads (s : State) (f : Fld) (n : Nat) : (s.countSat f n).loads = s.loads := rfl
@[simp] theorem State.countSat_sw (s : State) (f : Fld) (n : Nat) : (s.countSat f n).sw = s.sw := rfl
@[simp] theorem State.countSat_sv (s : State) (f : Fld) (n : Nat) : (s.countSat f n).sv = s.sv := rfl
@[simp] theorem State.countSat_sram (s : State) (f : Fld) (n : Nat) : (s.countSat f n).sram = s.sram := rfl
@[simp] theorem State.countSat_dram (s : State) (f : Fld) (n : Nat) : (s.countSat f n).dram = s.dram := rfl
@[simp] theorem State.countSat_cores (s : State) (f : Fld) (n : Nat) : (s.countSat f n).cores = s.cores := rfl
@[simp] theorem State.countSat_fw0 (s : State) (f : Fld) (n : Nat) : (s.countSat f n).fw0 = s.fw0 := rfl
@[simp] theorem State.countSat_life (s : State) (f : Fld) (n : Nat) : (s.countSat f n).life = s.life := rfl
@[simp] theorem State.countSat_boot (s : State) (f : Fld) (n : Nat) : (s.countSat f n).boot = s.boot := rfl
@[simp] theorem State.countSat_upd (s : State) (f : Fld) (n : Nat) : (s.countSat f n).upd = s.upd := rfl
@[simp] theorem State.countSat_ser (s : State) (f : Fld) (n : Nat) : (s.countSat f n).ser = s.ser := rfl
@[simp] theorem State.countSat_mix (s : State) (f : Fld) (n : Nat) : (s.countSat f n).mix = s.mix := rfl
@[simp] theorem State.countSat_ms (s : State) (f : Fld) (n : Nat) : (s.countSat f n).ms = s.ms := rfl
@[simp] theorem State.countSat_ao (s : State) (f : Fld) (n : Nat) : (s.countSat f n).ao = s.ao := rfl
@[simp] theorem State.countSat_st (s : State) (f : Fld) (n : Nat) : (s.countSat f n).st = s.st := rfl
@[simp] theorem State.countSat_pw (s : State) (f : Fld) (n : Nat) : (s.countSat f n).pw = s.pw := rfl

/-! ### put64 -/

@[simp] theorem State.put64_pending (s : State) (f g : Fld) (v : Nat) : (s.put64 f g v).pending = s.pending := rfl
@[simp] theorem State.put64_shadows (s : State) (f g : Fld) (v : Nat) : (s.put64 f g v).shadows = s.shadows := rfl
@[simp] theorem State.put64_rdata (s : State) (f g : Fld) (v : Nat) : (s.put64 f g v).rdata = s.rdata := rfl
@[simp] theorem State.put64_out (s : State) (f g : Fld) (v : Nat) : (s.put64 f g v).out = s.out := rfl
@[simp] theorem State.put64_fresh (s : State) (f g : Fld) (v : Nat) : (s.put64 f g v).fresh = s.fresh := rfl
@[simp] theorem State.put64_tb (s : State) (f g : Fld) (v : Nat) : (s.put64 f g v).tb = s.tb := rfl
@[simp] theorem State.put64_eq (s : State) (f g : Fld) (v : Nat) : (s.put64 f g v).eq = s.eq := rfl
@[simp] theorem State.put64_pcieHeld (s : State) (f g : Fld) (v : Nat) : (s.put64 f g v).pcieHeld = s.pcieHeld := rfl
@[simp] theorem State.put64_pcieHold (s : State) (f g : Fld) (v : Nat) : (s.put64 f g v).pcieHold = s.pcieHold := rfl
@[simp] theorem State.put64_hi (s : State) (f g : Fld) (v : Nat) : (s.put64 f g v).hi = s.hi := rfl
@[simp] theorem State.put64_sch (s : State) (f g : Fld) (v : Nat) : (s.put64 f g v).sch = s.sch := rfl
@[simp] theorem State.put64_al (s : State) (f g : Fld) (v : Nat) : (s.put64 f g v).al = s.al := rfl
@[simp] theorem State.put64_progs (s : State) (f g : Fld) (v : Nat) : (s.put64 f g v).progs = s.progs := rfl
@[simp] theorem State.put64_loads (s : State) (f g : Fld) (v : Nat) : (s.put64 f g v).loads = s.loads := rfl
@[simp] theorem State.put64_sw (s : State) (f g : Fld) (v : Nat) : (s.put64 f g v).sw = s.sw := rfl
@[simp] theorem State.put64_sv (s : State) (f g : Fld) (v : Nat) : (s.put64 f g v).sv = s.sv := rfl
@[simp] theorem State.put64_sram (s : State) (f g : Fld) (v : Nat) : (s.put64 f g v).sram = s.sram := rfl
@[simp] theorem State.put64_dram (s : State) (f g : Fld) (v : Nat) : (s.put64 f g v).dram = s.dram := rfl
@[simp] theorem State.put64_cores (s : State) (f g : Fld) (v : Nat) : (s.put64 f g v).cores = s.cores := rfl
@[simp] theorem State.put64_fw0 (s : State) (f g : Fld) (v : Nat) : (s.put64 f g v).fw0 = s.fw0 := rfl
@[simp] theorem State.put64_life (s : State) (f g : Fld) (v : Nat) : (s.put64 f g v).life = s.life := rfl
@[simp] theorem State.put64_boot (s : State) (f g : Fld) (v : Nat) : (s.put64 f g v).boot = s.boot := rfl
@[simp] theorem State.put64_upd (s : State) (f g : Fld) (v : Nat) : (s.put64 f g v).upd = s.upd := rfl
@[simp] theorem State.put64_ser (s : State) (f g : Fld) (v : Nat) : (s.put64 f g v).ser = s.ser := rfl
@[simp] theorem State.put64_mix (s : State) (f g : Fld) (v : Nat) : (s.put64 f g v).mix = s.mix := rfl
@[simp] theorem State.put64_ms (s : State) (f g : Fld) (v : Nat) : (s.put64 f g v).ms = s.ms := rfl
@[simp] theorem State.put64_ao (s : State) (f g : Fld) (v : Nat) : (s.put64 f g v).ao = s.ao := rfl
@[simp] theorem State.put64_st (s : State) (f g : Fld) (v : Nat) : (s.put64 f g v).st = s.st := rfl
@[simp] theorem State.put64_pw (s : State) (f g : Fld) (v : Nat) : (s.put64 f g v).pw = s.pw := rfl

/-! ### emit -/

@[simp] theorem State.emit_pending (s : State) (o : Out) : (s.emit o).pending = s.pending := rfl
@[simp] theorem State.emit_regs (s : State) (o : Out) : (s.emit o).regs = s.regs := rfl
@[simp] theorem State.emit_shadows (s : State) (o : Out) : (s.emit o).shadows = s.shadows := rfl
@[simp] theorem State.emit_rdata (s : State) (o : Out) : (s.emit o).rdata = s.rdata := rfl
@[simp] theorem State.emit_fresh (s : State) (o : Out) : (s.emit o).fresh = s.fresh := rfl
@[simp] theorem State.emit_tb (s : State) (o : Out) : (s.emit o).tb = s.tb := rfl
@[simp] theorem State.emit_eq (s : State) (o : Out) : (s.emit o).eq = s.eq := rfl
@[simp] theorem State.emit_pcieHeld (s : State) (o : Out) : (s.emit o).pcieHeld = s.pcieHeld := rfl
@[simp] theorem State.emit_pcieHold (s : State) (o : Out) : (s.emit o).pcieHold = s.pcieHold := rfl
@[simp] theorem State.emit_hi (s : State) (o : Out) : (s.emit o).hi = s.hi := rfl
@[simp] theorem State.emit_sch (s : State) (o : Out) : (s.emit o).sch = s.sch := rfl
@[simp] theorem State.emit_al (s : State) (o : Out) : (s.emit o).al = s.al := rfl
@[simp] theorem State.emit_progs (s : State) (o : Out) : (s.emit o).progs = s.progs := rfl
@[simp] theorem State.emit_loads (s : State) (o : Out) : (s.emit o).loads = s.loads := rfl
@[simp] theorem State.emit_sw (s : State) (o : Out) : (s.emit o).sw = s.sw := rfl
@[simp] theorem State.emit_sv (s : State) (o : Out) : (s.emit o).sv = s.sv := rfl
@[simp] theorem State.emit_sram (s : State) (o : Out) : (s.emit o).sram = s.sram := rfl
@[simp] theorem State.emit_dram (s : State) (o : Out) : (s.emit o).dram = s.dram := rfl
@[simp] theorem State.emit_cores (s : State) (o : Out) : (s.emit o).cores = s.cores := rfl
@[simp] theorem State.emit_fw0 (s : State) (o : Out) : (s.emit o).fw0 = s.fw0 := rfl
@[simp] theorem State.emit_life (s : State) (o : Out) : (s.emit o).life = s.life := rfl
@[simp] theorem State.emit_boot (s : State) (o : Out) : (s.emit o).boot = s.boot := rfl
@[simp] theorem State.emit_upd (s : State) (o : Out) : (s.emit o).upd = s.upd := rfl
@[simp] theorem State.emit_ser (s : State) (o : Out) : (s.emit o).ser = s.ser := rfl
@[simp] theorem State.emit_mix (s : State) (o : Out) : (s.emit o).mix = s.mix := rfl
@[simp] theorem State.emit_ms (s : State) (o : Out) : (s.emit o).ms = s.ms := rfl
@[simp] theorem State.emit_ao (s : State) (o : Out) : (s.emit o).ao = s.ao := rfl
@[simp] theorem State.emit_st (s : State) (o : Out) : (s.emit o).st = s.st := rfl
@[simp] theorem State.emit_pw (s : State) (o : Out) : (s.emit o).pw = s.pw := rfl
@[simp] theorem State.emit_get (s : State) (o : Out) (r : Fld) : (s.emit o).get r = s.get r := rfl

/-! ### answer -/

@[simp] theorem State.answer_pending (s : State) (v : Nat) : (s.answer v).pending = s.pending := rfl
@[simp] theorem State.answer_regs (s : State) (v : Nat) : (s.answer v).regs = s.regs := rfl
@[simp] theorem State.answer_shadows (s : State) (v : Nat) : (s.answer v).shadows = s.shadows := rfl
@[simp] theorem State.answer_out (s : State) (v : Nat) : (s.answer v).out = s.out := rfl
@[simp] theorem State.answer_fresh (s : State) (v : Nat) : (s.answer v).fresh = s.fresh := rfl
@[simp] theorem State.answer_tb (s : State) (v : Nat) : (s.answer v).tb = s.tb := rfl
@[simp] theorem State.answer_eq (s : State) (v : Nat) : (s.answer v).eq = s.eq := rfl
@[simp] theorem State.answer_pcieHeld (s : State) (v : Nat) : (s.answer v).pcieHeld = s.pcieHeld := rfl
@[simp] theorem State.answer_pcieHold (s : State) (v : Nat) : (s.answer v).pcieHold = s.pcieHold := rfl
@[simp] theorem State.answer_hi (s : State) (v : Nat) : (s.answer v).hi = s.hi := rfl
@[simp] theorem State.answer_sch (s : State) (v : Nat) : (s.answer v).sch = s.sch := rfl
@[simp] theorem State.answer_al (s : State) (v : Nat) : (s.answer v).al = s.al := rfl
@[simp] theorem State.answer_progs (s : State) (v : Nat) : (s.answer v).progs = s.progs := rfl
@[simp] theorem State.answer_loads (s : State) (v : Nat) : (s.answer v).loads = s.loads := rfl
@[simp] theorem State.answer_sw (s : State) (v : Nat) : (s.answer v).sw = s.sw := rfl
@[simp] theorem State.answer_sv (s : State) (v : Nat) : (s.answer v).sv = s.sv := rfl
@[simp] theorem State.answer_sram (s : State) (v : Nat) : (s.answer v).sram = s.sram := rfl
@[simp] theorem State.answer_dram (s : State) (v : Nat) : (s.answer v).dram = s.dram := rfl
@[simp] theorem State.answer_cores (s : State) (v : Nat) : (s.answer v).cores = s.cores := rfl
@[simp] theorem State.answer_fw0 (s : State) (v : Nat) : (s.answer v).fw0 = s.fw0 := rfl
@[simp] theorem State.answer_life (s : State) (v : Nat) : (s.answer v).life = s.life := rfl
@[simp] theorem State.answer_boot (s : State) (v : Nat) : (s.answer v).boot = s.boot := rfl
@[simp] theorem State.answer_upd (s : State) (v : Nat) : (s.answer v).upd = s.upd := rfl
@[simp] theorem State.answer_ser (s : State) (v : Nat) : (s.answer v).ser = s.ser := rfl
@[simp] theorem State.answer_mix (s : State) (v : Nat) : (s.answer v).mix = s.mix := rfl
@[simp] theorem State.answer_ms (s : State) (v : Nat) : (s.answer v).ms = s.ms := rfl
@[simp] theorem State.answer_ao (s : State) (v : Nat) : (s.answer v).ao = s.ao := rfl
@[simp] theorem State.answer_st (s : State) (v : Nat) : (s.answer v).st = s.st := rfl
@[simp] theorem State.answer_pw (s : State) (v : Nat) : (s.answer v).pw = s.pw := rfl
@[simp] theorem State.answer_get (s : State) (v : Nat) (r : Fld) : (s.answer v).get r = s.get r := rfl

/-! ### latch -/

@[simp] theorem State.latch_pending (s : State) (o v : Nat) : (s.latch o v).pending = s.pending := rfl
@[simp] theorem State.latch_regs (s : State) (o v : Nat) : (s.latch o v).regs = s.regs := rfl
@[simp] theorem State.latch_rdata (s : State) (o v : Nat) : (s.latch o v).rdata = s.rdata := rfl
@[simp] theorem State.latch_out (s : State) (o v : Nat) : (s.latch o v).out = s.out := rfl
@[simp] theorem State.latch_fresh (s : State) (o v : Nat) : (s.latch o v).fresh = s.fresh := rfl
@[simp] theorem State.latch_tb (s : State) (o v : Nat) : (s.latch o v).tb = s.tb := rfl
@[simp] theorem State.latch_eq (s : State) (o v : Nat) : (s.latch o v).eq = s.eq := rfl
@[simp] theorem State.latch_pcieHeld (s : State) (o v : Nat) : (s.latch o v).pcieHeld = s.pcieHeld := rfl
@[simp] theorem State.latch_pcieHold (s : State) (o v : Nat) : (s.latch o v).pcieHold = s.pcieHold := rfl
@[simp] theorem State.latch_hi (s : State) (o v : Nat) : (s.latch o v).hi = s.hi := rfl
@[simp] theorem State.latch_sch (s : State) (o v : Nat) : (s.latch o v).sch = s.sch := rfl
@[simp] theorem State.latch_al (s : State) (o v : Nat) : (s.latch o v).al = s.al := rfl
@[simp] theorem State.latch_progs (s : State) (o v : Nat) : (s.latch o v).progs = s.progs := rfl
@[simp] theorem State.latch_loads (s : State) (o v : Nat) : (s.latch o v).loads = s.loads := rfl
@[simp] theorem State.latch_sw (s : State) (o v : Nat) : (s.latch o v).sw = s.sw := rfl
@[simp] theorem State.latch_sv (s : State) (o v : Nat) : (s.latch o v).sv = s.sv := rfl
@[simp] theorem State.latch_sram (s : State) (o v : Nat) : (s.latch o v).sram = s.sram := rfl
@[simp] theorem State.latch_dram (s : State) (o v : Nat) : (s.latch o v).dram = s.dram := rfl
@[simp] theorem State.latch_cores (s : State) (o v : Nat) : (s.latch o v).cores = s.cores := rfl
@[simp] theorem State.latch_fw0 (s : State) (o v : Nat) : (s.latch o v).fw0 = s.fw0 := rfl
@[simp] theorem State.latch_life (s : State) (o v : Nat) : (s.latch o v).life = s.life := rfl
@[simp] theorem State.latch_boot (s : State) (o v : Nat) : (s.latch o v).boot = s.boot := rfl
@[simp] theorem State.latch_upd (s : State) (o v : Nat) : (s.latch o v).upd = s.upd := rfl
@[simp] theorem State.latch_ser (s : State) (o v : Nat) : (s.latch o v).ser = s.ser := rfl
@[simp] theorem State.latch_mix (s : State) (o v : Nat) : (s.latch o v).mix = s.mix := rfl
@[simp] theorem State.latch_ms (s : State) (o v : Nat) : (s.latch o v).ms = s.ms := rfl
@[simp] theorem State.latch_ao (s : State) (o v : Nat) : (s.latch o v).ao = s.ao := rfl
@[simp] theorem State.latch_st (s : State) (o v : Nat) : (s.latch o v).st = s.st := rfl
@[simp] theorem State.latch_pw (s : State) (o v : Nat) : (s.latch o v).pw = s.pw := rfl
@[simp] theorem State.latch_get (s : State) (o v : Nat) (r : Fld) : (s.latch o v).get r = s.get r := rfl

/-! ### setSw -/

@[simp] theorem State.setSw_pending (s : State) (f : Switch → Switch) : (s.setSw f).pending = s.pending := rfl
@[simp] theorem State.setSw_regs (s : State) (f : Switch → Switch) : (s.setSw f).regs = s.regs := rfl
@[simp] theorem State.setSw_shadows (s : State) (f : Switch → Switch) : (s.setSw f).shadows = s.shadows := rfl
@[simp] theorem State.setSw_rdata (s : State) (f : Switch → Switch) : (s.setSw f).rdata = s.rdata := rfl
@[simp] theorem State.setSw_out (s : State) (f : Switch → Switch) : (s.setSw f).out = s.out := rfl
@[simp] theorem State.setSw_fresh (s : State) (f : Switch → Switch) : (s.setSw f).fresh = s.fresh := rfl
@[simp] theorem State.setSw_tb (s : State) (f : Switch → Switch) : (s.setSw f).tb = s.tb := rfl
@[simp] theorem State.setSw_eq (s : State) (f : Switch → Switch) : (s.setSw f).eq = s.eq := rfl
@[simp] theorem State.setSw_pcieHeld (s : State) (f : Switch → Switch) : (s.setSw f).pcieHeld = s.pcieHeld := rfl
@[simp] theorem State.setSw_pcieHold (s : State) (f : Switch → Switch) : (s.setSw f).pcieHold = s.pcieHold := rfl
@[simp] theorem State.setSw_hi (s : State) (f : Switch → Switch) : (s.setSw f).hi = s.hi := rfl
@[simp] theorem State.setSw_sch (s : State) (f : Switch → Switch) : (s.setSw f).sch = s.sch := rfl
@[simp] theorem State.setSw_al (s : State) (f : Switch → Switch) : (s.setSw f).al = s.al := rfl
@[simp] theorem State.setSw_progs (s : State) (f : Switch → Switch) : (s.setSw f).progs = s.progs := rfl
@[simp] theorem State.setSw_loads (s : State) (f : Switch → Switch) : (s.setSw f).loads = s.loads := rfl
@[simp] theorem State.setSw_sv (s : State) (f : Switch → Switch) : (s.setSw f).sv = s.sv := rfl
@[simp] theorem State.setSw_sram (s : State) (f : Switch → Switch) : (s.setSw f).sram = s.sram := rfl
@[simp] theorem State.setSw_dram (s : State) (f : Switch → Switch) : (s.setSw f).dram = s.dram := rfl
@[simp] theorem State.setSw_cores (s : State) (f : Switch → Switch) : (s.setSw f).cores = s.cores := rfl
@[simp] theorem State.setSw_fw0 (s : State) (f : Switch → Switch) : (s.setSw f).fw0 = s.fw0 := rfl
@[simp] theorem State.setSw_life (s : State) (f : Switch → Switch) : (s.setSw f).life = s.life := rfl
@[simp] theorem State.setSw_boot (s : State) (f : Switch → Switch) : (s.setSw f).boot = s.boot := rfl
@[simp] theorem State.setSw_upd (s : State) (f : Switch → Switch) : (s.setSw f).upd = s.upd := rfl
@[simp] theorem State.setSw_ser (s : State) (f : Switch → Switch) : (s.setSw f).ser = s.ser := rfl
@[simp] theorem State.setSw_mix (s : State) (f : Switch → Switch) : (s.setSw f).mix = s.mix := rfl
@[simp] theorem State.setSw_ms (s : State) (f : Switch → Switch) : (s.setSw f).ms = s.ms := rfl
@[simp] theorem State.setSw_ao (s : State) (f : Switch → Switch) : (s.setSw f).ao = s.ao := rfl
@[simp] theorem State.setSw_st (s : State) (f : Switch → Switch) : (s.setSw f).st = s.st := rfl
@[simp] theorem State.setSw_pw (s : State) (f : Switch → Switch) : (s.setSw f).pw = s.pw := rfl
@[simp] theorem State.setSw_get (s : State) (f : Switch → Switch) (r : Fld) : (s.setSw f).get r = s.get r := rfl

/-! ### setPort -/

@[simp] theorem State.setPort_pending (s : State) (p : Nat) (x : Port) : (s.setPort p x).pending = s.pending := rfl
@[simp] theorem State.setPort_regs (s : State) (p : Nat) (x : Port) : (s.setPort p x).regs = s.regs := rfl
@[simp] theorem State.setPort_shadows (s : State) (p : Nat) (x : Port) : (s.setPort p x).shadows = s.shadows := rfl
@[simp] theorem State.setPort_rdata (s : State) (p : Nat) (x : Port) : (s.setPort p x).rdata = s.rdata := rfl
@[simp] theorem State.setPort_out (s : State) (p : Nat) (x : Port) : (s.setPort p x).out = s.out := rfl
@[simp] theorem State.setPort_fresh (s : State) (p : Nat) (x : Port) : (s.setPort p x).fresh = s.fresh := rfl
@[simp] theorem State.setPort_tb (s : State) (p : Nat) (x : Port) : (s.setPort p x).tb = s.tb := rfl
@[simp] theorem State.setPort_eq (s : State) (p : Nat) (x : Port) : (s.setPort p x).eq = s.eq := rfl
@[simp] theorem State.setPort_pcieHeld (s : State) (p : Nat) (x : Port) : (s.setPort p x).pcieHeld = s.pcieHeld := rfl
@[simp] theorem State.setPort_pcieHold (s : State) (p : Nat) (x : Port) : (s.setPort p x).pcieHold = s.pcieHold := rfl
@[simp] theorem State.setPort_hi (s : State) (p : Nat) (x : Port) : (s.setPort p x).hi = s.hi := rfl
@[simp] theorem State.setPort_sch (s : State) (p : Nat) (x : Port) : (s.setPort p x).sch = s.sch := rfl
@[simp] theorem State.setPort_al (s : State) (p : Nat) (x : Port) : (s.setPort p x).al = s.al := rfl
@[simp] theorem State.setPort_progs (s : State) (p : Nat) (x : Port) : (s.setPort p x).progs = s.progs := rfl
@[simp] theorem State.setPort_loads (s : State) (p : Nat) (x : Port) : (s.setPort p x).loads = s.loads := rfl
@[simp] theorem State.setPort_sv (s : State) (p : Nat) (x : Port) : (s.setPort p x).sv = s.sv := rfl
@[simp] theorem State.setPort_sram (s : State) (p : Nat) (x : Port) : (s.setPort p x).sram = s.sram := rfl
@[simp] theorem State.setPort_dram (s : State) (p : Nat) (x : Port) : (s.setPort p x).dram = s.dram := rfl
@[simp] theorem State.setPort_cores (s : State) (p : Nat) (x : Port) : (s.setPort p x).cores = s.cores := rfl
@[simp] theorem State.setPort_fw0 (s : State) (p : Nat) (x : Port) : (s.setPort p x).fw0 = s.fw0 := rfl
@[simp] theorem State.setPort_life (s : State) (p : Nat) (x : Port) : (s.setPort p x).life = s.life := rfl
@[simp] theorem State.setPort_boot (s : State) (p : Nat) (x : Port) : (s.setPort p x).boot = s.boot := rfl
@[simp] theorem State.setPort_upd (s : State) (p : Nat) (x : Port) : (s.setPort p x).upd = s.upd := rfl
@[simp] theorem State.setPort_ser (s : State) (p : Nat) (x : Port) : (s.setPort p x).ser = s.ser := rfl
@[simp] theorem State.setPort_mix (s : State) (p : Nat) (x : Port) : (s.setPort p x).mix = s.mix := rfl
@[simp] theorem State.setPort_ms (s : State) (p : Nat) (x : Port) : (s.setPort p x).ms = s.ms := rfl
@[simp] theorem State.setPort_ao (s : State) (p : Nat) (x : Port) : (s.setPort p x).ao = s.ao := rfl
@[simp] theorem State.setPort_st (s : State) (p : Nat) (x : Port) : (s.setPort p x).st = s.st := rfl
@[simp] theorem State.setPort_pw (s : State) (p : Nat) (x : Port) : (s.setPort p x).pw = s.pw := rfl
@[simp] theorem State.setPort_get (s : State) (p : Nat) (x : Port) (r : Fld) : (s.setPort p x).get r = s.get r := rfl

/-! ### setQueue -/

@[simp] theorem State.setQueue_pending (s : State) (n : Nat) (q : EvQueue) : (s.setQueue n q).pending = s.pending := rfl
@[simp] theorem State.setQueue_regs (s : State) (n : Nat) (q : EvQueue) : (s.setQueue n q).regs = s.regs := rfl
@[simp] theorem State.setQueue_shadows (s : State) (n : Nat) (q : EvQueue) : (s.setQueue n q).shadows = s.shadows := rfl
@[simp] theorem State.setQueue_rdata (s : State) (n : Nat) (q : EvQueue) : (s.setQueue n q).rdata = s.rdata := rfl
@[simp] theorem State.setQueue_out (s : State) (n : Nat) (q : EvQueue) : (s.setQueue n q).out = s.out := rfl
@[simp] theorem State.setQueue_fresh (s : State) (n : Nat) (q : EvQueue) : (s.setQueue n q).fresh = s.fresh := rfl
@[simp] theorem State.setQueue_tb (s : State) (n : Nat) (q : EvQueue) : (s.setQueue n q).tb = s.tb := rfl
@[simp] theorem State.setQueue_pcieHeld (s : State) (n : Nat) (q : EvQueue) : (s.setQueue n q).pcieHeld = s.pcieHeld := rfl
@[simp] theorem State.setQueue_pcieHold (s : State) (n : Nat) (q : EvQueue) : (s.setQueue n q).pcieHold = s.pcieHold := rfl
@[simp] theorem State.setQueue_hi (s : State) (n : Nat) (q : EvQueue) : (s.setQueue n q).hi = s.hi := rfl
@[simp] theorem State.setQueue_sch (s : State) (n : Nat) (q : EvQueue) : (s.setQueue n q).sch = s.sch := rfl
@[simp] theorem State.setQueue_al (s : State) (n : Nat) (q : EvQueue) : (s.setQueue n q).al = s.al := rfl
@[simp] theorem State.setQueue_progs (s : State) (n : Nat) (q : EvQueue) : (s.setQueue n q).progs = s.progs := rfl
@[simp] theorem State.setQueue_loads (s : State) (n : Nat) (q : EvQueue) : (s.setQueue n q).loads = s.loads := rfl
@[simp] theorem State.setQueue_sw (s : State) (n : Nat) (q : EvQueue) : (s.setQueue n q).sw = s.sw := rfl
@[simp] theorem State.setQueue_sv (s : State) (n : Nat) (q : EvQueue) : (s.setQueue n q).sv = s.sv := rfl
@[simp] theorem State.setQueue_sram (s : State) (n : Nat) (q : EvQueue) : (s.setQueue n q).sram = s.sram := rfl
@[simp] theorem State.setQueue_dram (s : State) (n : Nat) (q : EvQueue) : (s.setQueue n q).dram = s.dram := rfl
@[simp] theorem State.setQueue_cores (s : State) (n : Nat) (q : EvQueue) : (s.setQueue n q).cores = s.cores := rfl
@[simp] theorem State.setQueue_fw0 (s : State) (n : Nat) (q : EvQueue) : (s.setQueue n q).fw0 = s.fw0 := rfl
@[simp] theorem State.setQueue_life (s : State) (n : Nat) (q : EvQueue) : (s.setQueue n q).life = s.life := rfl
@[simp] theorem State.setQueue_boot (s : State) (n : Nat) (q : EvQueue) : (s.setQueue n q).boot = s.boot := rfl
@[simp] theorem State.setQueue_upd (s : State) (n : Nat) (q : EvQueue) : (s.setQueue n q).upd = s.upd := rfl
@[simp] theorem State.setQueue_ser (s : State) (n : Nat) (q : EvQueue) : (s.setQueue n q).ser = s.ser := rfl
@[simp] theorem State.setQueue_mix (s : State) (n : Nat) (q : EvQueue) : (s.setQueue n q).mix = s.mix := rfl
@[simp] theorem State.setQueue_ms (s : State) (n : Nat) (q : EvQueue) : (s.setQueue n q).ms = s.ms := rfl
@[simp] theorem State.setQueue_ao (s : State) (n : Nat) (q : EvQueue) : (s.setQueue n q).ao = s.ao := rfl
@[simp] theorem State.setQueue_st (s : State) (n : Nat) (q : EvQueue) : (s.setQueue n q).st = s.st := rfl
@[simp] theorem State.setQueue_pw (s : State) (n : Nat) (q : EvQueue) : (s.setQueue n q).pw = s.pw := rfl
@[simp] theorem State.setQueue_get (s : State) (n : Nat) (q : EvQueue) (r : Fld) : (s.setQueue n q).get r = s.get r := rfl

/-! ### setHi -/

@[simp] theorem State.setHi_pending (s : State) (f : HostIf → HostIf) : (s.setHi f).pending = s.pending := rfl
@[simp] theorem State.setHi_regs (s : State) (f : HostIf → HostIf) : (s.setHi f).regs = s.regs := rfl
@[simp] theorem State.setHi_shadows (s : State) (f : HostIf → HostIf) : (s.setHi f).shadows = s.shadows := rfl
@[simp] theorem State.setHi_rdata (s : State) (f : HostIf → HostIf) : (s.setHi f).rdata = s.rdata := rfl
@[simp] theorem State.setHi_out (s : State) (f : HostIf → HostIf) : (s.setHi f).out = s.out := rfl
@[simp] theorem State.setHi_fresh (s : State) (f : HostIf → HostIf) : (s.setHi f).fresh = s.fresh := rfl
@[simp] theorem State.setHi_tb (s : State) (f : HostIf → HostIf) : (s.setHi f).tb = s.tb := rfl
@[simp] theorem State.setHi_eq (s : State) (f : HostIf → HostIf) : (s.setHi f).eq = s.eq := rfl
@[simp] theorem State.setHi_pcieHeld (s : State) (f : HostIf → HostIf) : (s.setHi f).pcieHeld = s.pcieHeld := rfl
@[simp] theorem State.setHi_pcieHold (s : State) (f : HostIf → HostIf) : (s.setHi f).pcieHold = s.pcieHold := rfl
@[simp] theorem State.setHi_sch (s : State) (f : HostIf → HostIf) : (s.setHi f).sch = s.sch := rfl
@[simp] theorem State.setHi_al (s : State) (f : HostIf → HostIf) : (s.setHi f).al = s.al := rfl
@[simp] theorem State.setHi_progs (s : State) (f : HostIf → HostIf) : (s.setHi f).progs = s.progs := rfl
@[simp] theorem State.setHi_loads (s : State) (f : HostIf → HostIf) : (s.setHi f).loads = s.loads := rfl
@[simp] theorem State.setHi_sw (s : State) (f : HostIf → HostIf) : (s.setHi f).sw = s.sw := rfl
@[simp] theorem State.setHi_sv (s : State) (f : HostIf → HostIf) : (s.setHi f).sv = s.sv := rfl
@[simp] theorem State.setHi_sram (s : State) (f : HostIf → HostIf) : (s.setHi f).sram = s.sram := rfl
@[simp] theorem State.setHi_dram (s : State) (f : HostIf → HostIf) : (s.setHi f).dram = s.dram := rfl
@[simp] theorem State.setHi_cores (s : State) (f : HostIf → HostIf) : (s.setHi f).cores = s.cores := rfl
@[simp] theorem State.setHi_fw0 (s : State) (f : HostIf → HostIf) : (s.setHi f).fw0 = s.fw0 := rfl
@[simp] theorem State.setHi_life (s : State) (f : HostIf → HostIf) : (s.setHi f).life = s.life := rfl
@[simp] theorem State.setHi_boot (s : State) (f : HostIf → HostIf) : (s.setHi f).boot = s.boot := rfl
@[simp] theorem State.setHi_upd (s : State) (f : HostIf → HostIf) : (s.setHi f).upd = s.upd := rfl
@[simp] theorem State.setHi_ser (s : State) (f : HostIf → HostIf) : (s.setHi f).ser = s.ser := rfl
@[simp] theorem State.setHi_mix (s : State) (f : HostIf → HostIf) : (s.setHi f).mix = s.mix := rfl
@[simp] theorem State.setHi_ms (s : State) (f : HostIf → HostIf) : (s.setHi f).ms = s.ms := rfl
@[simp] theorem State.setHi_ao (s : State) (f : HostIf → HostIf) : (s.setHi f).ao = s.ao := rfl
@[simp] theorem State.setHi_st (s : State) (f : HostIf → HostIf) : (s.setHi f).st = s.st := rfl
@[simp] theorem State.setHi_pw (s : State) (f : HostIf → HostIf) : (s.setHi f).pw = s.pw := rfl
@[simp] theorem State.setHi_get (s : State) (f : HostIf → HostIf) (r : Fld) : (s.setHi f).get r = s.get r := rfl

/-! ### setSch -/

@[simp] theorem State.setSch_pending (s : State) (f : Sched → Sched) : (s.setSch f).pending = s.pending := rfl
@[simp] theorem State.setSch_regs (s : State) (f : Sched → Sched) : (s.setSch f).regs = s.regs := rfl
@[simp] theorem State.setSch_shadows (s : State) (f : Sched → Sched) : (s.setSch f).shadows = s.shadows := rfl
@[simp] theorem State.setSch_rdata (s : State) (f : Sched → Sched) : (s.setSch f).rdata = s.rdata := rfl
@[simp] theorem State.setSch_out (s : State) (f : Sched → Sched) : (s.setSch f).out = s.out := rfl
@[simp] theorem State.setSch_fresh (s : State) (f : Sched → Sched) : (s.setSch f).fresh = s.fresh := rfl
@[simp] theorem State.setSch_tb (s : State) (f : Sched → Sched) : (s.setSch f).tb = s.tb := rfl
@[simp] theorem State.setSch_eq (s : State) (f : Sched → Sched) : (s.setSch f).eq = s.eq := rfl
@[simp] theorem State.setSch_pcieHeld (s : State) (f : Sched → Sched) : (s.setSch f).pcieHeld = s.pcieHeld := rfl
@[simp] theorem State.setSch_pcieHold (s : State) (f : Sched → Sched) : (s.setSch f).pcieHold = s.pcieHold := rfl
@[simp] theorem State.setSch_hi (s : State) (f : Sched → Sched) : (s.setSch f).hi = s.hi := rfl
@[simp] theorem State.setSch_al (s : State) (f : Sched → Sched) : (s.setSch f).al = s.al := rfl
@[simp] theorem State.setSch_progs (s : State) (f : Sched → Sched) : (s.setSch f).progs = s.progs := rfl
@[simp] theorem State.setSch_loads (s : State) (f : Sched → Sched) : (s.setSch f).loads = s.loads := rfl
@[simp] theorem State.setSch_sw (s : State) (f : Sched → Sched) : (s.setSch f).sw = s.sw := rfl
@[simp] theorem State.setSch_sv (s : State) (f : Sched → Sched) : (s.setSch f).sv = s.sv := rfl
@[simp] theorem State.setSch_sram (s : State) (f : Sched → Sched) : (s.setSch f).sram = s.sram := rfl
@[simp] theorem State.setSch_dram (s : State) (f : Sched → Sched) : (s.setSch f).dram = s.dram := rfl
@[simp] theorem State.setSch_cores (s : State) (f : Sched → Sched) : (s.setSch f).cores = s.cores := rfl
@[simp] theorem State.setSch_fw0 (s : State) (f : Sched → Sched) : (s.setSch f).fw0 = s.fw0 := rfl
@[simp] theorem State.setSch_life (s : State) (f : Sched → Sched) : (s.setSch f).life = s.life := rfl
@[simp] theorem State.setSch_boot (s : State) (f : Sched → Sched) : (s.setSch f).boot = s.boot := rfl
@[simp] theorem State.setSch_upd (s : State) (f : Sched → Sched) : (s.setSch f).upd = s.upd := rfl
@[simp] theorem State.setSch_ser (s : State) (f : Sched → Sched) : (s.setSch f).ser = s.ser := rfl
@[simp] theorem State.setSch_mix (s : State) (f : Sched → Sched) : (s.setSch f).mix = s.mix := rfl
@[simp] theorem State.setSch_ms (s : State) (f : Sched → Sched) : (s.setSch f).ms = s.ms := rfl
@[simp] theorem State.setSch_ao (s : State) (f : Sched → Sched) : (s.setSch f).ao = s.ao := rfl
@[simp] theorem State.setSch_st (s : State) (f : Sched → Sched) : (s.setSch f).st = s.st := rfl
@[simp] theorem State.setSch_pw (s : State) (f : Sched → Sched) : (s.setSch f).pw = s.pw := rfl
@[simp] theorem State.setSch_get (s : State) (f : Sched → Sched) (r : Fld) : (s.setSch f).get r = s.get r := rfl

/-! ### setSlot -/

@[simp] theorem State.setSlot_pending (s : State) (v : Nat) (x : Voice) : (s.setSlot v x).pending = s.pending := rfl
@[simp] theorem State.setSlot_regs (s : State) (v : Nat) (x : Voice) : (s.setSlot v x).regs = s.regs := rfl
@[simp] theorem State.setSlot_shadows (s : State) (v : Nat) (x : Voice) : (s.setSlot v x).shadows = s.shadows := rfl
@[simp] theorem State.setSlot_rdata (s : State) (v : Nat) (x : Voice) : (s.setSlot v x).rdata = s.rdata := rfl
@[simp] theorem State.setSlot_out (s : State) (v : Nat) (x : Voice) : (s.setSlot v x).out = s.out := rfl
@[simp] theorem State.setSlot_fresh (s : State) (v : Nat) (x : Voice) : (s.setSlot v x).fresh = s.fresh := rfl
@[simp] theorem State.setSlot_tb (s : State) (v : Nat) (x : Voice) : (s.setSlot v x).tb = s.tb := rfl
@[simp] theorem State.setSlot_eq (s : State) (v : Nat) (x : Voice) : (s.setSlot v x).eq = s.eq := rfl
@[simp] theorem State.setSlot_pcieHeld (s : State) (v : Nat) (x : Voice) : (s.setSlot v x).pcieHeld = s.pcieHeld := rfl
@[simp] theorem State.setSlot_pcieHold (s : State) (v : Nat) (x : Voice) : (s.setSlot v x).pcieHold = s.pcieHold := rfl
@[simp] theorem State.setSlot_hi (s : State) (v : Nat) (x : Voice) : (s.setSlot v x).hi = s.hi := rfl
@[simp] theorem State.setSlot_sch (s : State) (v : Nat) (x : Voice) : (s.setSlot v x).sch = s.sch := rfl
@[simp] theorem State.setSlot_progs (s : State) (v : Nat) (x : Voice) : (s.setSlot v x).progs = s.progs := rfl
@[simp] theorem State.setSlot_loads (s : State) (v : Nat) (x : Voice) : (s.setSlot v x).loads = s.loads := rfl
@[simp] theorem State.setSlot_sw (s : State) (v : Nat) (x : Voice) : (s.setSlot v x).sw = s.sw := rfl
@[simp] theorem State.setSlot_sv (s : State) (v : Nat) (x : Voice) : (s.setSlot v x).sv = s.sv := rfl
@[simp] theorem State.setSlot_sram (s : State) (v : Nat) (x : Voice) : (s.setSlot v x).sram = s.sram := rfl
@[simp] theorem State.setSlot_dram (s : State) (v : Nat) (x : Voice) : (s.setSlot v x).dram = s.dram := rfl
@[simp] theorem State.setSlot_cores (s : State) (v : Nat) (x : Voice) : (s.setSlot v x).cores = s.cores := rfl
@[simp] theorem State.setSlot_fw0 (s : State) (v : Nat) (x : Voice) : (s.setSlot v x).fw0 = s.fw0 := rfl
@[simp] theorem State.setSlot_life (s : State) (v : Nat) (x : Voice) : (s.setSlot v x).life = s.life := rfl
@[simp] theorem State.setSlot_boot (s : State) (v : Nat) (x : Voice) : (s.setSlot v x).boot = s.boot := rfl
@[simp] theorem State.setSlot_upd (s : State) (v : Nat) (x : Voice) : (s.setSlot v x).upd = s.upd := rfl
@[simp] theorem State.setSlot_ser (s : State) (v : Nat) (x : Voice) : (s.setSlot v x).ser = s.ser := rfl
@[simp] theorem State.setSlot_mix (s : State) (v : Nat) (x : Voice) : (s.setSlot v x).mix = s.mix := rfl
@[simp] theorem State.setSlot_ms (s : State) (v : Nat) (x : Voice) : (s.setSlot v x).ms = s.ms := rfl
@[simp] theorem State.setSlot_ao (s : State) (v : Nat) (x : Voice) : (s.setSlot v x).ao = s.ao := rfl
@[simp] theorem State.setSlot_st (s : State) (v : Nat) (x : Voice) : (s.setSlot v x).st = s.st := rfl
@[simp] theorem State.setSlot_pw (s : State) (v : Nat) (x : Voice) : (s.setSlot v x).pw = s.pw := rfl
@[simp] theorem State.setSlot_get (s : State) (v : Nat) (x : Voice) (r : Fld) : (s.setSlot v x).get r = s.get r := rfl

/-! ### setPark -/

@[simp] theorem State.setPark_pending (s : State) (v : Nat) (x : Voice) : (s.setPark v x).pending = s.pending := rfl
@[simp] theorem State.setPark_regs (s : State) (v : Nat) (x : Voice) : (s.setPark v x).regs = s.regs := rfl
@[simp] theorem State.setPark_shadows (s : State) (v : Nat) (x : Voice) : (s.setPark v x).shadows = s.shadows := rfl
@[simp] theorem State.setPark_rdata (s : State) (v : Nat) (x : Voice) : (s.setPark v x).rdata = s.rdata := rfl
@[simp] theorem State.setPark_out (s : State) (v : Nat) (x : Voice) : (s.setPark v x).out = s.out := rfl
@[simp] theorem State.setPark_fresh (s : State) (v : Nat) (x : Voice) : (s.setPark v x).fresh = s.fresh := rfl
@[simp] theorem State.setPark_tb (s : State) (v : Nat) (x : Voice) : (s.setPark v x).tb = s.tb := rfl
@[simp] theorem State.setPark_eq (s : State) (v : Nat) (x : Voice) : (s.setPark v x).eq = s.eq := rfl
@[simp] theorem State.setPark_pcieHeld (s : State) (v : Nat) (x : Voice) : (s.setPark v x).pcieHeld = s.pcieHeld := rfl
@[simp] theorem State.setPark_pcieHold (s : State) (v : Nat) (x : Voice) : (s.setPark v x).pcieHold = s.pcieHold := rfl
@[simp] theorem State.setPark_hi (s : State) (v : Nat) (x : Voice) : (s.setPark v x).hi = s.hi := rfl
@[simp] theorem State.setPark_sch (s : State) (v : Nat) (x : Voice) : (s.setPark v x).sch = s.sch := rfl
@[simp] theorem State.setPark_progs (s : State) (v : Nat) (x : Voice) : (s.setPark v x).progs = s.progs := rfl
@[simp] theorem State.setPark_loads (s : State) (v : Nat) (x : Voice) : (s.setPark v x).loads = s.loads := rfl
@[simp] theorem State.setPark_sw (s : State) (v : Nat) (x : Voice) : (s.setPark v x).sw = s.sw := rfl
@[simp] theorem State.setPark_sv (s : State) (v : Nat) (x : Voice) : (s.setPark v x).sv = s.sv := rfl
@[simp] theorem State.setPark_sram (s : State) (v : Nat) (x : Voice) : (s.setPark v x).sram = s.sram := rfl
@[simp] theorem State.setPark_dram (s : State) (v : Nat) (x : Voice) : (s.setPark v x).dram = s.dram := rfl
@[simp] theorem State.setPark_cores (s : State) (v : Nat) (x : Voice) : (s.setPark v x).cores = s.cores := rfl
@[simp] theorem State.setPark_fw0 (s : State) (v : Nat) (x : Voice) : (s.setPark v x).fw0 = s.fw0 := rfl
@[simp] theorem State.setPark_life (s : State) (v : Nat) (x : Voice) : (s.setPark v x).life = s.life := rfl
@[simp] theorem State.setPark_boot (s : State) (v : Nat) (x : Voice) : (s.setPark v x).boot = s.boot := rfl
@[simp] theorem State.setPark_upd (s : State) (v : Nat) (x : Voice) : (s.setPark v x).upd = s.upd := rfl
@[simp] theorem State.setPark_ser (s : State) (v : Nat) (x : Voice) : (s.setPark v x).ser = s.ser := rfl
@[simp] theorem State.setPark_mix (s : State) (v : Nat) (x : Voice) : (s.setPark v x).mix = s.mix := rfl
@[simp] theorem State.setPark_ms (s : State) (v : Nat) (x : Voice) : (s.setPark v x).ms = s.ms := rfl
@[simp] theorem State.setPark_ao (s : State) (v : Nat) (x : Voice) : (s.setPark v x).ao = s.ao := rfl
@[simp] theorem State.setPark_st (s : State) (v : Nat) (x : Voice) : (s.setPark v x).st = s.st := rfl
@[simp] theorem State.setPark_pw (s : State) (v : Nat) (x : Voice) : (s.setPark v x).pw = s.pw := rfl
@[simp] theorem State.setPark_get (s : State) (v : Nat) (x : Voice) (r : Fld) : (s.setPark v x).get r = s.get r := rfl

/-! ### setTail -/

@[simp] theorem State.setTail_pending (s : State) (v : Nat) (x : Voice) : (s.setTail v x).pending = s.pending := rfl
@[simp] theorem State.setTail_regs (s : State) (v : Nat) (x : Voice) : (s.setTail v x).regs = s.regs := rfl
@[simp] theorem State.setTail_shadows (s : State) (v : Nat) (x : Voice) : (s.setTail v x).shadows = s.shadows := rfl
@[simp] theorem State.setTail_rdata (s : State) (v : Nat) (x : Voice) : (s.setTail v x).rdata = s.rdata := rfl
@[simp] theorem State.setTail_out (s : State) (v : Nat) (x : Voice) : (s.setTail v x).out = s.out := rfl
@[simp] theorem State.setTail_fresh (s : State) (v : Nat) (x : Voice) : (s.setTail v x).fresh = s.fresh := rfl
@[simp] theorem State.setTail_tb (s : State) (v : Nat) (x : Voice) : (s.setTail v x).tb = s.tb := rfl
@[simp] theorem State.setTail_eq (s : State) (v : Nat) (x : Voice) : (s.setTail v x).eq = s.eq := rfl
@[simp] theorem State.setTail_pcieHeld (s : State) (v : Nat) (x : Voice) : (s.setTail v x).pcieHeld = s.pcieHeld := rfl
@[simp] theorem State.setTail_pcieHold (s : State) (v : Nat) (x : Voice) : (s.setTail v x).pcieHold = s.pcieHold := rfl
@[simp] theorem State.setTail_hi (s : State) (v : Nat) (x : Voice) : (s.setTail v x).hi = s.hi := rfl
@[simp] theorem State.setTail_sch (s : State) (v : Nat) (x : Voice) : (s.setTail v x).sch = s.sch := rfl
@[simp] theorem State.setTail_progs (s : State) (v : Nat) (x : Voice) : (s.setTail v x).progs = s.progs := rfl
@[simp] theorem State.setTail_loads (s : State) (v : Nat) (x : Voice) : (s.setTail v x).loads = s.loads := rfl
@[simp] theorem State.setTail_sw (s : State) (v : Nat) (x : Voice) : (s.setTail v x).sw = s.sw := rfl
@[simp] theorem State.setTail_sv (s : State) (v : Nat) (x : Voice) : (s.setTail v x).sv = s.sv := rfl
@[simp] theorem State.setTail_sram (s : State) (v : Nat) (x : Voice) : (s.setTail v x).sram = s.sram := rfl
@[simp] theorem State.setTail_dram (s : State) (v : Nat) (x : Voice) : (s.setTail v x).dram = s.dram := rfl
@[simp] theorem State.setTail_cores (s : State) (v : Nat) (x : Voice) : (s.setTail v x).cores = s.cores := rfl
@[simp] theorem State.setTail_fw0 (s : State) (v : Nat) (x : Voice) : (s.setTail v x).fw0 = s.fw0 := rfl
@[simp] theorem State.setTail_life (s : State) (v : Nat) (x : Voice) : (s.setTail v x).life = s.life := rfl
@[simp] theorem State.setTail_boot (s : State) (v : Nat) (x : Voice) : (s.setTail v x).boot = s.boot := rfl
@[simp] theorem State.setTail_upd (s : State) (v : Nat) (x : Voice) : (s.setTail v x).upd = s.upd := rfl
@[simp] theorem State.setTail_ser (s : State) (v : Nat) (x : Voice) : (s.setTail v x).ser = s.ser := rfl
@[simp] theorem State.setTail_mix (s : State) (v : Nat) (x : Voice) : (s.setTail v x).mix = s.mix := rfl
@[simp] theorem State.setTail_ms (s : State) (v : Nat) (x : Voice) : (s.setTail v x).ms = s.ms := rfl
@[simp] theorem State.setTail_ao (s : State) (v : Nat) (x : Voice) : (s.setTail v x).ao = s.ao := rfl
@[simp] theorem State.setTail_st (s : State) (v : Nat) (x : Voice) : (s.setTail v x).st = s.st := rfl
@[simp] theorem State.setTail_pw (s : State) (v : Nat) (x : Voice) : (s.setTail v x).pw = s.pw := rfl
@[simp] theorem State.setTail_get (s : State) (v : Nat) (x : Voice) (r : Fld) : (s.setTail v x).get r = s.get r := rfl

/-! ### setGroup -/

@[simp] theorem State.setGroup_pending (s : State) (g : Nat) (x : Group) : (s.setGroup g x).pending = s.pending := rfl
@[simp] theorem State.setGroup_regs (s : State) (g : Nat) (x : Group) : (s.setGroup g x).regs = s.regs := rfl
@[simp] theorem State.setGroup_shadows (s : State) (g : Nat) (x : Group) : (s.setGroup g x).shadows = s.shadows := rfl
@[simp] theorem State.setGroup_rdata (s : State) (g : Nat) (x : Group) : (s.setGroup g x).rdata = s.rdata := rfl
@[simp] theorem State.setGroup_out (s : State) (g : Nat) (x : Group) : (s.setGroup g x).out = s.out := rfl
@[simp] theorem State.setGroup_fresh (s : State) (g : Nat) (x : Group) : (s.setGroup g x).fresh = s.fresh := rfl
@[simp] theorem State.setGroup_tb (s : State) (g : Nat) (x : Group) : (s.setGroup g x).tb = s.tb := rfl
@[simp] theorem State.setGroup_eq (s : State) (g : Nat) (x : Group) : (s.setGroup g x).eq = s.eq := rfl
@[simp] theorem State.setGroup_pcieHeld (s : State) (g : Nat) (x : Group) : (s.setGroup g x).pcieHeld = s.pcieHeld := rfl
@[simp] theorem State.setGroup_pcieHold (s : State) (g : Nat) (x : Group) : (s.setGroup g x).pcieHold = s.pcieHold := rfl
@[simp] theorem State.setGroup_hi (s : State) (g : Nat) (x : Group) : (s.setGroup g x).hi = s.hi := rfl
@[simp] theorem State.setGroup_sch (s : State) (g : Nat) (x : Group) : (s.setGroup g x).sch = s.sch := rfl
@[simp] theorem State.setGroup_progs (s : State) (g : Nat) (x : Group) : (s.setGroup g x).progs = s.progs := rfl
@[simp] theorem State.setGroup_loads (s : State) (g : Nat) (x : Group) : (s.setGroup g x).loads = s.loads := rfl
@[simp] theorem State.setGroup_sw (s : State) (g : Nat) (x : Group) : (s.setGroup g x).sw = s.sw := rfl
@[simp] theorem State.setGroup_sv (s : State) (g : Nat) (x : Group) : (s.setGroup g x).sv = s.sv := rfl
@[simp] theorem State.setGroup_sram (s : State) (g : Nat) (x : Group) : (s.setGroup g x).sram = s.sram := rfl
@[simp] theorem State.setGroup_dram (s : State) (g : Nat) (x : Group) : (s.setGroup g x).dram = s.dram := rfl
@[simp] theorem State.setGroup_cores (s : State) (g : Nat) (x : Group) : (s.setGroup g x).cores = s.cores := rfl
@[simp] theorem State.setGroup_fw0 (s : State) (g : Nat) (x : Group) : (s.setGroup g x).fw0 = s.fw0 := rfl
@[simp] theorem State.setGroup_life (s : State) (g : Nat) (x : Group) : (s.setGroup g x).life = s.life := rfl
@[simp] theorem State.setGroup_boot (s : State) (g : Nat) (x : Group) : (s.setGroup g x).boot = s.boot := rfl
@[simp] theorem State.setGroup_upd (s : State) (g : Nat) (x : Group) : (s.setGroup g x).upd = s.upd := rfl
@[simp] theorem State.setGroup_ser (s : State) (g : Nat) (x : Group) : (s.setGroup g x).ser = s.ser := rfl
@[simp] theorem State.setGroup_mix (s : State) (g : Nat) (x : Group) : (s.setGroup g x).mix = s.mix := rfl
@[simp] theorem State.setGroup_ms (s : State) (g : Nat) (x : Group) : (s.setGroup g x).ms = s.ms := rfl
@[simp] theorem State.setGroup_ao (s : State) (g : Nat) (x : Group) : (s.setGroup g x).ao = s.ao := rfl
@[simp] theorem State.setGroup_st (s : State) (g : Nat) (x : Group) : (s.setGroup g x).st = s.st := rfl
@[simp] theorem State.setGroup_pw (s : State) (g : Nat) (x : Group) : (s.setGroup g x).pw = s.pw := rfl
@[simp] theorem State.setGroup_get (s : State) (g : Nat) (x : Group) (r : Fld) : (s.setGroup g x).get r = s.get r := rfl

/-! ### setProg -/

@[simp] theorem State.setProg_pending (s : State) (n : Nat) (p : Option Program) : (s.setProg n p).pending = s.pending := rfl
@[simp] theorem State.setProg_regs (s : State) (n : Nat) (p : Option Program) : (s.setProg n p).regs = s.regs := rfl
@[simp] theorem State.setProg_shadows (s : State) (n : Nat) (p : Option Program) : (s.setProg n p).shadows = s.shadows := rfl
@[simp] theorem State.setProg_rdata (s : State) (n : Nat) (p : Option Program) : (s.setProg n p).rdata = s.rdata := rfl
@[simp] theorem State.setProg_out (s : State) (n : Nat) (p : Option Program) : (s.setProg n p).out = s.out := rfl
@[simp] theorem State.setProg_fresh (s : State) (n : Nat) (p : Option Program) : (s.setProg n p).fresh = s.fresh := rfl
@[simp] theorem State.setProg_tb (s : State) (n : Nat) (p : Option Program) : (s.setProg n p).tb = s.tb := rfl
@[simp] theorem State.setProg_eq (s : State) (n : Nat) (p : Option Program) : (s.setProg n p).eq = s.eq := rfl
@[simp] theorem State.setProg_pcieHeld (s : State) (n : Nat) (p : Option Program) : (s.setProg n p).pcieHeld = s.pcieHeld := rfl
@[simp] theorem State.setProg_pcieHold (s : State) (n : Nat) (p : Option Program) : (s.setProg n p).pcieHold = s.pcieHold := rfl
@[simp] theorem State.setProg_hi (s : State) (n : Nat) (p : Option Program) : (s.setProg n p).hi = s.hi := rfl
@[simp] theorem State.setProg_sch (s : State) (n : Nat) (p : Option Program) : (s.setProg n p).sch = s.sch := rfl
@[simp] theorem State.setProg_al (s : State) (n : Nat) (p : Option Program) : (s.setProg n p).al = s.al := rfl
@[simp] theorem State.setProg_loads (s : State) (n : Nat) (p : Option Program) : (s.setProg n p).loads = s.loads := rfl
@[simp] theorem State.setProg_sw (s : State) (n : Nat) (p : Option Program) : (s.setProg n p).sw = s.sw := rfl
@[simp] theorem State.setProg_sv (s : State) (n : Nat) (p : Option Program) : (s.setProg n p).sv = s.sv := rfl
@[simp] theorem State.setProg_sram (s : State) (n : Nat) (p : Option Program) : (s.setProg n p).sram = s.sram := rfl
@[simp] theorem State.setProg_dram (s : State) (n : Nat) (p : Option Program) : (s.setProg n p).dram = s.dram := rfl
@[simp] theorem State.setProg_cores (s : State) (n : Nat) (p : Option Program) : (s.setProg n p).cores = s.cores := rfl
@[simp] theorem State.setProg_fw0 (s : State) (n : Nat) (p : Option Program) : (s.setProg n p).fw0 = s.fw0 := rfl
@[simp] theorem State.setProg_life (s : State) (n : Nat) (p : Option Program) : (s.setProg n p).life = s.life := rfl
@[simp] theorem State.setProg_boot (s : State) (n : Nat) (p : Option Program) : (s.setProg n p).boot = s.boot := rfl
@[simp] theorem State.setProg_upd (s : State) (n : Nat) (p : Option Program) : (s.setProg n p).upd = s.upd := rfl
@[simp] theorem State.setProg_ser (s : State) (n : Nat) (p : Option Program) : (s.setProg n p).ser = s.ser := rfl
@[simp] theorem State.setProg_mix (s : State) (n : Nat) (p : Option Program) : (s.setProg n p).mix = s.mix := rfl
@[simp] theorem State.setProg_ms (s : State) (n : Nat) (p : Option Program) : (s.setProg n p).ms = s.ms := rfl
@[simp] theorem State.setProg_ao (s : State) (n : Nat) (p : Option Program) : (s.setProg n p).ao = s.ao := rfl
@[simp] theorem State.setProg_st (s : State) (n : Nat) (p : Option Program) : (s.setProg n p).st = s.st := rfl
@[simp] theorem State.setProg_pw (s : State) (n : Nat) (p : Option Program) : (s.setProg n p).pw = s.pw := rfl
@[simp] theorem State.setProg_get (s : State) (n : Nat) (p : Option Program) (r : Fld) : (s.setProg n p).get r = s.get r := rfl

/-! ### setSv -/

@[simp] theorem State.setSv_pending (s : State) (f : Services → Services) : (s.setSv f).pending = s.pending := rfl
@[simp] theorem State.setSv_regs (s : State) (f : Services → Services) : (s.setSv f).regs = s.regs := rfl
@[simp] theorem State.setSv_shadows (s : State) (f : Services → Services) : (s.setSv f).shadows = s.shadows := rfl
@[simp] theorem State.setSv_rdata (s : State) (f : Services → Services) : (s.setSv f).rdata = s.rdata := rfl
@[simp] theorem State.setSv_out (s : State) (f : Services → Services) : (s.setSv f).out = s.out := rfl
@[simp] theorem State.setSv_fresh (s : State) (f : Services → Services) : (s.setSv f).fresh = s.fresh := rfl
@[simp] theorem State.setSv_tb (s : State) (f : Services → Services) : (s.setSv f).tb = s.tb := rfl
@[simp] theorem State.setSv_eq (s : State) (f : Services → Services) : (s.setSv f).eq = s.eq := rfl
@[simp] theorem State.setSv_pcieHeld (s : State) (f : Services → Services) : (s.setSv f).pcieHeld = s.pcieHeld := rfl
@[simp] theorem State.setSv_pcieHold (s : State) (f : Services → Services) : (s.setSv f).pcieHold = s.pcieHold := rfl
@[simp] theorem State.setSv_hi (s : State) (f : Services → Services) : (s.setSv f).hi = s.hi := rfl
@[simp] theorem State.setSv_sch (s : State) (f : Services → Services) : (s.setSv f).sch = s.sch := rfl
@[simp] theorem State.setSv_al (s : State) (f : Services → Services) : (s.setSv f).al = s.al := rfl
@[simp] theorem State.setSv_progs (s : State) (f : Services → Services) : (s.setSv f).progs = s.progs := rfl
@[simp] theorem State.setSv_loads (s : State) (f : Services → Services) : (s.setSv f).loads = s.loads := rfl
@[simp] theorem State.setSv_sw (s : State) (f : Services → Services) : (s.setSv f).sw = s.sw := rfl
@[simp] theorem State.setSv_sram (s : State) (f : Services → Services) : (s.setSv f).sram = s.sram := rfl
@[simp] theorem State.setSv_dram (s : State) (f : Services → Services) : (s.setSv f).dram = s.dram := rfl
@[simp] theorem State.setSv_cores (s : State) (f : Services → Services) : (s.setSv f).cores = s.cores := rfl
@[simp] theorem State.setSv_fw0 (s : State) (f : Services → Services) : (s.setSv f).fw0 = s.fw0 := rfl
@[simp] theorem State.setSv_life (s : State) (f : Services → Services) : (s.setSv f).life = s.life := rfl
@[simp] theorem State.setSv_boot (s : State) (f : Services → Services) : (s.setSv f).boot = s.boot := rfl
@[simp] theorem State.setSv_upd (s : State) (f : Services → Services) : (s.setSv f).upd = s.upd := rfl
@[simp] theorem State.setSv_ser (s : State) (f : Services → Services) : (s.setSv f).ser = s.ser := rfl
@[simp] theorem State.setSv_mix (s : State) (f : Services → Services) : (s.setSv f).mix = s.mix := rfl
@[simp] theorem State.setSv_ms (s : State) (f : Services → Services) : (s.setSv f).ms = s.ms := rfl
@[simp] theorem State.setSv_ao (s : State) (f : Services → Services) : (s.setSv f).ao = s.ao := rfl
@[simp] theorem State.setSv_st (s : State) (f : Services → Services) : (s.setSv f).st = s.st := rfl
@[simp] theorem State.setSv_pw (s : State) (f : Services → Services) : (s.setSv f).pw = s.pw := rfl
@[simp] theorem State.setSv_get (s : State) (f : Services → Services) (r : Fld) : (s.setSv f).get r = s.get r := rfl

/-! ### setCore -/

@[simp] theorem State.setCore_pending (s : State) (c : Nat) (x : Core) : (s.setCore c x).pending = s.pending := rfl
@[simp] theorem State.setCore_regs (s : State) (c : Nat) (x : Core) : (s.setCore c x).regs = s.regs := rfl
@[simp] theorem State.setCore_shadows (s : State) (c : Nat) (x : Core) : (s.setCore c x).shadows = s.shadows := rfl
@[simp] theorem State.setCore_rdata (s : State) (c : Nat) (x : Core) : (s.setCore c x).rdata = s.rdata := rfl
@[simp] theorem State.setCore_out (s : State) (c : Nat) (x : Core) : (s.setCore c x).out = s.out := rfl
@[simp] theorem State.setCore_fresh (s : State) (c : Nat) (x : Core) : (s.setCore c x).fresh = s.fresh := rfl
@[simp] theorem State.setCore_tb (s : State) (c : Nat) (x : Core) : (s.setCore c x).tb = s.tb := rfl
@[simp] theorem State.setCore_eq (s : State) (c : Nat) (x : Core) : (s.setCore c x).eq = s.eq := rfl
@[simp] theorem State.setCore_pcieHeld (s : State) (c : Nat) (x : Core) : (s.setCore c x).pcieHeld = s.pcieHeld := rfl
@[simp] theorem State.setCore_pcieHold (s : State) (c : Nat) (x : Core) : (s.setCore c x).pcieHold = s.pcieHold := rfl
@[simp] theorem State.setCore_hi (s : State) (c : Nat) (x : Core) : (s.setCore c x).hi = s.hi := rfl
@[simp] theorem State.setCore_sch (s : State) (c : Nat) (x : Core) : (s.setCore c x).sch = s.sch := rfl
@[simp] theorem State.setCore_al (s : State) (c : Nat) (x : Core) : (s.setCore c x).al = s.al := rfl
@[simp] theorem State.setCore_progs (s : State) (c : Nat) (x : Core) : (s.setCore c x).progs = s.progs := rfl
@[simp] theorem State.setCore_loads (s : State) (c : Nat) (x : Core) : (s.setCore c x).loads = s.loads := rfl
@[simp] theorem State.setCore_sw (s : State) (c : Nat) (x : Core) : (s.setCore c x).sw = s.sw := rfl
@[simp] theorem State.setCore_sv (s : State) (c : Nat) (x : Core) : (s.setCore c x).sv = s.sv := rfl
@[simp] theorem State.setCore_sram (s : State) (c : Nat) (x : Core) : (s.setCore c x).sram = s.sram := rfl
@[simp] theorem State.setCore_dram (s : State) (c : Nat) (x : Core) : (s.setCore c x).dram = s.dram := rfl
@[simp] theorem State.setCore_fw0 (s : State) (c : Nat) (x : Core) : (s.setCore c x).fw0 = s.fw0 := rfl
@[simp] theorem State.setCore_life (s : State) (c : Nat) (x : Core) : (s.setCore c x).life = s.life := rfl
@[simp] theorem State.setCore_boot (s : State) (c : Nat) (x : Core) : (s.setCore c x).boot = s.boot := rfl
@[simp] theorem State.setCore_upd (s : State) (c : Nat) (x : Core) : (s.setCore c x).upd = s.upd := rfl
@[simp] theorem State.setCore_ser (s : State) (c : Nat) (x : Core) : (s.setCore c x).ser = s.ser := rfl
@[simp] theorem State.setCore_mix (s : State) (c : Nat) (x : Core) : (s.setCore c x).mix = s.mix := rfl
@[simp] theorem State.setCore_ms (s : State) (c : Nat) (x : Core) : (s.setCore c x).ms = s.ms := rfl
@[simp] theorem State.setCore_ao (s : State) (c : Nat) (x : Core) : (s.setCore c x).ao = s.ao := rfl
@[simp] theorem State.setCore_st (s : State) (c : Nat) (x : Core) : (s.setCore c x).st = s.st := rfl
@[simp] theorem State.setCore_pw (s : State) (c : Nat) (x : Core) : (s.setCore c x).pw = s.pw := rfl
@[simp] theorem State.setCore_get (s : State) (c : Nat) (x : Core) (r : Fld) : (s.setCore c x).get r = s.get r := rfl

/-! ### modCore -/

@[simp] theorem State.modCore_pending (s : State) (c : Nat) (f : Core → Core) : (s.modCore c f).pending = s.pending := rfl
@[simp] theorem State.modCore_regs (s : State) (c : Nat) (f : Core → Core) : (s.modCore c f).regs = s.regs := rfl
@[simp] theorem State.modCore_shadows (s : State) (c : Nat) (f : Core → Core) : (s.modCore c f).shadows = s.shadows := rfl
@[simp] theorem State.modCore_rdata (s : State) (c : Nat) (f : Core → Core) : (s.modCore c f).rdata = s.rdata := rfl
@[simp] theorem State.modCore_out (s : State) (c : Nat) (f : Core → Core) : (s.modCore c f).out = s.out := rfl
@[simp] theorem State.modCore_fresh (s : State) (c : Nat) (f : Core → Core) : (s.modCore c f).fresh = s.fresh := rfl
@[simp] theorem State.modCore_tb (s : State) (c : Nat) (f : Core → Core) : (s.modCore c f).tb = s.tb := rfl
@[simp] theorem State.modCore_eq (s : State) (c : Nat) (f : Core → Core) : (s.modCore c f).eq = s.eq := rfl
@[simp] theorem State.modCore_pcieHeld (s : State) (c : Nat) (f : Core → Core) : (s.modCore c f).pcieHeld = s.pcieHeld := rfl
@[simp] theorem State.modCore_pcieHold (s : State) (c : Nat) (f : Core → Core) : (s.modCore c f).pcieHold = s.pcieHold := rfl
@[simp] theorem State.modCore_hi (s : State) (c : Nat) (f : Core → Core) : (s.modCore c f).hi = s.hi := rfl
@[simp] theorem State.modCore_sch (s : State) (c : Nat) (f : Core → Core) : (s.modCore c f).sch = s.sch := rfl
@[simp] theorem State.modCore_al (s : State) (c : Nat) (f : Core → Core) : (s.modCore c f).al = s.al := rfl
@[simp] theorem State.modCore_progs (s : State) (c : Nat) (f : Core → Core) : (s.modCore c f).progs = s.progs := rfl
@[simp] theorem State.modCore_loads (s : State) (c : Nat) (f : Core → Core) : (s.modCore c f).loads = s.loads := rfl
@[simp] theorem State.modCore_sw (s : State) (c : Nat) (f : Core → Core) : (s.modCore c f).sw = s.sw := rfl
@[simp] theorem State.modCore_sv (s : State) (c : Nat) (f : Core → Core) : (s.modCore c f).sv = s.sv := rfl
@[simp] theorem State.modCore_sram (s : State) (c : Nat) (f : Core → Core) : (s.modCore c f).sram = s.sram := rfl
@[simp] theorem State.modCore_dram (s : State) (c : Nat) (f : Core → Core) : (s.modCore c f).dram = s.dram := rfl
@[simp] theorem State.modCore_fw0 (s : State) (c : Nat) (f : Core → Core) : (s.modCore c f).fw0 = s.fw0 := rfl
@[simp] theorem State.modCore_life (s : State) (c : Nat) (f : Core → Core) : (s.modCore c f).life = s.life := rfl
@[simp] theorem State.modCore_boot (s : State) (c : Nat) (f : Core → Core) : (s.modCore c f).boot = s.boot := rfl
@[simp] theorem State.modCore_upd (s : State) (c : Nat) (f : Core → Core) : (s.modCore c f).upd = s.upd := rfl
@[simp] theorem State.modCore_ser (s : State) (c : Nat) (f : Core → Core) : (s.modCore c f).ser = s.ser := rfl
@[simp] theorem State.modCore_mix (s : State) (c : Nat) (f : Core → Core) : (s.modCore c f).mix = s.mix := rfl
@[simp] theorem State.modCore_ms (s : State) (c : Nat) (f : Core → Core) : (s.modCore c f).ms = s.ms := rfl
@[simp] theorem State.modCore_ao (s : State) (c : Nat) (f : Core → Core) : (s.modCore c f).ao = s.ao := rfl
@[simp] theorem State.modCore_st (s : State) (c : Nat) (f : Core → Core) : (s.modCore c f).st = s.st := rfl
@[simp] theorem State.modCore_pw (s : State) (c : Nat) (f : Core → Core) : (s.modCore c f).pw = s.pw := rfl
@[simp] theorem State.modCore_get (s : State) (c : Nat) (f : Core → Core) (r : Fld) : (s.modCore c f).get r = s.get r := rfl

/-! ### setLife -/

@[simp] theorem State.setLife_pending (s : State) (f : Life → Life) : (s.setLife f).pending = s.pending := rfl
@[simp] theorem State.setLife_regs (s : State) (f : Life → Life) : (s.setLife f).regs = s.regs := rfl
@[simp] theorem State.setLife_shadows (s : State) (f : Life → Life) : (s.setLife f).shadows = s.shadows := rfl
@[simp] theorem State.setLife_rdata (s : State) (f : Life → Life) : (s.setLife f).rdata = s.rdata := rfl
@[simp] theorem State.setLife_out (s : State) (f : Life → Life) : (s.setLife f).out = s.out := rfl
@[simp] theorem State.setLife_fresh (s : State) (f : Life → Life) : (s.setLife f).fresh = s.fresh := rfl
@[simp] theorem State.setLife_tb (s : State) (f : Life → Life) : (s.setLife f).tb = s.tb := rfl
@[simp] theorem State.setLife_eq (s : State) (f : Life → Life) : (s.setLife f).eq = s.eq := rfl
@[simp] theorem State.setLife_pcieHeld (s : State) (f : Life → Life) : (s.setLife f).pcieHeld = s.pcieHeld := rfl
@[simp] theorem State.setLife_pcieHold (s : State) (f : Life → Life) : (s.setLife f).pcieHold = s.pcieHold := rfl
@[simp] theorem State.setLife_hi (s : State) (f : Life → Life) : (s.setLife f).hi = s.hi := rfl
@[simp] theorem State.setLife_sch (s : State) (f : Life → Life) : (s.setLife f).sch = s.sch := rfl
@[simp] theorem State.setLife_al (s : State) (f : Life → Life) : (s.setLife f).al = s.al := rfl
@[simp] theorem State.setLife_progs (s : State) (f : Life → Life) : (s.setLife f).progs = s.progs := rfl
@[simp] theorem State.setLife_loads (s : State) (f : Life → Life) : (s.setLife f).loads = s.loads := rfl
@[simp] theorem State.setLife_sw (s : State) (f : Life → Life) : (s.setLife f).sw = s.sw := rfl
@[simp] theorem State.setLife_sv (s : State) (f : Life → Life) : (s.setLife f).sv = s.sv := rfl
@[simp] theorem State.setLife_sram (s : State) (f : Life → Life) : (s.setLife f).sram = s.sram := rfl
@[simp] theorem State.setLife_dram (s : State) (f : Life → Life) : (s.setLife f).dram = s.dram := rfl
@[simp] theorem State.setLife_cores (s : State) (f : Life → Life) : (s.setLife f).cores = s.cores := rfl
@[simp] theorem State.setLife_fw0 (s : State) (f : Life → Life) : (s.setLife f).fw0 = s.fw0 := rfl
@[simp] theorem State.setLife_boot (s : State) (f : Life → Life) : (s.setLife f).boot = s.boot := rfl
@[simp] theorem State.setLife_upd (s : State) (f : Life → Life) : (s.setLife f).upd = s.upd := rfl
@[simp] theorem State.setLife_ser (s : State) (f : Life → Life) : (s.setLife f).ser = s.ser := rfl
@[simp] theorem State.setLife_mix (s : State) (f : Life → Life) : (s.setLife f).mix = s.mix := rfl
@[simp] theorem State.setLife_ms (s : State) (f : Life → Life) : (s.setLife f).ms = s.ms := rfl
@[simp] theorem State.setLife_ao (s : State) (f : Life → Life) : (s.setLife f).ao = s.ao := rfl
@[simp] theorem State.setLife_st (s : State) (f : Life → Life) : (s.setLife f).st = s.st := rfl
@[simp] theorem State.setLife_pw (s : State) (f : Life → Life) : (s.setLife f).pw = s.pw := rfl
@[simp] theorem State.setLife_get (s : State) (f : Life → Life) (r : Fld) : (s.setLife f).get r = s.get r := rfl

/-! ### setBoot -/

@[simp] theorem State.setBoot_pending (s : State) (f : Boot → Boot) : (s.setBoot f).pending = s.pending := rfl
@[simp] theorem State.setBoot_regs (s : State) (f : Boot → Boot) : (s.setBoot f).regs = s.regs := rfl
@[simp] theorem State.setBoot_shadows (s : State) (f : Boot → Boot) : (s.setBoot f).shadows = s.shadows := rfl
@[simp] theorem State.setBoot_rdata (s : State) (f : Boot → Boot) : (s.setBoot f).rdata = s.rdata := rfl
@[simp] theorem State.setBoot_out (s : State) (f : Boot → Boot) : (s.setBoot f).out = s.out := rfl
@[simp] theorem State.setBoot_fresh (s : State) (f : Boot → Boot) : (s.setBoot f).fresh = s.fresh := rfl
@[simp] theorem State.setBoot_tb (s : State) (f : Boot → Boot) : (s.setBoot f).tb = s.tb := rfl
@[simp] theorem State.setBoot_eq (s : State) (f : Boot → Boot) : (s.setBoot f).eq = s.eq := rfl
@[simp] theorem State.setBoot_pcieHeld (s : State) (f : Boot → Boot) : (s.setBoot f).pcieHeld = s.pcieHeld := rfl
@[simp] theorem State.setBoot_pcieHold (s : State) (f : Boot → Boot) : (s.setBoot f).pcieHold = s.pcieHold := rfl
@[simp] theorem State.setBoot_hi (s : State) (f : Boot → Boot) : (s.setBoot f).hi = s.hi := rfl
@[simp] theorem State.setBoot_sch (s : State) (f : Boot → Boot) : (s.setBoot f).sch = s.sch := rfl
@[simp] theorem State.setBoot_al (s : State) (f : Boot → Boot) : (s.setBoot f).al = s.al := rfl
@[simp] theorem State.setBoot_progs (s : State) (f : Boot → Boot) : (s.setBoot f).progs = s.progs := rfl
@[simp] theorem State.setBoot_loads (s : State) (f : Boot → Boot) : (s.setBoot f).loads = s.loads := rfl
@[simp] theorem State.setBoot_sw (s : State) (f : Boot → Boot) : (s.setBoot f).sw = s.sw := rfl
@[simp] theorem State.setBoot_sv (s : State) (f : Boot → Boot) : (s.setBoot f).sv = s.sv := rfl
@[simp] theorem State.setBoot_sram (s : State) (f : Boot → Boot) : (s.setBoot f).sram = s.sram := rfl
@[simp] theorem State.setBoot_dram (s : State) (f : Boot → Boot) : (s.setBoot f).dram = s.dram := rfl
@[simp] theorem State.setBoot_cores (s : State) (f : Boot → Boot) : (s.setBoot f).cores = s.cores := rfl
@[simp] theorem State.setBoot_fw0 (s : State) (f : Boot → Boot) : (s.setBoot f).fw0 = s.fw0 := rfl
@[simp] theorem State.setBoot_life (s : State) (f : Boot → Boot) : (s.setBoot f).life = s.life := rfl
@[simp] theorem State.setBoot_upd (s : State) (f : Boot → Boot) : (s.setBoot f).upd = s.upd := rfl
@[simp] theorem State.setBoot_ser (s : State) (f : Boot → Boot) : (s.setBoot f).ser = s.ser := rfl
@[simp] theorem State.setBoot_mix (s : State) (f : Boot → Boot) : (s.setBoot f).mix = s.mix := rfl
@[simp] theorem State.setBoot_ms (s : State) (f : Boot → Boot) : (s.setBoot f).ms = s.ms := rfl
@[simp] theorem State.setBoot_ao (s : State) (f : Boot → Boot) : (s.setBoot f).ao = s.ao := rfl
@[simp] theorem State.setBoot_st (s : State) (f : Boot → Boot) : (s.setBoot f).st = s.st := rfl
@[simp] theorem State.setBoot_pw (s : State) (f : Boot → Boot) : (s.setBoot f).pw = s.pw := rfl
@[simp] theorem State.setBoot_get (s : State) (f : Boot → Boot) (r : Fld) : (s.setBoot f).get r = s.get r := rfl

/-! ### setUpd -/

@[simp] theorem State.setUpd_pending (s : State) (u : Option Update) : (s.setUpd u).pending = s.pending := rfl
@[simp] theorem State.setUpd_regs (s : State) (u : Option Update) : (s.setUpd u).regs = s.regs := rfl
@[simp] theorem State.setUpd_shadows (s : State) (u : Option Update) : (s.setUpd u).shadows = s.shadows := rfl
@[simp] theorem State.setUpd_rdata (s : State) (u : Option Update) : (s.setUpd u).rdata = s.rdata := rfl
@[simp] theorem State.setUpd_out (s : State) (u : Option Update) : (s.setUpd u).out = s.out := rfl
@[simp] theorem State.setUpd_fresh (s : State) (u : Option Update) : (s.setUpd u).fresh = s.fresh := rfl
@[simp] theorem State.setUpd_tb (s : State) (u : Option Update) : (s.setUpd u).tb = s.tb := rfl
@[simp] theorem State.setUpd_eq (s : State) (u : Option Update) : (s.setUpd u).eq = s.eq := rfl
@[simp] theorem State.setUpd_pcieHeld (s : State) (u : Option Update) : (s.setUpd u).pcieHeld = s.pcieHeld := rfl
@[simp] theorem State.setUpd_pcieHold (s : State) (u : Option Update) : (s.setUpd u).pcieHold = s.pcieHold := rfl
@[simp] theorem State.setUpd_hi (s : State) (u : Option Update) : (s.setUpd u).hi = s.hi := rfl
@[simp] theorem State.setUpd_sch (s : State) (u : Option Update) : (s.setUpd u).sch = s.sch := rfl
@[simp] theorem State.setUpd_al (s : State) (u : Option Update) : (s.setUpd u).al = s.al := rfl
@[simp] theorem State.setUpd_progs (s : State) (u : Option Update) : (s.setUpd u).progs = s.progs := rfl
@[simp] theorem State.setUpd_loads (s : State) (u : Option Update) : (s.setUpd u).loads = s.loads := rfl
@[simp] theorem State.setUpd_sw (s : State) (u : Option Update) : (s.setUpd u).sw = s.sw := rfl
@[simp] theorem State.setUpd_sv (s : State) (u : Option Update) : (s.setUpd u).sv = s.sv := rfl
@[simp] theorem State.setUpd_sram (s : State) (u : Option Update) : (s.setUpd u).sram = s.sram := rfl
@[simp] theorem State.setUpd_dram (s : State) (u : Option Update) : (s.setUpd u).dram = s.dram := rfl
@[simp] theorem State.setUpd_cores (s : State) (u : Option Update) : (s.setUpd u).cores = s.cores := rfl
@[simp] theorem State.setUpd_fw0 (s : State) (u : Option Update) : (s.setUpd u).fw0 = s.fw0 := rfl
@[simp] theorem State.setUpd_life (s : State) (u : Option Update) : (s.setUpd u).life = s.life := rfl
@[simp] theorem State.setUpd_boot (s : State) (u : Option Update) : (s.setUpd u).boot = s.boot := rfl
@[simp] theorem State.setUpd_ser (s : State) (u : Option Update) : (s.setUpd u).ser = s.ser := rfl
@[simp] theorem State.setUpd_mix (s : State) (u : Option Update) : (s.setUpd u).mix = s.mix := rfl
@[simp] theorem State.setUpd_ms (s : State) (u : Option Update) : (s.setUpd u).ms = s.ms := rfl
@[simp] theorem State.setUpd_ao (s : State) (u : Option Update) : (s.setUpd u).ao = s.ao := rfl
@[simp] theorem State.setUpd_st (s : State) (u : Option Update) : (s.setUpd u).st = s.st := rfl
@[simp] theorem State.setUpd_pw (s : State) (u : Option Update) : (s.setUpd u).pw = s.pw := rfl
@[simp] theorem State.setUpd_get (s : State) (u : Option Update) (r : Fld) : (s.setUpd u).get r = s.get r := rfl

/-! ### setSer -/

@[simp] theorem State.setSer_pending (s : State) (f : Ser → Ser) : (s.setSer f).pending = s.pending := rfl
@[simp] theorem State.setSer_regs (s : State) (f : Ser → Ser) : (s.setSer f).regs = s.regs := rfl
@[simp] theorem State.setSer_shadows (s : State) (f : Ser → Ser) : (s.setSer f).shadows = s.shadows := rfl
@[simp] theorem State.setSer_rdata (s : State) (f : Ser → Ser) : (s.setSer f).rdata = s.rdata := rfl
@[simp] theorem State.setSer_out (s : State) (f : Ser → Ser) : (s.setSer f).out = s.out := rfl
@[simp] theorem State.setSer_fresh (s : State) (f : Ser → Ser) : (s.setSer f).fresh = s.fresh := rfl
@[simp] theorem State.setSer_tb (s : State) (f : Ser → Ser) : (s.setSer f).tb = s.tb := rfl
@[simp] theorem State.setSer_eq (s : State) (f : Ser → Ser) : (s.setSer f).eq = s.eq := rfl
@[simp] theorem State.setSer_pcieHeld (s : State) (f : Ser → Ser) : (s.setSer f).pcieHeld = s.pcieHeld := rfl
@[simp] theorem State.setSer_pcieHold (s : State) (f : Ser → Ser) : (s.setSer f).pcieHold = s.pcieHold := rfl
@[simp] theorem State.setSer_hi (s : State) (f : Ser → Ser) : (s.setSer f).hi = s.hi := rfl
@[simp] theorem State.setSer_sch (s : State) (f : Ser → Ser) : (s.setSer f).sch = s.sch := rfl
@[simp] theorem State.setSer_al (s : State) (f : Ser → Ser) : (s.setSer f).al = s.al := rfl
@[simp] theorem State.setSer_progs (s : State) (f : Ser → Ser) : (s.setSer f).progs = s.progs := rfl
@[simp] theorem State.setSer_loads (s : State) (f : Ser → Ser) : (s.setSer f).loads = s.loads := rfl
@[simp] theorem State.setSer_sw (s : State) (f : Ser → Ser) : (s.setSer f).sw = s.sw := rfl
@[simp] theorem State.setSer_sv (s : State) (f : Ser → Ser) : (s.setSer f).sv = s.sv := rfl
@[simp] theorem State.setSer_sram (s : State) (f : Ser → Ser) : (s.setSer f).sram = s.sram := rfl
@[simp] theorem State.setSer_dram (s : State) (f : Ser → Ser) : (s.setSer f).dram = s.dram := rfl
@[simp] theorem State.setSer_cores (s : State) (f : Ser → Ser) : (s.setSer f).cores = s.cores := rfl
@[simp] theorem State.setSer_fw0 (s : State) (f : Ser → Ser) : (s.setSer f).fw0 = s.fw0 := rfl
@[simp] theorem State.setSer_life (s : State) (f : Ser → Ser) : (s.setSer f).life = s.life := rfl
@[simp] theorem State.setSer_boot (s : State) (f : Ser → Ser) : (s.setSer f).boot = s.boot := rfl
@[simp] theorem State.setSer_upd (s : State) (f : Ser → Ser) : (s.setSer f).upd = s.upd := rfl
@[simp] theorem State.setSer_mix (s : State) (f : Ser → Ser) : (s.setSer f).mix = s.mix := rfl
@[simp] theorem State.setSer_ms (s : State) (f : Ser → Ser) : (s.setSer f).ms = s.ms := rfl
@[simp] theorem State.setSer_ao (s : State) (f : Ser → Ser) : (s.setSer f).ao = s.ao := rfl
@[simp] theorem State.setSer_st (s : State) (f : Ser → Ser) : (s.setSer f).st = s.st := rfl
@[simp] theorem State.setSer_pw (s : State) (f : Ser → Ser) : (s.setSer f).pw = s.pw := rfl
@[simp] theorem State.setSer_get (s : State) (f : Ser → Ser) (r : Fld) : (s.setSer f).get r = s.get r := rfl

/-! ### setUart -/

@[simp] theorem State.setUart_pending (s : State) (u : Nat) (x : Uart) : (s.setUart u x).pending = s.pending := rfl
@[simp] theorem State.setUart_regs (s : State) (u : Nat) (x : Uart) : (s.setUart u x).regs = s.regs := rfl
@[simp] theorem State.setUart_shadows (s : State) (u : Nat) (x : Uart) : (s.setUart u x).shadows = s.shadows := rfl
@[simp] theorem State.setUart_rdata (s : State) (u : Nat) (x : Uart) : (s.setUart u x).rdata = s.rdata := rfl
@[simp] theorem State.setUart_out (s : State) (u : Nat) (x : Uart) : (s.setUart u x).out = s.out := rfl
@[simp] theorem State.setUart_fresh (s : State) (u : Nat) (x : Uart) : (s.setUart u x).fresh = s.fresh := rfl
@[simp] theorem State.setUart_tb (s : State) (u : Nat) (x : Uart) : (s.setUart u x).tb = s.tb := rfl
@[simp] theorem State.setUart_eq (s : State) (u : Nat) (x : Uart) : (s.setUart u x).eq = s.eq := rfl
@[simp] theorem State.setUart_pcieHeld (s : State) (u : Nat) (x : Uart) : (s.setUart u x).pcieHeld = s.pcieHeld := rfl
@[simp] theorem State.setUart_pcieHold (s : State) (u : Nat) (x : Uart) : (s.setUart u x).pcieHold = s.pcieHold := rfl
@[simp] theorem State.setUart_hi (s : State) (u : Nat) (x : Uart) : (s.setUart u x).hi = s.hi := rfl
@[simp] theorem State.setUart_sch (s : State) (u : Nat) (x : Uart) : (s.setUart u x).sch = s.sch := rfl
@[simp] theorem State.setUart_al (s : State) (u : Nat) (x : Uart) : (s.setUart u x).al = s.al := rfl
@[simp] theorem State.setUart_progs (s : State) (u : Nat) (x : Uart) : (s.setUart u x).progs = s.progs := rfl
@[simp] theorem State.setUart_loads (s : State) (u : Nat) (x : Uart) : (s.setUart u x).loads = s.loads := rfl
@[simp] theorem State.setUart_sw (s : State) (u : Nat) (x : Uart) : (s.setUart u x).sw = s.sw := rfl
@[simp] theorem State.setUart_sv (s : State) (u : Nat) (x : Uart) : (s.setUart u x).sv = s.sv := rfl
@[simp] theorem State.setUart_sram (s : State) (u : Nat) (x : Uart) : (s.setUart u x).sram = s.sram := rfl
@[simp] theorem State.setUart_dram (s : State) (u : Nat) (x : Uart) : (s.setUart u x).dram = s.dram := rfl
@[simp] theorem State.setUart_cores (s : State) (u : Nat) (x : Uart) : (s.setUart u x).cores = s.cores := rfl
@[simp] theorem State.setUart_fw0 (s : State) (u : Nat) (x : Uart) : (s.setUart u x).fw0 = s.fw0 := rfl
@[simp] theorem State.setUart_life (s : State) (u : Nat) (x : Uart) : (s.setUart u x).life = s.life := rfl
@[simp] theorem State.setUart_boot (s : State) (u : Nat) (x : Uart) : (s.setUart u x).boot = s.boot := rfl
@[simp] theorem State.setUart_upd (s : State) (u : Nat) (x : Uart) : (s.setUart u x).upd = s.upd := rfl
@[simp] theorem State.setUart_mix (s : State) (u : Nat) (x : Uart) : (s.setUart u x).mix = s.mix := rfl
@[simp] theorem State.setUart_ms (s : State) (u : Nat) (x : Uart) : (s.setUart u x).ms = s.ms := rfl
@[simp] theorem State.setUart_ao (s : State) (u : Nat) (x : Uart) : (s.setUart u x).ao = s.ao := rfl
@[simp] theorem State.setUart_st (s : State) (u : Nat) (x : Uart) : (s.setUart u x).st = s.st := rfl
@[simp] theorem State.setUart_pw (s : State) (u : Nat) (x : Uart) : (s.setUart u x).pw = s.pw := rfl
@[simp] theorem State.setUart_get (s : State) (u : Nat) (x : Uart) (r : Fld) : (s.setUart u x).get r = s.get r := rfl

/-! ### setMix -/

@[simp] theorem State.setMix_pending (s : State) (f : Mix → Mix) : (s.setMix f).pending = s.pending := rfl
@[simp] theorem State.setMix_regs (s : State) (f : Mix → Mix) : (s.setMix f).regs = s.regs := rfl
@[simp] theorem State.setMix_shadows (s : State) (f : Mix → Mix) : (s.setMix f).shadows = s.shadows := rfl
@[simp] theorem State.setMix_rdata (s : State) (f : Mix → Mix) : (s.setMix f).rdata = s.rdata := rfl
@[simp] theorem State.setMix_out (s : State) (f : Mix → Mix) : (s.setMix f).out = s.out := rfl
@[simp] theorem State.setMix_fresh (s : State) (f : Mix → Mix) : (s.setMix f).fresh = s.fresh := rfl
@[simp] theorem State.setMix_tb (s : State) (f : Mix → Mix) : (s.setMix f).tb = s.tb := rfl
@[simp] theorem State.setMix_eq (s : State) (f : Mix → Mix) : (s.setMix f).eq = s.eq := rfl
@[simp] theorem State.setMix_pcieHeld (s : State) (f : Mix → Mix) : (s.setMix f).pcieHeld = s.pcieHeld := rfl
@[simp] theorem State.setMix_pcieHold (s : State) (f : Mix → Mix) : (s.setMix f).pcieHold = s.pcieHold := rfl
@[simp] theorem State.setMix_hi (s : State) (f : Mix → Mix) : (s.setMix f).hi = s.hi := rfl
@[simp] theorem State.setMix_sch (s : State) (f : Mix → Mix) : (s.setMix f).sch = s.sch := rfl
@[simp] theorem State.setMix_al (s : State) (f : Mix → Mix) : (s.setMix f).al = s.al := rfl
@[simp] theorem State.setMix_progs (s : State) (f : Mix → Mix) : (s.setMix f).progs = s.progs := rfl
@[simp] theorem State.setMix_loads (s : State) (f : Mix → Mix) : (s.setMix f).loads = s.loads := rfl
@[simp] theorem State.setMix_sw (s : State) (f : Mix → Mix) : (s.setMix f).sw = s.sw := rfl
@[simp] theorem State.setMix_sv (s : State) (f : Mix → Mix) : (s.setMix f).sv = s.sv := rfl
@[simp] theorem State.setMix_sram (s : State) (f : Mix → Mix) : (s.setMix f).sram = s.sram := rfl
@[simp] theorem State.setMix_dram (s : State) (f : Mix → Mix) : (s.setMix f).dram = s.dram := rfl
@[simp] theorem State.setMix_cores (s : State) (f : Mix → Mix) : (s.setMix f).cores = s.cores := rfl
@[simp] theorem State.setMix_fw0 (s : State) (f : Mix → Mix) : (s.setMix f).fw0 = s.fw0 := rfl
@[simp] theorem State.setMix_life (s : State) (f : Mix → Mix) : (s.setMix f).life = s.life := rfl
@[simp] theorem State.setMix_boot (s : State) (f : Mix → Mix) : (s.setMix f).boot = s.boot := rfl
@[simp] theorem State.setMix_upd (s : State) (f : Mix → Mix) : (s.setMix f).upd = s.upd := rfl
@[simp] theorem State.setMix_ser (s : State) (f : Mix → Mix) : (s.setMix f).ser = s.ser := rfl
@[simp] theorem State.setMix_ms (s : State) (f : Mix → Mix) : (s.setMix f).ms = s.ms := rfl
@[simp] theorem State.setMix_ao (s : State) (f : Mix → Mix) : (s.setMix f).ao = s.ao := rfl
@[simp] theorem State.setMix_st (s : State) (f : Mix → Mix) : (s.setMix f).st = s.st := rfl
@[simp] theorem State.setMix_pw (s : State) (f : Mix → Mix) : (s.setMix f).pw = s.pw := rfl
@[simp] theorem State.setMix_get (s : State) (f : Mix → Mix) (r : Fld) : (s.setMix f).get r = s.get r := rfl

/-! ### setMs -/

@[simp] theorem State.setMs_pending (s : State) (f : MemSys → MemSys) : (s.setMs f).pending = s.pending := rfl
@[simp] theorem State.setMs_regs (s : State) (f : MemSys → MemSys) : (s.setMs f).regs = s.regs := rfl
@[simp] theorem State.setMs_shadows (s : State) (f : MemSys → MemSys) : (s.setMs f).shadows = s.shadows := rfl
@[simp] theorem State.setMs_rdata (s : State) (f : MemSys → MemSys) : (s.setMs f).rdata = s.rdata := rfl
@[simp] theorem State.setMs_out (s : State) (f : MemSys → MemSys) : (s.setMs f).out = s.out := rfl
@[simp] theorem State.setMs_fresh (s : State) (f : MemSys → MemSys) : (s.setMs f).fresh = s.fresh := rfl
@[simp] theorem State.setMs_tb (s : State) (f : MemSys → MemSys) : (s.setMs f).tb = s.tb := rfl
@[simp] theorem State.setMs_eq (s : State) (f : MemSys → MemSys) : (s.setMs f).eq = s.eq := rfl
@[simp] theorem State.setMs_pcieHeld (s : State) (f : MemSys → MemSys) : (s.setMs f).pcieHeld = s.pcieHeld := rfl
@[simp] theorem State.setMs_pcieHold (s : State) (f : MemSys → MemSys) : (s.setMs f).pcieHold = s.pcieHold := rfl
@[simp] theorem State.setMs_hi (s : State) (f : MemSys → MemSys) : (s.setMs f).hi = s.hi := rfl
@[simp] theorem State.setMs_sch (s : State) (f : MemSys → MemSys) : (s.setMs f).sch = s.sch := rfl
@[simp] theorem State.setMs_al (s : State) (f : MemSys → MemSys) : (s.setMs f).al = s.al := rfl
@[simp] theorem State.setMs_progs (s : State) (f : MemSys → MemSys) : (s.setMs f).progs = s.progs := rfl
@[simp] theorem State.setMs_loads (s : State) (f : MemSys → MemSys) : (s.setMs f).loads = s.loads := rfl
@[simp] theorem State.setMs_sw (s : State) (f : MemSys → MemSys) : (s.setMs f).sw = s.sw := rfl
@[simp] theorem State.setMs_sv (s : State) (f : MemSys → MemSys) : (s.setMs f).sv = s.sv := rfl
@[simp] theorem State.setMs_sram (s : State) (f : MemSys → MemSys) : (s.setMs f).sram = s.sram := rfl
@[simp] theorem State.setMs_dram (s : State) (f : MemSys → MemSys) : (s.setMs f).dram = s.dram := rfl
@[simp] theorem State.setMs_cores (s : State) (f : MemSys → MemSys) : (s.setMs f).cores = s.cores := rfl
@[simp] theorem State.setMs_fw0 (s : State) (f : MemSys → MemSys) : (s.setMs f).fw0 = s.fw0 := rfl
@[simp] theorem State.setMs_life (s : State) (f : MemSys → MemSys) : (s.setMs f).life = s.life := rfl
@[simp] theorem State.setMs_boot (s : State) (f : MemSys → MemSys) : (s.setMs f).boot = s.boot := rfl
@[simp] theorem State.setMs_upd (s : State) (f : MemSys → MemSys) : (s.setMs f).upd = s.upd := rfl
@[simp] theorem State.setMs_ser (s : State) (f : MemSys → MemSys) : (s.setMs f).ser = s.ser := rfl
@[simp] theorem State.setMs_mix (s : State) (f : MemSys → MemSys) : (s.setMs f).mix = s.mix := rfl
@[simp] theorem State.setMs_ao (s : State) (f : MemSys → MemSys) : (s.setMs f).ao = s.ao := rfl
@[simp] theorem State.setMs_st (s : State) (f : MemSys → MemSys) : (s.setMs f).st = s.st := rfl
@[simp] theorem State.setMs_pw (s : State) (f : MemSys → MemSys) : (s.setMs f).pw = s.pw := rfl
@[simp] theorem State.setMs_get (s : State) (f : MemSys → MemSys) (r : Fld) : (s.setMs f).get r = s.get r := rfl

/-! ### setDma -/

@[simp] theorem State.setDma_pending (s : State) (c : Nat) (d : CoreDma) : (s.setDma c d).pending = s.pending := rfl
@[simp] theorem State.setDma_regs (s : State) (c : Nat) (d : CoreDma) : (s.setDma c d).regs = s.regs := rfl
@[simp] theorem State.setDma_shadows (s : State) (c : Nat) (d : CoreDma) : (s.setDma c d).shadows = s.shadows := rfl
@[simp] theorem State.setDma_rdata (s : State) (c : Nat) (d : CoreDma) : (s.setDma c d).rdata = s.rdata := rfl
@[simp] theorem State.setDma_out (s : State) (c : Nat) (d : CoreDma) : (s.setDma c d).out = s.out := rfl
@[simp] theorem State.setDma_fresh (s : State) (c : Nat) (d : CoreDma) : (s.setDma c d).fresh = s.fresh := rfl
@[simp] theorem State.setDma_tb (s : State) (c : Nat) (d : CoreDma) : (s.setDma c d).tb = s.tb := rfl
@[simp] theorem State.setDma_eq (s : State) (c : Nat) (d : CoreDma) : (s.setDma c d).eq = s.eq := rfl
@[simp] theorem State.setDma_pcieHeld (s : State) (c : Nat) (d : CoreDma) : (s.setDma c d).pcieHeld = s.pcieHeld := rfl
@[simp] theorem State.setDma_pcieHold (s : State) (c : Nat) (d : CoreDma) : (s.setDma c d).pcieHold = s.pcieHold := rfl
@[simp] theorem State.setDma_hi (s : State) (c : Nat) (d : CoreDma) : (s.setDma c d).hi = s.hi := rfl
@[simp] theorem State.setDma_sch (s : State) (c : Nat) (d : CoreDma) : (s.setDma c d).sch = s.sch := rfl
@[simp] theorem State.setDma_al (s : State) (c : Nat) (d : CoreDma) : (s.setDma c d).al = s.al := rfl
@[simp] theorem State.setDma_progs (s : State) (c : Nat) (d : CoreDma) : (s.setDma c d).progs = s.progs := rfl
@[simp] theorem State.setDma_loads (s : State) (c : Nat) (d : CoreDma) : (s.setDma c d).loads = s.loads := rfl
@[simp] theorem State.setDma_sw (s : State) (c : Nat) (d : CoreDma) : (s.setDma c d).sw = s.sw := rfl
@[simp] theorem State.setDma_sv (s : State) (c : Nat) (d : CoreDma) : (s.setDma c d).sv = s.sv := rfl
@[simp] theorem State.setDma_sram (s : State) (c : Nat) (d : CoreDma) : (s.setDma c d).sram = s.sram := rfl
@[simp] theorem State.setDma_dram (s : State) (c : Nat) (d : CoreDma) : (s.setDma c d).dram = s.dram := rfl
@[simp] theorem State.setDma_cores (s : State) (c : Nat) (d : CoreDma) : (s.setDma c d).cores = s.cores := rfl
@[simp] theorem State.setDma_fw0 (s : State) (c : Nat) (d : CoreDma) : (s.setDma c d).fw0 = s.fw0 := rfl
@[simp] theorem State.setDma_life (s : State) (c : Nat) (d : CoreDma) : (s.setDma c d).life = s.life := rfl
@[simp] theorem State.setDma_boot (s : State) (c : Nat) (d : CoreDma) : (s.setDma c d).boot = s.boot := rfl
@[simp] theorem State.setDma_upd (s : State) (c : Nat) (d : CoreDma) : (s.setDma c d).upd = s.upd := rfl
@[simp] theorem State.setDma_ser (s : State) (c : Nat) (d : CoreDma) : (s.setDma c d).ser = s.ser := rfl
@[simp] theorem State.setDma_mix (s : State) (c : Nat) (d : CoreDma) : (s.setDma c d).mix = s.mix := rfl
@[simp] theorem State.setDma_ao (s : State) (c : Nat) (d : CoreDma) : (s.setDma c d).ao = s.ao := rfl
@[simp] theorem State.setDma_st (s : State) (c : Nat) (d : CoreDma) : (s.setDma c d).st = s.st := rfl
@[simp] theorem State.setDma_pw (s : State) (c : Nat) (d : CoreDma) : (s.setDma c d).pw = s.pw := rfl
@[simp] theorem State.setDma_get (s : State) (c : Nat) (d : CoreDma) (r : Fld) : (s.setDma c d).get r = s.get r := rfl

/-! ### setAo -/

@[simp] theorem State.setAo_pending (s : State) (n : Nat) (x : AoCh) : (s.setAo n x).pending = s.pending := rfl
@[simp] theorem State.setAo_regs (s : State) (n : Nat) (x : AoCh) : (s.setAo n x).regs = s.regs := rfl
@[simp] theorem State.setAo_shadows (s : State) (n : Nat) (x : AoCh) : (s.setAo n x).shadows = s.shadows := rfl
@[simp] theorem State.setAo_rdata (s : State) (n : Nat) (x : AoCh) : (s.setAo n x).rdata = s.rdata := rfl
@[simp] theorem State.setAo_out (s : State) (n : Nat) (x : AoCh) : (s.setAo n x).out = s.out := rfl
@[simp] theorem State.setAo_fresh (s : State) (n : Nat) (x : AoCh) : (s.setAo n x).fresh = s.fresh := rfl
@[simp] theorem State.setAo_tb (s : State) (n : Nat) (x : AoCh) : (s.setAo n x).tb = s.tb := rfl
@[simp] theorem State.setAo_eq (s : State) (n : Nat) (x : AoCh) : (s.setAo n x).eq = s.eq := rfl
@[simp] theorem State.setAo_pcieHeld (s : State) (n : Nat) (x : AoCh) : (s.setAo n x).pcieHeld = s.pcieHeld := rfl
@[simp] theorem State.setAo_pcieHold (s : State) (n : Nat) (x : AoCh) : (s.setAo n x).pcieHold = s.pcieHold := rfl
@[simp] theorem State.setAo_hi (s : State) (n : Nat) (x : AoCh) : (s.setAo n x).hi = s.hi := rfl
@[simp] theorem State.setAo_sch (s : State) (n : Nat) (x : AoCh) : (s.setAo n x).sch = s.sch := rfl
@[simp] theorem State.setAo_al (s : State) (n : Nat) (x : AoCh) : (s.setAo n x).al = s.al := rfl
@[simp] theorem State.setAo_progs (s : State) (n : Nat) (x : AoCh) : (s.setAo n x).progs = s.progs := rfl
@[simp] theorem State.setAo_loads (s : State) (n : Nat) (x : AoCh) : (s.setAo n x).loads = s.loads := rfl
@[simp] theorem State.setAo_sw (s : State) (n : Nat) (x : AoCh) : (s.setAo n x).sw = s.sw := rfl
@[simp] theorem State.setAo_sv (s : State) (n : Nat) (x : AoCh) : (s.setAo n x).sv = s.sv := rfl
@[simp] theorem State.setAo_sram (s : State) (n : Nat) (x : AoCh) : (s.setAo n x).sram = s.sram := rfl
@[simp] theorem State.setAo_dram (s : State) (n : Nat) (x : AoCh) : (s.setAo n x).dram = s.dram := rfl
@[simp] theorem State.setAo_cores (s : State) (n : Nat) (x : AoCh) : (s.setAo n x).cores = s.cores := rfl
@[simp] theorem State.setAo_fw0 (s : State) (n : Nat) (x : AoCh) : (s.setAo n x).fw0 = s.fw0 := rfl
@[simp] theorem State.setAo_life (s : State) (n : Nat) (x : AoCh) : (s.setAo n x).life = s.life := rfl
@[simp] theorem State.setAo_boot (s : State) (n : Nat) (x : AoCh) : (s.setAo n x).boot = s.boot := rfl
@[simp] theorem State.setAo_upd (s : State) (n : Nat) (x : AoCh) : (s.setAo n x).upd = s.upd := rfl
@[simp] theorem State.setAo_ser (s : State) (n : Nat) (x : AoCh) : (s.setAo n x).ser = s.ser := rfl
@[simp] theorem State.setAo_mix (s : State) (n : Nat) (x : AoCh) : (s.setAo n x).mix = s.mix := rfl
@[simp] theorem State.setAo_ms (s : State) (n : Nat) (x : AoCh) : (s.setAo n x).ms = s.ms := rfl
@[simp] theorem State.setAo_st (s : State) (n : Nat) (x : AoCh) : (s.setAo n x).st = s.st := rfl
@[simp] theorem State.setAo_pw (s : State) (n : Nat) (x : AoCh) : (s.setAo n x).pw = s.pw := rfl
@[simp] theorem State.setAo_get (s : State) (n : Nat) (x : AoCh) (r : Fld) : (s.setAo n x).get r = s.get r := rfl

/-! ### setSt -/

@[simp] theorem State.setSt_pending (s : State) (f : SelfTest → SelfTest) : (s.setSt f).pending = s.pending := rfl
@[simp] theorem State.setSt_regs (s : State) (f : SelfTest → SelfTest) : (s.setSt f).regs = s.regs := rfl
@[simp] theorem State.setSt_shadows (s : State) (f : SelfTest → SelfTest) : (s.setSt f).shadows = s.shadows := rfl
@[simp] theorem State.setSt_rdata (s : State) (f : SelfTest → SelfTest) : (s.setSt f).rdata = s.rdata := rfl
@[simp] theorem State.setSt_out (s : State) (f : SelfTest → SelfTest) : (s.setSt f).out = s.out := rfl
@[simp] theorem State.setSt_fresh (s : State) (f : SelfTest → SelfTest) : (s.setSt f).fresh = s.fresh := rfl
@[simp] theorem State.setSt_tb (s : State) (f : SelfTest → SelfTest) : (s.setSt f).tb = s.tb := rfl
@[simp] theorem State.setSt_eq (s : State) (f : SelfTest → SelfTest) : (s.setSt f).eq = s.eq := rfl
@[simp] theorem State.setSt_pcieHeld (s : State) (f : SelfTest → SelfTest) : (s.setSt f).pcieHeld = s.pcieHeld := rfl
@[simp] theorem State.setSt_pcieHold (s : State) (f : SelfTest → SelfTest) : (s.setSt f).pcieHold = s.pcieHold := rfl
@[simp] theorem State.setSt_hi (s : State) (f : SelfTest → SelfTest) : (s.setSt f).hi = s.hi := rfl
@[simp] theorem State.setSt_sch (s : State) (f : SelfTest → SelfTest) : (s.setSt f).sch = s.sch := rfl
@[simp] theorem State.setSt_al (s : State) (f : SelfTest → SelfTest) : (s.setSt f).al = s.al := rfl
@[simp] theorem State.setSt_progs (s : State) (f : SelfTest → SelfTest) : (s.setSt f).progs = s.progs := rfl
@[simp] theorem State.setSt_loads (s : State) (f : SelfTest → SelfTest) : (s.setSt f).loads = s.loads := rfl
@[simp] theorem State.setSt_sw (s : State) (f : SelfTest → SelfTest) : (s.setSt f).sw = s.sw := rfl
@[simp] theorem State.setSt_sv (s : State) (f : SelfTest → SelfTest) : (s.setSt f).sv = s.sv := rfl
@[simp] theorem State.setSt_sram (s : State) (f : SelfTest → SelfTest) : (s.setSt f).sram = s.sram := rfl
@[simp] theorem State.setSt_dram (s : State) (f : SelfTest → SelfTest) : (s.setSt f).dram = s.dram := rfl
@[simp] theorem State.setSt_cores (s : State) (f : SelfTest → SelfTest) : (s.setSt f).cores = s.cores := rfl
@[simp] theorem State.setSt_fw0 (s : State) (f : SelfTest → SelfTest) : (s.setSt f).fw0 = s.fw0 := rfl
@[simp] theorem State.setSt_life (s : State) (f : SelfTest → SelfTest) : (s.setSt f).life = s.life := rfl
@[simp] theorem State.setSt_boot (s : State) (f : SelfTest → SelfTest) : (s.setSt f).boot = s.boot := rfl
@[simp] theorem State.setSt_upd (s : State) (f : SelfTest → SelfTest) : (s.setSt f).upd = s.upd := rfl
@[simp] theorem State.setSt_ser (s : State) (f : SelfTest → SelfTest) : (s.setSt f).ser = s.ser := rfl
@[simp] theorem State.setSt_mix (s : State) (f : SelfTest → SelfTest) : (s.setSt f).mix = s.mix := rfl
@[simp] theorem State.setSt_ms (s : State) (f : SelfTest → SelfTest) : (s.setSt f).ms = s.ms := rfl
@[simp] theorem State.setSt_ao (s : State) (f : SelfTest → SelfTest) : (s.setSt f).ao = s.ao := rfl
@[simp] theorem State.setSt_pw (s : State) (f : SelfTest → SelfTest) : (s.setSt f).pw = s.pw := rfl
@[simp] theorem State.setSt_get (s : State) (f : SelfTest → SelfTest) (r : Fld) : (s.setSt f).get r = s.get r := rfl

/-! ### setPw -/

@[simp] theorem State.setPw_pending (s : State) (f : Power → Power) : (s.setPw f).pending = s.pending := rfl
@[simp] theorem State.setPw_regs (s : State) (f : Power → Power) : (s.setPw f).regs = s.regs := rfl
@[simp] theorem State.setPw_shadows (s : State) (f : Power → Power) : (s.setPw f).shadows = s.shadows := rfl
@[simp] theorem State.setPw_rdata (s : State) (f : Power → Power) : (s.setPw f).rdata = s.rdata := rfl
@[simp] theorem State.setPw_out (s : State) (f : Power → Power) : (s.setPw f).out = s.out := rfl
@[simp] theorem State.setPw_fresh (s : State) (f : Power → Power) : (s.setPw f).fresh = s.fresh := rfl
@[simp] theorem State.setPw_tb (s : State) (f : Power → Power) : (s.setPw f).tb = s.tb := rfl
@[simp] theorem State.setPw_eq (s : State) (f : Power → Power) : (s.setPw f).eq = s.eq := rfl
@[simp] theorem State.setPw_pcieHeld (s : State) (f : Power → Power) : (s.setPw f).pcieHeld = s.pcieHeld := rfl
@[simp] theorem State.setPw_pcieHold (s : State) (f : Power → Power) : (s.setPw f).pcieHold = s.pcieHold := rfl
@[simp] theorem State.setPw_hi (s : State) (f : Power → Power) : (s.setPw f).hi = s.hi := rfl
@[simp] theorem State.setPw_sch (s : State) (f : Power → Power) : (s.setPw f).sch = s.sch := rfl
@[simp] theorem State.setPw_al (s : State) (f : Power → Power) : (s.setPw f).al = s.al := rfl
@[simp] theorem State.setPw_progs (s : State) (f : Power → Power) : (s.setPw f).progs = s.progs := rfl
@[simp] theorem State.setPw_loads (s : State) (f : Power → Power) : (s.setPw f).loads = s.loads := rfl
@[simp] theorem State.setPw_sw (s : State) (f : Power → Power) : (s.setPw f).sw = s.sw := rfl
@[simp] theorem State.setPw_sv (s : State) (f : Power → Power) : (s.setPw f).sv = s.sv := rfl
@[simp] theorem State.setPw_sram (s : State) (f : Power → Power) : (s.setPw f).sram = s.sram := rfl
@[simp] theorem State.setPw_dram (s : State) (f : Power → Power) : (s.setPw f).dram = s.dram := rfl
@[simp] theorem State.setPw_cores (s : State) (f : Power → Power) : (s.setPw f).cores = s.cores := rfl
@[simp] theorem State.setPw_fw0 (s : State) (f : Power → Power) : (s.setPw f).fw0 = s.fw0 := rfl
@[simp] theorem State.setPw_life (s : State) (f : Power → Power) : (s.setPw f).life = s.life := rfl
@[simp] theorem State.setPw_boot (s : State) (f : Power → Power) : (s.setPw f).boot = s.boot := rfl
@[simp] theorem State.setPw_upd (s : State) (f : Power → Power) : (s.setPw f).upd = s.upd := rfl
@[simp] theorem State.setPw_ser (s : State) (f : Power → Power) : (s.setPw f).ser = s.ser := rfl
@[simp] theorem State.setPw_mix (s : State) (f : Power → Power) : (s.setPw f).mix = s.mix := rfl
@[simp] theorem State.setPw_ms (s : State) (f : Power → Power) : (s.setPw f).ms = s.ms := rfl
@[simp] theorem State.setPw_ao (s : State) (f : Power → Power) : (s.setPw f).ao = s.ao := rfl
@[simp] theorem State.setPw_st (s : State) (f : Power → Power) : (s.setPw f).st = s.st := rfl
@[simp] theorem State.setPw_get (s : State) (f : Power → Power) (r : Fld) : (s.setPw f).get r = s.get r := rfl

/-! ### Register fields -/

/-- A field just written reads as written, held to its width. -/
@[simp] theorem State.get_put_self (s : State) (f : Fld) (v : Nat) : (s.put f v).get f = v % 2 ^ f.w := by
  simp [State.get, State.put, Tbl.get_put_self]

/-- A write leaves every field at another place alone. -/
theorem State.get_put_ne (s : State) {f g : Fld} (v : Nat) (h : f.key ≠ g.key) : (s.put f v).get g = s.get g := by
  simp [State.get, State.put, Tbl.get_put_ne _ _ _ _ h]

/-- A read after a write, by place. -/
theorem State.get_put (s : State) (f g : Fld) (v : Nat) (h : f.key = g.key → f = g) :
    (s.put f v).get g = if f = g then v % 2 ^ g.w else s.get g := by
  by_cases e : f.key = g.key
  · have := h e; subst this; simp
  · rw [State.get_put_ne s v e, if_neg (fun x => e (by rw [x]))]

/-- A field's value is within its width, in every state. -/
theorem State.get_lt (s : State) (f : Fld) : s.get f < 2 ^ f.w := Nat.mod_lt _ (Nat.two_pow_pos _)

theorem State.get_set1_self (s : State) (f : Fld) (h : f.w = 1) : (s.set1 f).get f = 1 := by
  simp [State.set1, h]

theorem State.get_set1_ne (s : State) {f g : Fld} (h : f.key ≠ g.key) : (s.set1 f).get g = s.get g := State.get_put_ne s 1 h

theorem State.on_set1_self (s : State) (f : Fld) (h : f.w = 1) : (s.set1 f).on f = true := by
  simp [State.on, State.get_set1_self s f h]

theorem State.get_count_self (s : State) (f : Fld) (n : Nat) : (s.count f n).get f = (s.get f + n) % 2 ^ f.w := by
  simp [State.count]

theorem State.get_count_ne (s : State) {f g : Fld} (n : Nat) (h : f.key ≠ g.key) : (s.count f n).get g = s.get g :=
  State.get_put_ne s _ h

/-- The registers after a write of one field: only its key. -/
theorem State.put_regs_wf (s : State) (f : Fld) (v k : Nat) (h : f.key ≠ k) (d : Nat) : Tbl.get d (s.put f v).regs k = Tbl.get d s.regs k :=
  Tbl.get_put_ne _ _ _ _ h

end Sys2Proof.Machine
end

