-- ==== Sys2Proof/Laws/Record.lean ====
section
/-!
SUPPORT. What writing an event record can do: one lemma for the whole of it, and one for each part of the state it leaves alone.
-/
namespace Sys2Proof.Machine

/-- The fields a record may change beside its queue: PROD, DROP and DISCARD of the queues, the MSI-X pending bits, and the
switch's count and flag of a NOTIFY frame without a route. -/
def recTouches (k : Nat) : Bool :=
  decide ((32 * 0x20000 ≤ k ∧ k < 32 * 0x20200) ∨ (32 * 0x18800 ≤ k ∧ k < 32 * 0x18808) ∨ (32 * 0xC0008 ≤ k ∧ k < 32 * 0xC000C)
    ∨ (32 * 0xC0044 ≤ k ∧ k < 32 * 0xC0048))

/-- Everything writing a record leaves alone. -/
structure RecFrame (s t : State) : Prop where
  pending : t.pending = s.pending
  shadows : t.shadows = s.shadows
  rdata : t.rdata = s.rdata
  fresh : t.fresh = s.fresh
  tb : t.tb = s.tb
  pcieHold : t.pcieHold = s.pcieHold
  hi : t.hi = s.hi
  sch : t.sch = s.sch
  al : t.al = s.al
  progs : t.progs = s.progs
  loads : t.loads = s.loads
  sv : t.sv = s.sv
  dram : t.dram = s.dram
  cores : t.cores = s.cores
  fw0 : t.fw0 = s.fw0
  life : t.life = s.life
  boot : t.boot = s.boot
  upd : t.upd = s.upd
  ser : t.ser = s.ser
  mix : t.mix = s.mix
  ms : t.ms = s.ms
  ao : t.ao = s.ao
  st : t.st = s.st
  pw : t.pw = s.pw
  sw : t.sw = { s.sw with buf := t.sw.buf }
  sram : s.sram.wf = true → t.sram.wf = true
  reg : ∀ k d, recTouches k = false → Tbl.get d t.regs k = Tbl.get d s.regs k

theorem RecFrame.refl (s : State) : RecFrame s s := by constructor <;> first | rfl | exact fun h => h | exact fun _ _ _ => rfl

theorem RecFrame.trans {s t u : State} (a : RecFrame s t) (b : RecFrame t u) : RecFrame s u := by
  constructor
  all_goals first
    | exact (b.pending).trans a.pending | exact (b.shadows).trans a.shadows | exact (b.rdata).trans a.rdata
    | exact (b.fresh).trans a.fresh | exact (b.tb).trans a.tb | exact (b.pcieHold).trans a.pcieHold | exact (b.hi).trans a.hi
    | exact (b.sch).trans a.sch | exact (b.al).trans a.al | exact (b.progs).trans a.progs | exact (b.loads).trans a.loads
    | exact (b.sv).trans a.sv | exact (b.dram).trans a.dram | exact (b.cores).trans a.cores | exact (b.fw0).trans a.fw0
    | exact (b.life).trans a.life | exact (b.boot).trans a.boot | exact (b.upd).trans a.upd | exact (b.ser).trans a.ser
    | exact (b.mix).trans a.mix | exact (b.ms).trans a.ms | exact (b.ao).trans a.ao | exact (b.st).trans a.st | exact (b.pw).trans a.pw
    | exact fun h => b.sram (a.sram h)
    | exact fun k d h => (b.reg k d h).trans (a.reg k d h)
    | (rw [b.sw, a.sw])

/-- A register field the record may touch. -/
theorem RecFrame.put (s : State) (f : Fld) (v : Nat) (h : recTouches f.key = true) : RecFrame s (s.put f v) := by
  constructor <;> first | rfl | exact fun h => h | skip
  intro k d hk
  apply State.put_regs_wf
  intro e; rw [e, hk] at h; cases h

theorem RecFrame.emit (s : State) (o : Out) : RecFrame s (s.emit o) := by
  constructor <;> first | rfl | exact fun h => h | exact fun _ _ _ => rfl

theorem RecFrame.setQueue (s : State) (n : Nat) (q : EvQueue) : RecFrame s (s.setQueue n q) := by
  constructor <;> first | rfl | exact fun h => h | exact fun _ _ _ => rfl

theorem RecFrame.setBuf (s : State) (f : List BufF → List BufF) : RecFrame s (s.setSw (fun w => { w with buf := f w.buf })) := by
  constructor <;> first | rfl | exact fun h => h | exact fun _ _ _ => rfl

theorem RecFrame.holdPcie (s : State) (n : Nat) (h : HeldRec) : RecFrame s (s.holdPcie n h) := by
  constructor <;> first | rfl | exact fun h => h | exact fun _ _ _ => rfl

theorem RecFrame.exchWrite (s : State) (o : Nat) (b : List (BitVec 8)) : RecFrame s (s.exchWrite o b) := by
  constructor <;> first | rfl | exact fun h => Memory.wf_setBytes _ _ _ h | exact fun _ _ _ => rfl

theorem recTouches_prod (n : Nat) (h : n < 8) : recTouches (Reg.EQ_Q_PROD n).key = true := by
  apply decide_eq_true; simp only [Fld.key, Reg.EQ_Q_PROD]; omega
theorem recTouches_drop (n : Nat) (h : n < 8) : recTouches (Reg.EQ_Q_DROP n).key = true := by
  apply decide_eq_true; simp only [Fld.key, Reg.EQ_Q_DROP]; omega
theorem recTouches_pba (n : Nat) (h : n < 2) : recTouches (Reg.HI_PBA n).key = true := by
  apply decide_eq_true; simp only [Fld.key, Reg.HI_PBA]; omega

theorem RecFrame.dropRoute (s : State) : RecFrame s s.dropRoute :=
  (RecFrame.put s _ _ (by decide)).trans (RecFrame.put _ _ _ (by decide))

theorem RecFrame.foldl {α : Type} (g : State → α → State) (h : ∀ s a, RecFrame s (g s a)) (l : List α) (s : State) :
    RecFrame s (l.foldl g s) := by
  induction l generalizing s with
  | nil => exact RecFrame.refl s
  | cons a l ih => exact (h s a).trans (ih _)

theorem RecFrame.queueFrame (s : State) (ps : List Nat) (f : Frame) (here : Bool) (fl : Option Flight) :
    RecFrame s (s.queueFrame ps f here fl) := by
  unfold State.queueFrame State.carry
  exact (RecFrame.foldl _ (fun s _ => RecFrame.dropRoute s) _ s).trans (RecFrame.setBuf _ (fun b => b ++ _))

theorem RecFrame.sendTo (s : State) (tc kind dst : Nat) (b : List (BitVec 8)) (fl : Option Flight) :
    RecFrame s (s.sendTo tc kind dst b fl).1 := by
  unfold State.sendTo
  split
  · exact RecFrame.refl s
  · exact RecFrame.queueFrame _ _ _ _ _

theorem RecFrame.msix (s : State) (v : Nat) (h : v < 64) : RecFrame s (s.msix v) := by
  unfold State.msix
  split
  · exact RecFrame.put _ _ _ (recTouches_pba _ (by omega))
  · exact RecFrame.emit _ _

theorem RecFrame.qSignal (s : State) (n : Nat) : RecFrame s (s.qSignal n) := by
  unfold State.qSignal
  dsimp only
  split
  · exact (RecFrame.setQueue s n _).trans (RecFrame.msix _ _ (State.get_lt _ (Reg.EQ_Q_CFG_VECTOR n)))
  · exact (RecFrame.setQueue s n _).trans (RecFrame.sendTo _ _ _ _ _ _)

theorem RecFrame.ite {c : Prop} [Decidable c] {s t u : State} (a : RecFrame s t) (b : RecFrame s u) : RecFrame s (if c then t else u) := by
  split <;> assumption

/-- Writing a plain record or a marker. -/
theorem RecFrame.qWrite (s : State) (n : Nat) (h : HeldRec) (hn : n < 8) (hk : h.kind = .plain) : RecFrame s (s.qWrite n h) := by
  unfold State.qWrite
  simp only [hk]
  have step : ∀ (t : State) (q : EvQueue) (x : Nat), RecFrame s t → RecFrame s ((t.put (Reg.EQ_Q_PROD n) x).setQueue n q) :=
    fun t q x a => (a.trans (RecFrame.put t _ _ (recTouches_prod n hn))).trans (RecFrame.setQueue _ n q)
  have loc : ∀ b o bs, RecFrame s (if s.get (Reg.EQ_Q_CFG_LOC n) = 0 then s.emit (.hostWrite b bs) else s.exchWrite o bs) := by
    intro b o bs; split
    · exact RecFrame.emit _ _
    · exact RecFrame.exchWrite _ _ _
  refine RecFrame.ite ?_ ?_
  · exact RecFrame.trans (step _ _ _ (loc _ _ _)) (RecFrame.qSignal _ n)
  · exact step _ _ _ (loc _ _ _)

theorem RecFrame.qHold (s : State) (n : Nat) (h : HeldRec) (hn : n < 8) (hk : h.kind = .plain) : RecFrame s (s.qHold n h) := by
  unfold State.qHold
  simp only [hk]
  refine RecFrame.ite ?_ ?_
  · split
    · exact (RecFrame.put s _ _ (recTouches_drop n hn)).trans (RecFrame.setQueue _ n _)
    · exact (RecFrame.put s _ _ (recTouches_drop n hn)).trans (RecFrame.setQueue _ n _)
  · exact RecFrame.setQueue _ n _

theorem RecFrame.qEnter (s : State) (n : Nat) (h : HeldRec) (hn : n < 8) (hk : h.kind = .plain) : RecFrame s (s.qEnter n h) := by
  unfold State.qEnter
  simp only [hk]
  split
  · exact RecFrame.put s _ _ (by decide)
  · split
    · exact RecFrame.qWrite s n h hn hk
    · exact RecFrame.qHold s n h hn hk

/-- A record changes nothing but its queue and what its message changes. -/
theorem RecFrame.record (s : State) (r : Rec) : RecFrame s (s.record r) := by
  unfold State.record
  split
  · dsimp only
    split
    · exact RecFrame.holdPcie _ _ _
    · exact RecFrame.qEnter s _ _ (State.get_lt s (Reg.EQ_SRC_QUEUE r.src)) rfl
  · exact RecFrame.refl s

theorem RecFrame.eventAt (s : State) (t typ src unit reason payload : Nat) : RecFrame s (s.eventAt t typ src unit reason payload) :=
  RecFrame.record s _
theorem RecFrame.event (s : State) (typ src unit reason payload : Nat) : RecFrame s (s.event typ src unit reason payload) :=
  RecFrame.record s _

@[simp] theorem State.record_pending (s : State) (r : Rec) : (s.record r).pending = s.pending := (RecFrame.record s r).pending
@[simp] theorem State.eventAt_pending (s : State) (t a b c d e : Nat) : (s.eventAt t a b c d e).pending = s.pending := (RecFrame.eventAt s t a b c d e).pending
@[simp] theorem State.event_pending (s : State) (a b c d e : Nat) : (s.event a b c d e).pending = s.pending := (RecFrame.event s a b c d e).pending
@[simp] theorem State.record_shadows (s : State) (r : Rec) : (s.record r).shadows = s.shadows := (RecFrame.record s r).shadows
@[simp] theorem State.eventAt_shadows (s : State) (t a b c d e : Nat) : (s.eventAt t a b c d e).shadows = s.shadows := (RecFrame.eventAt s t a b c d e).shadows
@[simp] theorem State.event_shadows (s : State) (a b c d e : Nat) : (s.event a b c d e).shadows = s.shadows := (RecFrame.event s a b c d e).shadows
@[simp] theorem State.record_rdata (s : State) (r : Rec) : (s.record r).rdata = s.rdata := (RecFrame.record s r).rdata
@[simp] theorem State.eventAt_rdata (s : State) (t a b c d e : Nat) : (s.eventAt t a b c d e).rdata = s.rdata := (RecFrame.eventAt s t a b c d e).rdata
@[simp] theorem State.event_rdata (s : State) (a b c d e : Nat) : (s.event a b c d e).rdata = s.rdata := (RecFrame.event s a b c d e).rdata
@[simp] theorem State.record_fresh (s : State) (r : Rec) : (s.record r).fresh = s.fresh := (RecFrame.record s r).fresh
@[simp] theorem State.eventAt_fresh (s : State) (t a b c d e : Nat) : (s.eventAt t a b c d e).fresh = s.fresh := (RecFrame.eventAt s t a b c d e).fresh
@[simp] theorem State.event_fresh (s : State) (a b c d e : Nat) : (s.event a b c d e).fresh = s.fresh := (RecFrame.event s a b c d e).fresh
@[simp] theorem State.record_tb (s : State) (r : Rec) : (s.record r).tb = s.tb := (RecFrame.record s r).tb
@[simp] theorem State.eventAt_tb (s : State) (t a b c d e : Nat) : (s.eventAt t a b c d e).tb = s.tb := (RecFrame.eventAt s t a b c d e).tb
@[simp] theorem State.event_tb (s : State) (a b c d e : Nat) : (s.event a b c d e).tb = s.tb := (RecFrame.event s a b c d e).tb
@[simp] theorem State.record_pcieHold (s : State) (r : Rec) : (s.record r).pcieHold = s.pcieHold := (RecFrame.record s r).pcieHold
@[simp] theorem State.eventAt_pcieHold (s : State) (t a b c d e : Nat) : (s.eventAt t a b c d e).pcieHold = s.pcieHold := (RecFrame.eventAt s t a b c d e).pcieHold
@[simp] theorem State.event_pcieHold (s : State) (a b c d e : Nat) : (s.event a b c d e).pcieHold = s.pcieHold := (RecFrame.event s a b c d e).pcieHold
@[simp] theorem State.record_hi (s : State) (r : Rec) : (s.record r).hi = s.hi := (RecFrame.record s r).hi
@[simp] theorem State.eventAt_hi (s : State) (t a b c d e : Nat) : (s.eventAt t a b c d e).hi = s.hi := (RecFrame.eventAt s t a b c d e).hi
@[simp] theorem State.event_hi (s : State) (a b c d e : Nat) : (s.event a b c d e).hi = s.hi := (RecFrame.event s a b c d e).hi
@[simp] theorem State.record_sch (s : State) (r : Rec) : (s.record r).sch = s.sch := (RecFrame.record s r).sch
@[simp] theorem State.eventAt_sch (s : State) (t a b c d e : Nat) : (s.eventAt t a b c d e).sch = s.sch := (RecFrame.eventAt s t a b c d e).sch
@[simp] theorem State.event_sch (s : State) (a b c d e : Nat) : (s.event a b c d e).sch = s.sch := (RecFrame.event s a b c d e).sch
@[simp] theorem State.record_al (s : State) (r : Rec) : (s.record r).al = s.al := (RecFrame.record s r).al
@[simp] theorem State.eventAt_al (s : State) (t a b c d e : Nat) : (s.eventAt t a b c d e).al = s.al := (RecFrame.eventAt s t a b c d e).al
@[simp] theorem State.event_al (s : State) (a b c d e : Nat) : (s.event a b c d e).al = s.al := (RecFrame.event s a b c d e).al
@[simp] theorem State.record_progs (s : State) (r : Rec) : (s.record r).progs = s.progs := (RecFrame.record s r).progs
@[simp] theorem State.eventAt_progs (s : State) (t a b c d e : Nat) : (s.eventAt t a b c d e).progs = s.progs := (RecFrame.eventAt s t a b c d e).progs
@[simp] theorem State.event_progs (s : State) (a b c d e : Nat) : (s.event a b c d e).progs = s.progs := (RecFrame.event s a b c d e).progs
@[simp] theorem State.record_loads (s : State) (r : Rec) : (s.record r).loads = s.loads := (RecFrame.record s r).loads
@[simp] theorem State.eventAt_loads (s : State) (t a b c d e : Nat) : (s.eventAt t a b c d e).loads = s.loads := (RecFrame.eventAt s t a b c d e).loads
@[simp] theorem State.event_loads (s : State) (a b c d e : Nat) : (s.event a b c d e).loads = s.loads := (RecFrame.event s a b c d e).loads
@[simp] theorem State.record_sv (s : State) (r : Rec) : (s.record r).sv = s.sv := (RecFrame.record s r).sv
@[simp] theorem State.eventAt_sv (s : State) (t a b c d e : Nat) : (s.eventAt t a b c d e).sv = s.sv := (RecFrame.eventAt s t a b c d e).sv
@[simp] theorem State.event_sv (s : State) (a b c d e : Nat) : (s.event a b c d e).sv = s.sv := (RecFrame.event s a b c d e).sv
@[simp] theorem State.record_dram (s : State) (r : Rec) : (s.record r).dram = s.dram := (RecFrame.record s r).dram
@[simp] theorem State.eventAt_dram (s : State) (t a b c d e : Nat) : (s.eventAt t a b c d e).dram = s.dram := (RecFrame.eventAt s t a b c d e).dram
@[simp] theorem State.event_dram (s : State) (a b c d e : Nat) : (s.event a b c d e).dram = s.dram := (RecFrame.event s a b c d e).dram
@[simp] theorem State.record_cores (s : State) (r : Rec) : (s.record r).cores = s.cores := (RecFrame.record s r).cores
@[simp] theorem State.eventAt_cores (s : State) (t a b c d e : Nat) : (s.eventAt t a b c d e).cores = s.cores := (RecFrame.eventAt s t a b c d e).cores
@[simp] theorem State.event_cores (s : State) (a b c d e : Nat) : (s.event a b c d e).cores = s.cores := (RecFrame.event s a b c d e).cores
@[simp] theorem State.record_fw0 (s : State) (r : Rec) : (s.record r).fw0 = s.fw0 := (RecFrame.record s r).fw0
@[simp] theorem State.eventAt_fw0 (s : State) (t a b c d e : Nat) : (s.eventAt t a b c d e).fw0 = s.fw0 := (RecFrame.eventAt s t a b c d e).fw0
@[simp] theorem State.event_fw0 (s : State) (a b c d e : Nat) : (s.event a b c d e).fw0 = s.fw0 := (RecFrame.event s a b c d e).fw0
@[simp] theorem State.record_life (s : State) (r : Rec) : (s.record r).life = s.life := (RecFrame.record s r).life
@[simp] theorem State.eventAt_life (s : State) (t a b c d e : Nat) : (s.eventAt t a b c d e).life = s.life := (RecFrame.eventAt s t a b c d e).life
@[simp] theorem State.event_life (s : State) (a b c d e : Nat) : (s.event a b c d e).life = s.life := (RecFrame.event s a b c d e).life
@[simp] theorem State.record_boot (s : State) (r : Rec) : (s.record r).boot = s.boot := (RecFrame.record s r).boot
@[simp] theorem State.eventAt_boot (s : State) (t a b c d e : Nat) : (s.eventAt t a b c d e).boot = s.boot := (RecFrame.eventAt s t a b c d e).boot
@[simp] theorem State.event_boot (s : State) (a b c d e : Nat) : (s.event a b c d e).boot = s.boot := (RecFrame.event s a b c d e).boot
@[simp] theorem State.record_upd (s : State) (r : Rec) : (s.record r).upd = s.upd := (RecFrame.record s r).upd
@[simp] theorem State.eventAt_upd (s : State) (t a b c d e : Nat) : (s.eventAt t a b c d e).upd = s.upd := (RecFrame.eventAt s t a b c d e).upd
@[simp] theorem State.event_upd (s : State) (a b c d e : Nat) : (s.event a b c d e).upd = s.upd := (RecFrame.event s a b c d e).upd
@[simp] theorem State.record_ser (s : State) (r : Rec) : (s.record r).ser = s.ser := (RecFrame.record s r).ser
@[simp] theorem State.eventAt_ser (s : State) (t a b c d e : Nat) : (s.eventAt t a b c d e).ser = s.ser := (RecFrame.eventAt s t a b c d e).ser
@[simp] theorem State.event_ser (s : State) (a b c d e : Nat) : (s.event a b c d e).ser = s.ser := (RecFrame.event s a b c d e).ser
@[simp] theorem State.record_mix (s : State) (r : Rec) : (s.record r).mix = s.mix := (RecFrame.record s r).mix
@[simp] theorem State.eventAt_mix (s : State) (t a b c d e : Nat) : (s.eventAt t a b c d e).mix = s.mix := (RecFrame.eventAt s t a b c d e).mix
@[simp] theorem State.event_mix (s : State) (a b c d e : Nat) : (s.event a b c d e).mix = s.mix := (RecFrame.event s a b c d e).mix
@[simp] theorem State.record_ms (s : State) (r : Rec) : (s.record r).ms = s.ms := (RecFrame.record s r).ms
@[simp] theorem State.eventAt_ms (s : State) (t a b c d e : Nat) : (s.eventAt t a b c d e).ms = s.ms := (RecFrame.eventAt s t a b c d e).ms
@[simp] theorem State.event_ms (s : State) (a b c d e : Nat) : (s.event a b c d e).ms = s.ms := (RecFrame.event s a b c d e).ms
@[simp] theorem State.record_ao (s : State) (r : Rec) : (s.record r).ao = s.ao := (RecFrame.record s r).ao
@[simp] theorem State.eventAt_ao (s : State) (t a b c d e : Nat) : (s.eventAt t a b c d e).ao = s.ao := (RecFrame.eventAt s t a b c d e).ao
@[simp] theorem State.event_ao (s : State) (a b c d e : Nat) : (s.event a b c d e).ao = s.ao := (RecFrame.event s a b c d e).ao
@[simp] theorem State.record_st (s : State) (r : Rec) : (s.record r).st = s.st := (RecFrame.record s r).st
@[simp] theorem State.eventAt_st (s : State) (t a b c d e : Nat) : (s.eventAt t a b c d e).st = s.st := (RecFrame.eventAt s t a b c d e).st
@[simp] theorem State.event_st (s : State) (a b c d e : Nat) : (s.event a b c d e).st = s.st := (RecFrame.event s a b c d e).st
@[simp] theorem State.record_pw (s : State) (r : Rec) : (s.record r).pw = s.pw := (RecFrame.record s r).pw
@[simp] theorem State.eventAt_pw (s : State) (t a b c d e : Nat) : (s.eventAt t a b c d e).pw = s.pw := (RecFrame.eventAt s t a b c d e).pw
@[simp] theorem State.event_pw (s : State) (a b c d e : Nat) : (s.event a b c d e).pw = s.pw := (RecFrame.event s a b c d e).pw

/-- A record leaves every register field alone but those of `recTouches`. -/
theorem State.record_get (s : State) (r : Rec) (f : Fld) (h : recTouches f.key = false) : (s.record r).get f = s.get f := by
  unfold State.get; rw [(RecFrame.record s r).reg f.key f.reset h]
theorem State.eventAt_get (s : State) (t a b c d e : Nat) (f : Fld) (h : recTouches f.key = false) : (s.eventAt t a b c d e).get f = s.get f :=
  State.record_get s _ f h
theorem State.event_get (s : State) (a b c d e : Nat) (f : Fld) (h : recTouches f.key = false) : (s.event a b c d e).get f = s.get f :=
  State.record_get s _ f h

end Sys2Proof.Machine
end

