-- ==== Sys2Proof/Laws/Core.lean ====
section
/-!
SUPPORT. What the shared parts of a chisel core's issue can do: results landing, loops, the end of an issue, the fetch.
-/
namespace Sys2Proof.Machine

/-! ### Replacing a core -/

theorem State.core_setCore_self (s : State) {c : Nat} (x : Core) (h : c < s.cores.length) : (s.setCore c x).core c = x := by
  simp [State.setCore, State.core, List.getD_eq_getElem?_getD, h]

theorem State.core_setCore_ne (s : State) {c n : Nat} (x : Core) (h : n ≠ c) : (s.setCore c x).core n = s.core n := by
  simp [State.setCore, State.core, List.getD_eq_getElem?_getD, List.getElem?_set_ne (Ne.symm h)]

theorem State.core_modCore_self (s : State) {c : Nat} (f : Core → Core) (h : c < s.cores.length) :
    (s.modCore c f).core c = f (s.core c) := State.core_setCore_self s _ h
theorem State.core_modCore_ne (s : State) {c n : Nat} (f : Core → Core) (h : n ≠ c) : (s.modCore c f).core n = s.core n :=
  State.core_setCore_ne s _ h

@[simp] theorem State.cores_length_setCore (s : State) (c : Nat) (x : Core) : (s.setCore c x).cores.length = s.cores.length := by
  simp [State.setCore]
@[simp] theorem State.cores_length_modCore (s : State) (c : Nat) (f : Core → Core) : (s.modCore c f).cores.length = s.cores.length := by
  simp [State.modCore]

theorem State.core_shaped (s : State) (h : s.Shaped) {c : Nat} (hc : c < 20) : (s.core c).shaped := by
  have hl : c < s.cores.length := by rw [h.cores]; exact hc
  have : s.core c = s.cores[c] := by simp [State.core, List.getD_eq_getElem?_getD, hl]
  rw [this]; exact h.core _ (List.getElem_mem hl)

/-! ### Banks -/

theorem Core.bankOf_modBank_self (k : Core) {b : Nat} (f : Bank → Bank) (h : b < k.banks.length) :
    (k.modBank b f).bankOf b = f (k.bankOf b) := by
  simp [Core.modBank, Core.bankOf, List.getD_eq_getElem?_getD, h]
theorem Core.bankOf_modBank_ne (k : Core) {b n : Nat} (f : Bank → Bank) (h : n ≠ b) : (k.modBank b f).bankOf n = k.bankOf n := by
  simp [Core.modBank, Core.bankOf, List.getD_eq_getElem?_getD, List.getElem?_set_ne (Ne.symm h)]
theorem Core.bankOf_modBank_out (k : Core) {b : Nat} (n : Nat) (f : Bank → Bank) (h : k.banks.length ≤ b) :
    (k.modBank b f).bankOf n = k.bankOf n := by
  simp [Core.modBank, Core.bankOf, List.set_eq_of_length_le h]
theorem Core.bankOf_modBank (k : Core) (b n : Nat) (f : Bank → Bank) :
    (k.modBank b f).bankOf n = if n = b ∧ b < k.banks.length then f (k.bankOf n) else k.bankOf n := by
  split
  · rename_i h; obtain ⟨rfl, h⟩ := h; exact Core.bankOf_modBank_self k f h
  · rename_i h
    by_cases e : n = b
    · exact Core.bankOf_modBank_out k n f (Nat.le_of_not_lt fun hb => h ⟨e, hb⟩)
    · exact Core.bankOf_modBank_ne k f e

theorem Core.bankOf_shaped (k : Core) (h : k.shaped) {b : Nat} (hb : b < 4) : (k.bankOf b).shaped := by
  have hl : b < k.banks.length := by rw [h.1]; exact hb
  have : k.bankOf b = k.banks[b] := by simp [Core.bankOf, List.getD_eq_getElem?_getD, hl]
  rw [this]; exact h.2.1 _ (List.getElem_mem hl)

theorem Core.modBank_shaped (k : Core) (b : Nat) (f : Bank → Bank) (h : k.shaped) (hf : ∀ x : Bank, x.shaped → (f x).shaped) :
    (k.modBank b f).shaped := by
  obtain ⟨h1, h2, h3, h4⟩ := h
  refine ⟨by simp [Core.modBank, h1], ?_, h3, h4⟩
  intro x hx
  by_cases hb : b < 4
  · rcases List.mem_or_eq_of_mem_set hx with hx | rfl
    · exact h2 x hx
    · exact hf _ (Core.bankOf_shaped k ⟨h1, h2, h3, h4⟩ hb)
  · rw [Core.modBank, List.set_eq_of_length_le (by omega)] at hx; exact h2 x hx

/-! ### Landing -/

/-- A value as register `i` holds it. -/
def regNorm (i : Nat) (v : BitVec 72) : BitVec 72 := if i < 40 then (v.setWidth 32).setWidth 72 else v

theorem regNorm_word (i : Nat) (v : BitVec 32) : regNorm i (v.setWidth 72) = v.setWidth 72 := by
  unfold regNorm; split
  · congr 1; apply BitVec.eq_of_toNat_eq; simp
  · rfl

theorem regNorm_acc (i : Nat) (v : BitVec 72) (h : 40 ≤ i) : regNorm i v = v := by
  unfold regNorm; rw [if_neg (by omega)]

theorem Core.landOne_shaped (k : Core) (l : Land) (h : k.shaped) : (k.landOne l).shaped := by
  apply Core.modBank_shaped _ _ _ h
  intro x hx
  obtain ⟨a, b, c, d⟩ := hx
  split
  · exact ⟨by simp [a], b, c, d⟩
  · split
    · exact ⟨a, by simp [b], c, d⟩
    · exact ⟨a, b, by simp [c], d⟩

theorem Core.landOne_banks_length (k : Core) (l : Land) : (k.landOne l).banks.length = k.banks.length := by
  simp [Core.landOne, Core.modBank]

/-- A result that lands changes the register it is for, and no other. -/
theorem Core.reg_landOne_ne (k : Core) (l : Land) (b i : Nat) (h : ¬(l.bank = b ∧ l.dst = i)) : (k.landOne l).reg b i = k.reg b i := by
  unfold Core.reg Core.landOne
  rw [Core.bankOf_modBank]
  by_cases hb : b = l.bank ∧ l.bank < k.banks.length
  · rw [if_pos hb]
    have hd : l.dst ≠ i := fun e => h ⟨hb.1.symm, e⟩
    split
    · by_cases h1 : l.dst < 32
      · simp only [if_pos h1, List.getD_eq_getElem?_getD]; rw [List.getElem?_set_ne hd]
      · by_cases h2 : l.dst < 40
        · simp only [if_neg h1, if_pos h2]
        · simp only [if_neg h1, if_neg h2]
    · split
      · by_cases h1 : l.dst < 32
        · simp only [if_pos h1]
        · by_cases h2 : l.dst < 40
          · simp only [if_neg h1, if_pos h2, List.getD_eq_getElem?_getD]; rw [List.getElem?_set_ne (by omega)]
          · simp only [if_neg h1, if_neg h2]
      · by_cases h1 : l.dst < 32
        · simp only [if_pos h1]
        · by_cases h2 : l.dst < 40
          · simp only [if_neg h1, if_pos h2]
          · simp only [if_neg h1, if_neg h2, List.getD_eq_getElem?_getD]; rw [List.getElem?_set_ne (by omega)]
  · rw [if_neg hb]

theorem Core.reg_landOne_self (k : Core) (l : Land) (hk : k.shaped) (hb : l.bank < 4) (hi : l.dst < 48) :
    (k.landOne l).reg l.bank l.dst = regNorm l.dst l.v := by
  have hs := Core.bankOf_shaped k hk hb
  unfold Core.reg Core.landOne regNorm
  rw [Core.bankOf_modBank_self _ _ (by rw [hk.1]; exact hb)]
  obtain ⟨a, b, c, d⟩ := hs
  by_cases h1 : l.dst < 32
  · have : l.dst < 40 := by omega
    simp [h1, this, List.getD_eq_getElem?_getD, a]
  · by_cases h2 : l.dst < 40
    · have : l.dst - 32 < 8 := by omega
      simp [h1, h2, List.getD_eq_getElem?_getD, b, this]
    · have : l.dst - 40 < 8 := by omega
      simp [h1, h2, List.getD_eq_getElem?_getD, c, this]

theorem Core.landOne_bs (k : Core) (l : Land) (b : Nat) : ((k.landOne l).bankOf b).bs = (k.bankOf b).bs := by
  unfold Core.landOne; rw [Core.bankOf_modBank]
  split
  · by_cases h1 : l.dst < 32
    · simp only [if_pos h1]
    · by_cases h2 : l.dst < 40
      · simp only [if_neg h1, if_pos h2]
      · simp only [if_neg h1, if_neg h2]
  · rfl

theorem Core.reg_landAll_ne (ls : List Land) (k : Core) (b i : Nat) (h : ∀ l ∈ ls, ¬(l.bank = b ∧ l.dst = i)) :
    (ls.foldl Core.landOne k).reg b i = k.reg b i := by
  induction ls generalizing k with
  | nil => rfl
  | cons l t ih =>
    rw [List.foldl_cons, ih _ (fun x hx => h x (List.mem_cons_of_mem _ hx)), Core.reg_landOne_ne _ _ _ _ (h l List.mem_cons_self)]

theorem Core.landAll_shaped (ls : List Land) (k : Core) (h : k.shaped) : (ls.foldl Core.landOne k).shaped := by
  induction ls generalizing k with
  | nil => exact h
  | cons l t ih => exact ih _ (Core.landOne_shaped k l h)

theorem Core.landAll_bs (ls : List Land) (k : Core) (b : Nat) : ((ls.foldl Core.landOne k).bankOf b).bs = (k.bankOf b).bs := by
  induction ls generalizing k with
  | nil => rfl
  | cons l t ih => rw [List.foldl_cons, ih, Core.landOne_bs]

/-- Of several results for one register the one issued last is kept (R266). -/
theorem Core.reg_landAll_last (p q : List Land) (l : Land) (k : Core) (hk : k.shaped) (hb : l.bank < 4) (hi : l.dst < 48)
    (h : ∀ x ∈ q, ¬(x.bank = l.bank ∧ x.dst = l.dst)) :
    ((p ++ l :: q).foldl Core.landOne k).reg l.bank l.dst = regNorm l.dst l.v := by
  rw [List.foldl_append, List.foldl_cons, Core.reg_landAll_ne _ _ _ _ h]
  exact Core.reg_landOne_self _ l (Core.landAll_shaped p k hk) hb hi

/-- What landing leaves alone of a core: everything but its banks. -/
theorem Core.landAll_rest (ls : List Land) (k : Core) : ls.foldl Core.landOne k = { k with banks := (ls.foldl Core.landOne k).banks } := by
  induction ls generalizing k with
  | nil => rfl
  | cons l t ih =>
    rw [List.foldl_cons, ih]; rfl

/-! ### Collisions -/

/-- WCOLL is set in a bank. -/
def Core.wcoll (k : Core) (b : Nat) : Core := k.modBank b (fun x => { x with bs := x.bs.set 0 (x.bs.getD 0 0 ||| 0x20) })

theorem Core.wcoll_reg (k : Core) (x b i : Nat) : (k.wcoll x).reg b i = k.reg b i := by
  unfold Core.reg Core.wcoll; rw [Core.bankOf_modBank]
  by_cases h : b = x ∧ x < k.banks.length
  · simp only [if_pos h]
  · simp only [if_neg h]
theorem Core.wcoll_bs (k : Core) (x b n : Nat) (h : n ≠ 0) : ((k.wcoll x).bankOf b).bs.getD n 0 = (k.bankOf b).bs.getD n 0 := by
  unfold Core.wcoll; rw [Core.bankOf_modBank]; split
  · simp only [List.getD_eq_getElem?_getD]; rw [List.getElem?_set_ne (Ne.symm h)]
  · rfl
theorem Core.wcoll_bs0 (k : Core) (x b : Nat) : ((k.wcoll x).bankOf b).bs.getD 0 0 ||| 0x20 = (k.bankOf b).bs.getD 0 0 ||| 0x20 := by
  unfold Core.wcoll; rw [Core.bankOf_modBank]; split
  · simp only [List.getD_eq_getElem?_getD]
    by_cases h : 0 < (k.bankOf b).bs.length
    · simp [h, BitVec.or_assoc]
    · simp [h]
  · rfl
theorem Core.wcoll_shaped (k : Core) (x : Nat) (h : k.shaped) : (k.wcoll x).shaped := by
  apply Core.modBank_shaped _ _ _ h
  intro x hx; exact ⟨hx.1, hx.2.1, hx.2.2.1, by simp [hx.2.2.2]⟩

theorem Core.wcolls (cs : List Nat) (k : Core) :
    (∀ b i, (cs.foldl Core.wcoll k).reg b i = k.reg b i)
    ∧ (∀ b n, n ≠ 0 → ((cs.foldl Core.wcoll k).bankOf b).bs.getD n 0 = (k.bankOf b).bs.getD n 0)
    ∧ (∀ b, ((cs.foldl Core.wcoll k).bankOf b).bs.getD 0 0 ||| 0x20 = (k.bankOf b).bs.getD 0 0 ||| 0x20)
    ∧ (k.shaped → (cs.foldl Core.wcoll k).shaped)
    ∧ cs.foldl Core.wcoll k = { k with banks := (cs.foldl Core.wcoll k).banks } := by
  induction cs generalizing k with
  | nil => exact ⟨fun _ _ => rfl, fun _ _ _ => rfl, fun _ => rfl, id, rfl⟩
  | cons x t ih =>
    obtain ⟨a, b, c, d, e⟩ := ih (k.wcoll x)
    rw [List.foldl_cons]
    refine ⟨fun y i => by rw [a, Core.wcoll_reg], fun y n h => by rw [b y n h, Core.wcoll_bs _ _ _ _ h],
      fun y => by rw [c, Core.wcoll_bs0], fun h => d (Core.wcoll_shaped k x h), ?_⟩
    rw [e]; rfl

/-! ### One issue cycle of the results in flight -/

/-- The results in flight, one cycle on. -/
def Core.aged (k : Core) : List Land := k.land.map (fun l => { l with left := l.left - 1 })

/-- Everything one issue cycle does to a core's results. -/
theorem Core.advance_spec (k : Core) (hk : k.shaped) :
    (∀ b i, (∀ l ∈ k.land, ¬(l.bank = b ∧ l.dst = i)) → k.advance.1.reg b i = k.reg b i)
    ∧ (∀ p q l, k.land = p ++ l :: q → l.bank < 4 → l.dst < 48 →
        (∀ x ∈ q, ¬(x.bank = l.bank ∧ x.dst = l.dst ∧ x.left - 1 = l.left - 1)) →
        if l.left - 1 = 0 then k.advance.1.reg l.bank l.dst = regNorm l.dst l.v
        else (⟨l.left - 1, l.bank, l.dst, l.v⟩ : Land) ∈ k.advance.1.land)
    ∧ (∀ b n, n ≠ 0 → (k.advance.1.bankOf b).bs.getD n 0 = (k.bankOf b).bs.getD n 0)
    ∧ (∀ b, (k.advance.1.bankOf b).bs.getD 0 0 ||| 0x20 = (k.bankOf b).bs.getD 0 0 ||| 0x20)
    ∧ k.advance.1.shaped
    ∧ k.advance.1 = { k with banks := k.advance.1.banks, land := k.advance.1.land } := by
  have hadv : k.advance.1 = (collisions (k.aged.filter (fun l => l.left == 0))).foldl Core.wcoll
      ((k.aged.filter (fun l => l.left == 0)).foldl Core.landOne { k with land := k.aged.filter (fun l => l.left != 0) }) := rfl
  generalize hd : k.aged.filter (fun l => l.left == 0) = due at hadv
  generalize hr : k.aged.filter (fun l => l.left != 0) = rest at hadv
  obtain ⟨w1, w2, w3, w4, w5⟩ := Core.wcolls (collisions due) (due.foldl Core.landOne { k with land := rest })
  have hk' : ({ k with land := rest } : Core).shaped := hk
  have hland : k.advance.1.land = rest := by rw [hadv, w5, Core.landAll_rest]
  refine ⟨?_, ?_, ?_, ?_, ?_, ?_⟩
  · intro b i h
    rw [hadv, w1, Core.reg_landAll_ne]
    · rfl
    · intro l hl; rw [← hd] at hl
      obtain ⟨x, hx, rfl⟩ := List.mem_map.1 (List.mem_filter.1 hl).1
      exact h x hx
  · intro p q l hpq hb hi hq
    split
    · rename_i h0
      have hdue : due = (p.map (fun l => { l with left := l.left - 1 })).filter (fun l => l.left == 0)
          ++ { l with left := l.left - 1 } :: (q.map (fun l => { l with left := l.left - 1 })).filter (fun l => l.left == 0) := by
        rw [← hd, Core.aged, hpq, List.map_append, List.map_cons, List.filter_append, List.filter_cons]
        simp [h0]
      rw [hadv, w1, hdue]
      refine Core.reg_landAll_last _ _ { l with left := l.left - 1 } _ hk' hb hi ?_
      intro x hx
      have h1 := (List.mem_filter.1 hx).2
      obtain ⟨y, hy, rfl⟩ := List.mem_map.1 (List.mem_filter.1 hx).1
      rintro ⟨e1, e2⟩
      exact hq y hy ⟨e1, e2, by simp only [beq_iff_eq] at h1; omega⟩
    · rename_i h0
      rw [hland, ← hr]
      refine List.mem_filter.2 ⟨List.mem_map.2 ⟨l, by rw [hpq]; simp, rfl⟩, by simpa using h0⟩
  · intro b n h; rw [hadv, w2 b n h, Core.landAll_bs]; rfl
  · intro b; rw [hadv, w3, Core.landAll_bs]; rfl
  · rw [hadv]; exact w4 (Core.landAll_shaped due _ hk')
  · rw [hland]
    rw [hadv, w5, Core.landAll_rest]

/-! ### Loops -/

/-- Loop-end processing changes LC0 and LC1 of the current bank at most. -/
def LoopOnly (k k' : Core) : Prop :=
  (∀ b i, k'.reg b i = k.reg b i) ∧ (∀ b n, n ≠ 1 → n ≠ 4 → (k'.bankOf b).bs.getD n 0 = (k.bankOf b).bs.getD n 0)
  ∧ (k.shaped → k'.shaped) ∧ k' = { k with banks := k'.banks }

theorem LoopOnly.refl (k : Core) : LoopOnly k k := ⟨fun _ _ => rfl, fun _ _ _ _ => rfl, id, rfl⟩
theorem LoopOnly.trans {a b c : Core} (x : LoopOnly a b) (y : LoopOnly b c) : LoopOnly a c := by
  refine ⟨fun p q => (y.1 p q).trans (x.1 p q), fun p n h h' => (y.2.1 p n h h').trans (x.2.1 p n h h'), fun h => y.2.2.1 (x.2.2.1 h), ?_⟩
  rw [y.2.2.2, x.2.2.2]

theorem Core.reg_modBs (k : Core) (b n x i : Nat) (v : BitVec 32) :
    (k.modBank b (fun y => { y with bs := y.bs.set n v })).reg x i = k.reg x i := by
  unfold Core.reg; rw [Core.bankOf_modBank]
  by_cases h : x = b ∧ b < k.banks.length
  · simp only [if_pos h]
  · simp only [if_neg h]

theorem Core.setBs_bs (k : Core) (n v b m : Nat) (h : m ≠ n) : ((k.setBs n v).bankOf b).bs.getD m 0 = (k.bankOf b).bs.getD m 0 := by
  unfold Core.setBs; rw [Core.bankOf_modBank]; split
  · simp only [List.getD_eq_getElem?_getD]; rw [List.getElem?_set_ne (Ne.symm h)]
  · rfl
theorem Core.setBs_shaped (k : Core) (n v : Nat) (h : k.shaped) : (k.setBs n v).shaped := by
  apply Core.modBank_shaped _ _ _ h
  intro x hx; exact ⟨hx.1, hx.2.1, hx.2.2.1, by simp [hx.2.2.2]⟩

theorem LoopOnly.setLc (k : Core) (l v : Nat) (h : l = 0 ∨ l = 1) : LoopOnly k (k.setBs (1 + 3 * l) v) := by
  refine ⟨fun b i => Core.reg_modBs _ _ _ _ _ _, fun b n h1 h4 => Core.setBs_bs _ _ _ _ _ (by omega), Core.setBs_shaped _ _ _, rfl⟩

theorem LoopOnly.loopStep (k : Core) (l pc : Nat) (h : l = 0 ∨ l = 1) : LoopOnly k (k.loopStep l pc).1 := by
  unfold Core.loopStep; split
  · split <;> exact LoopOnly.setLc _ _ _ h
  · exact LoopOnly.refl k

theorem LoopOnly.nextPc (k : Core) (pc : Nat) : LoopOnly k (k.nextPc pc).1 := by
  unfold Core.nextPc
  have a := LoopOnly.loopStep k 1 pc (.inr rfl)
  rcases h : k.loopStep 1 pc with ⟨k1, _ | t⟩
  · rw [h] at a
    have b := LoopOnly.loopStep k1 0 pc (.inl rfl)
    dsimp only
    rcases h' : k1.loopStep 0 pc with ⟨k0, _ | t⟩ <;> rw [h'] at b <;> exact a.trans b
  · rw [h] at a; exact a

/-! ### The end of an issue -/

/-- What the end of an issue leaves alone of a core, before its results move: registers, flags, loop bounds, and all it holds
beside banks, bank, PC, delay slot and GIE. -/
structure PcOnly (k k' : Core) : Prop where
  reg : ∀ b i, k'.reg b i = k.reg b i
  bs : ∀ b n, n ≠ 1 → n ≠ 4 → (k'.bankOf b).bs.getD n 0 = (k.bankOf b).bs.getD n 0
  shaped : k.shaped → k'.shaped
  rest : k' = { k with banks := k'.banks, bank := k'.bank, pc := k'.pc, slot := k'.slot, reti := k'.reti, resumed := k'.resumed,
                       ie := k'.ie, passed := k'.passed }

theorem PcOnly.of_loop {k k' : Core} (h : LoopOnly k k') : PcOnly k k' :=
  ⟨h.1, h.2.1, h.2.2.1, by rw [h.2.2.2]⟩
theorem PcOnly.trans {a b c : Core} (x : PcOnly a b) (y : PcOnly b c) : PcOnly a c := by
  refine ⟨fun p q => (y.reg p q).trans (x.reg p q), fun p n h h' => (y.bs p n h h').trans (x.bs p n h h'), fun h => y.shaped (x.shaped h), ?_⟩
  rw [y.rest, x.rest]
/-- The parts of the sequencer. -/
theorem PcOnly.seq (k : Core) (pc : Nat) (slot : Option (Nat × Option Nat)) (reti resumed : Bool) (passed : Option Nat) :
    PcOnly k { k with pc := pc, slot := slot, reti := reti, resumed := resumed, passed := passed } :=
  ⟨fun _ _ => rfl, fun _ _ _ _ => rfl, id, rfl⟩

/-- How PC and the delay slot move at the end of an issue (R269, R270, R274). -/
def Core.seqEnd (old : Core) (npc : Option Nat) (k : Core) : Core :=
  match old.slot with
  | some (_, t) =>
    let k := { k with slot := none, resumed := false, passed := none }
    if old.reti then
      { k with reti := false, bank := k.ebank % 4, ie := k.ie % 2 ^ 31 + 2 ^ 31, pc := k.epc % 2 ^ 16 / 4 * 4, resumed := true }
    else match t with
      | some t => { k with pc := t }
      | none => let (k, p) := k.nextPc old.pc; { k with pc := p }
  | none =>
    let k := { k with resumed := false, passed := none }
    match npc with
    | some p => { k with pc := p }
    | none => if k.slot.isSome then { k with pc := (old.pc + 4) % 2 ^ 16 } else let (k, p) := k.nextPc old.pc; { k with pc := p }

theorem PcOnly.seqEnd (old : Core) (npc : Option Nat) (k : Core) : PcOnly k (Core.seqEnd old npc k) := by
  have nx : ∀ (k : Core) (x : Core × Nat), x = k.nextPc old.pc → PcOnly k { x.1 with pc := x.2 } := by
    intro k x hx; subst hx
    exact (PcOnly.of_loop (LoopOnly.nextPc k old.pc)).trans ⟨fun _ _ => rfl, fun _ _ _ _ => rfl, id, rfl⟩
  unfold Core.seqEnd
  split
  · refine PcOnly.trans (PcOnly.seq k k.pc none k.reti false none) ?_
    dsimp only
    split
    · refine ⟨fun _ _ => rfl, fun _ _ _ _ => rfl, fun h => ?_, rfl⟩
      exact ⟨h.1, h.2.1, Nat.mod_lt _ (by decide), h.2.2.2⟩
    · split
      · exact ⟨fun _ _ => rfl, fun _ _ _ _ => rfl, id, rfl⟩
      · exact nx _ _ rfl
  · refine PcOnly.trans (PcOnly.seq k k.pc k.slot k.reti false none) ?_
    dsimp only
    split
    · exact ⟨fun _ _ => rfl, fun _ _ _ _ => rfl, id, rfl⟩
    · split
      · exact ⟨fun _ _ => rfl, fun _ _ _ _ => rfl, id, rfl⟩
      · exact nx _ _ rfl

theorem State.afterIssue_eq (s : State) (c : Nat) (old : Core) (npc : Option Nat) :
    s.afterIssue c old npc =
      (let t := ((s.modCore c (Core.seqEnd old npc)).advance c).cycles c 1
       if t.on (Reg.CH_CTRL_HALT c) ∧ (t.core c).slot.isNone ∧ t.debugOpen ∧ t.renders c then t.haltCore c else t) := rfl

/-- Fields of a core's collision count and flag. -/
def collFields (c : Nat) : List Fld := [Reg.CH_WCOLL c, Reg.CH_FLAGS_WCOLL c]

theorem RegsKept.refl (s : State) (fs : List Fld) : RegsKept s s fs := fun _ _ => rfl
theorem RegsKept.trans {s t u : State} {fs : List Fld} (a : RegsKept s t fs) (b : RegsKept t u fs) : RegsKept s u fs :=
  fun f h => (b f h).trans (a f h)
theorem RegsKept.put (s : State) (f : Fld) (v : Nat) (fs : List Fld) (h : f ∈ fs) : RegsKept s (s.put f v) fs := by
  intro g hg
  apply State.get_put_ne
  intro e; exact hg (List.mem_map.2 ⟨f, h, e⟩)
theorem RegsKept.of_regs {s t : State} (fs : List Fld) (h : t.regs = s.regs) : RegsKept s t fs := by
  intro f _; unfold State.get; rw [h]

theorem RegsKept.noteColl (s : State) (c n : Nat) : RegsKept s (s.noteColl c n) (collFields c) := by
  unfold State.noteColl
  split
  · exact RegsKept.refl _ _
  · refine RegsKept.trans (RegsKept.put s _ _ _ ?_) (RegsKept.put _ _ _ _ ?_) <;> simp [collFields]

@[simp] theorem State.noteColl_cores (s : State) (c n : Nat) : (s.noteColl c n).cores = s.cores := by
  unfold State.noteColl; split <;> rfl
@[simp] theorem State.noteColl_sram (s : State) (c n : Nat) : (s.noteColl c n).sram = s.sram := by
  unfold State.noteColl; split <;> rfl
@[simp] theorem State.noteColl_dram (s : State) (c n : Nat) : (s.noteColl c n).dram = s.dram := by
  unfold State.noteColl; split <;> rfl

theorem State.advance_core (s : State) (c : Nat) (h : c < s.cores.length) : (s.advance c).core c = (s.core c).advance.1 := by
  unfold State.advance
  have := State.core_setCore_self s (s.core c).advance.1 h
  unfold State.core at this ⊢; simpa using this
theorem State.advance_core_ne (s : State) {c n : Nat} (h : n ≠ c) : (s.advance c).core n = s.core n := by
  unfold State.advance
  have := State.core_setCore_ne s (s.core c).advance.1 h
  unfold State.core at this ⊢; simpa using this
@[simp] theorem State.advance_length (s : State) (c : Nat) : (s.advance c).cores.length = s.cores.length := by
  unfold State.advance; simp
theorem RegsKept.advance (s : State) (c : Nat) : RegsKept s (s.advance c) (collFields c) :=
  RegsKept.trans (RegsKept.of_regs (t := s.setCore c (s.core c).advance.1) _ rfl) (RegsKept.noteColl _ _ _)

/-- Everything the end of an issue does to core `c`, where no HALT waits: `m` is the core once PC has moved. -/
theorem State.afterIssue_spec (s : State) (c : Nat) (old : Core) (npc : Option Nat) (hc : c < s.cores.length)
    (hh : s.get (Reg.CH_CTRL_HALT c) = 0) :
    ∃ t, s.afterIssue c old npc = t
      ∧ (∃ tm ip, t.core c = { (Core.seqEnd old npc (s.core c)).advance.1 with cyc := (s.core c).cyc + 1, tmr := tm, ip := ip })
      ∧ (∀ n, n ≠ c → t.core n = s.core n) ∧ t.cores.length = s.cores.length
      ∧ t.sram = s.sram ∧ t.dram = s.dram ∧ RegsKept s t (collFields c) := by
  refine ⟨_, rfl, ?_⟩
  rw [State.afterIssue_eq]
  dsimp only
  have hk : RegsKept s (((s.modCore c (Core.seqEnd old npc)).advance c).cycles c 1) (collFields c) :=
    RegsKept.trans (RegsKept.trans (RegsKept.of_regs (t := s.modCore c (Core.seqEnd old npc)) _ rfl) (RegsKept.advance _ c))
      (RegsKept.of_regs _ rfl)
  have hhalt : (((s.modCore c (Core.seqEnd old npc)).advance c).cycles c 1).on (Reg.CH_CTRL_HALT c) = false := by
    unfold State.on
    rw [hk]
    · rw [hh]; rfl
    · simp only [collFields, List.map_cons, List.map_nil, Fld.key, Reg.CH_CTRL_HALT, Reg.CH_WCOLL, Reg.CH_FLAGS_WCOLL, List.mem_cons,
        List.not_mem_nil, or_false]
      omega
  rw [if_neg (by rw [hhalt]; simp)]
  have hl : c < (s.modCore c (Core.seqEnd old npc)).cores.length := by simpa using hc
  have hadv : ((s.modCore c (Core.seqEnd old npc)).advance c).core c = (Core.seqEnd old npc (s.core c)).advance.1 := by
    rw [State.advance_core _ _ hl, State.core_modCore_self _ _ hc]
  refine ⟨?_, ?_, ?_, ?_, ?_, hk⟩
  · unfold State.cycles
    rw [State.core_modCore_self _ _ (by simpa using hc), hadv]
    have : (Core.seqEnd old npc (s.core c)).advance.1.cyc = (s.core c).cyc := by
      show (Core.seqEnd old npc (s.core c)).advance.1.cyc = _
      have h2 : ∀ k : Core, k.advance.1.cyc = k.cyc := by
        intro k
        show (List.foldl Core.wcoll _ _).cyc = _
        rw [(Core.wcolls _ _).2.2.2.2, Core.landAll_rest]
      rw [h2, (PcOnly.seqEnd old npc (s.core c)).rest]
    exact ⟨(timerRun (Core.seqEnd old npc (s.core c)).advance.1.tmr (Core.seqEnd old npc (s.core c)).advance.1.tmrld 1).1, _, by
      rw [← this]⟩
  · intro n hn
    unfold State.cycles
    rw [State.core_modCore_ne _ _ hn, State.advance_core_ne _ hn, State.core_modCore_ne _ _ hn]
  · simp [State.cycles]
  · simp [State.cycles, State.advance]
  · simp [State.cycles, State.advance]

/-! ### Fetch and issue -/

theorem RegsKept.mono {s t : State} {fs gs : List Fld} (h : ∀ f ∈ fs, f ∈ gs) (a : RegsKept s t fs) : RegsKept s t gs := by
  intro f hf; apply a
  intro hm
  obtain ⟨g, hg, e⟩ := List.mem_map.1 hm
  exact hf (List.mem_map.2 ⟨g, h g hg, e⟩)

/-- What a fetch that succeeds leaves: the state, but for a corrected word that is counted. -/
structure Fetched (s t : State) (c : Nat) : Prop where
  core : t.core c = { s.core c with imemSoft := (t.core c).imemSoft }
  others : ∀ n, n ≠ c → t.core n = s.core n
  len : t.cores.length = s.cores.length
  mem : t.sram = s.sram ∧ t.dram = s.dram
  regs : RegsKept s t [Reg.CH_ECC_CE c]

theorem State.fetch_spec (s : State) (c w : Nat) (hc : c < s.cores.length) (h : s.CoreAt c w) :
    ∃ t, s.fetch c = .ok t w ∧ Fetched s t c := by
  unfold State.fetch
  dsimp only
  rw [if_neg (by rw [h.good]; simp)]
  by_cases hs : (s.core c).imemSoft.contains ((s.core c).pc / 4) = true
  · rw [if_pos hs]
    have hcore := State.core_modCore_self (s.coreCe c)
      (fun k => { k with imemSoft := k.imemSoft.filter (fun x => x != (s.core c).pc / 4) }) (c := c) hc
    have hrk : RegsKept s ((s.coreCe c).modCore c
        (fun k => { k with imemSoft := k.imemSoft.filter (fun x => x != (s.core c).pc / 4) })) [Reg.CH_ECC_CE c] :=
      RegsKept.trans (RegsKept.put s _ _ _ (by simp)) (RegsKept.of_regs _ rfl)
    have hb : State.breaksAt ((s.coreCe c).modCore c
        (fun k => { k with imemSoft := k.imemSoft.filter (fun x => x != (s.core c).pc / 4) })) c = false := by
      rw [← h.brk]
      unfold State.breaksAt
      rw [hcore]
      have key : ∀ f : Fld, f.key ≠ (Reg.CH_ECC_CE c).key → State.get ((s.coreCe c).modCore c
          (fun k => { k with imemSoft := k.imemSoft.filter (fun x => x != (s.core c).pc / 4) })) f = s.get f :=
        fun f hf => hrk f (by simpa using hf)
      have k1 : (Reg.CH_CTRL_BRK_EN c).key ≠ (Reg.CH_ECC_CE c).key := by simp only [Fld.key, Reg.CH_CTRL_BRK_EN, Reg.CH_ECC_CE]; omega
      have k2 : ∀ m, m < 4 → (Reg.CH_BRK_EN c m).key ≠ (Reg.CH_ECC_CE c).key := by
        intro m hm; simp only [Fld.key, Reg.CH_BRK_EN, Reg.CH_ECC_CE]; omega
      have k3 : ∀ m, m < 4 → (Reg.CH_BRK_PC c m).key ≠ (Reg.CH_ECC_CE c).key := by
        intro m hm; simp only [Fld.key, Reg.CH_BRK_PC, Reg.CH_ECC_CE]; omega
      have k4 : Reg.LC_STAT_STATE.key ≠ (Reg.CH_ECC_CE c).key := by simp only [Fld.key, Reg.LC_STAT_STATE, Reg.CH_ECC_CE]; omega
      have k5 : Reg.LC_STAT_SCOPE.key ≠ (Reg.CH_ECC_CE c).key := by simp only [Fld.key, Reg.LC_STAT_SCOPE, Reg.CH_ECC_CE]; omega
      simp only [State.on, State.debugOpen, State.lifeOpen, key _ k1, key _ k4, key _ k5, List.any_cons, List.any_nil,
        key _ (k2 0 (by decide)), key _ (k2 1 (by decide)), key _ (k2 2 (by decide)), key _ (k2 3 (by decide)),
        key _ (k3 0 (by decide)), key _ (k3 1 (by decide)), key _ (k3 2 (by decide)), key _ (k3 3 (by decide))]
      rfl
    rw [if_neg (by rw [hb]; simp)]
    refine ⟨_, congrArg (LRes.ok _) h.word, ?_⟩
    refine ⟨?_, fun n hn => State.core_modCore_ne _ _ hn, by simp [State.coreCe, State.sumUp, State.setSw], ⟨rfl, rfl⟩, hrk⟩
    rw [hcore]; rfl
  · rw [if_neg hs, if_neg (by rw [h.brk]; simp)]
    exact ⟨s, congrArg (LRes.ok _) h.word, rfl, fun _ _ => rfl, rfl, ⟨rfl, rfl⟩, RegsKept.refl _ _⟩

/-- A core that issues its word runs it. -/
theorem State.issue_runs (s : State) (c w : Nat) (body : State → IRes) (hc : c < s.cores.length) (h : s.CoreAt c w) :
    ∃ u, Fetched s u c ∧ s.issue c w body = u.runOne c body := by
  obtain ⟨u, hu, hf⟩ := State.fetch_spec s c w hc h
  refine ⟨u, hf, ?_⟩
  unfold State.issue
  rw [if_neg (by simp [h.run, h.clock]), hu]
  simp

/-! ### Instructions that only compute -/

/-- Flags raised leave every register alone, and change only BS. -/
theorem Core.raiseFlags_spec (k : Core) (f : Nat) :
    (∀ b i, (k.raiseFlags f).reg b i = k.reg b i)
    ∧ (∀ b n, n ≠ 0 → ((k.raiseFlags f).bankOf b).bs.getD n 0 = (k.bankOf b).bs.getD n 0)
    ∧ (k.shaped → ((k.raiseFlags f).bankOf k.bank).bs.getD 0 0 = (k.bankOf k.bank).bs.getD 0 0 ||| BitVec.ofNat 32 f)
    ∧ (k.shaped → (k.raiseFlags f).shaped) ∧ k.raiseFlags f = { k with banks := (k.raiseFlags f).banks } := by
  unfold Core.raiseFlags
  split
  · rename_i h; subst h
    exact ⟨fun _ _ => rfl, fun _ _ _ => rfl, fun _ => by simp, id, rfl⟩
  · refine ⟨fun b i => Core.reg_modBs _ _ _ _ _ _, fun b n h => Core.setBs_bs _ _ _ _ _ h, fun h => ?_, Core.setBs_shaped _ _ _, rfl⟩
    have hl := (Core.bankOf_shaped k h h.2.2.1).2.2.2
    unfold Core.setBs
    rw [Core.bankOf_modBank_self _ _ (by rw [h.1]; exact h.2.2.1)]
    have e : (k.bankOf k.bank).bs.getD 0 0 = BitVec.ofNat 32 (k.bs 0) := by
      apply BitVec.eq_of_toNat_eq; simp [Core.bs, Core.cur]
    rw [e, ← BitVec.ofNat_or]
    simp [List.getD_eq_getElem?_getD, hl]

/-- The results an instruction puts in flight, each with its register, value and latency. -/
def Core.putAll (k : Core) (rs : List (Nat × BitVec 72 × Nat)) : Core :=
  { k with land := k.land ++ rs.map (fun r => ⟨r.2.2, k.bank, r.1, r.2.1⟩) }

/-- `x` is `k` but for banks, bank, sequencer and results in flight. -/
def Core.Rest (k x : Core) : Prop :=
  x = { k with banks := x.banks, bank := x.bank, pc := x.pc, slot := x.slot, reti := x.reti, resumed := x.resumed, ie := x.ie,
               passed := x.passed, land := x.land }

/-- Two results of one instruction that do not reach one register in one cycle. -/
def Apart (a b : Nat × BitVec 72 × Nat) : Prop := ¬(a.1 = b.1 ∧ a.2.2 - 1 = b.2.2 - 1)

theorem apart_of_nodup (rs : List (Nat × BitVec 72 × Nat)) (h : (rs.map (fun r => r.1)).Nodup) : rs.Pairwise Apart := by
  rw [List.Nodup, List.pairwise_map] at h
  exact h.imp (fun hab e => hab e.1)

/-- What holds of each result that no later one meets holds of all where none meet. -/
theorem all_of_apart (rs : List (Nat × BitVec 72 × Nat)) (P : Nat × BitVec 72 × Nat → Prop) (hd : rs.Pairwise Apart)
    (h : ∀ p r q, rs = p ++ r :: q → (∀ y ∈ q, Apart r y) → P r) : ∀ r ∈ rs, P r := by
  intro r hr
  obtain ⟨p, q, e⟩ := List.append_of_mem hr
  refine h p r q e ?_
  rw [e, List.pairwise_append] at hd
  exact (List.pairwise_cons.1 hd.2.1).1

/-- Whatever core `c` does at an issue beside its results and flags, the end of the issue brings them on their way. -/
theorem Core.issue_results (k m : Core) (old : Core) (npc : Option Nat) (rs : List (Nat × BitVec 72 × Nat)) (fl : Nat)
    (hk : k.shaped) (hm : m = (k.putAll rs).raiseFlags fl)
    (hr : ∀ r ∈ rs, r.1 < 48 ∧ regNorm r.1 r.2.1 = r.2.1) :
    (∀ p r q, rs = p ++ r :: q → (∀ y ∈ q, Apart r y) → ((Core.seqEnd old npc m).advance.1).Lands k.bank r.1 r.2.1 (r.2.2 - 1))
    ∧ (∀ b i, ¬(b = k.bank ∧ i ∈ rs.map (fun r => r.1)) → (∀ l ∈ k.land, ¬(l.bank = b ∧ l.dst = i)) →
        (Core.seqEnd old npc m).advance.1.reg b i = k.reg b i)
    ∧ ((Core.seqEnd old npc m).advance.1.bankOf k.bank).bs.getD 0 0 ||| 0x20
        = (k.bankOf k.bank).bs.getD 0 0 ||| BitVec.ofNat 32 fl ||| 0x20
    ∧ (∀ b n, n ≠ 0 → n ≠ 1 → n ≠ 4 → ((Core.seqEnd old npc m).advance.1.bankOf b).bs.getD n 0 = (k.bankOf b).bs.getD n 0)
    ∧ Core.Rest k (Core.seqEnd old npc m).advance.1 := by
  obtain ⟨f1, f2, f3, f4, f5⟩ := Core.raiseFlags_spec (k.putAll rs) fl
  have hps : (k.putAll rs).shaped := hk
  have p := PcOnly.seqEnd old npc m
  have hms : m.shaped := by rw [hm]; exact f4 hps
  obtain ⟨a1, a2, a3, a4, _, a6⟩ := Core.advance_spec (Core.seqEnd old npc m) (p.shaped hms)
  have hland : (Core.seqEnd old npc m).land = k.land ++ rs.map (fun r => ⟨r.2.2, k.bank, r.1, r.2.1⟩) := by
    rw [p.rest]
    show m.land = _
    rw [hm, f5]; rfl
  refine ⟨?_, ?_, ?_, ?_, ?_⟩
  · intro q r u hqu hd
    have hrm : r ∈ rs := by rw [hqu]; simp
    have hsp : (Core.seqEnd old npc m).land = (k.land ++ q.map (fun r => (⟨r.2.2, k.bank, r.1, r.2.1⟩ : Land)))
        ++ ⟨r.2.2, k.bank, r.1, r.2.1⟩ :: u.map (fun r => ⟨r.2.2, k.bank, r.1, r.2.1⟩) := by
      rw [hland, hqu]; simp
    have := a2 _ _ _ hsp hk.2.2.1 (hr r hrm).1 (by
      intro x hx
      obtain ⟨y, hy, rfl⟩ := List.mem_map.1 hx
      rintro ⟨_, e⟩
      exact hd y hy ⟨e.1.symm, e.2.symm⟩)
    unfold Core.Lands
    dsimp only at this
    by_cases h0 : r.2.2 - 1 = 0
    · rw [if_pos h0] at this ⊢; rw [this]; exact (hr r hrm).2
    · rw [if_neg h0] at this ⊢; exact this
  · intro b i hn hl
    rw [a1 b i, p.reg, hm, f1]
    · rfl
    · intro l hlm
      rw [hland] at hlm
      rcases List.mem_append.1 hlm with h | h
      · exact hl l h
      · obtain ⟨r, hrm, rfl⟩ := List.mem_map.1 h
        rintro ⟨e1, e2⟩
        exact hn ⟨e1.symm, List.mem_map.2 ⟨r, hrm, e2⟩⟩
  · rw [a4, p.bs _ _ (by decide) (by decide), hm]
    have := f3 hps
    have e : (k.putAll rs).bank = k.bank := rfl
    rw [e] at this
    rw [this]; rfl
  · intro b n h0 h1 h4
    rw [a3 b n h0, p.bs b n h1 h4, hm, f2 b n h0]; rfl
  · unfold Core.Rest; rw [a6, p.rest, hm, f5]; rfl

/-- An instruction whose body only puts results in flight and raises flags computes them. -/
theorem computes_of (c : Fin 20) (w : Nat) (i : Instr) (rs : Core → List (Nat × BitVec 72 × Nat)) (fl : Core → Nat)
    (body : State → IRes) (f : Core → Core)
    (he : ∀ s, exec i s = .next (s.issue c.val w body)) (hb : ∀ s : State, c.val < s.cores.length → body s = .next (s.modCore c.val f) none)
    (hf : ∀ k : Core, k.shaped → f k = (k.putAll (rs k)).raiseFlags (fl k))
    (hsoft : ∀ (k : Core) x, rs { k with imemSoft := x } = rs k ∧ fl { k with imemSoft := x } = fl k)
    (hr : ∀ k, ∀ r ∈ rs k, r.1 < 48 ∧ regNorm r.1 r.2.1 = r.2.1) (hd : ∀ k, ((rs k).map (fun r => r.1)).Nodup) :
    Computes c w i rs fl := by
  intro s hi hat
  have hc : c.val < s.cores.length := by rw [hi.2.cores]; exact c.isLt
  obtain ⟨u, fu, hu⟩ := State.issue_runs s c.val w body hc hat
  have hcu : c.val < u.cores.length := by rw [fu.len]; exact hc
  have hrun : u.runOne c.val body = (u.modCore c.val f).afterIssue c.val (u.core c.val) none := by
    unfold State.runOne; rw [hb u hcu]
  have hk := State.core_shaped s hi.2 c.isLt
  have huk : (u.core c.val).shaped := by rw [fu.core]; exact hk
  have hku : f (u.core c.val) = ((u.core c.val).putAll (rs (s.core c.val))).raiseFlags (fl (s.core c.val)) := by
    rw [hf _ huk]
    have := hsoft (s.core c.val) (u.core c.val).imemSoft
    rw [← fu.core] at this
    rw [this.1, this.2]
  have hhalt : (u.modCore c.val f).get (Reg.CH_CTRL_HALT c.val) = 0 := by
    show u.get _ = 0
    rw [fu.regs _ (by simp only [List.map_cons, List.map_nil, List.mem_singleton, Fld.key, Reg.CH_CTRL_HALT, Reg.CH_ECC_CE]; omega)]
    exact hat.halt
  obtain ⟨t, ht, ⟨tm, ip, hct⟩, hoth, _, hsr, hdr, hrk⟩ :=
    State.afterIssue_spec (u.modCore c.val f) c.val (u.core c.val) none (by simpa using hcu) hhalt
  have hmc : (u.modCore c.val f).core c.val = f (u.core c.val) := State.core_modCore_self u f hcu
  obtain ⟨r1, r2, r3, r4, r5⟩ := Core.issue_results (u.core c.val) (f (u.core c.val)) (u.core c.val) none
    (rs (s.core c.val)) (fl (s.core c.val)) huk hku (hr _)
  have r1 := all_of_apart _ _ (apart_of_nodup _ (hd _)) r1
  have eb : (u.core c.val).bank = (s.core c.val).bank := by rw [fu.core]
  have el : (u.core c.val).land = (s.core c.val).land := by rw [fu.core]
  have eo : ∀ b, (u.core c.val).bankOf b = (s.core c.val).bankOf b := by intro b; rw [fu.core]; rfl
  have er : ∀ b i, (u.core c.val).reg b i = (s.core c.val).reg b i := by intro b i; rw [fu.core]; rfl
  have ecyc : (f (u.core c.val)).cyc = (s.core c.val).cyc := by
    rw [hku, (Core.raiseFlags_spec _ _).2.2.2.2]
    show (u.core c.val).cyc = _
    rw [fu.core]
  rw [eb] at r1 r2 r3
  rw [el] at r2
  simp only [eo] at r3 r4
  simp only [er] at r2
  rw [hmc] at hct
  generalize hx : (Core.advance (Core.seqEnd (u.core c.val) none (f (u.core c.val)))).1 = x at r1 r2 r3 r4 r5 hct
  unfold Core.Rest at r5
  rw [fu.core] at r5
  refine ⟨t, by rw [he, hu, hrun, ht], ?_, ?_⟩
  · intro r hrm
    rw [hct]; exact r1 r hrm
  · constructor
    · intro n hn
      rw [hoth n hn, State.core_modCore_ne _ _ hn, fu.others n hn]
    · intro a; rw [hsr, hdr]
      exact ⟨congrArg (fun m => Memory.byte m a) fu.mem.1, congrArg (fun m => Memory.byte m a) fu.mem.2⟩
    · refine RegsKept.trans (t := u) (RegsKept.mono ?_ fu.regs) (RegsKept.mono ?_ ((RegsKept.of_regs (t := u.modCore c.val f) _ rfl).trans hrk))
      · intro x hx; rw [List.mem_singleton] at hx; subst hx; simp
      · intro x hx; simp only [collFields, List.mem_cons, List.not_mem_nil, or_false] at hx; rcases hx with rfl | rfl <;> simp
    · intro b i hn hl
      rw [hct]; exact r2 b i hn hl
    · rw [hct]; exact r3
    · rw [hct]; exact fun b n h0 h1 h4 _ => r4 b n h0 h1 h4
    · rw [hct, r5, ecyc]
      exact ⟨rfl, rfl, rfl, rfl, rfl, rfl, rfl, rfl, rfl, rfl, rfl⟩
    · rw [hct, r5]; exact ⟨rfl, rfl, rfl⟩

theorem State.modCore_id (s : State) (c : Nat) (h : c < s.cores.length) : s.modCore c id = s := by
  unfold State.modCore State.setCore State.core
  simp [List.getD_eq_getElem?_getD, h]

/-- One result without flags for Gd. -/
theorem computes_g (c : Fin 20) (w : Nat) (i : Instr) (d : Nat) (hd : d < 32) (v : Core → BitVec 32) (lat : Nat)
    (f : Core → BitVec 32) (he : ∀ s, exec i s = .next (s.issue c.val w (alu c.val lat d f))) (hv : ∀ k, f k = v k)
    (hs : ∀ (k : Core) x, v { k with imemSoft := x } = v k) : Computes c w i (fun k => intoG d (v k) lat) (fun _ => 0) := by
  refine computes_of c w i _ _ _ (fun k => k.wrG lat d (f k)) he (fun _ _ => rfl) ?_ ?_ ?_ ?_
  · intro k _; simp only [Core.raiseFlags, Core.putAll, intoG, Core.wrG, Core.put, hv]; rfl
  · intro k x; exact ⟨by simp only [intoG, hs], rfl⟩
  · intro k r hr; simp only [intoG, List.mem_singleton] at hr; subst hr; exact ⟨by omega, regNorm_word _ _⟩
  · intro k; simp [intoG]

/-- One result for Ai. -/
theorem computes_a (c : Fin 20) (w : Nat) (i : Instr) (d : Nat) (hd : d < 8) (v : Core → BitVec 32) (lat : Nat) (body : State → IRes)
    (f : Core → BitVec 32) (he : ∀ s, exec i s = .next (s.issue c.val w body))
    (hb : ∀ s, body s = .next (s.modCore c.val fun k => k.wrA lat d (f k)) none) (hv : ∀ k, f k = v k)
    (hs : ∀ (k : Core) x, v { k with imemSoft := x } = v k) : Computes c w i (fun k => intoA d (v k) lat) (fun _ => 0) := by
  refine computes_of c w i _ _ _ (fun k => k.wrA lat d (f k)) he (fun s _ => hb s) ?_ ?_ ?_ ?_
  · intro k _; simp only [Core.raiseFlags, Core.putAll, intoA, Core.wrA, Core.put, hv]; rfl
  · intro k x; exact ⟨by simp only [intoA, hs], rfl⟩
  · intro k r hr; simp only [intoA, List.mem_singleton] at hr; subst hr; exact ⟨by omega, regNorm_word _ _⟩
  · intro k; simp [intoA]

/-- One result with flags for Gd. -/
theorem computes_f (c : Fin 20) (w : Nat) (i : Instr) (d : Nat) (hd : d < 32) (v : Core → BitVec 32) (fl : Core → Nat) (lat : Nat)
    (f : Core → FRes) (body : State → IRes) (he : ∀ s, exec i s = .next (s.issue c.val w body)) (hb : ∀ s, body s = fpu c.val lat d f s)
    (hv : ∀ k, f k = (v k, fl k))
    (hs : ∀ (k : Core) x, v { k with imemSoft := x } = v k ∧ fl { k with imemSoft := x } = fl k) :
    Computes c w i (fun k => intoG d (v k) lat) fl := by
  refine computes_of c w i _ _ _ (fun k => (k.wrG lat d (f k).1).raiseFlags (f k).2) he (fun s _ => hb s) ?_ ?_ ?_ ?_
  · intro k _; simp only [Core.putAll, intoG, Core.wrG, Core.put, hv]; rfl
  · intro k x; exact ⟨by simp only [intoG, (hs k x).1], (hs k x).2⟩
  · intro k r hr; simp only [intoG, List.mem_singleton] at hr; subst hr; exact ⟨by omega, regNorm_word _ _⟩
  · intro k; simp [intoG]

/-! ### Accumulators -/


theorem Core.setBs_setBs (k : Core) (n v w : Nat) (h : k.shaped) : (k.setBs n v).setBs n w = k.setBs n w := by
  have hb : k.bank < k.banks.length := by rw [h.1]; exact h.2.2.1
  unfold Core.setBs Core.modBank
  simp only [Core.bankOf, List.getD_eq_getElem?_getD, List.set_set]
  simp [hb]
theorem Core.bs_setBs (k : Core) (n v : Nat) (h : k.shaped) (hn : n < 7) : (k.setBs n v).bs n = v % 2 ^ 32 := by
  have hb : k.bank < k.banks.length := by rw [h.1]; exact h.2.2.1
  have hl := (Core.bankOf_shaped k h h.2.2.1).2.2.2
  have e : (k.setBs n v).cur = _ := Core.bankOf_modBank_self k (fun b => { b with bs := b.bs.set n (BitVec.ofNat 32 v) }) hb
  unfold Core.bs
  rw [e]
  simp [List.getD_eq_getElem?_getD, hl, hn]
/-- Flags raised twice are raised together. -/
theorem Core.raiseFlags_raiseFlags (k : Core) (a b : Nat) (h : k.shaped) : (k.raiseFlags a).raiseFlags b = k.raiseFlags (a ||| b) := by
  by_cases ha : a = 0
  · subst ha; simp [Core.raiseFlags]
  by_cases hb : b = 0
  · subst hb; simp [Core.raiseFlags]
  have hab : a ||| b ≠ 0 := by
    intro e; exact ha (Nat.or_eq_zero_iff.1 e).1
  simp only [Core.raiseFlags, if_neg ha, if_neg hb, if_neg hab]
  rw [Core.setBs_setBs _ _ _ _ h, Core.bs_setBs _ _ _ h (by decide)]
  unfold Core.setBs
  have : BitVec.ofNat 32 ((k.bs 0 ||| a) % 2 ^ 32 ||| b) = BitVec.ofNat 32 (k.bs 0 ||| (a ||| b)) := by
    have e : ∀ z : Nat, BitVec.ofNat 32 (z % 2 ^ 32) = BitVec.ofNat 32 z := by
      intro z; apply BitVec.eq_of_toNat_eq; simp only [BitVec.toNat_ofNat, Nat.mod_mod]
    rw [BitVec.ofNat_or, e, ← BitVec.ofNat_or, Nat.or_assoc]
  rw [this]
theorem Core.put_raiseFlags (k : Core) (a l d : Nat) (v : BitVec 72) : (k.raiseFlags a).put l d v = (k.put l d v).raiseFlags a := by
  by_cases ha : a = 0
  · subst ha; rfl
  · simp only [Core.raiseFlags, if_neg ha]; rfl
theorem Core.q_raiseFlags (k : Core) (a : Nat) (h : k.shaped) (he : a % 2 = 0) : (k.raiseFlags a).q = k.q := by
  by_cases ha : a = 0
  · subst ha; rfl
  · simp only [Core.raiseFlags, if_neg ha, Core.q]
    rw [Core.bs_setBs _ _ _ h (by decide)]
    unfold bit
    have : ((k.bs 0 ||| a) % 2 ^ 32 / 2 ^ 0) % 2 = k.bs 0 / 2 ^ 0 % 2 := by
      have := Nat.or_mod_two_eq_one (a := k.bs 0) (b := a)
      omega
    rw [this]
theorem Core.accChain_raiseFlags (k : Core) (a p : Nat) : (k.raiseFlags a).accChain p = k.accChain p := by
  by_cases ha : a = 0
  · subst ha; rfl
  · simp only [Core.raiseFlags, if_neg ha]
    have : ∀ x : Core, (x.setBs 0 (x.bs 0 ||| a)).accSeen p = x.accSeen p := by
      intro x
      unfold Core.accSeen Core.cur Core.setBs
      rw [Core.bankOf_modBank]
      show (if x.bank = x.bank ∧ x.bank < x.banks.length then _ else x.bankOf x.bank : Bank).acc.getD p 0 = _
      by_cases h : x.bank = x.bank ∧ x.bank < x.banks.length
      · rw [if_pos h]; rfl
      · rw [if_neg h]
    unfold Core.accChain
    show (match (k.land.filter _).getLast? with | some l => l.v | none => _) = _
    rw [this]; rfl
theorem Core.accChain_put (k : Core) (l d p : Nat) (v : BitVec 72) (h : d ≠ 40 + p) : (k.put l d v).accChain p = k.accChain p := by
  unfold Core.accChain Core.put
  simp only [List.filter_append]
  have : List.filter (fun x : Land => x.bank == k.bank && x.dst == 40 + p) [⟨l, k.bank, d, v⟩] = [] := by simp [h]
  rw [this, List.append_nil]; rfl
theorem satBit_even (b : Bool) : satBit b % 2 = 0 := by cases b <;> rfl
theorem fflags_even (f : FFlags) : f.bits % 2 = 0 := by
  unfold FFlags.bits; cases f.inv <;> cases f.ovf <;> cases f.unf <;> rfl
theorem macPart_even (q acc ps) : (macPart q acc ps).2 % 2 = 0 := by
  unfold macPart
  split
  · exact satBit_even _
  · exact fflags_even _

/-- A complex chain step puts both parts in flight. -/
theorem Core.mac2 (r : Core) (h : r.shaped) (k : Nat) (acc : Bool) (ps qs) :
    (r.mac (2 * k) acc ps).mac (2 * k + 1) acc qs =
      (r.putAll (intoAcc k (macPart r.q (if acc then some (r.accChain (2 * k)) else none) ps).1
        (macPart r.q (if acc then some (r.accChain (2 * k + 1)) else none) qs).1)).raiseFlags
        ((macPart r.q (if acc then some (r.accChain (2 * k)) else none) ps).2 |||
          (macPart r.q (if acc then some (r.accChain (2 * k + 1)) else none) qs).2) := by
  have e := macPart_even r.q (if acc then some (r.accChain (2 * k)) else none) ps
  unfold Core.mac
  generalize macPart r.q (if acc then some (r.accChain (2 * k)) else none) ps = v at *
  dsimp only
  have hq : ((r.wrAcc (2 * k) v.1).raiseFlags v.2).q = r.q := Core.q_raiseFlags (r.wrAcc (2 * k) v.1) _ h e
  have hc : ((r.wrAcc (2 * k) v.1).raiseFlags v.2).accChain (2 * k + 1) = r.accChain (2 * k + 1) := by
    rw [Core.accChain_raiseFlags]; exact Core.accChain_put _ _ _ _ _ (by omega)
  rw [hq, hc]
  generalize macPart r.q (if acc then some (r.accChain (2 * k + 1)) else none) qs = w
  unfold Core.wrAcc
  rw [Core.put_raiseFlags, Core.raiseFlags_raiseFlags ((r.put 3 (40 + 2 * k) v.fst).put 3 (40 + (2 * k + 1)) w.fst) _ _ h]
  unfold Core.put Core.putAll intoAcc
  rw [show 40 + (2 * k + 1) = 41 + 2 * k by omega]; simp

/-- Both parts of an accumulator. -/
theorem computes_acc (c : Fin 20) (w : Nat) (i : Instr) (k : Fin 4) (re im : Core → BitVec 72 × FBits) (body : State → IRes)
    (f : Core → Core) (he : ∀ s, exec i s = .next (s.issue c.val w body))
    (hb : ∀ s, body s = .next (s.modCore c.val f) none)
    (hf : ∀ r : Core, r.shaped → f r = (r.putAll (intoAcc k (re r).1 (im r).1)).raiseFlags ((re r).2 ||| (im r).2))
    (hs : ∀ (k : Core) x, re { k with imemSoft := x } = re k ∧ im { k with imemSoft := x } = im k) : ComputesAcc c w i k re im := by
  refine computes_of c w i _ _ body f he (fun s _ => hb s) hf ?_ ?_ ?_
  · intro k x; simp only [(hs k x).1, (hs k x).2]; exact ⟨trivial, trivial⟩
  · intro r x hx; simp only [intoAcc, List.mem_cons, List.not_mem_nil, or_false] at hx
    have := k.isLt
    rcases hx with rfl | rfl <;> exact ⟨by dsimp only; omega, regNorm_acc _ _ (by dsimp only; omega)⟩
  · intro k; simp [intoAcc]

/-- The real part of an accumulator. -/
theorem computes_re (c : Fin 20) (w : Nat) (i : Instr) (k : Fin 4) (re : Core → BitVec 72 × FBits) (body : State → IRes)
    (f : Core → Core) (he : ∀ s, exec i s = .next (s.issue c.val w body))
    (hb : ∀ s, body s = .next (s.modCore c.val f) none)
    (hf : ∀ r : Core, f r = (r.wrAcc (2 * k) (re r).1).raiseFlags (re r).2)
    (hs : ∀ (k : Core) x, re { k with imemSoft := x } = re k) : ComputesRe c w i k re := by
  refine computes_of c w i _ _ body f he (fun s _ => hb s) (fun r _ => hf r) ?_ ?_ ?_
  · intro k x; simp only [hs k x]; exact ⟨trivial, trivial⟩
  · intro r x hx; simp only [List.mem_singleton] at hx
    have := k.isLt
    subst hx; exact ⟨by dsimp only; omega, regNorm_acc _ _ (by dsimp only; omega)⟩
  · intro k; simp


end Sys2Proof.Machine
end

