-- ==== Sys2Proof/Laws/CoreMem.lean ====
section
/-!
SUPPORT. What a load and a store of a chisel core can do, and the end of a memory instruction's issue.
-/
namespace Sys2Proof.Machine

/-- Register fields a load of core `c` may count in. -/
def loadFields (c : Nat) : List Fld :=
  [Reg.CH_FREEZE c, Reg.CH_ECC_CE c, Reg.CH_ECC_UE c, Reg.MEM_CNT_SRAM_CE, Reg.MEM_CNT_DRAM_CE, Reg.MEM_FLAGS_SRAM_UE,
   Reg.MEM_CNT_SRAM_UE, Reg.MEM_FLAGS_DRAM_UE, Reg.MEM_CNT_DRAM_UE, Reg.MEM_ERR_ADDR_LO, Reg.MEM_ERR_ADDR_HI_A32,
   Reg.MEM_ERR_ADDR_HI_SPACE, Reg.MEM_ERR_ADDR_HI_VALID, Reg.MEM_FLAGS_RMW_DROP]

/-- What a load leaves alone. -/
structure LoadKept (s u : State) (c : Nat) : Prop where
  core : ∀ n, u.core n = { s.core n with
    ip := (u.core n).ip, cyc := (u.core n).cyc, tmr := (u.core n).tmr, dmemSoft := (u.core n).dmemSoft }
  len : u.cores.length = s.cores.length
  sram : u.sram = s.sram
  dram : u.dram = s.dram
  regs : RegsKept s u (loadFields c)

theorem LoadKept.refl (s : State) (c : Nat) : LoadKept s s c := ⟨fun _ => rfl, rfl, rfl, rfl, RegsKept.refl _ _⟩
theorem LoadKept.trans {s t u : State} {c : Nat} (a : LoadKept s t c) (b : LoadKept t u c) : LoadKept s u c := by
  refine ⟨fun n => ?_, b.len.trans a.len, b.sram.trans a.sram, b.dram.trans a.dram, a.regs.trans b.regs⟩
  rw [b.core n, a.core n]
theorem LoadKept.put (s : State) (c : Nat) (f : Fld) (v : Nat) (h : f ∈ loadFields c) : LoadKept s (s.put f v) c :=
  ⟨fun _ => rfl, rfl, rfl, rfl, RegsKept.put s f v _ h⟩
theorem LoadKept.setMs (s : State) (c : Nat) (f : MemSys → MemSys) : LoadKept s (s.setMs f) c :=
  ⟨fun _ => rfl, rfl, rfl, rfl, RegsKept.of_regs _ rfl⟩
theorem LoadKept.coreCe (s : State) (c : Nat) : LoadKept s (s.coreCe c) c :=
  (LoadKept.put s c (Reg.CH_ECC_CE c) _ (by simp [loadFields])).trans ⟨fun _ => rfl, rfl, rfl, rfl, RegsKept.of_regs _ rfl⟩
/-- A change of IP, the cycle counter, TMR or the soft errors of DMEM. -/
theorem LoadKept.modCore (s : State) (c n : Nat) (f : Core → Core)
    (h : ∀ k, f k = { k with ip := (f k).ip, cyc := (f k).cyc, tmr := (f k).tmr, dmemSoft := (f k).dmemSoft }) :
    LoadKept s (s.modCore n f) c := by
  refine ⟨fun m => ?_, by simp, rfl, rfl, RegsKept.of_regs _ rfl⟩
  by_cases e : m = n
  · subst e
    by_cases hl : m < s.cores.length
    · rw [State.core_modCore_self _ _ hl, h]
    · have : s.modCore m f = s := by
        unfold State.modCore State.setCore
        rw [List.set_eq_of_length_le (Nat.le_of_not_lt hl)]
      rw [this]
  · rw [State.core_modCore_ne _ _ e]

theorem LoadKept.cycles (s : State) (c n m : Nat) : LoadKept s (s.cycles n m) c :=
  LoadKept.modCore _ _ _ _ (fun _ => rfl)
theorem LoadKept.freeze (s : State) (c n : Nat) : LoadKept s (s.freeze c n) c :=
  (LoadKept.put s c _ _ (by simp [loadFields])).trans (LoadKept.cycles _ _ _ _)
theorem LoadKept.freezeFrom (s : State) (c n : Nat) : LoadKept s (s.freezeFrom c n) c :=
  LoadKept.trans (t := s.freeNat.2) ⟨fun _ => rfl, rfl, rfl, rfl, RegsKept.of_regs _ rfl⟩ (LoadKept.freeze _ c _)
theorem LoadKept.errAddr (s : State) (c sp a : Nat) : LoadKept s (s.errAddr sp a) c := by
  unfold State.errAddr
  split
  · exact LoadKept.refl _ _
  · refine LoadKept.trans (LoadKept.put s c Reg.MEM_ERR_ADDR_LO _ ?_) (LoadKept.trans (LoadKept.put _ c Reg.MEM_ERR_ADDR_HI_A32 _ ?_)
      (LoadKept.trans (LoadKept.put _ c Reg.MEM_ERR_ADDR_HI_SPACE _ ?_) (LoadKept.put _ c Reg.MEM_ERR_ADDR_HI_VALID _ ?_))) <;>
      simp [loadFields]
theorem LoadKept.sramTouch (s : State) (c a : Nat) : LoadKept s (s.sramTouch a).1 c := by
  unfold State.sramTouch
  have h : LoadKept s (if s.ms.sramSoft.contains (a / 8) = true then
      (s.count Reg.MEM_CNT_SRAM_CE 1).setMs (fun m => { m with
        sramSoft := m.sramSoft.filter (fun x => x != a / 8)
        rowErr := Tbl.put 0 m.rowErr (rowOf a) (Tbl.get 0 m.rowErr (rowOf a) + 1) }) else s) c := by
    split
    · exact (LoadKept.put s c _ _ (by simp [loadFields])).trans (LoadKept.setMs _ _ _)
    · exact LoadKept.refl _ _
  revert h
  dsimp only
  generalize (ite (s.ms.sramSoft.contains (a / 8) = true) _ s) = q
  intro h
  split
  · refine h.trans ?_
    unfold State.sramUe
    refine LoadKept.trans (LoadKept.put _ c Reg.MEM_FLAGS_SRAM_UE _ ?_) (LoadKept.trans (LoadKept.put _ c Reg.MEM_CNT_SRAM_UE _ ?_) (LoadKept.errAddr _ c _ _)) <;>
      simp [loadFields]
  · exact h
theorem LoadKept.dramTouch (s : State) (c a : Nat) : LoadKept s (s.dramTouch a).1 c := by
  unfold State.dramTouch
  have h : LoadKept s (if s.ms.dramSoft.contains (a / 8) = true then
      (s.count Reg.MEM_CNT_DRAM_CE 1).setMs (fun m => { m with dramSoft := m.dramSoft.filter (fun x => x != a / 8) }) else s) c := by
    split
    · exact (LoadKept.put s c _ _ (by simp [loadFields])).trans (LoadKept.setMs _ _ _)
    · exact LoadKept.refl _ _
  revert h
  dsimp only
  generalize (ite (s.ms.dramSoft.contains (a / 8) = true) _ s) = q
  intro h
  split
  · refine h.trans ?_
    unfold State.dramUe
    refine LoadKept.trans (LoadKept.put _ c Reg.MEM_FLAGS_DRAM_UE _ ?_) (LoadKept.trans (LoadKept.put _ c Reg.MEM_CNT_DRAM_UE _ ?_) (LoadKept.errAddr _ c _ _)) <;>
      simp [loadFields]
  · exact h
theorem LoadKept.dmaStatusRead (s : State) (c m : Nat) : LoadKept s (s.dmaStatusRead m) c :=
  LoadKept.trans (t := s.setDma m { s.dmaPort m with done := false, error := false, cause := 0 }) (LoadKept.setMs _ _ _)
    (LoadKept.modCore _ _ _ (fun k => { k with ip := k.ip &&& 0xFFFB }) (fun _ => rfl))

theorem LoadKept.loadAt (s : State) (c sp a n : Nat) (u : State) (v : Nat) (h : s.loadAt c sp a n = .ok u v) : LoadKept s u c := by
  unfold State.loadAt at h
  split at h
  · dsimp only at h
    split at h
    · cases h
    · injection h with h _
      subst h
      split
      · exact (LoadKept.coreCe s c).trans (LoadKept.modCore _ _ _ _ (fun _ => rfl))
      · exact LoadKept.refl _ _
  · dsimp only at h
    split at h
    · injection h with h _
      subst h
      refine LoadKept.trans ?_ (LoadKept.freezeFrom _ c 4)
      split
      · exact LoadKept.dmaStatusRead _ _ _
      · exact LoadKept.refl _ _
    · split at h
      · cases h
      · split at h
        · injection h with h _
          subst h
          exact LoadKept.freezeFrom _ c 4
        · split at h
          · cases h
          · injection h with h _
            subst h
            refine LoadKept.trans ?_ (LoadKept.freezeFrom _ c 4)
            refine (LoadKept.sramTouch s c a).trans ?_
            split
            · exact LoadKept.modCore _ _ _ _ (fun _ => rfl)
            · exact LoadKept.refl _ _
  · dsimp only at h
    split at h
    · injection h with h _
      subst h
      exact LoadKept.freezeFrom _ c 60
    · injection h with h _
      subst h
      exact (LoadKept.dramTouch s c a).trans (LoadKept.freezeFrom _ c 60)

theorem LoadKept.loadEa (c : Nat) (ps : List (Nat × Nat × Nat)) (s : State) (u : State) (v : Nat) (h : s.loadEa c ps = .ok u v) :
    LoadKept s u c := by
  induction ps generalizing s u v with
  | nil => unfold State.loadEa at h; injection h with h _; subst h; exact LoadKept.refl _ _
  | cons p t ih =>
    obtain ⟨sp, a, n⟩ := p
    unfold State.loadEa at h
    split at h
    · cases h
    · rename_i x v1 h1
      split at h
      · cases h
      · rename_i y v2 h2
        injection h with h _
        subst h
        exact (LoadKept.loadAt _ _ _ _ _ _ _ h1).trans (ih _ _ _ h2)

/-! ### The end of a memory instruction's issue -/

/-- `x` is `k` but for what accesses may change: IP, cycles, TMR, and the data memory with its store buffer. -/
def Core.Accessed (k x : Core) : Prop :=
  x = { k with ip := x.ip, cyc := x.cyc, tmr := x.tmr, dmem := x.dmem, dmemBad := x.dmemBad, dmemSoft := x.dmemSoft, stores := x.stores }

theorem Core.Accessed.refl (k : Core) : Core.Accessed k k := rfl
theorem Core.Accessed.trans {a b c : Core} (x : Core.Accessed a b) (y : Core.Accessed b c) : Core.Accessed a c := by
  unfold Core.Accessed at *; rw [y, x]
theorem LoadKept.accessed {s u : State} {c : Nat} (h : LoadKept s u c) (n : Nat) : Core.Accessed (s.core n) (u.core n) := by
  unfold Core.Accessed; rw [h.core n]

/-- A memory instruction whose accesses leave `u` completes, with its results on their way. -/
theorem State.issue_mem (s u : State) (c w : Nat) (body : State → IRes) (f : Core → Core) (rs : List (Nat × BitVec 72 × Nat))
    (fl : Nat) (hc : c < 20) (hi : s.Inv) (hat : s.CoreClean c w) (hb : body s = .next (u.modCore c f) none)
    (ha : Core.Accessed (s.core c) (u.core c)) (hl : u.cores.length = s.cores.length)
    (hh : u.get (Reg.CH_CTRL_HALT c) = s.get (Reg.CH_CTRL_HALT c)) (hf : f (u.core c) = ((u.core c).putAll rs).raiseFlags fl)
    (hr : ∀ r ∈ rs, r.1 < 48 ∧ regNorm r.1 r.2.1 = r.2.1) :
    ∃ t, s.issue c w body = t
      ∧ (∀ p r q, rs = p ++ r :: q → (∀ y ∈ q, Apart r y) → (t.core c).Lands (s.core c).bank r.1 r.2.1 (r.2.2 - 1))
      ∧ MemFrame s u t c (rs.map (fun r => r.1)) fl := by
  have hcl : c < s.cores.length := by rw [hi.2.cores]; exact hc
  have hcu : c < u.cores.length := by rw [hl]; exact hcl
  have hfetch : s.fetch c = .ok s w := by
    unfold State.fetch
    dsimp only
    rw [if_neg (by rw [hat.1.good]; simp), if_neg (c := (s.core c).imemSoft.contains ((s.core c).pc / 4) = true) (by rw [hat.2]; simp),
      if_neg (by rw [hat.1.brk]; simp)]
    exact congrArg (LRes.ok _) hat.1.word
  have hiss : s.issue c w body = (u.modCore c f).afterIssue c (s.core c) none := by
    unfold State.issue
    rw [if_neg (by simp [hat.1.run, hat.1.clock]), hfetch]
    simp [State.runOne, hb]
  have hk := State.core_shaped s hi.2 hc
  have huk : (u.core c).shaped := by rw [ha]; exact hk
  obtain ⟨t, ht, ⟨tm, ip, hct⟩, hoth, _, hsr, hdr, hrk⟩ :=
    State.afterIssue_spec (u.modCore c f) c (s.core c) none (by simpa using hcu) (by
      show u.get _ = 0
      rw [hh]; exact hat.1.halt)
  have hmc : (u.modCore c f).core c = f (u.core c) := State.core_modCore_self u f hcu
  obtain ⟨r1, r2, r3, r4, r5⟩ := Core.issue_results (u.core c) (f (u.core c)) (s.core c) none rs fl huk hf hr
  have eb : (u.core c).bank = (s.core c).bank := by rw [ha]
  have el : (u.core c).land = (s.core c).land := by rw [ha]
  have eo : ∀ b, (u.core c).bankOf b = (s.core c).bankOf b := by intro b; rw [ha]; rfl
  have er : ∀ b i, (u.core c).reg b i = (s.core c).reg b i := by intro b i; rw [ha]; rfl
  rw [eb] at r1 r2 r3
  rw [el] at r2
  simp only [eo] at r3 r4
  simp only [er] at r2
  rw [hmc] at hct
  generalize (Core.advance (Core.seqEnd (s.core c) none (f (u.core c)))).1 = x at r1 r2 r3 r4 r5 hct
  unfold Core.Rest at r5
  refine ⟨t, by rw [hiss, ht], fun p r q e h => by rw [hct]; exact r1 p r q e h, ?_⟩
  constructor
  · intro n hn; rw [hoth n hn, State.core_modCore_ne _ _ hn]
  · refine ⟨hsr, hdr, ?_, ?_⟩
    · rw [hct, r5]
    · rw [hct, r5, ha]
  · rw [hct, r5]
  · exact (RegsKept.of_regs (t := u.modCore c f) _ rfl).trans hrk
  · intro b i hn hl; rw [hct]; exact r2 b i hn hl
  · rw [hct]; exact r3
  · rw [hct]; exact r4
  · rw [hct, r5, ha]; exact ⟨rfl, rfl, rfl, rfl, rfl, rfl, rfl, rfl, rfl, rfl⟩

/-! ### Stores -/

/-- What a store leaves alone: every core but for what accesses change. -/
structure StoreKept (s u : State) (c : Nat) : Prop where
  core : ∀ n, Core.Accessed (s.core n) (u.core n)
  len : u.cores.length = s.cores.length
  regs : RegsKept s u (loadFields c)

theorem LoadKept.store {s u : State} {c : Nat} (h : LoadKept s u c) : StoreKept s u c := ⟨h.accessed, h.len, h.regs⟩
theorem StoreKept.trans {s t u : State} {c : Nat} (a : StoreKept s t c) (b : StoreKept t u c) : StoreKept s u c :=
  ⟨fun n => (a.core n).trans (b.core n), b.len.trans a.len, a.regs.trans b.regs⟩
theorem StoreKept.refl (s : State) (c : Nat) : StoreKept s s c := (LoadKept.refl s c).store
theorem StoreKept.mem (s : State) (c : Nat) (x y : Memory) : StoreKept s { s with sram := x, dram := y } c :=
  ⟨fun _ => Core.Accessed.refl _, rfl, RegsKept.of_regs _ rfl⟩
theorem StoreKept.modCore (s : State) (c n : Nat) (f : Core → Core) (h : ∀ k, Core.Accessed k (f k)) : StoreKept s (s.modCore n f) c := by
  refine ⟨fun m => ?_, by simp, RegsKept.of_regs _ rfl⟩
  by_cases e : m = n
  · subst e
    by_cases hl : m < s.cores.length
    · rw [State.core_modCore_self _ _ hl]; exact h _
    · have : s.modCore m f = s := by
        unfold State.modCore State.setCore
        rw [List.set_eq_of_length_le (Nat.le_of_not_lt hl)]
      rw [this]; exact Core.Accessed.refl _
  · rw [State.core_modCore_ne _ _ e]; exact Core.Accessed.refl _

theorem StoreKept.sramWrite (s : State) (c a : Nat) (b : List (BitVec 8)) : StoreKept s (s.sramWrite a b) c := by
  unfold State.sramWrite
  split
  · exact (StoreKept.mem s c (s.sram.setBytes a b) s.dram).trans (LoadKept.setMs _ _ _).store
  · have h := (LoadKept.sramTouch s c a).store
    revert h
    generalize s.sramTouch a = p
    intro h
    dsimp only
    split
    · exact h.trans (LoadKept.put _ c Reg.MEM_FLAGS_RMW_DROP 1 (by simp [loadFields])).store
    · exact h.trans (StoreKept.mem p.1 c _ _)
theorem StoreKept.dramWrite (s : State) (c a : Nat) (b : List (BitVec 8)) : StoreKept s (s.dramWrite a b) c :=
  ⟨fun _ => Core.Accessed.refl _, rfl, RegsKept.of_regs _ rfl⟩
theorem StoreKept.drainStore (s : State) (c : Nat) (e : Nat × Nat × List (BitVec 8)) : StoreKept s (s.drainStore e) c := by
  unfold State.drainStore; split
  · exact StoreKept.sramWrite _ _ _ _
  · exact StoreKept.dramWrite _ _ _ _
theorem StoreKept.foldl {α : Type} (c : Nat) (g : State → α → State) (h : ∀ s a, StoreKept s (g s a) c) (l : List α) (s : State) :
    StoreKept s (l.foldl g s) c := by
  induction l generalizing s with
  | nil => exact StoreKept.refl _ _
  | cons a t ih => exact (h s a).trans (ih _)
theorem StoreKept.flushStores (s : State) (c : Nat) : StoreKept s (s.flushStores c) c :=
  (StoreKept.foldl c _ (fun s e => StoreKept.drainStore s c e) _ s).trans (StoreKept.modCore _ _ _ _ (fun _ => rfl))
theorem StoreKept.raise (s : State) (c n l : Nat) : StoreKept s (s.raise n l) c := by
  unfold State.raise
  dsimp only
  split
  · exact StoreKept.refl _ _
  · exact StoreKept.modCore s c n (fun k => { k with ip := k.ip ||| 2 ^ l }) (fun _ => rfl)
theorem StoreKept.dmaEnd (s : State) (c n x : Nat) : StoreKept s (s.dmaEnd n x) c :=
  StoreKept.trans (t := s.setDma n { s.dmaPort n with busy := false, done := x == 0, error := x != 0, cause := x })
    (LoadKept.setMs _ _ _).store (StoreKept.raise _ _ _ _)
theorem StoreKept.dmaGo (s : State) (c n : Nat) : StoreKept s (s.dmaGo n) c := by
  unfold State.dmaGo
  dsimp only
  have h : ∀ q : Nat, StoreKept s (if q = 0 then s.setDma n { s.dmaPort n with busy := true } else s.dmaEnd n q) c := by
    intro q
    split
    · exact (LoadKept.setMs _ _ _).store
    · exact StoreKept.dmaEnd _ _ _ _
  by_cases hb : (s.dmaPort n).busy = true
  · rw [if_pos hb]; exact StoreKept.refl _ _
  · rw [if_neg hb]; exact h _
theorem StoreKept.dmaStore (s : State) (c n o : Nat) (b : List (BitVec 8)) : StoreKept s (s.dmaStore n o b) c := by
  unfold State.dmaStore
  dsimp only
  split
  · exact StoreKept.trans (t := s.setDma n { s.dmaPort n with regs := _ }) (LoadKept.setMs _ _ _).store (StoreKept.dmaGo _ _ _)
  · exact (LoadKept.setMs _ _ _).store
theorem StoreKept.storeAt (s : State) (c sp a : Nat) (b : List (BitVec 8)) : StoreKept s (s.storeAt c sp a b) c := by
  unfold State.storeAt
  split
  · exact StoreKept.modCore _ _ _ _ (fun _ => rfl)
  · split
    · exact (StoreKept.flushStores s c).trans (StoreKept.dmaStore _ _ _ _ _)
    · dsimp only
      refine StoreKept.trans ?_ (StoreKept.modCore _ _ _ _ (fun _ => rfl))
      split
      · rename_i e rest _
        split
        · exact StoreKept.refl _ _
        · exact ((StoreKept.drainStore s c _).trans (StoreKept.modCore _ c c (fun k => { k with stores := rest }) (fun _ => rfl))).trans (LoadKept.freezeFrom _ c 1).store
      · exact StoreKept.refl _ _
theorem StoreKept.storeEa (s : State) (c : Nat) (ps : List (Nat × Nat × Nat)) (v : Nat) (u : State) (x : Nat)
    (h : s.storeEa c ps v = .ok u x) : StoreKept s u c := by
  unfold State.storeEa at h
  split at h
  · cases h
  · injection h with h _
    subst h
    have : ∀ (ps : List (Nat × Nat × Nat)) (y : State × Nat), StoreKept y.1 (ps.foldl (fun (x : State × Nat) p =>
        (x.1.storeAt c p.1 p.2.1 (leBytes p.2.2 x.2), x.2 / 2 ^ (8 * p.2.2))) y).1 c := by
      intro ps
      induction ps with
      | nil => intro y; exact StoreKept.refl _ _
      | cons p t ih => intro y; exact (StoreKept.storeAt y.1 c p.1 p.2.1 (leBytes p.2.2 y.2)).trans (ih (y.1.storeAt c p.1 p.2.1 (leBytes p.2.2 y.2), y.2 / 2 ^ (8 * p.2.2)))
    exact this ps (s, v)

theorem State.errAddr_cores (s : State) (sp a : Nat) : (s.errAddr sp a).cores = s.cores := by
  unfold State.errAddr; split <;> rfl
theorem State.sramTouch_cores (s : State) (a : Nat) : (s.sramTouch a).1.cores = s.cores := by
  unfold State.sramTouch
  have h : (if s.ms.sramSoft.contains (a / 8) = true then
      (s.count Reg.MEM_CNT_SRAM_CE 1).setMs (fun m => { m with
        sramSoft := m.sramSoft.filter (fun x => x != a / 8)
        rowErr := Tbl.put 0 m.rowErr (rowOf a) (Tbl.get 0 m.rowErr (rowOf a) + 1) }) else s).cores = s.cores := by
    split <;> rfl
  revert h
  dsimp only
  generalize (ite (s.ms.sramSoft.contains (a / 8) = true) _ s) = q
  intro h
  split
  · show (q.sramUe _).cores = _
    unfold State.sramUe; rw [State.errAddr_cores]; exact h
  · exact h
/-- A drained store changes no core. -/
theorem State.drainStore_cores (s : State) (e : Nat × Nat × List (BitVec 8)) : (s.drainStore e).cores = s.cores := by
  unfold State.drainStore
  split
  · unfold State.sramWrite
    split
    · rfl
    · have h := State.sramTouch_cores s e.2.1
      revert h
      generalize s.sramTouch e.2.1 = p
      intro h
      dsimp only
      split <;> exact h
  · rfl

theorem halt_not_load (c : Nat) : (Reg.CH_CTRL_HALT c).key ∉ (loadFields c).map Fld.key := by
  simp only [loadFields, List.map_cons, List.map_nil, Fld.key, Reg.CH_CTRL_HALT, Reg.CH_FREEZE, Reg.CH_ECC_CE, Reg.CH_ECC_UE,
    Reg.MEM_CNT_SRAM_CE, Reg.MEM_CNT_DRAM_CE, Reg.MEM_FLAGS_SRAM_UE, Reg.MEM_CNT_SRAM_UE, Reg.MEM_FLAGS_DRAM_UE, Reg.MEM_CNT_DRAM_UE,
    Reg.MEM_ERR_ADDR_LO, Reg.MEM_ERR_ADDR_HI_A32, Reg.MEM_ERR_ADDR_HI_SPACE, Reg.MEM_ERR_ADDR_HI_VALID, Reg.MEM_FLAGS_RMW_DROP,
    List.mem_cons, List.not_mem_nil, or_false]
  omega

theorem Core.back_putAll (k : Core) (ai : Nat) (e : Ea) : k.back ai e = k.putAll (backTo ai e) := by
  unfold Core.back backTo
  cases e.back with
  | none => simp [Core.putAll]
  | some v => rfl

theorem backTo_ok (ai : Nat) (h : ai < 8) (e : Ea) : (∀ r ∈ backTo ai e, r.1 < 48 ∧ 32 ≤ r.1 ∧ regNorm r.1 r.2.1 = r.2.1)
    ∧ (backTo ai e).Pairwise Apart ∧ ∀ r ∈ backTo ai e, r.1 = 32 + ai ∧ r.2.2 = 1 := by
  unfold backTo
  cases e.back with
  | none => simp
  | some v =>
    refine ⟨?_, by simp [intoA], ?_⟩
    · intro r hr; simp only [intoA, List.mem_singleton] at hr; subst hr; exact ⟨by dsimp only; omega, by dsimp only; omega, regNorm_word _ _⟩
    · intro r hr; simp only [intoA, List.mem_singleton] at hr; subst hr; exact ⟨rfl, rfl⟩

/-- Every load is of this shape. -/
theorem loads_of (c : Fin 20) (w : Nat) (i : Instr) (ai : Fin 8) (mode : Fin 4) (circ : Fin 2) (slot : Fin 8) (imm : BitVec 12) (z : Nat)
    (rs : Nat → List (Nat × BitVec 72 × Nat)) (body : State → IRes) (f : Core → Nat → Core)
    (he : ∀ s, exec i s = .next (s.issue c.val w body)) (hb : ∀ s, body s = loadOp z c ai mode circ slot imm f s)
    (hf : ∀ k v, f k v = k.putAll (rs v)) (hr : ∀ v, ∀ r ∈ rs v, r.1 < 48 ∧ regNorm r.1 r.2.1 = r.2.1)
    (hd : ∀ v e, (rs v ++ backTo ai e).Pairwise Apart) : Loads c w i ai mode circ slot imm z rs := by
  intro s u e v hi hat hea hld
  have hk := LoadKept.loadEa c e.pieces s u v hld
  have hbody : body s = .next (u.modCore c.val (fun k => (f k v).back ai e)) none := by
    rw [hb]; unfold loadOp; rw [hea]; dsimp only; rw [hld]
  obtain ⟨t, ht, hl, hm⟩ := State.issue_mem s u c.val w body _ (rs v ++ backTo ai e) 0 c.isLt hi hat hbody (hk.accessed _) hk.len
    (hk.regs _ (halt_not_load _)) (by
      rw [Core.back_putAll, hf]; unfold Core.putAll; simp [Core.raiseFlags]) (by
      intro r hrm
      rcases List.mem_append.1 hrm with h | h
      · exact hr v r h
      · have := (backTo_ok ai.val ai.isLt e).1 r h; exact ⟨this.1, this.2.2⟩)
  have hl := all_of_apart _ _ (hd v e) hl
  refine ⟨t, by rw [he, ht], hl, hm, ?_, ?_, ?_⟩
  · intro a; rw [hm.mem.1, hm.mem.2.1, hk.sram, hk.dram]; exact ⟨rfl, rfl⟩
  · rw [hm.mem.2.2.1, hk.core c.val]
  · rw [hm.stores, hk.core c.val]

/-- Every store is of this shape. -/
theorem stores_of (c : Fin 20) (w : Nat) (i : Instr) (ai : Fin 8) (mode : Fin 4) (circ : Fin 2) (slot : Fin 8) (imm : BitVec 12) (z : Nat)
    (f : Core → Nat) (body : State → IRes)
    (he : ∀ s, exec i s = .next (s.issue c.val w body)) (hb : ∀ s, body s = storeOp z c ai mode circ slot imm f s) :
    Stores c w i ai mode circ slot imm z f := by
  intro s u e x hi hat hea hst
  have hk := StoreKept.storeEa s c.val e.pieces _ u x hst
  have hbody : body s = .next (u.modCore c.val (fun k => k.back ai e)) none := by
    rw [hb]; unfold storeOp; rw [hea]; dsimp only; rw [hst]
  have hbk := backTo_ok ai.val ai.isLt e
  obtain ⟨t, ht, hl, hm⟩ := State.issue_mem s u c.val w body _ (backTo ai e) 0 c.isLt hi hat hbody (hk.core _) hk.len
    (hk.regs _ (halt_not_load _)) (by rw [Core.back_putAll]; rfl) (fun r h => ⟨(hbk.1 r h).1, (hbk.1 r h).2.2⟩)
  have hl := all_of_apart _ _ hbk.2.1 hl
  exact ⟨t, by rw [he, ht], hl, hm⟩

/-! ### Any issue -/

/-- Where core `c` issues its word and its body answers a state, the issue ends with the end of that state's issue. -/
theorem State.issue_gen (s v : State) (c w : Nat) (body : State → IRes) (npc : Option Nat) (hc : c < 20) (hi : s.Inv)
    (hat : s.CoreClean c w) (hb : body s = .next v npc) (hl : v.cores.length = s.cores.length)
    (hh : v.get (Reg.CH_CTRL_HALT c) = s.get (Reg.CH_CTRL_HALT c)) :
    ∃ t, s.issue c w body = t
      ∧ (∃ tm ip, t.core c = { (Core.seqEnd (s.core c) npc (v.core c)).advance.1 with cyc := (v.core c).cyc + 1, tmr := tm, ip := ip })
      ∧ (∀ n, n ≠ c → t.core n = v.core n) ∧ t.sram = v.sram ∧ t.dram = v.dram ∧ RegsKept v t (collFields c) := by
  have hcl : c < s.cores.length := by rw [hi.2.cores]; exact hc
  have hfetch : s.fetch c = .ok s w := by
    unfold State.fetch
    dsimp only
    rw [if_neg (by rw [hat.1.good]; simp), if_neg (c := (s.core c).imemSoft.contains ((s.core c).pc / 4) = true) (by rw [hat.2]; simp),
      if_neg (by rw [hat.1.brk]; simp)]
    exact congrArg (LRes.ok _) hat.1.word
  have hiss : s.issue c w body = v.afterIssue c (s.core c) npc := by
    unfold State.issue
    rw [if_neg (by simp [hat.1.run, hat.1.clock]), hfetch]
    simp [State.runOne, hb]
  obtain ⟨t, ht, h1, h2, _, h3, h4, h5⟩ := State.afterIssue_spec v c (s.core c) npc (by rw [hl]; exact hcl) (by rw [hh]; exact hat.1.halt)
  exact ⟨t, by rw [hiss, ht], h1, h2, h3, h4, h5⟩

/-- Where core `c` issues its word and its body faults, the fault is taken. -/
theorem State.issue_fault (s v : State) (c w : Nat) (body : State → IRes) (code : Nat) (hat : s.CoreClean c w)
    (hb : body s = .fault code v) : s.issue c w body = v.takeFault c code := by
  have hfetch : s.fetch c = .ok s w := by
    unfold State.fetch
    dsimp only
    rw [if_neg (by rw [hat.1.good]; simp), if_neg (c := (s.core c).imemSoft.contains ((s.core c).pc / 4) = true) (by rw [hat.2]; simp),
      if_neg (by rw [hat.1.brk]; simp)]
    exact congrArg (LRes.ok _) hat.1.word
  unfold State.issue
  rw [if_neg (by simp [hat.1.run, hat.1.clock]), hfetch]
  simp [State.runOne, hb]

/-! ### Branches, loops and banks -/

/-- `m` is `k` but for the sequencer, the loop registers `ns` and the loop counts, and the results `rs` put in flight. -/
structure Flow (k m : Core) (rs : List (Nat × BitVec 72 × Nat)) (ns : List Nat) : Prop where
  land : m.land = k.land ++ rs.map (fun r => ⟨r.2.2, k.bank, r.1, r.2.1⟩)
  reg : ∀ b i, m.reg b i = k.reg b i
  bs : ∀ b n, n ≠ 1 → n ≠ 4 → n ∉ ns → (m.bankOf b).bs.getD n 0 = (k.bankOf b).bs.getD n 0
  shaped : k.shaped → m.shaped
  rest : Core.Rest k m

/-- The end of an issue reads only these of the core before it. -/
theorem Core.seqEnd_old (a b : Core) (npc : Option Nat) (k : Core) (h1 : a.slot = b.slot) (h2 : a.reti = b.reti) (h3 : a.pc = b.pc) :
    Core.seqEnd a npc k = Core.seqEnd b npc k := by unfold Core.seqEnd; rw [h1, h2, h3]

/-- An instruction that leaves the state `v` and then only moves the sequencer completes; its results are on their way and nothing
else of `v` changes. -/
theorem State.issue_flowAt (s v : State) (c w : Nat) (body : State → IRes) (f : Core → Core) (npc : Option Nat)
    (rs : List (Nat × BitVec 72 × Nat)) (ns : List Nat) (hc : c < 20) (hi : s.Inv) (hat : s.CoreClean c w)
    (hb : body s = .next (v.modCore c f) npc) (hvl : v.cores.length = 20) (hk : (v.core c).shaped)
    (hvh : v.get (Reg.CH_CTRL_HALT c) = s.get (Reg.CH_CTRL_HALT c)) (hf : Flow (v.core c) (f (v.core c)) rs ns) (h0 : 0 ∉ ns)
    (hr : ∀ r ∈ rs, r.1 < 48 ∧ regNorm r.1 r.2.1 = r.2.1) (hd : rs.Pairwise Apart) :
    ∃ t, s.issue c w body = t ∧ (∀ r ∈ rs, (t.core c).Lands (v.core c).bank r.1 r.2.1 (r.2.2 - 1))
      ∧ CoreFrame v t c (rs.map (fun r => r.1)) ns 0
      ∧ (∃ tm ip, t.core c = { (Core.seqEnd (s.core c) npc (f (v.core c))).advance.1 with cyc := (v.core c).cyc + 1, tmr := tm, ip := ip }) := by
  have hcl : c < v.cores.length := by rw [hvl]; exact hc
  obtain ⟨t, ht, ⟨tm, ip, hct⟩, hoth, hsr, hdr, hrk⟩ := State.issue_gen s (v.modCore c f) c w body npc hc hi hat hb
    (by simp [hvl, hi.2.cores]) hvh
  rw [State.core_modCore_self _ _ hcl] at hct
  have p := PcOnly.seqEnd (s.core c) npc (f (v.core c))
  obtain ⟨a1, a2, a3, a4, _, a6⟩ := Core.advance_spec (Core.seqEnd (s.core c) npc (f (v.core c))) (p.shaped (hf.shaped hk))
  have hland : (Core.seqEnd (s.core c) npc (f (v.core c))).land = (v.core c).land ++ rs.map (fun r => ⟨r.2.2, (v.core c).bank, r.1, r.2.1⟩) := by
    rw [p.rest]; exact hf.land
  have hcyc : (f (v.core c)).cyc = (v.core c).cyc := by have := hf.rest; unfold Core.Rest at this; rw [this]
  have hrest : Core.Rest (v.core c) (Core.seqEnd (s.core c) npc (f (v.core c))).advance.1 := by
    have := hf.rest; unfold Core.Rest at this ⊢
    rw [a6, p.rest, this]
  generalize hx : (Core.seqEnd (s.core c) npc (f (v.core c))).advance.1 = x at *
  refine ⟨t, ht, ?_, ?_, ⟨tm, ip, by rw [hct, hcyc]⟩⟩
  · refine all_of_apart rs _ hd ?_
    intro q r u hqu hq
    have hrm : r ∈ rs := by rw [hqu]; simp
    have hsp : (Core.seqEnd (s.core c) npc (f (v.core c))).land
        = ((v.core c).land ++ q.map (fun r => (⟨r.2.2, (v.core c).bank, r.1, r.2.1⟩ : Land)))
        ++ ⟨r.2.2, (v.core c).bank, r.1, r.2.1⟩ :: u.map (fun r => ⟨r.2.2, (v.core c).bank, r.1, r.2.1⟩) := by
      rw [hland, hqu]; simp
    have := a2 _ _ _ hsp hk.2.2.1 (hr r hrm).1 (by
      intro y hy
      obtain ⟨z, hz, rfl⟩ := List.mem_map.1 hy
      rintro ⟨_, e⟩
      exact hq z hz ⟨e.1.symm, e.2.symm⟩)
    rw [hct]
    unfold Core.Lands
    dsimp only at this ⊢
    by_cases h0 : r.2.2 - 1 = 0
    · rw [if_pos h0] at this ⊢; exact this.trans (hr r hrm).2
    · rw [if_neg h0] at this ⊢; exact this
  · constructor
    · intro n hn; rw [hoth n hn, State.core_modCore_ne _ _ hn]
    · intro a; rw [hsr, hdr]; exact ⟨rfl, rfl⟩
    · refine RegsKept.mono ?_ ((RegsKept.of_regs (t := v.modCore c f) _ rfl).trans hrk)
      intro x hx; simp only [collFields, List.mem_cons, List.not_mem_nil, or_false] at hx; rcases hx with rfl | rfl <;> simp
    · intro b i hn hl
      rw [hct]
      have := a1 b i (by
        intro l hlm
        rw [hland] at hlm
        rcases List.mem_append.1 hlm with h | h
        · exact hl l h
        · obtain ⟨r, hrm, rfl⟩ := List.mem_map.1 h
          rintro ⟨e1, e2⟩
          exact hn ⟨e1.symm, List.mem_map.2 ⟨r, hrm, e2⟩⟩)
      exact this.trans ((p.reg b i).trans (hf.reg b i))
    · rw [hct]
      have := (a4 (v.core c).bank)
      rw [p.bs _ _ (by decide) (by decide), hf.bs _ _ (by decide) (by decide) h0] at this
      have e0 : ∀ y : BitVec 32, y ||| BitVec.ofNat 32 0 = y := fun y => by simp
      rw [e0]; exact this
    · intro b n h0 h1 h4 hn
      rw [hct]
      exact (a3 b n h0).trans ((p.bs b n h1 h4).trans (hf.bs b n h1 h4 hn))
    · unfold Core.Rest at hrest
      rw [hct, hrest, hcyc]; exact ⟨rfl, rfl, rfl, rfl, rfl, rfl, rfl, rfl, rfl, rfl, rfl⟩
    · unfold Core.Rest at hrest
      rw [hct, hrest]; exact ⟨rfl, rfl, rfl⟩

/-- An instruction that only moves the sequencer completes; its results are on their way and nothing else changes. -/
theorem State.issue_flow (s : State) (c w : Nat) (body : State → IRes) (f : Core → Core) (npc : Option Nat)
    (rs : List (Nat × BitVec 72 × Nat)) (ns : List Nat) (hc : c < 20) (hi : s.Inv) (hat : s.CoreClean c w)
    (hb : body s = .next (s.modCore c f) npc) (hf : Flow (s.core c) (f (s.core c)) rs ns) (h0 : 0 ∉ ns)
    (hr : ∀ r ∈ rs, r.1 < 48 ∧ regNorm r.1 r.2.1 = r.2.1) (hd : rs.Pairwise Apart) :
    ∃ t, s.issue c w body = t ∧ (∀ r ∈ rs, (t.core c).Lands (s.core c).bank r.1 r.2.1 (r.2.2 - 1))
      ∧ CoreFrame s t c (rs.map (fun r => r.1)) ns 0
      ∧ (∃ tm ip, t.core c = { (Core.seqEnd (s.core c) npc (f (s.core c))).advance.1 with cyc := (s.core c).cyc + 1, tmr := tm, ip := ip }) :=
  State.issue_flowAt s s c w body f npc rs ns hc hi hat hb hi.2.cores (State.core_shaped s hi.2 hc) rfl hf h0 hr hd

/-- What one issue cycle leaves alone of a core beside its banks and results. -/
theorem Core.advance_rest (k : Core) : k.advance.1 = { k with banks := k.advance.1.banks, land := k.advance.1.land } := by
  have h1 : k.advance.1 = (collisions (k.aged.filter (fun l => l.left == 0))).foldl Core.wcoll
      ((k.aged.filter (fun l => l.left == 0)).foldl Core.landOne { k with land := k.aged.filter (fun l => l.left != 0) }) := rfl
  have h2 := (Core.wcolls (collisions (k.aged.filter (fun l => l.left == 0)))
    ((k.aged.filter (fun l => l.left == 0)).foldl Core.landOne { k with land := k.aged.filter (fun l => l.left != 0) })).2.2.2.2
  rw [← h1] at h2
  have h3 : k.advance.1.land = k.aged.filter (fun l => l.left != 0) := by
    rw [h2, Core.landAll_rest]
  rw [h2, Core.landAll_rest]

end Sys2Proof.Machine
end

