-- ==== Sys2Proof/Laws/Moves.lean ====
section
/-!
SUPPORT. `Moves` through each update: what a chain of updates leaves alone.
-/
namespace Sys2Proof.Machine

theorem Moves.refl (s : State) (ps : List Part) (fs : List Fld) : Moves s s ps fs :=
  ⟨rfl, fun p _ => by cases p <;> simp [Part.Same], RegsKept.refl s fs⟩

theorem Part.Same.trans {p : Part} {s t u : State} (a : p.Same s t) (b : p.Same t u) : p.Same s u := by
  cases p <;> first
    | exact Eq.trans b a
    | exact ⟨b.1.trans a.1, b.2.trans a.2⟩

theorem Moves.trans {s t u : State} {ps : List Part} {fs : List Fld} (a : Moves s t ps fs) (b : Moves t u ps fs) : Moves s u ps fs :=
  ⟨b.pending.trans a.pending, fun p h => (a.parts p h).trans (b.parts p h), a.regs.trans b.regs⟩

theorem Moves.mono {s t : State} {ps qs : List Part} {fs gs : List Fld} (hp : ∀ p ∈ ps, p ∈ qs) (hf : ∀ f ∈ fs, f ∈ gs)
    (a : Moves s t ps fs) : Moves s t qs gs :=
  ⟨a.pending, fun p h => a.parts p (fun x => h (hp p x)), a.regs.mono hf⟩

/-- A write of a field of the list. -/
theorem Moves.put {s t : State} {ps : List Part} {fs : List Fld} (f : Fld) (v : Nat) (h : f ∈ fs) (a : Moves s t ps fs) :
    Moves s (t.put f v) ps fs :=
  ⟨a.pending, fun p hp => (a.parts p hp).trans (by cases p <;> simp [Part.Same]), a.regs.trans (RegsKept.put t f v fs h)⟩

/-- An update of one part of the list, which leaves the registers and the queue alone. -/
theorem Moves.part {s t u : State} {ps : List Part} {fs : List Fld} (p : Part) (h : p ∈ ps) (hq : u.pending = t.pending)
    (hr : u.regs = t.regs) (ho : ∀ q : Part, q ≠ p → q.Same t u) (a : Moves s t ps fs) : Moves s u ps fs :=
  ⟨hq.trans a.pending, fun q hp => (a.parts q hp).trans (ho q (fun e => hp (e ▸ h))), a.regs.trans (RegsKept.of_regs fs hr)⟩

theorem Moves.shadows {s t : State} {ps : List Part} {fs : List Fld} (x) (h : Part.shadows ∈ ps) (a : Moves s t ps fs) :
    Moves s { t with shadows := x } ps fs :=
  Moves.part (t := t) .shadows h rfl rfl (fun q hq => by cases q <;> simp_all [Part.Same]) a
theorem Moves.rdata {s t : State} {ps : List Part} {fs : List Fld} (x) (h : Part.rdata ∈ ps) (a : Moves s t ps fs) :
    Moves s { t with rdata := x } ps fs :=
  Moves.part (t := t) .rdata h rfl rfl (fun q hq => by cases q <;> simp_all [Part.Same]) a
theorem Moves.out {s t : State} {ps : List Part} {fs : List Fld} (x) (h : Part.out ∈ ps) (a : Moves s t ps fs) :
    Moves s { t with out := x } ps fs :=
  Moves.part (t := t) .out h rfl rfl (fun q hq => by cases q <;> simp_all [Part.Same]) a
theorem Moves.fresh {s t : State} {ps : List Part} {fs : List Fld} (x) (h : Part.fresh ∈ ps) (a : Moves s t ps fs) :
    Moves s { t with fresh := x } ps fs :=
  Moves.part (t := t) .fresh h rfl rfl (fun q hq => by cases q <;> simp_all [Part.Same]) a
theorem Moves.tb {s t : State} {ps : List Part} {fs : List Fld} (x) (h : Part.tb ∈ ps) (a : Moves s t ps fs) :
    Moves s { t with tb := x } ps fs :=
  Moves.part (t := t) .tb h rfl rfl (fun q hq => by cases q <;> simp_all [Part.Same]) a
theorem Moves.eq {s t : State} {ps : List Part} {fs : List Fld} (x) (h : Part.eq ∈ ps) (a : Moves s t ps fs) :
    Moves s { t with eq := x } ps fs :=
  Moves.part (t := t) .eq h rfl rfl (fun q hq => by cases q <;> simp_all [Part.Same]) a
theorem Moves.hi {s t : State} {ps : List Part} {fs : List Fld} (x) (h : Part.hi ∈ ps) (a : Moves s t ps fs) :
    Moves s { t with hi := x } ps fs :=
  Moves.part (t := t) .hi h rfl rfl (fun q hq => by cases q <;> simp_all [Part.Same]) a
theorem Moves.sch {s t : State} {ps : List Part} {fs : List Fld} (x) (h : Part.sch ∈ ps) (a : Moves s t ps fs) :
    Moves s { t with sch := x } ps fs :=
  Moves.part (t := t) .sch h rfl rfl (fun q hq => by cases q <;> simp_all [Part.Same]) a
theorem Moves.al {s t : State} {ps : List Part} {fs : List Fld} (x) (h : Part.al ∈ ps) (a : Moves s t ps fs) :
    Moves s { t with al := x } ps fs :=
  Moves.part (t := t) .al h rfl rfl (fun q hq => by cases q <;> simp_all [Part.Same]) a
theorem Moves.progs {s t : State} {ps : List Part} {fs : List Fld} (x) (h : Part.progs ∈ ps) (a : Moves s t ps fs) :
    Moves s { t with progs := x } ps fs :=
  Moves.part (t := t) .progs h rfl rfl (fun q hq => by cases q <;> simp_all [Part.Same]) a
theorem Moves.loads {s t : State} {ps : List Part} {fs : List Fld} (x) (h : Part.loads ∈ ps) (a : Moves s t ps fs) :
    Moves s { t with loads := x } ps fs :=
  Moves.part (t := t) .loads h rfl rfl (fun q hq => by cases q <;> simp_all [Part.Same]) a
theorem Moves.sw {s t : State} {ps : List Part} {fs : List Fld} (x) (h : Part.sw ∈ ps) (a : Moves s t ps fs) :
    Moves s { t with sw := x } ps fs :=
  Moves.part (t := t) .sw h rfl rfl (fun q hq => by cases q <;> simp_all [Part.Same]) a
theorem Moves.sv {s t : State} {ps : List Part} {fs : List Fld} (x) (h : Part.sv ∈ ps) (a : Moves s t ps fs) :
    Moves s { t with sv := x } ps fs :=
  Moves.part (t := t) .sv h rfl rfl (fun q hq => by cases q <;> simp_all [Part.Same]) a
theorem Moves.sram {s t : State} {ps : List Part} {fs : List Fld} (x) (h : Part.sram ∈ ps) (a : Moves s t ps fs) :
    Moves s { t with sram := x } ps fs :=
  Moves.part (t := t) .sram h rfl rfl (fun q hq => by cases q <;> simp_all [Part.Same]) a
theorem Moves.dram {s t : State} {ps : List Part} {fs : List Fld} (x) (h : Part.dram ∈ ps) (a : Moves s t ps fs) :
    Moves s { t with dram := x } ps fs :=
  Moves.part (t := t) .dram h rfl rfl (fun q hq => by cases q <;> simp_all [Part.Same]) a
theorem Moves.cores {s t : State} {ps : List Part} {fs : List Fld} (x) (h : Part.cores ∈ ps) (a : Moves s t ps fs) :
    Moves s { t with cores := x } ps fs :=
  Moves.part (t := t) .cores h rfl rfl (fun q hq => by cases q <;> simp_all [Part.Same]) a
theorem Moves.fw0 {s t : State} {ps : List Part} {fs : List Fld} (x) (h : Part.fw0 ∈ ps) (a : Moves s t ps fs) :
    Moves s { t with fw0 := x } ps fs :=
  Moves.part (t := t) .fw0 h rfl rfl (fun q hq => by cases q <;> simp_all [Part.Same]) a
theorem Moves.life {s t : State} {ps : List Part} {fs : List Fld} (x) (h : Part.life ∈ ps) (a : Moves s t ps fs) :
    Moves s { t with life := x } ps fs :=
  Moves.part (t := t) .life h rfl rfl (fun q hq => by cases q <;> simp_all [Part.Same]) a
theorem Moves.boot {s t : State} {ps : List Part} {fs : List Fld} (x) (h : Part.boot ∈ ps) (a : Moves s t ps fs) :
    Moves s { t with boot := x } ps fs :=
  Moves.part (t := t) .boot h rfl rfl (fun q hq => by cases q <;> simp_all [Part.Same]) a
theorem Moves.upd {s t : State} {ps : List Part} {fs : List Fld} (x) (h : Part.upd ∈ ps) (a : Moves s t ps fs) :
    Moves s { t with upd := x } ps fs :=
  Moves.part (t := t) .upd h rfl rfl (fun q hq => by cases q <;> simp_all [Part.Same]) a
theorem Moves.ser {s t : State} {ps : List Part} {fs : List Fld} (x) (h : Part.ser ∈ ps) (a : Moves s t ps fs) :
    Moves s { t with ser := x } ps fs :=
  Moves.part (t := t) .ser h rfl rfl (fun q hq => by cases q <;> simp_all [Part.Same]) a
theorem Moves.mix {s t : State} {ps : List Part} {fs : List Fld} (x) (h : Part.mix ∈ ps) (a : Moves s t ps fs) :
    Moves s { t with mix := x } ps fs :=
  Moves.part (t := t) .mix h rfl rfl (fun q hq => by cases q <;> simp_all [Part.Same]) a
theorem Moves.ms {s t : State} {ps : List Part} {fs : List Fld} (x) (h : Part.ms ∈ ps) (a : Moves s t ps fs) :
    Moves s { t with ms := x } ps fs :=
  Moves.part (t := t) .ms h rfl rfl (fun q hq => by cases q <;> simp_all [Part.Same]) a
theorem Moves.ao {s t : State} {ps : List Part} {fs : List Fld} (x) (h : Part.ao ∈ ps) (a : Moves s t ps fs) :
    Moves s { t with ao := x } ps fs :=
  Moves.part (t := t) .ao h rfl rfl (fun q hq => by cases q <;> simp_all [Part.Same]) a
theorem Moves.st {s t : State} {ps : List Part} {fs : List Fld} (x) (h : Part.st ∈ ps) (a : Moves s t ps fs) :
    Moves s { t with st := x } ps fs :=
  Moves.part (t := t) .st h rfl rfl (fun q hq => by cases q <;> simp_all [Part.Same]) a
theorem Moves.pw {s t : State} {ps : List Part} {fs : List Fld} (x) (h : Part.pw ∈ ps) (a : Moves s t ps fs) :
    Moves s { t with pw := x } ps fs :=
  Moves.part (t := t) .pw h rfl rfl (fun q hq => by cases q <;> simp_all [Part.Same]) a

theorem Moves.ite {s t u : State} {ps : List Part} {fs : List Fld} {c : Prop} [Decidable c] (a : Moves s t ps fs) (b : Moves s u ps fs) :
    Moves s (if c then t else u) ps fs := by split <;> assumption

end Sys2Proof.Machine
end

