-- ==== Sys2Proof/Machine/Pads.lean ====
section
/-!
DEFINITION. What the module's digital output pads show of its state (R54, R394, R480, R507, R509, R519, R595). No command reads them;
they are what the board sees.
-/
namespace Sys2Proof.Machine

/-- What a digital pad shows. -/
inductive Pad where
  /-- Driven low. -/
  | low
  /-- Driven high. -/
  | high
  /-- High impedance, or an open drain that is released. -/
  | released
deriving DecidableEq, Repr

/-- A pad of domain `d` is off: the domain is unpowered, or a full reset is in progress (R595). -/
def State.padOff (s : State) (d : Nat) : Bool := !s.domOn d || s.pw.down != .no

/-- A pad that drives both levels. -/
def Pad.push (b : Bool) : Pad := if b then .high else .low
/-- An open-drain pad: low, or released. -/
def Pad.drain (low : Bool) : Pad := if low then .low else .released

/-- PG (R507, R595). (Log: 18 DESIGN CHOICE.) -/
def State.padPg (s : State) : Pad := if s.padOff 1 then .released else .push (s.on Reg.PWR_STAT_PG)
/-- FAULT_N: low while any of its five sticky flags is 1 (R509). (Log: 18 DESIGN CHOICE.) -/
def State.padFaultN (s : State) : Pad :=
  if s.padOff 1 then .released
  else .drain (s.on Reg.PWR_FLAGS_VIN_LOW || s.on Reg.PWR_FLAGS_VIN_HIGH || s.on Reg.PWR_FLAGS_RAIL_FAULT || s.on Reg.PWR_FLAGS_VAUX_OC
    || s.on Reg.PWR_FLAGS_THERM_WARN)
/-- THERM_N (R509). (Log: 18 DESIGN CHOICE.) -/
def State.padThermN (s : State) : Pad := if s.padOff 1 then .released else .drain (s.on Reg.PWR_STAT_THERM)
/-- Fn_LED: low while port `p` is UP (R595). (Log: 18 DESIGN CHOICE.) -/
def State.padLed (s : State) (p : Nat) : Pad := if s.padOff (4 + p) then .released else .drain (s.isUp p)
/-- BYPASS_EN (R394, R519). (Log: 18 DESIGN CHOICE.) -/
def State.padBypass (s : State) : Pad := if s.padOff 3 then .released else .push s.sw.bypass
/-- Un_DE: low through its pull-down while off (R595). (Log: 18 DESIGN CHOICE.) -/
def State.padDe (s : State) (u : Nat) : Pad := if s.padOff 16 then .low else .push (s.on (Reg.UART_STAT_DE u))
/-- GPIO `i`: a compare channel's latch where GPIO_FUNC gives it the pin, GPIO_OUT where DIR is 1, else not driven (R54, R480).
(Log: 18 DESIGN CHOICE.) -/
def State.padGpio (s : State) (i : Nat) : Pad :=
  if s.padOff 16 then .released
  else if 16 ≤ i ∧ bit (s.get Reg.GPIO_FUNC) (i - 16) then .push (s.on (Reg.TB_CMP_STAT_PIN (i - 16)))
  else if bit (s.get Reg.GPIO_DIR) i then .push (bit (s.get Reg.GPIO_OUT) i)
  else .released

end Sys2Proof.Machine
end

