-- ==== Sys2Proof/Tests/Slice0.lean ====
section
/-!
SUPPORT. Tests: commands no sender can form, states that meet the hypotheses of the statements, and single steps with results
from the spec's text.
-/
namespace Sys2Proof.Tests
open Sys2Proof.Machine

-- One theorem after another: each takes much memory while it is checked.
set_option Elab.async false

/-! ### States -/

/-- The state after reset with these register fields. -/
def wit (l : List (Fld × Nat)) : State := l.foldl (fun s p => s.put p.1 p.2) State.reset
/-- Core `c` runs the word `w` next, with these changes to the core and these register fields. -/
def witK (c w : Nat) (f : Core → Core) (l : List (Fld × Nat)) : State :=
  let s := wit ((Reg.CH_STAT_STATE c, 1) :: l)
  s.setCore c (f { s.core c with imem := Memory.setNat [] 0 4 w })

/-- Gi of the current bank set. -/
def setG (k : Core) (i : Nat) (v : BitVec 32) : Core := k.modBank k.bank (fun b => { b with g := b.g.set i v })
/-- Ai of the current bank set. -/
def setA (k : Core) (i : Nat) (v : BitVec 32) : Core := k.modBank k.bank (fun b => { b with a := b.a.set i v })

/-- The invariant as a check. -/
def invB (s : State) : Bool :=
  s.sram.wf && s.dram.wf && decide (s.cores.length = 20)
  && s.cores.all (fun k => decide (k.banks.length = 4) && decide (k.bank < 4) && decide (k.wmap.length = 8)
      && k.banks.all (fun b => decide (b.g.length = 32) && decide (b.a.length = 8) && decide (b.acc.length = 8) && decide (b.bs.length = 7)))
  && decide (s.eq.length = 8) && decide (s.sw.ports.length = 4) && decide (s.al.groups.length = 64) && decide (s.ms.dma.length = 20)
  && decide (s.ser.uarts.length = 4) && decide (s.mix.buses.length = 32) && decide (s.ao.chans.length = 16)
  && decide (s.ao.refEp.length = 8) && decide (s.tb.trig.length = 8)

theorem inv_of {s : State} (h : invB s = true) : s.Inv := by
  simp only [invB, Bool.and_eq_true, decide_eq_true_eq, List.all_eq_true] at h
  obtain ⟨⟨⟨⟨⟨⟨⟨⟨⟨⟨⟨⟨h1, h2⟩, h3⟩, h4⟩, h5⟩, h6⟩, h7⟩, h8⟩, h9⟩, h10⟩, h11⟩, h12⟩, h13⟩ := h
  refine ⟨⟨h1, h2⟩, ⟨h3, fun k hk => ?_, h5, h6, h7, h8, h9, h10, h11, h12, h13⟩⟩
  obtain ⟨⟨⟨a, b⟩, c⟩, d⟩ := h4 k hk
  exact ⟨a, fun x hx => by obtain ⟨⟨⟨p, q⟩, r⟩, t⟩ := d x hx; exact ⟨p, q, r, t⟩, b, c⟩

theorem inv_all {l : List State} (h : l.all invB = true) : ∀ s ∈ l, s.Inv := fun s hs => inv_of (List.all_eq_true.1 h s hs)

/-- `CoreClean` as a check. -/
def cleanB (s : State) (c w : Nat) : Bool :=
  decide (s.chState c = 1) && s.coreClock && decide (s.get (Reg.CH_CTRL_HALT c) = 0)
  && !(s.core c).imemBad.contains ((s.core c).pc / 4) && !s.breaksAt c && decide ((s.core c).imem.nat (s.core c).pc 4 = w)
  && !(s.core c).imemSoft.contains ((s.core c).pc / 4)

theorem clean_of {s : State} {c w : Nat} (h : cleanB s c w = true) : s.CoreClean c w := by
  simp only [cleanB, Bool.and_eq_true, decide_eq_true_eq, Bool.not_eq_true'] at h
  obtain ⟨⟨⟨⟨⟨⟨a, b⟩, c⟩, d⟩, e⟩, f⟩, g⟩ := h
  exact ⟨⟨a, b, c, d, e, f⟩, g⟩

/-- The state after reset meets the invariant of every step. -/
theorem reset_inv : State.reset.Inv := inv_of (by decide)

/-- Words of the last core at the ends of their fields: one for each clause of the statements of words that only compute. -/
def plainWords : List Nat :=
  (List.range 20).map (wA 0x01 31 31 31) ++ [wI 0x02 31 31 65535, wI 0x03 31 31 65535, wI 0x04 31 31 65535, wI 0x05 31 31 65535,
    wI 0x06 31 31 65535, wI 0x07 31 31 65535, wI 0x16 31 0 65535, 2 ^ 26 - 1]
  ++ ((List.range 19).map (wA 0x18 31 31 31) ++ (List.range 6).map (fun n => wA 0x18 31 31 31 (32 + n)))
  ++ [wF 0x19 31 31 31 31 0, wF 0x1A 31 31 31 31 0] ++ (List.range 9).map (fun f => wX 0x20 3 30 30 f 0)
  ++ [wV 0x21 31 3 1 15 0, wV 0x22 30 3 0 15 0]

theorem test_plain_words_issue : ∀ w ∈ plainWords, (witK 19 w id []).Inv ∧ (witK 19 w id []).CoreClean 19 w := by
  have h : plainWords.all (fun w => invB (witK 19 w id []) && cleanB (witK 19 w id []) 19 w) = true := by decide
  intro w hw
  have := List.all_eq_true.1 h w hw
  rw [Bool.and_eq_true] at this
  exact ⟨inv_of this.1, clean_of this.2⟩


/-! ### Loads, stores and taps -/

/-- A6 and A7 a few elements up in DMEM; slot 7 names window 63, in shared SRAM (`sp` 0) or DRAM. -/
def witM (sp w : Nat) : State :=
  witK 19 w (fun k => { setA (setA k 7 32768) 6 32 with wmap := k.wmap.set 7 0x8000003F })
    [(Reg.MEM_WIN_CTRL_EN 63, 1), (Reg.MEM_WIN_CTRL_SPACE 63, sp), (Reg.MEM_WIN_LEN 63, 4), (Reg.MEM_WIN_BASE 63, 0x20000)]

/-- The word issues, its address stands, and its access succeeds. -/
def accessB (sp op g mode circ imm z : Nat) : Bool :=
  let w := wM op g 7 mode circ 7 imm
  let s := witM sp w
  invB s && cleanB s 19 w && match s.ea 19 7 mode (circ == 1) 7 (BitVec.ofNat 12 imm) z with
    | .ok e => (match s.loadEa 19 e.pieces with | .ok _ _ => true | _ => false)
        && (match s.storeEa 19 e.pieces 5 with | .ok _ _ => true | _ => false)
    | _ => false

theorem access_of {sp op g mode circ imm z : Nat} (h : accessB sp op g mode circ imm z = true) :
    let w := wM op g 7 mode circ 7 imm
    (witM sp w).Inv ∧ (witM sp w).CoreClean 19 w ∧ ∃ e u v u' v', (witM sp w).ea 19 7 mode (circ == 1) 7 (BitVec.ofNat 12 imm) z = .ok e
      ∧ (witM sp w).loadEa 19 e.pieces = .ok u v ∧ (witM sp w).storeEa 19 e.pieces 5 = .ok u' v' := by
  intro w
  simp only [accessB, Bool.and_eq_true] at h
  obtain ⟨⟨h1, h2⟩, h3⟩ := h
  refine ⟨inv_of h1, clean_of h2, ?_⟩
  revert h3
  cases hE : (witM sp w).ea 19 7 mode (circ == 1) 7 (BitVec.ofNat 12 imm) z with
  | error k => simp [w] at hE; simp
  | ok e =>
    simp only [w] at hE; simp only [Bool.and_eq_true]
    rintro ⟨h4, h5⟩
    revert h4 h5
    cases hL : (witM sp w).loadEa 19 e.pieces with
    | fault k u => simp [w] at hL; simp
    | ok u v =>
      cases hS : (witM sp w).storeEa 19 e.pieces 5 with
      | fault k u => simp [w] at hS; simp
      | ok u' v' => exact fun _ _ => ⟨e, u, v, u', v', rfl, by simpa [w] using hL, by simpa [w] using hS⟩

/-- Loads and stores in every mode, linear and through a window, of a word and of a pair. -/
theorem test_access : ∀ op ∈ [0x10, 0x11, 0x12, 0x13, 0x14, 0x15], ∀ mode ∈ [0, 1, 2, 3], ∀ circ ∈ [0, 1],
    accessB (if op = 0x12 ∨ op = 0x13 then 1 else 0) op 30 mode circ 4094 (if op = 0x12 ∨ op = 0x13 then 8 else 4) = true := by decide

/-- Both elements of a tap stand and load, and the older place can be stored to. -/
def tapB (op z : Nat) : Bool :=
  let w := wT op 3 7 6 1 0
  let s := witM 0 w
  let k := s.core 19
  invB s && cleanB s 19 w && (k.a 7).toNat % z == 0 && (k.a 6).toNat % z == 0 && k.place (k.a 7).toNat z == some (0, 32768)
  && k.place (k.a 6).toNat z == some (0, 32) && k.place (k.a 7 + BitVec.ofNat 32 z).toNat z == some (0, 32768 + z)
  && s.storeFault 19 0 (32768 + z) z == none
  && (match s.loadAt 19 0 32768 z with | .ok u _ => (match u.loadAt 19 0 32 z with | .ok _ _ => true | _ => false) | _ => false)
theorem test_tap_stands : tapB 0x24 4 = true ∧ tapB 0x25 8 = true := by decide

/-- Addresses that fault: a misaligned one and one outside the data space, a window slot that is off, a window descriptor that is off. -/
theorem test_address_faults :
    let s := witK 0 0 (fun k => { setA (setA k 0 2) 1 0xFFFFFFF8 with wmap := k.wmap.set 0 0x80000000 }) []
    ((s.core 0).a 0).toNat % 4 ≠ 0 ∧ ((s.core 0).a 1).toNat % 8 = 0 ∧ (s.core 0).place ((s.core 0).a 1).toNat 8 = none
    ∧ bit ((s.core 0).wmap.getD 7 0) 31 = false ∧ bit ((s.core 0).wmap.getD 0 0) 31 = true ∧ s.win 0 0 = 0
    ∧ (s.core 0).place 0x27FFFF8 8 = some (1, 0x17FFFF8) ∧ (s.core 0).place 0x7FFFFFF8 8 = some (2, 0x3FFFFFF8)
    ∧ (s.core 0).place 0x1FFF8 8 = some (0, 0x1FFF8) := by decide

/-- A full store buffer, a spoilt word of DMEM, and addresses a core may not store to. -/
theorem test_data_access_hyps :
    let s := witK 0 0 (fun k => { k with stores := List.replicate 4 (2, 0, [1]), dmemBad := [0] }) []
    s.Inv ∧ (s.core 0).stores = (2, 0, [1]) :: List.replicate 3 (2, 0, [1]) ∧ (s.core 0).dmemBad.contains (7 / 8) = true
    ∧ (s.core 0).dmemBad.contains (8 / 8) = false ∧ (s.core 0).dmemSoft.contains 1 = false ∧ (State.reset.core 19).stores.length < 4
    ∧ s.storeFault 0 1 (dmaBase + 32) 4 = some 2 ∧ s.storeFault 0 1 dmaBase 4 = none ∧ s.storeFault 0 1 0x177FFFC 4 = some 2 :=
  ⟨inv_of (by decide), by decide⟩

/-! ### Branches, loops, banks, system registers -/

/-- Each word in its place: `s` holds it for core 19, with the invariant. -/
def Issues (s : State) (w : Nat) : Prop := s.Inv ∧ s.CoreClean 19 w
theorem issues_of {s : State} {w : Nat} (h : (invB s && cleanB s 19 w) = true) : Issues s w := by
  rw [Bool.and_eq_true] at h; exact ⟨inv_of h.1, clean_of h.2⟩

/-- A branch outside a delay slot, in one, and at the end of a loop body; a target that is no multiple of 4. -/
theorem test_branch_hyps :
    let w := wB 0x30 6 0 31 0x8000
    let s := witK 19 w id []
    let r := witK 19 w (fun k => { k with slot := some (0, none) }) []
    let j := witK 19 (wA 0x31 0 31 0 0) (fun k => setG k 31 0xFFFC) []
    let j' := witK 19 (wA 0x31 0 31 0 0) (fun k => setG k 31 2) []
    let e := witK 19 (wB 0x32 0 0 31 0x7FFF) (fun k => ((k.setBs 1 1).setBs 2 0).setBs 3 0) []
    Issues s w ∧ (s.core 19).badPlace = false ∧ CondTaken 6 ((s.core 19).g 31).toInt ∧ ¬CondTaken 2 ((s.core 19).g 31).toInt
    ∧ Issues r w ∧ (r.core 19).badPlace = true ∧ Issues j (wA 0x31 0 31 0 0) ∧ ((j.core 19).g 31).toNat % 4 = 0
    ∧ Issues j' (wA 0x31 0 31 0 0) ∧ (j'.core 19).badPlace = false ∧ ((j'.core 19).g 31).toNat % 4 ≠ 0
    ∧ Issues e (wB 0x32 0 0 31 0x7FFF) ∧ (e.core 19).badPlace = true :=
  ⟨issues_of (by decide), by decide, by unfold CondTaken; decide, by unfold CondTaken; decide, issues_of (by decide), by decide, issues_of (by decide), by decide,
    issues_of (by decide), by decide, by decide, issues_of (by decide), by decide⟩

/-- Loops that may start, at both levels, with counts 1 and 0; and one inside an active loop of its level. -/
theorem test_loop_hyps :
    let w := wL 0x33 1 1023 0 16383
    let s := witK 19 w (fun k => ((k.setBs 1 1).setBs 2 0).setBs 3 0xFFFC) []
    let z := witK 19 (wL 0x33 0 0 1 31) id []
    Issues s w ∧ (s.core 19).badPlace = false ∧ (s.core 19).loopOn 1 = false ∧ (s.core 19).loopOn 0 = true
    ∧ (s.core 19).ls 0 ≤ (s.core 19).pc ∧ (s.core 19).pc + 4 * 1024 ≤ (s.core 19).le 0
    ∧ Issues z (wL 0x33 0 0 1 31) ∧ ((z.core 19).g 31).toNat = 0 ∧ (z.core 19).badPlace = false ∧ (z.core 19).loopOn 0 = false
    ∧ Issues (witK 19 (wL 0x33 0 0 1 31) (fun k => k.setBs 1 1) []) (wL 0x33 0 0 1 31) :=
  ⟨issues_of (by decide), by decide, by decide, by decide, by decide, by decide, issues_of (by decide), by decide, by decide, by decide, issues_of (by decide)⟩

/-- The states after which the next instruction is told: no loop, the end of each body with passes left, its last pass, delay slots. -/
theorem test_next_hyps :
    let s0 := witK 19 0 id []
    let s1 := witK 19 0 (fun k => (k.setBs 4 2).setBs 6 0) []
    let s2 := witK 19 0 (fun k => (k.setBs 1 2).setBs 3 0) []
    let s3 := witK 19 0 (fun k => (k.setBs 1 1).setBs 3 0) []
    let s4 := witK 19 0 (fun k => { k with slot := some (0xFFFC, some 8) }) []
    let s5 := witK 19 0 (fun k => { k with slot := some (0xFFFC, none), reti := true, epc := 12, ebank := 2 }) []
    (∀ s ∈ [s0, s1, s2, s3, s4, s5], Issues s 0) ∧ (s0.core 19).slot = none ∧ (s0.core 19).loopOn 0 = false ∧ (s0.core 19).loopOn 1 = false
    ∧ (s1.core 19).loopOn 1 = true ∧ (s1.core 19).le 1 = (s1.core 19).pc ∧ 1 < (s1.core 19).bs 4
    ∧ (s2.core 19).loopOn 1 = false ∧ (s2.core 19).loopOn 0 = true ∧ (s2.core 19).le 0 = (s2.core 19).pc ∧ 1 < (s2.core 19).bs 1
    ∧ (s3.core 19).bs 1 = 1 ∧ (s4.core 19).reti = false :=
  ⟨by
    have h : [witK 19 0 id [], witK 19 0 (fun k => (k.setBs 4 2).setBs 6 0) [], witK 19 0 (fun k => (k.setBs 1 2).setBs 3 0) [],
        witK 19 0 (fun k => (k.setBs 1 1).setBs 3 0) [], witK 19 0 (fun k => { k with slot := some (0xFFFC, some 8) }) [],
        witK 19 0 (fun k => { k with slot := some (0xFFFC, none), reti := true, epc := 12, ebank := 2 }) []].all
        (fun s => invB s && cleanB s 19 0) = true := by decide
    exact fun s hs => issues_of (List.all_eq_true.1 h s hs), by decide⟩

/-- SWB, SETM, MVS, MVT, RETI, WAIT, SIGNAL, BDONE and BRK issue; in B3, and in a delay slot. -/
theorem test_system_words_issue :
    (∀ w ∈ [wS 0x34 0 0 2 0 0, wS 0x34 0 0 63 0 0, wS 0x3A 0 0 1 0 0, wS 0x35 31 31 0x21 31 31, wS 0x36 31 0 0x20 0 0, wS 0x39 0 0 0 0 19,
      wS 0x39 0 0 0 0 31, wS 0x36 0 0 0x21 0 0, 0x37 * 2 ^ 26 + (2 ^ 26 - 1), 0x38 * 2 ^ 26, 0x3E * 2 ^ 26],
      Issues (witK 19 w id []) w ∧ Issues (witK 19 w (fun k => { k with bank := 3, slot := some (0, none) }) []) w)
    ∧ ((witK 19 0 id []).core 19).bank ≠ 3 ∧ ((witK 19 0 id []).core 19).reti = false ∧ ((witK 19 0 id []).core 19).badPlace = false
    ∧ ((witK 19 0 id []).core 19).owed = false ∧ (witK 19 0 id []).chState 19 = 1 ∧ (witK 19 0 id [(Reg.CH_STAT_STATE 0, 5)]).chState 0 = 5 :=
  ⟨by
    have h : [wS 0x34 0 0 2 0 0, wS 0x34 0 0 63 0 0, wS 0x3A 0 0 1 0 0, wS 0x35 31 31 0x21 31 31, wS 0x36 31 0 0x20 0 0, wS 0x39 0 0 0 0 19,
      wS 0x39 0 0 0 0 31, wS 0x36 0 0 0x21 0 0, 0x37 * 2 ^ 26 + (2 ^ 26 - 1), 0x38 * 2 ^ 26, 0x3E * 2 ^ 26].all
      (fun w => (invB (witK 19 w id []) && cleanB (witK 19 w id []) 19 w)
        && (invB (witK 19 w (fun k => { k with bank := 3, slot := some (0, none) }) [])
          && cleanB (witK 19 w (fun k => { k with bank := 3, slot := some (0, none) }) []) 19 w)) = true := by decide
    intro w hw
    have := List.all_eq_true.1 h w hw
    rw [Bool.and_eq_true] at this
    exact ⟨issues_of this.1, issues_of this.2⟩, by decide⟩

/-- A block that renders. -/
def blk : Block :=
  { j := 5, start := 0, level := 0, waiting := [], waitE := [], wrote := [], lastBdone := 0, mixFrom := 0, mixOn := false, mixEnd := 0,
    complete := none, late := false }

/-- BDONE owed by a core of cluster E and by a voice core, with a block rendering and without; a line that ends a WAIT at once. -/
theorem test_bdone_hyps :
    let w := wS 0x36 0 0 0x21 0 0
    let s := witK 19 w (fun k => { k with owed := true }) []
    let v := witK 15 w (fun k => { k with owed := true }) []
    let b : Block := { blk with waiting := [15], waitE := [19] }
    let at_ (s : State) : State := { s with sch := { s.sch with cur := some b } }
    s.Inv ∧ s.CoreClean 19 w ∧ (at_ s).Inv ∧ (at_ s).CoreClean 19 w ∧ (at_ v).Inv ∧ (at_ v).CoreClean 15 w
    ∧ (s.core 19).owed = true ∧ s.sch.cur = none ∧ (at_ s).sch.cur = some b
    ∧ ((at_ v).core 15).owed = true ∧ b.waiting.contains 15 = true ∧ ((witK 19 0 (fun k => { k with ip := 1, ie := 1 }) []).core 19).lines ≠ 0 :=
  ⟨inv_of (by decide), clean_of (by decide), inv_of (by decide), clean_of (by decide), inv_of (by decide), clean_of (by decide), by decide⟩

/-- Faults outside the handler and inside it, with debug open and shut. -/
theorem test_fault_hyps :
    let s := witK 15 0 id [(Reg.CH_CTRL_BRK_EN 15, 1)]
    let d := witK 15 0 (fun k => { k with bank := 3 }) [(Reg.CH_CTRL_FAULT_ACT 15, 1)]
    let r := witK 15 0 (fun k => { k with bank := 3 }) [(Reg.LC_STAT_STATE, 2), (Reg.AL_SCH_STAT_STATE, 2)]
    s.Inv ∧ d.Inv ∧ r.Inv ∧ (s.core 15).bank ≠ 3 ∧ s.debugOpen = true ∧ s.get (Reg.CH_CTRL_BRK_EN 15) = 1
    ∧ (d.core 15).bank = 3 ∧ d.debugOpen = true ∧ d.get (Reg.CH_CTRL_FAULT_ACT 15) = 1 ∧ d.upd = none
    ∧ r.debugOpen = false ∧ 2 ≤ r.schState ∧ r.upd = none :=
  ⟨inv_of (by decide), inv_of (by decide), inv_of (by decide), by decide⟩

/-- A line that can be accepted, one that cannot, a wait with and without a line, and a timer. -/
theorem test_interrupt_hyps :
    let s := witK 19 0 (fun k => { k with ip := 0x80, ie := 0x80000080 }) []
    let n := witK 19 0 (fun k => { k with ip := 0x80, ie := 0x80 }) []
    let a := witK 19 0 id [(Reg.CH_STAT_STATE 19, 2)]
    let b := witK 19 0 (fun k => { k with ip := 1, ie := 1, tmr := 1 }) [(Reg.CH_STAT_STATE 19, 2)]
    (∀ x ∈ [s, n, a, b], x.Inv) ∧ s.coreClock = true ∧ a.coreClock = true ∧ bit (s.core 19).ip 7 = true ∧ bit (s.core 19).ie 7 = true
    ∧ (∀ j, j < 7 → ¬(bit (s.core 19).ip j = true ∧ bit (s.core 19).ie j = true)) ∧ s.chState 19 = 1 ∧ bit (s.core 19).ie 31 = true
    ∧ (s.core 19).bank ≠ 3 ∧ (s.core 19).slot = none ∧ (s.core 19).resumed = false
    ∧ n.chState 19 = 1 ∧ bit (n.core 19).ie 31 = false
    ∧ a.chState 19 = 2 ∧ b.chState 19 = 2 ∧ (a.core 19).lines = 0 ∧ (b.core 19).lines ≠ 0 ∧ bit (b.core 19).ie 31 = false ∧ (b.core 19).tmr ≠ 0 :=
  ⟨inv_all (by decide), by decide⟩

/-- G1 and G2 of the current bank. -/
def g12 (x y : BitVec 32) (k : Core) : Core := setG (setG k 1 x) 2 y
/-- Debug access: shut, open on a running core, open on a halted one with each space at the end of its range. -/
theorem test_debug_hyps :
    let s := witK 19 0 id [(Reg.LC_STAT_STATE, 2)]
    let r := witK 19 0 id []
    let h := witK 19 0 id [(Reg.CH_STAT_STATE 19, 3), (Reg.CH_DBG_ADDR_SPACE 19, 2), (Reg.CH_DBG_ADDR_OFFSET 19, 31), (Reg.CH_DBG_ADDR_BANK 19, 3)]
    let d := witK 19 0 id [(Reg.CH_STAT_STATE 19, 4), (Reg.CH_DBG_ADDR_SPACE 19, 1), (Reg.CH_DBG_ADDR_OFFSET 19, 0x1FFFF)]
    let s1 := ((h.put (Reg.CH_STAT_STATE 19) 1).put (Reg.CH_CTRL_HALT 19) 0).setCore 19 { h.core 19 with passed := some (h.core 19).pc }
    let a := witK 19 (wA 0x01 3 1 2 0) (g12 1 2) [(Reg.CH_STAT_STATE 19, 3)]
    let k := a.core 19
    (∀ x ∈ [s, r, h, d, a], x.Inv) ∧ s.st.cur = none ∧ s.debugOpen = false ∧ s.get (Reg.CH_CTRL_HALT 19) = 0
    ∧ r.debugOpen = true ∧ bit 0 1 = false ∧ r.chState 19 = 1 ∧ (r.core 19).slot = none ∧ (r.core 19).land = []
    ∧ h.chState 19 = 3 ∧ h.get (Reg.CH_DBG_ADDR_SPACE 19) = 2 ∧ h.get (Reg.CH_DBG_ADDR_OFFSET 19) < 32
    ∧ (s1.stepWord 19).renders 19 = true ∧ ((s1.stepWord 19).core 19).slot = none
    ∧ d.chState 19 = 4 ∧ d.get (Reg.CH_DBG_ADDR_SPACE 19) = 1 ∧ d.get (Reg.CH_DBG_ADDR_OFFSET 19) < 0x20000
    ∧ a.debugOpen = true ∧ a.chState 19 = 3 ∧ k.slot = none ∧ k.land = [] ∧ k.loopOn 0 = false ∧ k.loopOn 1 = false
    ∧ k.imemBad.contains (k.pc / 4) = false ∧ k.imemSoft.contains (k.pc / 4) = false ∧ k.imem.nat k.pc 4 = wA 0x01 3 1 2 0x000 :=
  ⟨inv_all (by decide), by decide⟩

/-! ### Single instructions, with results from the tables of R258 to R261 -/

/-- The state a command leaves. -/
def nxt (o : Host.Outcome State Fault Refusal) : State := match o with | .next t => t | _ => State.reset
/-- G3 of core 19 after it issues the word `w` with G1 and G2 given. -/
def g3 (w : Nat) (i : Instr) (x y : BitVec 32) : BitVec 72 := ((nxt (exec i (witK 19 w (g12 x y) []))).core 19).reg 0 3
/-- A step of a halted core: ADD's result stands in its register, and the core is halted again past it. -/
theorem test_step_add :
    let t := nxt (exec (.coreStep 19 0) (witK 19 (wA 0x01 3 1 2 0) (g12 0xFFFFFFFF 2) [(Reg.CH_STAT_STATE 19, 3)]))
    (t.core 19).reg 0 3 = 1 ∧ (t.core 19).pc = 4 ∧ t.chState 19 = 3 ∧ (t.core 19).cyc = 1 ∧ (t.core 19).land = [] := by decide
/-- A result of core 19 in flight after that, and the flags of BS. -/
def flight (w : Nat) (i : Instr) (x y : BitVec 32) : List Land × Nat :=
  let k := (nxt (exec i (witK 19 w (g12 x y) []))).core 19
  (k.land, k.bs 0)

theorem test_add_wraps : g3 (wA 0x01 3 1 2 0) (.add 19 3 1 2) 0xFFFFFFFF 2 = 1 := by decide
theorem test_sub_wraps : g3 (wA 0x01 3 1 2 1) (.sub 19 3 1 2) 1 2 = 0xFFFFFFFF := by decide
theorem test_sar_sign : g3 (wA 0x01 3 1 2 7) (.sar 19 3 1 2) 0x80000000 63 = 0xFFFFFFFF := by decide
theorem test_shr_zero : g3 (wA 0x01 3 1 2 6) (.shr 19 3 1 2) 0x80000000 63 = 1 := by decide
theorem test_slt_signed : g3 (wA 0x01 3 1 2 0xD) (.slt 19 3 1 2) 0xFFFFFFFF 1 = 1 := by decide
theorem test_sltu_unsigned : g3 (wA 0x01 3 1 2 0xE) (.sltu 19 3 1 2) 0xFFFFFFFF 1 = 0 := by decide
theorem test_clz_zero : g3 (wA 0x01 3 1 2 0x13) (.clz 19 3 1 2) 0 0 = 32 := by decide
theorem test_mul_flies : flight (wA 0x01 3 1 2 0x10) (.mul 19 3 1 2) 0xFFFFFFFF 3 = ([⟨2, 0, 3, 0xFFFFFFFD⟩], 0) := by decide
theorem test_movih_keeps_low : g3 (wI 0x07 3 0 0x1234) (.movih 19 3 0 0x1234) 0 0 = 0x12340000 := by decide
theorem test_addi_sign : g3 (wI 0x02 3 1 0xFFFF) (.addi 19 3 1 0xFFFF) 0 0 = 0xFFFFFFFF := by decide
theorem test_fadd : flight (wA 0x18 3 1 2 0) (.fadd 19 3 1 2) 0x3F800000 0x40000000 = ([⟨2, 0, 3, 0x40400000⟩], 0) := by decide
theorem test_fmul_nan_invalid : flight (wA 0x18 3 1 2 2) (.fmul 19 3 1 2) 0 0x7F800000 = ([⟨2, 0, 3, 0x7FC00000⟩], 2) := by decide
theorem test_qadd_saturates : g3 (wA 0x18 3 1 2 0x10) (.qadd 19 3 1 2) 0x7FFFFFFF 1 = 0x7FFFFFFF := by decide
theorem test_qmul_saturates : flight (wA 0x18 3 1 2 0x12) (.qmul 19 3 1 2) 0x80000000 0x80000000 = ([⟨2, 0, 3, 0x7FFFFFFF⟩], 16) := by decide
theorem test_qsub_flag : (flight (wA 0x18 3 1 2 0x11) (.qsub 19 3 1 2) 0x80000000 1).2 = 16 := by decide
/-- R263: a window in shared SRAM is read there, and its offset wraps at LEN. -/
theorem test_window_reads_sram :
    let s := witM 0 (wM 0x10 3 7 0 1 7 1)
    let s := { s with sram := s.sram.setNat 0x80004 4 0xABCD }
    (match s.ea 19 7 0 true 7 1 4 with | .ok e => (e.pieces, e.back) | _ => ([], none)) = ([(1, 0x80004, 4)], none)
    ∧ ((match s.loadEa 19 [(1, 0x80004, 4)] with | .ok _ v => v | _ => 0) = 0xABCD) := by decide
/-- R263: a word of a DRAM window is stored to DRAM. -/
theorem test_window_stores_dram :
    let s := witM 1 (wM 0x11 3 7 0 1 7 1)
    (match s.ea 19 7 0 true 7 1 4 with | .ok e => e.pieces | _ => []) = [(2, 0x80004, 4)] := by decide

/-! ### The time base -/

/-- READY, every domain powered, no boot due, with these register fields. -/
def up (l : List (Fld × Nat)) : State :=
  { wit ((Reg.ID_BOOT_STAT_READY, 1) :: (Reg.PWR_DOM_STAT, 0x1FFFF) :: l) with pw := { Power.zero with booting := false } }
/-- A word for TB_CTRL with MANUAL and BW as they stand. -/
def ctrlWord (s : State) (fs ref req : Nat) : BitVec 32 :=
  BitVec.ofNat 32 (ref + 4 * s.get Reg.TB_CTRL_MANUAL + 8 * s.get Reg.TB_CTRL_BW + 32 * req + 256 * fs)

theorem test_register_access_hyps :
    let s := up [(Reg.TB_CMP_CFG_LINK 6, 1)]
    s.linkOpen = true ∧ s.domOn 3 = true ∧ s.domOn 13 = true ∧ s.get Reg.ID_BOOT_STAT_READY = 1
    ∧ s.get (Reg.TB_CMP_CFG_LINK (2 * 3)) = 1 ∧ s.get (Reg.TB_CMP_CFG_LINK (2 * 0)) = 0 ∧ (Pair.frame ≠ .now) := by decide +kernel

theorem test_time_steering_hyps :
    let s := up [(Reg.TB_SET_LO, 1)]
    let m := { up [(Reg.TB_SET_LO, 1), (Reg.FP_STAT_LSTATE 3, 5), (Reg.AL_SCH_STAT_STATE, 1), (Reg.TB_STAT_ROOT, 0)] with tb := { TimeBase.zero with step := some (1, 1) } }
    let r := up [(Reg.TB_SET_LO, 1), (Reg.FP_STAT_LSTATE 3, 5), (Reg.TB_STAT_ROOT, 1)]
    let h := up [(Reg.TB_STAT_SERVO, 4), (Reg.TB_CTRL_MANUAL, 1), (Reg.TB_STAT_AUDIO_LOCK, 1)]
    s.tb.now < (s.get Reg.TB_SET_LO + 2 ^ 32 * 0) * 2 ^ 32 ∧ s.anyPortUp = false ∧ s.tb.step = none
    ∧ ¬(m.get Reg.TB_STAT_ROOT = 1 ∨ m.anyPortUp = false) ∧ m.tb.step.isSome = true ∧ r.get Reg.TB_STAT_ROOT = 1 ∧ r.anyPortUp = true
    ∧ 5 ≠ s.fs ∧ s.schState = 0 ∧ m.schState ≠ 0
    ∧ (∀ ref ∈ [0, 1, 2, 3], s.CtrlKept (ctrlWord s 5 ref 0) 5 ref 0) ∧ s.CtrlKept (ctrlWord s s.fs 0 1) s.fs (s.get Reg.TB_CTRL_REF) 1
    ∧ m.CtrlKept (ctrlWord m m.fs 2 0) m.fs 2 0 ∧ m.get Reg.TB_CTRL_REF ≠ 2 ∧ m.get Reg.TB_STAT_ROOT = 0 ∧ s.get Reg.TB_CTRL_MANUAL = 0
    ∧ s.servo ≠ 5 ∧ h.get Reg.TB_CTRL_MANUAL = 1 ∧ h.servo = 4 ∧ h.servo ≠ 2 ∧ h.get Reg.TB_STAT_AUDIO_LOCK = 1
    ∧ s.get Reg.TB_STAT_AUDIO_LOCK = 0 ∧ s.servo ≠ 4 ∧ (0x80000000 : BitVec 32).toInt < -3435974 := by
  unfold State.CtrlKept; decide +kernel

theorem test_capture_hyps :
    let s := up [(Reg.TB_WCAP_CFG_EDGE 1, 2), (Reg.TB_TRIG_CFG_EDGE 7, 1)]
    let v := { up [(Reg.TB_WCAP_STAT_VALID 1, 1), (Reg.TB_WCAP_STAT_PRESENT 1, 1), (Reg.TB_CTRL_REF, 2), (Reg.TB_STAT_SERVO, 2)] with
      tb := { TimeBase.zero with trig := TimeBase.zero.trig.set 7 [1, 2, 3, 4, 5, 6, 7, 8], real := 83334 * 2 ^ 32 } }
    let e : PinEdge := ⟨true, 0xFFFFFFFFFFFFFFFF, 0⟩
    let p := { up [(Reg.TB_CTRL_REF, 2), (Reg.TB_STAT_SERVO, 3)] with tb := { TimeBase.zero with wclkRun := [(1, 64)] } }
    (∀ x ∈ [s, v, p], x.Inv) ∧ s.capOn = true ∧ (up [(Reg.PWR_DOM_STAT, 0xFFFF)]).capOn = false ∧ s.servo ≠ 4 ∧ s.get Reg.TB_CTRL_REF ≠ 1 + 1 ∧ s.get (Reg.TB_WCAP_CFG_EVT_EN 1) = 0
    ∧ s.get (Reg.TB_WCAP_CFG_EDGE 1) = 2 ∧ v.get (Reg.TB_WCAP_STAT_VALID 1) = 1 ∧ s.get (Reg.TB_WCAP_STAT_VALID 1) = 0
    ∧ v.get (Reg.TB_WCAP_STAT_PRESENT 1) = 1 ∧ v.get Reg.TB_CTRL_REF = 1 + 1 ∧ v.servo = 2 ∧ p.get (Reg.TB_WCAP_STAT_PRESENT 1) = 0
    ∧ v.wclkSilent 1 = true ∧ p.wclkSilent 1 = false ∧ s.trigStamp 7 e = some e.t.ns.toNat ∧ s.servo ≠ 5
    ∧ edgePasses e (s.get (Reg.TB_WCAP_CFG_FILT 1)) = true ∧ edgePasses ⟨true, 0, 7⟩ 1 = false ∧ 64 ≤ Tbl.get 0 p.tb.wclkRun 1 ∧ p.get Reg.TB_CTRL_MANUAL = 0 ∧ p.servo = 3
    ∧ s.get (Reg.TB_TRIG_CFG_EVT_EN 7) = 0 ∧ s.get (Reg.TB_TRIG_CFG_EDGE 7) = 1 ∧ (s.trigQ 7).length < 8 ∧ 8 ≤ (v.trigQ 7).length
    ∧ s.trigQ 7 = [] ∧ v.trigQ 7 = 1 :: [2, 3, 4, 5, 6, 7, 8] ∧ [2, 3, 4, 5, 6, 7, 8].length < 8 :=
  ⟨inv_all (by decide +kernel), by decide +kernel⟩

theorem test_compare_hyps :
    let s := { up [(Reg.TB_CMP_LO 7, 5), (Reg.TB_CMP_CFG_ENABLE 7, 1), (Reg.TB_CMP_STAT_ARMED 7, 1), (Reg.TB_CMP_CFG_PERIODIC 7, 1), (Reg.TB_CMP_PERIOD 7, 1),
      (Reg.TB_CMP_CFG_ACTION 7, 4)] with tb := { TimeBase.zero with now := 5 * 2 ^ 32, prev := 5 * 2 ^ 32 - 1, pulse := [(7, some 5)] } }
    let o := { up [(Reg.TB_CMP_LO 0, 5)] with tb := { TimeBase.zero with now := 5 * 2 ^ 32, prev := 4 * 2 ^ 32, cmpHold := [(0, 6)], pulse := [(0, some 6)] } }
    s.servo ≠ 4 ∧ s.servo ≠ 5 ∧ s.get (Reg.TB_CMP_CFG_EVT_EN 7) = 0 ∧ s.cmpLinked 7 = false
    ∧ s.get (Reg.TB_CMP_CFG_ENABLE 7) = 1 ∧ s.get (Reg.TB_CMP_STAT_ARMED 7) = 1 ∧ s.tb.prev < s.cmpLive 7 * 2 ^ 32 ∧ s.cmpLive 7 * 2 ^ 32 ≤ s.tb.now
    ∧ s.get (Reg.TB_CMP_CFG_PERIODIC 7) = 1 ∧ s.get (Reg.TB_CMP_PERIOD 7) ≠ 0 ∧ s.get (Reg.TB_CMP_CFG_ACTION 7) = 4
    ∧ Tbl.get none s.tb.pulse 7 = some 5 ∧ 5 ≤ s.ns ∧ Tbl.get none o.tb.pulse 0 = some 6 ∧ o.ns < 6
    ∧ o.get (Reg.TB_CMP_CFG_ENABLE 0) = 0 ∧ o.tb.now < Tbl.get 0 o.tb.cmpHold 0 * 2 ^ 32 ∧ o.cmpLinked 0 = false ∧ o.get (Reg.TB_CMP_CFG_EVT_EN 0) = 0
    ∧ bits 0x101 4 1 = 0 ∧ bits 1 6 1 = 0 ∧ bit 1 8 = false ∧ bit 0x180 8 = true ∧ bit 0x180 0 = false := by decide +kernel

/-! ### The render scheduler -/

theorem test_render_boundary_hyps :
    let s := { up [(Reg.AL_SCH_STAT_STATE, 2), (Reg.AL_SCH_CTRL_SLACK, 1), (Reg.AL_SCH_CTRL_SHED_EN, 0)] with sch := { Sched.zero with sigmaPrev := 2 ^ 40 } }
    let h := { s with sch := { s.sch with holdLevel := true } }
    let stopping := { s.put Reg.AL_SCH_STAT_STATE 3 with sch := { s.sch with allOff := true } }
    State.reset.boundaryDue = false ∧ State.reset.schState < 2 ∧ s.schState = 2 ∧ s.sch.cur = none ∧ s.opening s.sch.next ≤ s.tu
    ∧ stopping.schState = 3 ∧ stopping.sch.allOff = true ∧ stopping.sch.cur = none ∧ stopping.opening stopping.sch.next ≤ stopping.tu
    ∧ s.sch.holdLevel = false ∧ s.get Reg.AL_SCH_STAT_SHED_WAIT = 0
    ∧ (s.playStart 0 : Int) - 1 < (s.slack * s.blockT : Nat) ∧ (s.playStart 0 : Int) - 1 ≤ s.sch.sigmaPrev ∧ s.get Reg.AL_SCH_CTRL_SHED_EN = 0
    ∧ min s.level 2 ≤ 1 ∧ h.sch.holdLevel = true ∧ (let t := { s with sch := { s.sch with next := 1, sigmaPrev := -5 } }
      ((t.slack * t.blockT : Nat) : Int) ≤ (t.playStart 1 : Int) - 0 ∧ t.sch.sigmaPrev < (t.playStart 1 : Int) - 1
      ∧ (t.playStart 1 : Int) - 1 < (t.slack * t.blockT : Nat)) := by decide +kernel

theorem test_block_progress_hyps :
    let s := { up [(Reg.AL_SCH_STAT_STATE, 2)] with sch := { Sched.zero with cur := some blk } }
    let l := { s with tb := { TimeBase.zero with now := s.deadline 5 * 2 ^ 32 } }
    let w := { s with sch := { Sched.zero with cur := some { blk with waiting := [19], mixOn := true } } }
    let c := { up [(Reg.CH_STAT_STATE 19, 2), (Reg.AL_SCH_STAT_STATE, 2)] with sch := { Sched.zero with cur := some blk } }
    let m := { c with sch := { Sched.zero with cur := some { blk with mixOn := true } } }
    let u := up [(Reg.AL_SCH_STAT_STATE, 2)]
    State.reset.sch.cur = none ∧ s.sch.cur = some blk ∧ s.tu < s.deadline 5 ∧ blk.late = false ∧ l.deadline 5 ≤ l.tu
    ∧ blk.waiting = [] ∧ blk.lastBdone < s.deadline 5 ∧ ({ blk with waiting := [19] } : Block).waiting ≠ [] ∧ w.coresE = [] ∧ c.coresE ≠ [] ∧ c.mix.out = false
    ∧ m.sch.cur = some { blk with mixOn := true } ∧ m.tu < m.deadline 5 ∧ blk.waitE = [] ∧ blk.mixEnd ≤ m.tu ∧ m.sch.play ≤ blk.j ∧ m.sch.owe ≠ some blk.j
    ∧ m.tu < ({ blk with mixEnd := 1 } : Block).mixEnd
    ∧ u.schState = 2 ∧ u.playStart u.sch.play ≤ u.tu ∧ u.sch.ready = [] ∧ u.sch.owe = none ∧ ({ u.sch with owe := some 5 } : Sched).owe = some 5
    ∧ State.reset.schState < 2 := by decide +kernel

theorem test_scheduler_control_hyps :
    let w (s : State) : BitVec 32 := BitVec.ofNat 32 (1 + 2 * s.get Reg.AL_SCH_CTRL_BLOCK + 8 * s.get Reg.AL_SCH_CTRL_SLACK)
    let x : Voice := { Voice.free 0 with st := 3, relT := some 0 }
    let s := { up [(Reg.AL_SCH_STAT_STATE, 2)] with al := { Alloc.zero with slots := [(255, x)], groups := Alloc.zero.groups.set 0 { Group.zero with cfg1 := 2 ^ 24 } } }
    let due : State := { s with sch := { Sched.zero with next := 2 ^ 30 } }
    let z := up [(Reg.AL_SCH_STAT_STATE, 3)]
    (∀ k ∈ [0, 1, 2, 3], let t := up [(Reg.AL_SCH_STAT_STATE, k)]
      bits (w t).toNat 1 2 = t.get Reg.AL_SCH_CTRL_BLOCK ∧ bits (w t).toNat 3 4 = t.get Reg.AL_SCH_CTRL_SLACK ∧ t.schState = k)
    ∧ 1 ≤ bits 0x46 3 4 ∧ bits 0x46 3 4 ≤ 8 ∧ (up [(Reg.AL_SCH_STAT_STATE, 1), (Reg.TB_STAT_AUDIO_LOCK, 1)]).get Reg.TB_STAT_AUDIO_LOCK = 1
    ∧ 1 ≤ (up []).slack ∧ (up []).sch.allOff = false ∧ (up []).silent = true ∧ z.schState = 3 ∧ z.sch.cur = none ∧ z.sch.next ≤ z.sch.play
    ∧ z.playStart z.sch.next ≤ z.tu
    ∧ (s.slot 255).relT = some 0 ∧ (s.slot 255).st = 3 ∧ (s.group (s.slot 255).group).relLimit.isSome = true ∧ s.silent = false ∧ 2 ≤ s.schState
    ∧ (let l := ((s.group (s.slot 255).group).relLimit).getD 0
       (0 + l + due.fper - 1) / due.fper / due.blockLen ≤ due.sch.next ∧ s.sch.next < (0 + l + s.fper - 1) / s.fper / s.blockLen)
    ∧ s.al.later = [] := by decide +kernel

/-! ### Rings and descriptors -/

/-- A descriptor from its bytes: (first byte, value). -/
def dsc (l : List (Nat × Nat)) : BitVec 512 := BitVec.ofNat 512 (l.foldl (fun a x => a + x.2 * 2 ^ (8 * x.1)) 0)
/-- Ring 15 in host memory, RUNNING at version 3, with 16 entries of which one waits. -/
def ringUp (l : List (Fld × Nat)) : State :=
  { up ([(Reg.HI_RING_STAT_STATE 15, 2), (Reg.HI_RING_STAT_VER 15, 3), (Reg.HI_RING_CFG_LOG2SIZE 15, 4), (Reg.HI_RING_TAIL 15, 1),
      (Reg.HI_CTRL_CP_EN, 1)] ++ l) with hi := { HostIf.zero with bme := true } }

/-- A ring that rests, is checked, runs and is held; headers that fail and one that passes; doorbells at the ends of the ring. -/
theorem test_ring_hyps :
    let s := ringUp []
    let c := ringUp [(Reg.HI_RING_STAT_STATE 15, 1)]
    let hdr : BitVec 512 := dsc [(0, 0x474E4952), (4, 2), (5, 3)]
    let hi (x : Nat) := min (bits x 40 8) (s.get Reg.ID_IFVER_RING_MAX)
    State.reset.ringIdle 15 = true ∧ 4 ≤ bits 0x21 1 5 ∧ bits 0x21 1 5 ≤ 16 ∧ s.ringIdle 15 = false ∧ s.ringState 15 ≠ 0
    ∧ bits (0x21 / 4) 1 5 = s.get (Reg.HI_RING_CFG_LOG2SIZE 15) ∧ bits 8 6 1 = s.get (Reg.HI_RING_CFG_LOC 15) ∧ State.reset.ringState 15 = 0
    ∧ c.ringState 15 = 1 ∧ c.ringHost 15 = true ∧ c.hostBlocked = false ∧ c.heldAt 15 = none ∧ bits hdr.toNat 0 32 = 0x474E4952
    ∧ ¬ hi hdr.toNat < max (bits hdr.toNat 32 8) (s.get Reg.ID_IFVER_RING_MIN) ∧ c.ringBase 15 + 64 + 64 * c.ringSize 15 ≤ 2 ^ 64
    ∧ (15 : Nat) % 2 ^ 16 < s.ringSize 15 ∧ ¬ (16 : Nat) % 2 ^ 16 < s.ringSize 15
    ∧ s.served1 = some 15 ∧ State.reset.served1 = none ∧ State.reset.hostBlocked = true ∧ s.canFetch 15 = true := by decide +kernel

/-- A ring in the exchange region, whose entry stands and is spoilt. -/
theorem test_fetch_hyps :
    let s := ringUp [(Reg.HI_RING_CFG_LOC 15, 1)]
    let b := { s with ms := { MemSys.zero with sramBad := [(exchBase + 64) / 8] } }
    s.served1 = some 15 ∧ s.ringHost 15 = false ∧ s.sramSpoilt (exchBase + (s.ringBase 15 + 64 + 64 * s.get (Reg.HI_RING_HEAD 15))) 64 = none
    ∧ b.served1 = some 15 ∧ b.sramSpoilt (exchBase + (b.ringBase 15 + 64 + 64 * b.get (Reg.HI_RING_HEAD 15))) 64 = some ((exchBase + 64) / 8)
    ∧ (ringUp [(Reg.HI_CTRL_CP_EN, 0)]).get Reg.HI_CTRL_CP_EN = 0 := by decide +kernel

/-- One descriptor of each timed opcode that is in order, at values the checks end at. -/
def timedOk : List (BitVec 512) :=
  [dsc [(0, 1), (16, 63), (17, 4), (18, 7), (24, 0x437F0000), (28, 0x3F800000)], dsc [(0, 2), (16, 3), (18, 63), (24, 0x3F800000)], dsc [(0, 3), (16, 2), (18, 63)],
    dsc [(0, 4), (16, 4), (17, 4)], dsc [(0, 5), (16, 63), (20, 0x144100), (24, 0x78300000)], dsc [(0, 6), (16, 4), (32, 3600000000000)],
    dsc [(0, 0x10), (16, 15), (17, 2)], dsc [(0, 0x11), (16, 15), (17, 1)], dsc [(0, 0x20), (24, 4095), (26, 63)], dsc [(0, 0x20), (24, 4095), (27, 5)],
    dsc [(0, 0x20), (27, 6)], dsc [(0, 0x21), (17, 16), (18, 4095)], dsc [(0, 0x21), (16, 1)], dsc [(0, 0x30), (16, 255)],
    dsc [(0, 0x31), (16, 1), (24, 15), (28, 8388607)]]
/-- One of each immediate opcode, each time at 0. -/
def immediateOk : List (BitVec 512) :=
  [dsc [(0, 0x50), (16, 3), (17, 3), (20, 16777216)], dsc [(0, 0x60), (16, 4095), (18, 3), (20, 32)], dsc [(0, 0x7F), (16, 0xFFFF)],
    dsc [(0, 0x40), (16, 3), (17, 1), (18, 32)], dsc [(0, 0x70), (16, 3), (20, 3)], dsc [(0, 0x70), (16, 3), (20, 4)]]

theorem test_timed_hyps :
    let s := ringUp []
    let f := { ringUp [(Reg.AL_SCH_STAT_STATE, 3)] with sch := { Sched.zero with queue := [] } }
    s.Inv ∧ f.Inv ∧ timedOk.all (fun d => rejectOf 3 d.toNat == none) = true ∧ s.ringState 15 = 2 ∧ s.get (Reg.HI_RING_STAT_VER 15) = 3 ∧ s.pwState ≠ 1
    ∧ s.schState ≠ 3 ∧ s.queueLen + 1 < 4096 ∧ f.queueLen < 4096 ∧ s.sch.queue = [] ∧ f.schState = 3 ∧ f.ringState 15 = 2
    ∧ rejectOf 3 (dsc [(0, 1), (16, 64)]).toNat = some 3 ∧ rejectOf 1 (dsc [(0, 0x20)]).toNat = some 2 :=
  ⟨inv_of (by decide +kernel), inv_of (by decide +kernel), by decide +kernel⟩

/-- A queue that one more command fills. -/
theorem test_queue_full_hyps :
    let fl : Flight := ⟨0, 0, 0, 1, 0, false⟩
    let s := { ringUp [] with sch := { Sched.zero with queue := List.replicate 4095 ⟨fl, .ring, 0, 0, none, 0, false⟩ } }
    let f := { s with sch := { Sched.zero with queue := List.replicate 4096 ⟨fl, .ring, 0, 0, none, 0, false⟩ } }
    s.queueLen + 1 = 4096 ∧ 4096 ≤ f.queueLen ∧ s.sch.fullEp = false ∧ s.schState ≠ 3 := by
  refine ⟨congrArg (fun n => n + 1) List.length_replicate, Nat.le_of_eq ?_, by decide +kernel, by decide +kernel⟩
  exact List.length_replicate.symm

theorem test_immediate_hyps :
    let s := ringUp []
    let fl : Flight := ⟨0, 15, 0, 0x7F, 0, false⟩
    let d : Dma := ⟨fl, 3, 1, 0, 0, 4⟩
    let m := { s with hi := { s.hi with dmas := [d], flights := [fl], heldDesc := [(15, some (dsc [(0, 0x7F), (16, 0x8000)]).toNat)], fenceAt := [(15, some 0)] } }
    let k := { ringUp [(Reg.HI_RING_STAT_STATE 15, 3), (Reg.HI_RING_CFG_LOC 15, 1)] with
      hi := { HostIf.zero with heldDesc := [(15, some (dsc [(0, 0x50), (16, 3), (17, 3), (20, 4)]).toNat)] } }
    let t := { s with ser := { Ser.zero with uarts := Ser.zero.uarts.set 3 { Uart.zero with txq := List.replicate 4 ⟨fl, 0, 0, [], false⟩ } } }
    (∀ x ∈ [s, m, k, t], x.Inv) ∧ immediateOk.all (fun d => rejectOf 3 d.toNat == none) = true ∧ dfield (dsc [(0, 0x50), (8, 1)]).toNat 8 8 > s.ns ∧ dfield 0 8 8 ≤ s.ns
    ∧ s.memRange 3 0 4 = true ∧ s.memRange 1 0 4 = true ∧ s.memRange 3 0x80000 4 = false ∧ m.hi.dmas[0]? = some d
    ∧ (s.memRead 3 0 4 []).2 = ([0, 0, 0, 0], true)
    ∧ (({ s with ms := { MemSys.zero with sramBad := [exchBase / 8] } }).memRead 3 0 4 []).2 = ([], false)
    ∧ s.fenceFree 15 (dsc [(0, 0x7F)]).toNat 0 = true ∧ m.fenceFree 15 (dsc [(0, 0x7F), (16, 0x8000)]).toNat 1 = false
    ∧ m.heldAt 15 = some (dsc [(0, 0x7F), (16, 0x8000)]).toNat ∧ Tbl.get none m.hi.fenceAt 15 = some 0
    ∧ m.fenceFree 15 (dsc [(0, 0x7F), (16, 0x8000)]).toNat 0 = true ∧ s.heldAt 15 = none
    ∧ k.ringState 15 = 3 ∧ k.ringHost 15 = false ∧ dfield ((k.heldAt 15).getD 0) 0 1 = 0x50 ∧ s.txCount 3 < 4 ∧ 4 ≤ t.txCount 3
    ∧ s.dir 4095 = 0 ∧ s.st.cur = none ∧ s.queueLen < 4096 :=
  ⟨inv_all (by decide +kernel), by decide +kernel⟩

theorem test_descriptor_check_hyps :
    dfield (timedOk.getD 0 0).toNat 0 1 = 1 ∧ dfield (timedOk.getD 1 0).toNat 0 1 = 2 ∧ dfield (timedOk.getD 3 0).toNat 0 1 = 4
    ∧ rejectOf 1 (dsc [(0, 7)]).toNat = some 2 ∧ rejectOf 1 (dsc [(0, 2), (16, 4)]).toNat = some 3 := by decide +kernel

/-! ### Event queues -/

theorem test_event_queue_hyps :
    let s := ringUp []
    let r : Rec := ⟨0, 127, 0, 0, 0⟩
    let on (h : List HeldRec) : State := { ringUp [(Reg.EQ_Q_CFG_LOG2SIZE 7, 4), (Reg.EQ_Q_CFG_ENABLE 7, 1), (Reg.EQ_SRC_QUEUE 127, 7), (Reg.EQ_SRC_EN 127, 1),
        (Reg.EQ_Q_MOD_MOD_COUNT 7, 2), (Reg.EQ_Q_MOD_MOD_TIME 7, 1)] with
      eq := (List.replicate 8 EvQueue.zero).set 7 { EvQueue.zero with on := true, held := h, firstUnsig := some (0, 0) } }
    (∀ x ∈ [s, on [], on [⟨r, false, .plain⟩]], x.Inv) ∧ (s.queue 7).on = false ∧ 4 ≤ bits 0x21 1 5 ∧ bits 0x21 1 5 ≤ 16 ∧ s.pcieHeld = []
    ∧ (s.get (Reg.EQ_Q_BASE_LO 7) * 64 + 2 ^ 32 * s.get (Reg.EQ_Q_BASE_HI 7)) + 32 * 2 ^ bits 0x21 1 5 ≤ 2 ^ 64
    ∧ ((wit [(Reg.EQ_Q_BASE_LO 7, 0x2000)]).get (Reg.EQ_Q_BASE_LO 7) * 64) + 32 * 2 ^ bits 0x61 1 5 > 0x80000
    ∧ ((on []).queue 7).on = true ∧ ((on []).queue 7).held = [] ∧ (on []).qState 7 = 1 ∧ s.qState 7 ≠ 1
    ∧ ((on [⟨r, false, .plain⟩]).queue 7).held = [⟨r, false, .plain⟩] ∧ ((on [⟨r, false, .plain⟩]).queue 7).heldPlain < 63
    ∧ ((on []).queue 7).firstUnsig = some (0, 0) ∧ (s.queue 7).firstUnsig = none ∧ (on []).ns < 0 + 1000 * (on []).get (Reg.EQ_Q_MOD_MOD_TIME 7)
    ∧ (on []).get (Reg.EQ_SRC_QUEUE 127) = 7 ∧ (on []).get (Reg.EQ_SRC_EN 127) = 1
    ∧ ((on []).queue 7).unsig + 1 < max 1 ((on []).get (Reg.EQ_Q_MOD_MOD_COUNT 7)) ∧ (on []).get (Reg.EQ_Q_MOD_MOD_TIME 7) ≠ 0
    ∧ (on []).hostBlocked = false ∧ (on []).get (Reg.EQ_Q_CFG_LOC 7) = 0 ∧ (0 : Nat) % 2 ^ 16 < (on []).qSize 7 ∧ ¬ (16 : Nat) % 2 ^ 16 < (on []).qSize 7 :=
  ⟨inv_all (by decide +kernel), by decide +kernel⟩

/-! ### Shared memory and self-test -/

theorem test_shared_memory_hyps :
    let dma (x : CoreDma) (l : List (Fld × Nat)) : State := { up l with ms := { MemSys.zero with dma := MemSys.zero.dma.set 19 x } }
    let go := dma { CoreDma.zero with regs := 2 ^ 64 * 0x1FF8 + 2 ^ 128 * 65536 + 2 ^ 160 * 2 } []
    let odd := dma { CoreDma.zero with regs := 4 + 2 ^ 128 * 8 } []
    let far := dma { CoreDma.zero with regs := 2 ^ 128 * 65544 } []
    let run := dma { CoreDma.zero with regs := 2 ^ 128 * 65536 + 2 ^ 160 * 2, busy := true } []
    let bad := { run with ms := { run.ms with dramBad := [8191] } }
    let w := up [(Reg.MEM_WIN_CTRL_EN 63, 1), (Reg.MEM_WIN_BASE 63, 44 * 0x20000), (Reg.MEM_BANK_PWR 0, 1), (Reg.MEM_BANK_STATE 0, 0)]
    (∀ x ∈ [go, odd, far, run, bad, w], x.Inv)
    ∧ (let d := (go.flushStores 19).dmaPort 19; d.busy = false ∧ d.len = 65536 ∧ go.dmaRange (bits d.regs 160 8) d.src d.len = 0 ∧ go.dmaRange (bits d.regs 168 8) d.dst d.len = 0)
    ∧ (let d := odd.dmaPort 19; d.busy = false ∧ d.src % 8 ≠ 0) ∧ (let d := far.dmaPort 19; d.len % 8 = 0 ∧ d.src % 8 = 0 ∧ d.dst % 8 = 0 ∧ 65536 < d.len)
    ∧ (run.dmaPort 19).busy = true ∧ bits (run.dmaPort 19).regs 160 8 = 2 ∧ run.dramSpoilt (run.dmaPort 19).src (run.dmaPort 19).len = none
    ∧ bad.dramSpoilt (bad.dmaPort 19).src (bad.dmaPort 19).len = some 8191 ∧ (run.core 19).dmemBad = []
    ∧ w.winInBank 44 = true ∧ w.get (Reg.MEM_BANK_PWR 44) = 2 ∧ w.winInBank 43 = false ∧ w.ms.test = none
    ∧ w.get (Reg.MEM_BANK_STATE 0) = 0 ∧ w.get (Reg.MEM_BANK_PWR 0) = 1 ∧ w.get (Reg.MEM_BANK_STATE 47) ≠ 0
    ∧ w.winNext 63 0 = 1 ∧ w.winNext 0 0 = 0 ∧ 4 * (45 * 0x20000 - 1 + w.winNext 63 3) ≤ 45 * 0x80000 ∧ ¬ 4 * (45 * 0x20000 + w.winNext 63 3) ≤ 45 * 0x80000
    ∧ w.get Reg.MEM_CTRL_SCRUB_EN = 1 :=
  ⟨inv_all (by decide +kernel), by decide +kernel⟩

theorem test_self_test_hyps :
    let per := [(Reg.ST_CTRL_PER_EN, 1), (Reg.ST_CTRL_CLASS_EN, 15)]
    let st (x : SelfTest) (l : List (Fld × Nat)) : State := { up (per ++ l) with st := x }
    let refs := st { SelfTest.zero with turn := 3 } []
    let core := st { SelfTest.zero with pos := [59, 0, 0, 0] } [(Reg.CH_STAT_STATE 19, 5)]
    let busy := st { SelfTest.zero with pos := [59, 0, 0, 0] } [(Reg.CH_STAT_STATE 19, 1), (Reg.AL_SCH_STAT_STATE, 2)]
    let t (u : Nat) (raw : Bool) (r : Nat) : StTest := ⟨u, raw, some 0, r, r, 0, true⟩
    let run (u : Nat) (raw : Bool) (r : Nat) (l : List (Fld × Nat)) : State :=
      { st { SelfTest.zero with cur := some (t u raw r) } l with ms := { MemSys.zero with test := if unitClass u = 1 then some ⟨u - 0x20, r⟩ else none } }
    let late (s : State) : State := { s with tb := { TimeBase.zero with now := 2 ^ 80 } }
    let bench := st { SelfTest.zero with bench := some (19, 0) } [(Reg.CH_STAT_STATE 19, 1)]
    (∀ x ∈ [refs, core, busy, run 0x4F false 127 [], run 0x20 true 0 [], run 0x60 false 0 [], bench, late bench], x.Inv)
    ∧ State.reset.sliceDue = false ∧ refs.sliceDue = true ∧ refs.st.turn = 3 ∧ bit (refs.get Reg.ST_CTRL_CLASS_EN) 3 = true ∧ 330 ≤ refs.stBudget
    ∧ core.sliceDue = true ∧ core.st.turn = 0 ∧ core.stPos 0 = 59 ∧ core.upd = none ∧ core.st.pos.length = 4 ∧ core.chState (59 / 3) = 5
    ∧ busy.chState (59 / 3) ≠ 5 ∧ busy.st.bench = none ∧ 2 ≤ busy.schState
    ∧ (run 0x4F false 127 []).ms.test = some ⟨47, 127⟩ ∧ unitClass 0x4F = 1 ∧ (run 0x20 true 0 []).ms.test = some ⟨0, 0⟩ ∧ unitClass 0x20 = 1
    ∧ (∀ i, i < 4 → bit 0 i = false) ∧ (run 0x20 true 0 []).ms.rowErr = [] ∧ (run 0x20 true 0 []).ms.sramBad = []
    ∧ State.reset.get (Reg.MEM_BANK_REPAIRS 47) < Tbl.get 4 State.reset.ms.spares 47 ∧ Tbl.get 4 [(47, 0)] 47 ≤ State.reset.get (Reg.MEM_BANK_REPAIRS 47)
    ∧ (run 0x60 false 0 []).st.cur = some (t 0x60 false 0) ∧ (run 0x60 false 0 []).ns < 0 + 1000 * (run 0x60 false 0 []).stBudget
    ∧ 0 + 1000 * (late (run 0x20 false 0 [])).stBudget ≤ (late (run 0x20 false 0 [])).ns ∧ (late (st { SelfTest.zero with cur := some (t 0x20 false 0) } [])).ms.test = none
    ∧ (run 19 false 0 [(Reg.CH_STAT_STATE 19, 5)]).chState 19 = 5 ∧ (run 19 false 0 [(Reg.CH_STAT_STATE 19, 1)]).chState 19 ≠ 5
    ∧ bench.st.bench = some (19, 0) ∧ bench.st.cur = none ∧ bench.ns < 0 + 1000000000 * max 1 (bench.get Reg.ST_WAIT)
    ∧ 0 + 1000000000 * max 1 ((late bench).get Reg.ST_WAIT) ≤ (late bench).ns ∧ (late bench).chState 19 ≠ 5
    ∧ refs.rawOpen = true ∧ (up [(Reg.LC_STAT_STATE, 2)]).rawOpen = false ∧ refs.rawReady 0x60 = true ∧ refs.rawReady 20 = false ∧ core.rawReady 19 = true :=
  ⟨inv_all (by decide +kernel), by decide +kernel⟩

theorem test_shutdown_hyps :
    let s := ringUp []
    let d := dsc [(0, 0x70), (16, 3), (20, 1), (21, 1)]
    let sh : Shut := ⟨⟨0, 15, 0, 0x70, 0, false⟩, true⟩
    let p := { s with st := { SelfTest.zero with shut := some sh } }
    s.Inv ∧ p.Inv ∧ s.ringState 15 = 2 ∧ rejectOf (s.get (Reg.HI_RING_STAT_VER 15)) d.toNat = none ∧ s.pwState ≠ 1 ∧ dfield d.toNat 8 8 ≤ s.ns ∧ dfield d.toNat 0 1 = 0x70
    ∧ dfield d.toNat 16 1 = 3 ∧ dfield d.toNat 20 1 = 1 ∧ s.schState = 0 ∧ s.queueLen < 4096 ∧ s.st.shut = none ∧ s.st.cur = none ∧ p.st.shut ≠ none ∧ p.st.shut = some sh :=
  ⟨inv_of (by decide +kernel), inv_of (by decide +kernel), by decide +kernel⟩

/-! ### Serial ports, TDM and GPIO -/

theorem test_serial_receive_hyps :
    let u (m : Nat) (x : Uart) (l : List (Fld × Nat)) : State :=
      { up ([(Reg.UART_CTRL_EN 3, 1), (Reg.UART_CTRL_MODE 3, m)] ++ l) with ser := { Ser.zero with uarts := Ser.zero.uarts.set 3 x } }
    let full := u 0 { Uart.zero with rx := List.replicate 128 65 } []
    let pkt (n : Nat) := u 1 { Uart.zero with dmx := 2, slots := List.replicate n 0 } []
    let midi := u 2 { Uart.zero with status := 0x90, part := [0x90, 60] } []
    let err := { u 0 { Uart.zero with errAt := [some 0, some 0] } [] with sw := { Switch.zero with sums := [(256 * 98 + 1, 1)] } }
    let late (s : State) : State := { s with tb := { TimeBase.zero with now := 1250000000 * 2 ^ 32 } }
    (∀ x ∈ [u 0 Uart.zero [], full, pkt 512, pkt 513, midi, err, late err], x.Inv)
    ∧ (u 0 Uart.zero []).rxListens 3 = true ∧ (u 0 Uart.zero [(Reg.UART_STAT_LINE_LOW 3, 1)]).rxListens 3 = false ∧ (u 0 Uart.zero []).uMode 3 = 0
    ∧ ((u 0 Uart.zero []).uart 3).rx.length < 128 ∧ ¬ (full.uart 3).rx.length < 128 ∧ full.rxListens 3 = true
    ∧ (u 1 Uart.zero []).uMode 3 = 1 ∧ (pkt 512).uMode 3 = 1 ∧ ((pkt 512).uart 3).dmx = 2 ∧ ((pkt 512).uart 3).slots.length = 512
    ∧ ((pkt 513).uart 3).slots.length ≤ 513 ∧ ((pkt 513).uart 3).slots ≠ [] ∧ ((u 1 { Uart.zero with dmx := 1 } []).uart 3).dmx = 1
    ∧ ((u 1 { Uart.zero with dmx := 4 } []).uart 3).dmx = 4 ∧ midi.uMode 3 = 2 ∧ midi.rxListens 3 = true ∧ (midi.uart 3).status ≠ 0
    ∧ midi.get (Reg.UART_CTRL_RAW_MIDI 3) = 0 ∧ midiLen 0x90 ≤ (([0x90, 60, 127] : List (BitVec 8)).filter (fun b => decide (b.toNat < 128))).length
    ∧ (err.uart 3).errAt.getD (1 - 1) none = some 0 ∧ err.ns < 0 + 100000000 ∧ 0 + 100000000 ≤ (late err).ns ∧ Tbl.get 0 err.sw.sums (256 * (92 + 2 * 3) + 1) = 1
    ∧ (late (u 1 Uart.zero [])).get (Reg.UART_CTRL_EN 3) = 1 ∧ ((late (u 1 Uart.zero [])).uart 3).lastPkt + 1250000000 ≤ (late (u 1 Uart.zero [])).ns :=
  ⟨inv_all (by decide +kernel), by decide +kernel⟩

theorem test_control_map_hyps :
    let e (port kind idx : Nat) : CmEnt := ⟨port + 16 * kind + 256 * 15 + 4096 * idx + 2 ^ 28, 0x10, 0x3F800000, 0⟩
    let w (l : List (Nat × CmEnt)) (q : List TCmd) : State := { up [(Reg.UART_CTRL_EN 3, 1), (Reg.UART_CTRL_MODE 3, 2), (Reg.UART_CTRL_MODE 2, 1)] with
      ser := { Ser.zero with cm := l, cmNext := [(1023, e 3 3 0)], uarts := Ser.zero.uarts.set 3 { Uart.zero with msgs := [(0x90, 60, 127, 0)] } }
      sch := { Sched.zero with queue := q } }
    let c : TCmd := ⟨⟨0, 0, 0, 4, 0, false⟩, .cm 1023, 0, 0, none, 0, false⟩
    let s := w [(1023, e 3 3 127)] [c]
    s.Inv ∧ (s.uart 3).msgs = (0x90, 60, 127, 0) :: [] ∧ s.ser.cmNext = [] ++ [(1023, e 3 3 0)] ∧ s.cmOn (s.cmEnt 0) = false
    ∧ (s.cmEnt 1023).tgt = true ∧ (s.cmEnt 1023).kind ≠ 7 ∧ (1 : F32).toNat ≠ s.get (Reg.UART_CM_VAL 1023)
    ∧ s.sch.queue.any (fun q => q.org == .cm 1023 && !q.done) = true ∧ (w [] []).sch.queue.any (fun q => q.org == .cm 1023 && !q.done) = false
    ∧ s.cmOn (e 2 1 512) = true ∧ s.cmOn (e 2 2 511) = true ∧ s.cmOn (e 3 3 127) = true ∧ s.cmOn (e 3 4 31) = true ∧ s.cmOn (e 3 5 0) = true
    ∧ s.cmOn (e 3 6 0) = true ∧ s.cmOn (e 3 7 0) = true ∧ (e 3 7 0).kind = 7 ∧ (e 3 4 31).index + 32 = 63 ∧ (e 3 3 0).port ≠ 2 ∧ (e 3 3 0).chan = 15
    ∧ fFinite (fAdd (fInt 127) (e 3 7 0).offset) = true ∧ fLe 0xC3000000 (fAdd (fInt 127) (e 3 7 0).offset) = true
    ∧ fLe (fAdd (fInt 127) (e 3 7 0).offset) 0x437F0000 = true ∧ (e 3 7 0).param / 2 ^ 16 % 4 ≠ 3 ∧ 0 + 1000 * s.get (Reg.UART_AC_LEAD 3) < 2 ^ 64 :=
  ⟨inv_of (by decide +kernel), by decide +kernel⟩

theorem test_serial_tdm_gpio_hyps :
    let fl : Flight := ⟨0, 15, 0, 0x40, 0, false⟩
    let j (e f : Nat) : TxJob := ⟨fl, e, f, [1], false⟩
    let u (x : Uart) (l : List (Fld × Nat)) : State := { up l with ser := { Ser.zero with uarts := Ser.zero.uarts.set 3 x } }
    let on := [(Reg.UART_CTRL_EN 3, 1)]
    let q (e f : Nat) := u { Uart.zero with txq := [j e f] }
    let r := u { Uart.zero with run := some (j 0 0, 0, true) } on
    let hold : State := { ringUp [] with hi := { (ringUp []).hi with heldDesc := [(15, some (dsc [(0, 0x40), (16, 3)]).toNat)] } }
    let tdm (l : List (Fld × Nat)) := up ([(Reg.TDM_CTRL_EN 1, 1), (Reg.TDM_CTRL_DIN_EN 1, 1)] ++ l)
    (∀ x ∈ [q 0 0 on, q 0 1 on, q 0 0 [], q (2 ^ 63) 0 on, r, hold, tdm []], x.Inv)
    ∧ (r.uart 3).run ≠ none ∧ ((q 0 0 on).uart 3).run = none ∧ ((q 0 0 on).uart 3).txq = j 0 0 :: [] ∧ (q 0 0 []).get (Reg.UART_CTRL_EN 3) = 0
    ∧ (q 0 1 on).uMode 3 ≠ 1 ∧ (q 0 0 on).ns + (q 0 0 on).bitTime 3 < 2 ^ 63 ∧ 0 ≤ (q 0 0 on).ns + (q 0 0 on).bitTime 3
    ∧ (r.uart 3).run = some (j 0 0, 0, true) ∧ (r.uart 3).txq = [] ∧ (q 0 0 on).get (Reg.UART_CTRL_EN 3) = 1 ∧ 0 < (q 0 0 on).txCount 3
    ∧ hold.heldAt 15 = some (dsc [(0, 0x40), (16, 3)]).toNat ∧ hold.txCount 3 < 4 ∧ (q 0 0 on).hi.heldDesc = []
    ∧ (tdm []).get (Reg.TDM_CTRL_EN 1) = 1 ∧ (tdm []).get (Reg.TDM_CTRL_MASTER 1) = 0
    ∧ (∀ k ∈ [1, 2, 3], (tdm [(Reg.TDM_STAT_CLK 1, k)]).get (Reg.TDM_STAT_CLK 1) = k) ∧ (tdm []).get (Reg.TDM_STAT_CLK 1) = 0
    ∧ (up []).get (Reg.TDM_CTRL_EN 1) = 0 ∧ bits (0x208) 2 2 = 2 ∧ bits 0x208 5 5 = 16 ∧ 32 * 16 * (up [(Reg.TB_CTRL_FS, 1)]).rate ≤ 24576000
    ∧ ¬ 32 * 16 * (up []).rate ≤ 24576000
    ∧ (tdm []).get (Reg.TDM_CTRL_DIN_EN 1) = 1 ∧ (tdm []).coresE = [] ∧ (tdm [(Reg.CH_STAT_STATE 19, 2)]).coresE ≠ [] ∧ (tdm []).mix.out = false :=
  ⟨inv_all (by decide +kernel), by decide +kernel⟩

/-! ### Analogue outputs -/

/-- Channel 15 in a state, with its parts and register fields. -/
def aoAt (st : Nat) (x : AoCh) (l : List (Fld × Nat)) : State :=
  { up ([(Reg.AO_CH_STAT_STATE 15, st), (Reg.AO_STAT_RAILS_OK, 1)] ++ l) with ao := { Analog.zero with chans := Analog.zero.chans.set 15 x } }

theorem test_analogue_channel_hyps :
    let z := AoCh.zero
    let span (s : State) : Nat := 2 * s.get (Reg.AO_CH_CFG_SPAN 15)
    let en := [(Reg.AO_CH_CFG_EN 15, 1)]
    let pair := up [(Reg.AO_CH_CFG_SPAN 14, 3), (Reg.AO_CH_STAT_STATE 14, 0), (Reg.AO_CH_STAT_STATE 15, 0)]
    (∀ st ∈ [0, 1, 2, 3, 4, 5, 6, 7], let s := aoAt st { z with ramp := true, ph := 1 } en
      invB s = true ∧ s.aoTested = none ∧ s.aoPaired 15 = false ∧ s.aoState 15 = st ∧ (s.aoCh 15).ramp = true ∧ (s.aoCh 15).ph = 1 ∧ s.get (Reg.AO_CH_CFG_EN 15) = 1
      ∧ bits (span s) 1 3 = s.get (Reg.AO_CH_CFG_SPAN 15) ∧ bits (span s) 1 3 ≠ 7 ∧ bit (span s) 0 = false ∧ bit (span s) 10 = false)
    ∧ bits 14 1 3 = 7 ∧ (aoAt 0 z []).get (Reg.AO_CH_CFG_EN 15) = 0 ∧ (aoAt 0 z [(Reg.AO_CH_STAT_CAL_DONE 15, 1)]).get (Reg.AO_CH_STAT_CAL_DONE 15) = 1
    ∧ (aoAt 0 z []).get Reg.AO_STAT_RAILS_OK = 1 ∧ (aoAt 0 z []).get Reg.PWR_STAT_STATE ≤ 1 ∧ (aoAt 0 z []).outHeld 15 = false
    ∧ pair.aoState 14 = 0 ∧ bit 0x16 4 = true ∧ bits 0x16 1 3 = pair.get (Reg.AO_CH_CFG_SPAN 14) ∧ pair.aoState (14 + 1) = 0 ∧ bits 0x16 1 3 < 4
    ∧ pair.aoEntry 14 = none ∧ pair.get (Reg.AO_CH_STAT_FED 14) = 0 ∧ pair.get (Reg.AO_CH_STAT_FED 15) = 0 ∧ pair.aoPaired 14 = false ∧ pair.aoTested = none
    ∧ (aoAt 3 z []).get (Reg.AO_CH_STAT_FED 15) = 0 ∧ (aoAt 4 z [(Reg.AO_CH_CFG_CLR_STEP 15, 1)]).get (Reg.AO_CH_CFG_CLR_STEP 15) = 1
    ∧ (aoAt 5 { z with ph := 2 } []).aoState 15 = 5 ∧ ((aoAt 5 { z with ph := 2 } []).aoCh 15).ph = 2 ∧ ((aoAt 5 { z with ramp := true, ph := 4 } []).aoCh 15).ph = 4
    ∧ (aoAt 3 z [(Reg.AO_CH_STAT_FED 15, 1)]).on (Reg.AO_CH_STAT_FED 15) = true ∧ (aoAt 3 z []).aoEntry 15 = none := by decide +kernel

theorem test_analogue_monitor_hyps :
    let win := [(Reg.AO_CTRL_MON_EN, 1), (Reg.AO_STAT_MON_TRUST, 1), (Reg.AO_CH_WIN_MODE 15, 2), (Reg.AO_CH_WIN_ABS_LO 15, 0xFFFF), (Reg.AO_CH_WIN_ABS_HI 15, 1)]
    let late (s : State) : State := { s with tb := { TimeBase.zero with now := 20000 * 2 ^ 32 } }
    let j := late (aoAt 3 AoCh.zero win)
    let held := { aoAt 4 AoCh.zero [(Reg.AO_STAT_CLR_PIN, 1)] with ao := { Analog.zero with clrAt := some 0 } }
    let refs := aoAt 0 AoCh.zero [(Reg.AO_CTRL_MON_EN, 1), (Reg.AO_REF_IN_WIN 7, 1), (Reg.AO_REF_IN_WIN 0, 0)]
    invB j = true ∧ invB held = true ∧ invB refs = true ∧ j.aoTested = none ∧ j.get Reg.AO_STAT_CLR_PIN = 0 ∧ held.get Reg.AO_STAT_CLR_PIN = 1
    ∧ held.ao.clrAt = some 0 ∧ held.ns < 0 + 1000000000 ∧ 0 + 1000000000 ≤ ({ held with tb := { TimeBase.zero with now := 10 ^ 9 * 2 ^ 32 } } : State).ns
    ∧ j.aoJudged 15 = true ∧ (j.aoCh 15).ep = false ∧ j.aoInWin 15 2 = some false ∧ j.aoInWin 15 (-1) = some true ∧ j.aoInWin 15 1 = some true
    ∧ (aoAt 3 AoCh.zero win).aoJudged 15 = false ∧ j.get (Reg.AO_CH_CFG_WIN_ACT 15) = 0
    ∧ (∀ k ∈ [1, 2, 3], (aoAt 3 AoCh.zero [(Reg.AO_CH_CFG_WIN_ACT 15, k), (Reg.AO_CH_CFG_EN 15, 1)]).get (Reg.AO_CH_CFG_WIN_ACT 15) = k)
    ∧ refs.get Reg.AO_CTRL_MON_EN = 1 ∧ refs.get (Reg.AO_REF_IN_WIN 7) = 1 ∧ refIn 7 2 = true ∧ refIn 7 3 = false ∧ refs.get (Reg.AO_REF_IN_WIN 0) = 0
    ∧ refIn 0 (-5) = true ∧ (up [(Reg.AO_CTRL_MON_EN, 0)]).get Reg.AO_CTRL_MON_EN = 0 := by decide +kernel

/-! ### Fabric -/

/-- A frame. -/
def frm (tc kind dst : Nat) (p : List (BitVec 8)) : Frame :=
  ⟨BitVec.ofNat 2 tc, BitVec.ofNat 4 kind, false, false, 0, BitVec.ofNat 12 dst, 7, false, 0, p⟩
/-- A hello of a root with UID `u`. -/
def hel (u : Nat) : Hello := ⟨u, 1, 1, 2, 0, 0, some 5, true, false, 128, 0, u, 5, 0⟩
/-- Port 3 in a state, with its parts and register fields. -/
def port (st : Nat) (x : Port) (l : List (Fld × Nat)) : State :=
  { up ([(Reg.FP_STAT_LSTATE 3, st), (Reg.ID_UID_LO, 9)] ++ l) with sw := { Switch.zero with ports := Switch.zero.ports.set 3 x, genLoaded := true } }
/-- The same with frames in the buffers. -/
def withBuf (s : State) (l : List BufF) : State := { s with sw := { s.sw with buf := l } }

theorem test_link_hyps :
    let z := Port.zero
    let old : BufF := ⟨4, frm 1 5 8 [], [3], false, 0, none⟩
    (∀ st ∈ [0, 1, 2, 3, 4, 5, 6], let s := port st z [(Reg.FP_CTRL_EN 3, 1)]
      invB s = true ∧ s.get (Reg.FP_STAT_LSTATE 3) = st ∧ s.sw.buf = [] ∧ s.get (Reg.FP_CTRL_EN 3) = 1 ∧ bits 0 4 1 = s.get (Reg.FP_CTRL_BLOCK 3) ∧ bit 3 0 = true)
    ∧ ¬ (port 0 z [(Reg.FP_CTRL_EN 3, 0)]).get (Reg.FP_CTRL_EN 3) = 1 ∧ (port 3 z []).sw.genLoaded = true ∧ State.reset.sw.genLoaded = false
    ∧ ((port 4 { z with hbuf := [[1]] } []).port 3).hbuf = [1] :: [] ∧ ((port 4 z []).port 3).hellos = 0 ∧ 1 ≤ ((port 4 { z with hellos := 1 } []).port 3).hellos
    ∧ max 1 ((port 4 z []).get Reg.ID_IFVER_FAB_MIN) ≤ min 2 ((port 4 z []).get Reg.ID_IFVER_FAB_MAX)
    ∧ min 255 ((port 4 z []).get Reg.ID_IFVER_FAB_MAX) < max 254 ((port 4 z []).get Reg.ID_IFVER_FAB_MIN)
    ∧ ((port 5 z []).port 3).got.length = 4 ∧ ((port 5 z []).port 3).sent.length = 4
    ∧ old ∈ (withBuf (port 5 z []) [old]).sw.buf ∧ 3 ∈ old.out ∧ old.f.tc.toNat = 1 ∧ old.f.kind ≠ 0
    ∧ State.reset.bypassOk = false ∧ (port 5 z []).sw.bypass = false
    ∧ (port 5 z [(Reg.FSW_CTRL_EN, 1), (Reg.FP_CTRL_EN 0, 1), (Reg.FP_CTRL_EN 1, 1)]).bypassOk = true := by decide +kernel

theorem test_frame_hyps :
    let z := Port.zero
    let s := port 5 z [(Reg.FP_STAT_ROLE 3, 1), (Reg.FSW_STAT_ADDR_VALID, 1), (Reg.FSW_STAT_ADDR, 4095), (Reg.FP_STAT_LSTATE 0, 5), (Reg.FP_STAT_ROLE 0, 2), (Reg.FSW_FWD_DIR 8, 1),
      (Reg.FSW_FWD_DIR 10, 6)]
    let here := frm 1 5 4095 []
    let fwd := frm 1 5 8 []
    let reply : Frame := { frm 3 4 4095 [0, 0, 0, 0, 0x80] with sgen := 1 }
    let stale := { s with sw := { s.sw with nodes := [⟨7, 1, 0, 0⟩] } }
    let rt (f : Frame) : Frame := { f with srcrt := true }
    let q := withBuf s [⟨4, fwd, [3], false, 0, none⟩]
    let r := withBuf s [⟨3, here, [], true, 0, none⟩]
    invB s = true ∧ invB q = true ∧ s.get (Reg.FP_STAT_LSTATE 3) = 5 ∧ ({ frm 1 5 0 [] with srcrt := true, bcast := true } : Frame).bcast = true
    ∧ (List.replicate 2032 (0 : BitVec 8)).length ≤ 2032 ∧ here.kind ≠ 0 ∧ here.tc = 1 ∧ here.kind.toNat ∈ [1, 2, 3, 5, 6, 10] ∧ s.get (Reg.FP_STAT_ROLE 3) ≠ 3
    ∧ here.kind ≠ 7 ∧ here.srcrt = false ∧ here.bcast = false ∧ s.addr = some here.dst.toNat ∧ s.isStale here = false ∧ stale.isStale reply = true ∧ reply.kind ≠ 10
    ∧ reply.tc = 3 ∧ reply.kind.toNat ∈ [4, 5, 9, 11] ∧ s.addr ≠ some fwd.dst.toNat ∧ s.dir 9 = 0 ∧ s.dir fwd.dst.toNat = 0 + 1 ∧ s.inTree 0 = true ∧ s.verCarries 0 fwd = true
    ∧ fwd.hop ≠ 4095 ∧ (rt (frm 1 5 0 [0, 0])).hop.toNat = pfield [0, 0] 0 2 ∧ (rt (frm 1 5 0 [1, 0, 3])).hop.toNat ≠ pfield [1, 0, 3] 0 2
    ∧ s.isUp (routePort [1, 0, 3] 0) = true ∧ s.isUp (routePort [1, 0, 1] 0) = false
    ∧ s.nextOut 3 = none ∧ q.nextOut 3 = some ⟨4, fwd, [3], false, 0, none⟩ ∧ r.sw.buf = [] ++ ⟨3, here, [], true, 0, none⟩ :: []
    ∧ s.get (Reg.FSW_FWD_DIR 10) = 6 ∧ s.get (Reg.FSW_FWD_STATIC 10) = 0 := by decide +kernel

theorem test_root_hyps :
    let z := Port.zero
    let nb := port 5 { z with nb := some (hel 3), hellos := 2 } [(Reg.FSW_STAT_UP_VALID, 1), (Reg.FSW_STAT_UP_PORT, 3)]
    let worse := port 5 { z with nb := some (hel 12) } []
    let alone := port 0 z [(Reg.FSW_CTRL_EN, 1)]
    let root := port 0 z [(Reg.FSW_STAT_ROOT, 1), (Reg.FSW_STAT_ROOT_VALID, 1)]
    let held := { alone with sw := { alone.sw with held := true } }
    let at_ (k : Nat) (b : Bool) := withBuf (port 5 z []) [⟨3, { frm 1 k 0 [] with bcast := b }, [], true, 0, none⟩]
    let addr := port 5 z [(Reg.FSW_STAT_ADDR_VALID, 1), (Reg.FSW_STAT_ADDR, 4095), (Reg.FSW_FWD_STATIC 8, 1), (Reg.FSW_FWD_DIR 10, 4)]
    let nodes := { addr with sw := { addr.sw with nodes := [⟨8, 3, 1, 0⟩], binds := [(3, 0, none), (4, 1, some 0)] } }
    let noaddr := port 5 z [(Reg.FSW_STAT_ROOT_VALID, 1), (Reg.FSW_ROOT_INFO_ADDR, 8), (Reg.FP_STAT_ROLE 3, 1), (Reg.FSW_FWD_DIR 8, 4)]
    ([nb, worse, alone, root, held, at_ 1 true, addr, nodes, noaddr].all invB) = true
    ∧ alone.get Reg.FSW_STAT_ROOT_VALID = 0 ∧ alone.vectors = [] ∧ alone.get Reg.FSW_CTRL_EN = 1 ∧ root.bestVector = none ∧ root.get Reg.FSW_STAT_ROOT = 1
    ∧ held.bestVector = none ∧ held.sw.held = true ∧ worse.bestVector = some (3, hel 12) ∧ worse.ownBeats (3, hel 12) = true
    ∧ nb.bestVector = some (3, hel 3) ∧ nb.ownBeats (3, hel 3) = false ∧ nb.isUp 3 = true ∧ nb.get (Reg.FP_CTRL_BLOCK 3) = 0 ∧ 2 ≤ (nb.port 3).hellos
    ∧ nb.get Reg.FSW_STAT_UP_VALID = 1 ∧ nb.get Reg.FSW_STAT_UP_PORT = 3
    ∧ ((at_ 2 false).takeRx 3 (fun f => f.kind.toNat == 2)).isSome = true ∧ ((at_ 1 true).takeRx 3 (fun f => f.kind.toNat == 1)).isSome = true
    ∧ ((at_ 3 false).takeRx 3 (fun f => f.kind.toNat == 3 && !f.bcast)).isSome = true ∧ ((at_ 3 true).takeRx 3 (fun f => f.kind.toNat == 3 && f.bcast)).isSome = true
    ∧ addr.get Reg.FSW_STAT_ADDR_VALID = 1 ∧ addr.addr = some 4095 ∧ (3 : Nat) < addr.uid ∧ addr.get (Reg.FSW_FWD_STATIC 8) = 1 ∧ addr.get (Reg.FSW_FWD_DIR 10) = 3 + 1
    ∧ nodes.sw.nodes.find? (fun x => x.addr == 8) = some ⟨8, 3, 1, 0⟩ ∧ nodes.sw.nodes.find? (fun x => x.uid == 3 && x.addr == 8) = some ⟨8, 3, 1, 0⟩
    ∧ noaddr.get Reg.FSW_STAT_ADDR_VALID = 0 ∧ noaddr.get Reg.FSW_STAT_ROOT_VALID = 1 ∧ noaddr.route (noaddr.get Reg.FSW_ROOT_INFO_ADDR) 4 = some [3]
    ∧ (port 5 z [(Reg.FSW_STAT_ROOT_VALID, 1)]).route ((port 5 z [(Reg.FSW_STAT_ROOT_VALID, 1)]).get Reg.FSW_ROOT_INFO_ADDR) 4 = none
    ∧ nodes.sw.binds.find? (fun b => b.1 == 3) = some (3, 0, none) ∧ nodes.chooseAddr 9 none = some 2 ∧ nodes.chooseAddr 9 (some 4095) = some 4095 := by decide +kernel

/-- A management frame: route, operation block, data. -/
def mgf (route : List (BitVec 8)) (op st tag a n : Nat) (data : List (BitVec 8)) : Frame :=
  frm 3 4 4095 (route ++ leBytes 1 op ++ leBytes 1 st ++ leBytes 2 tag ++ leBytes 4 a ++ leBytes 2 n ++ leBytes 2 0 ++ data)
/-- No route. -/
def here : List (BitVec 8) := [0, 0, 0, 0]
/-- One received frame at port 4. -/
def rx (s : State) (f : Frame) : State := withBuf s [⟨4, f, [], true, 0, none⟩]

theorem test_management_hyps :
    let z := Port.zero
    let s := port 5 z [(Reg.FSW_CTRL_MGMT, 1), (Reg.FSW_MGMT_ALLOW_EN 7, 1), (Reg.FSW_MGMT_ALLOW_ADDR 7, 7), (Reg.FSW_CTRL_RRST_EN, 0)]
    let open_ := port 5 z [(Reg.FSW_CTRL_MGMT, 0), (Reg.FSW_CTRL_RRST_EN, 1)]
    let asleep := port 5 z [(Reg.PWR_STAT_STATE, 3)]
    let shut := port 5 z [(Reg.FSW_CTRL_MGMT, 2)]
    let awake (x : State) := x.get Reg.PWR_STAT_STATE != 3 && x.get Reg.ID_BOOT_STAT_READY == 1
    let one (op a n : Nat) (d : List (BitVec 8)) := mgf here op 0 9 a n d
    let asks (q : Frame → Bool) (f : Frame) := ((rx s f).takeRx 4 (fun f => f.kind.toNat == 4 && !frameIsReply f && q f)).isSome && f.payload.length < 2033
    ([s, open_, asleep, shut].all invB) = true
    ∧ asks (fun f => mgOp f == 1 || mgOp f == 0 || decide (5 < mgOp f)) (one 1 0 4 []) = true
    ∧ asks (fun f => mgOp f == 1 || mgOp f == 0 || decide (5 < mgOp f)) (one 127 0 4 []) = true
    ∧ asks (fun f => mgOp f == 2) (one 2 0 512 []) = true ∧ asks (fun f => mgOp f == 3) (one 3 0 1 []) = true ∧ asks (fun f => mgOp f == 4) (one 4 0 1 [5]) = true
    ∧ asks (fun f => mgOp f == 5 && mgAddr f == 4) (one 5 4 0 []) = true ∧ asks (fun f => mgOp f == 2 && mgAddr f == 0x30000) (one 2 0x30000 4 [1]) = true
    ∧ asks (fun f => mgOp f == 5 && mgAddr f != 2 && mgAddr f != 4) (one 5 1 0 [0]) = true ∧ asks (fun f => mgOp f == 5 && mgAddr f == 2) (one 5 2 0 [31]) = true
    ∧ (rx s (one 1 0 4 [])).mgStatus (one 1 0 4 []) = 0 ∧ (rx s (one 1 0 4 [])).mgStatus (one 0 0 4 []) = 3
    ∧ mgOp (one 0 0 4 []) = 0 ∧ 5 < mgOp (one 6 0 4 []) ∧ awake s = true ∧ awake open_ = true ∧ awake shut = true ∧ awake asleep = false
    ∧ mgOp (one 3 0 1 []) = 3 ∧ mgOp (one 1 0x10000 4 []) = 1 ∧ 0x10000 ≤ mgAddr (one 2 0xBFFFC 4 []) ∧ mgAddr (one 2 0xBFFFC 4 []) < 0xC0000
    ∧ mgLen (one 1 0 3 []) = 3 ∧ mgAddr (one 1 0xFFFFFC 4 []) + mgLen (one 1 0xFFFFFC 4 []) = 2 ^ 24 ∧ mgAddr (one 3 0x7FFFF 1 []) + 1 = 0x80000
    ∧ ¬ mgAddr (one 3 0x7FFFF 2 []) + mgLen (one 3 0x7FFFF 2 []) ≤ 0x80000 ∧ mgAddr (one 5 3 0 []) = 3 ∧ mgWord (one 5 1 0 [31]) 0 = 31 ∧ mgWord (one 5 2 0 [32]) 0 = 32
    ∧ s.get Reg.FSW_CTRL_MGMT = 1 ∧ (one 2 0 4 []).noaddr = false ∧ s.get (Reg.FSW_MGMT_ALLOW_EN 7) = 1 ∧ s.get (Reg.FSW_MGMT_ALLOW_ADDR 7) = (one 2 0 4 []).src.toNat
    ∧ open_.get Reg.FSW_CTRL_MGMT = 0 ∧ shut.get Reg.FSW_CTRL_MGMT = 2 ∧ 0x40000 ≤ mgAddr (one 2 0x3FFFC 8 []) + 8 - 1 ∧ mgAddr (one 2 0x33FFFC 4 []) < 0x340000
    ∧ open_.get Reg.FSW_CTRL_RRST_EN = 1 ∧ s.get Reg.FSW_CTRL_RRST_EN = 0 ∧ mgLen (one 1 0 4 []) = 4 ∧ s.sramSpoilt (exchBase + 0x7FFFF) 1 = none
    ∧ ((one 4 0 1 [5]).payload.drop (opBlock (one 4 0 1 [5]).payload + 12)).length = mgLen (one 4 0 1 [5])
    ∧ s.domOn 3 = true ∧ pfield (mgf [1, 0, 3, 0] 1 0 9 0 4 []).payload 0 2 = 1 ∧ s.isUp 3 = true := by decide +kernel

theorem test_mailbox_hyps :
    let z := Port.zero
    let s := port 5 z []
    let mbx (l : List (Fld × Nat)) (t : List (Nat × Option Nat)) : State := let x := port 5 z l; { x with sw := { x.sw with mbxTag := t } }
    let busy := mbx [(Reg.FSW_MBX_STAT_STATE 3, 1)] [(3, some 9)]
    let reply := mgf here 0x81 0 9 0 4 [1, 2, 3, 4]
    let ring (l : List (Fld × Nat)) := port 5 z ([(Reg.FSW_URX_CFG_COUNT, 4)] ++ l)
    let took (f : Frame) (k : Nat) := ((rx s f).takeRx 4 (fun f => f.kind.toNat == k)).isSome
    ([s, rx s reply, rx busy reply, busy, ring []].all invB) = true
    ∧ busy.get (Reg.FSW_MBX_STAT_STATE 3) = 1 ∧ s.get (Reg.FSW_MBX_STAT_STATE 3) ≠ 1
    ∧ pfield here 0 2 = 0 ∧ pfield [1, 0, 3, 0] 0 2 ≠ 0 ∧ s.isUp (routePort [1, 0, 3, 0] 0) = true ∧ s.isUp (routePort [1, 0, 2, 0] 0) = false
    ∧ ((rx s reply).takeRx 4 (fun f => f.kind.toNat == 4 && frameIsReply f)).isSome = true ∧ (∀ k, k < 4 → ¬((rx s reply).get (Reg.FSW_MBX_STAT_STATE k) = 1))
    ∧ ((rx busy reply).takeRx 4 (fun f => f.kind.toNat == 4 && frameIsReply f)).isSome = true ∧ Tbl.get none busy.sw.mbxTag 3 = some (pfield reply.payload (opBlock reply.payload + 2) 2)
    ∧ (∀ k, k < 3 → busy.get (Reg.FSW_MBX_STAT_STATE k) ≠ 1)
    ∧ took (frm 1 5 4095 [1]) 5 = true ∧ took (frm 1 6 4095 [1]) 6 = true
    ∧ s.get Reg.FSW_URX_CFG_COUNT = 0 ∧ ¬ ((ring []).get Reg.FSW_URX_PROD + 1) % 4 = (ring []).get Reg.FSW_URX_CONS % 4
    ∧ ((ring [(Reg.FSW_URX_PROD, 3)]).get Reg.FSW_URX_PROD + 1) % 4 = (ring [(Reg.FSW_URX_PROD, 3)]).get Reg.FSW_URX_CONS % 4
    ∧ s.linkOpen = true ∧ s.domOn 13 = true ∧ ¬ State.reset.linkOpen = true ∧ s.sramSpoilt (exchBase + 0x7F000) 4096 = none := by decide +kernel

theorem test_fabric_time_hyps :
    let z := Port.zero
    let m (x : Port) (l : List (Fld × Nat)) (t : TimeBase) : State := { port 5 x ([(Reg.FP_STAT_ROLE 3, 1), (Reg.TB_STAT_ROOT, 0)] ++ l) with tb := t }
    let t0 := TimeBase.zero
    let s := m z [] t0
    let tf (typ fl seq : Nat) := frm 0 7 4095 (timeFrameBytes typ fl seq 5 0 0 7 1)
    let rx3 (s : State) (f : Frame) := withBuf s [⟨3, f, [], true, 0, none⟩]
    let marked := m { z with mark := some (9, 70000), delays := [65536] } [] t0
    let ddd := m { z with dreq := some (9, 1000), pair := some 5 } [] t0
    let four := m { z with nDelay := 4, budgetAt := some 0 } [(Reg.TB_STAT_SERVO, 2)] { t0 with now := 1000 * 2 ^ 32 }
    let four' := m { z with nDelay := 4 } [(Reg.TB_STAT_SERVO, 2)] t0
    let lost : State := let s := four'; { s with sw := { s.sw with refLost := true } }
    let gone := m z [(Reg.TB_STAT_SERVO, 2), (Reg.FSW_STAT_UP_VALID, 0)] t0
    let step := m z [] { t0 with step := some (7, 1), stepSeen := [7], now := 8 * 2 ^ 32 }
    let early := m z [] { t0 with step := some (9, 1), now := 8 * 2 ^ 32 }
    let typ (s : State) (k : Nat) := (s.takeRx 3 (fun f => f.kind.toNat == 7 && pfield f.payload 0 1 == k)).isSome
    ([s, marked, ddd, four, four', lost, gone, step, early, rx3 marked (tf 1 0 9), rx3 ddd (tf 2 0 9), rx3 s (tf 3 0 0)].all invB) = true
    ∧ ¬ (port 4 z []).get (Reg.FP_STAT_LSTATE 3) = 5 ∧ s.get (Reg.FP_STAT_LSTATE 3) = 5 ∧ s.get (Reg.FP_STAT_ROLE 3) = 1 ∧ (port 5 z [(Reg.FP_STAT_ROLE 3, 2)]).get (Reg.FP_STAT_ROLE 3) = 2
    ∧ (s.port 3).mark = none ∧ (marked.port 3).mark ≠ none ∧ typ s 1 = false ∧ typ s 2 = false ∧ typ s 3 = false
    ∧ typ (rx3 marked (tf 1 0 9)) 1 = true ∧ typ (rx3 s (tf 1 1 9)) 1 = true ∧ typ (rx3 ddd (tf 2 0 9)) 2 = true ∧ typ (rx3 s (tf 3 0 0)) 3 = true
    ∧ (marked.port 3).mark = some (pfield (tf 1 0 9).payload 2 2, 70000) ∧ (9 : Nat) ≠ pfield (tf 1 0 8).payload 2 2 ∧ (marked.port 3).delays ≠ [] ∧ bit (pfield (tf 1 1 9).payload 1 1) 0 = true
    ∧ s.get Reg.TB_CTRL_REF = 0 ∧ four.get Reg.TB_STAT_ROOT = 0 ∧ 4 ≤ (four.port 3).nDelay ∧ ¬ 4 ≤ (s.port 3).nDelay ∧ four.servo = 2 ∧ four.sw.refLost = false
    ∧ (four.port 3).budgetAt = some 0 ∧ four.ns < 0 + 1000000000 ∧ (four'.port 3).budgetAt = none ∧ lost.sw.refLost = true
    ∧ (ddd.port 3).dreq = some (pfield (tf 2 0 9).payload 2 2, 1000) ∧ (ddd.port 3).pair = some 5 ∧ (s.port 3).dreq = none ∧ (9 : Nat) ≠ pfield (tf 2 0 8).payload 2 2
    ∧ gone.get Reg.FSW_STAT_UP_VALID = 0 ∧ gone.servo = 2 ∧ gone.sw.refLost = false ∧ ¬ s.servo = 2
    ∧ 7 ∈ step.tb.stepSeen ∧ 7 ∉ s.tb.stepSeen ∧ s.tb.step = none ∧ early.tb.step = some (9, 1) ∧ early.ns < 9 ∧ step.tb.step = some (7, 1) ∧ 7 ≤ step.ns := by decide +kernel

/-- A stream frame: SID byte, rate code, first channel, channels, frames, BSEQ, stamp, samples. -/
def stf (sid rate ch0 nch nfr seq ns : Nat) (l : List (BitVec 8)) : Frame :=
  frm 1 8 4095 (leBytes 1 sid ++ leBytes 1 rate ++ leBytes 1 ch0 ++ leBytes 1 nch ++ leBytes 2 nfr ++ leBytes 2 seq ++ leBytes 8 ns ++ leBytes 8 0 ++ l)
/-- Services with these changes. -/
def withSv (s : State) (f : Services → Services) : State := { s with sv := f s.sv }

theorem test_stream_hyps :
    let z := Port.zero
    let s := port 5 z [(Reg.FSW_STAT_ADDR_VALID, 1), (Reg.FSW_STAT_ADDR, 4095)]
    let on := port 5 z [(streamEn true 3 7, 1), (streamEn false 3 7, 1), (Reg.FP_STX_CNTM1 3 7, 127), (Reg.FP_SRX_CNTM1 3 7, 127)]
    let word (first cntm1 dst : Nat) : Nat := 1 + 2 * first + 2 ^ 8 * cntm1 + 2 ^ 20 * dst
    let st (l : List (Fld × Nat)) (x : RxStream) := withSv (port 5 z l) (fun v => { v with inForce := [(16 * 3 + 7, 1 + 2 ^ 8 * 127 + 2 ^ 17 * 7 + 2 ^ 20 * 7)], streams := v.streams.set 31 x })
    let x0 : RxStream := ⟨none, false, false, 0⟩
    let run := st [(Reg.AL_SCH_STAT_STATE, 2)] x0
    let run := { run with sch := { run.sch with next := 2 } }
    let bad := stf 7 0 0 1 1 9 0 []
    let good := stf 7 3 127 2 1 9 0 [1, 2, 3, 4, 5, 6]
    let took (q : Frame → Bool) (f : Frame) := ((rx s f).takeRx 4 (fun f => f.kind.toNat == 8 && q f)).isSome
    let hits (s : State) (x : Nat) := let w := s.strm false (x / 8) (x % 8)
      w % 2 == 1 && bits w 20 12 == good.src.toNat && bits w 15 2 == 7 / 8 % 4 && bits w 17 3 == 7 % 8
    let q : Partner := ⟨7, 7, [1], true, none, 0⟩
    ([s, on, st [] x0, run, rx s good].all invB) = true
    ∧ s.get (streamEn true 3 7) = 0 ∧ on.get (streamEn true 3 7) = 1 ∧ on.get (streamEn false 3 7) = 1 ∧ word 0 127 0 % 2 = 1
    ∧ (∀ f ∈ streamFld true 3 7, on.get f = bits (word 0 127 0) f.lsb f.w) ∧ (∀ f ∈ streamFld false 3 7, on.get f = bits (word 0 127 0) f.lsb f.w)
    ∧ ¬ (∀ f ∈ streamFld true 3 7, on.get f = bits (word 0 126 0) f.lsb f.w)
    ∧ ¬ 4 ≤ s.get Reg.TB_CTRL_FS ∧ 128 < bits (word 1 127 0) 1 7 + (bits (word 1 127 0) 8 7 + 1) ∧ ¬ 128 < bits (word 0 127 0) 1 7 + (bits (word 0 127 0) 8 7 + 1)
    ∧ s.get Reg.FSW_STAT_ADDR_VALID = 1 ∧ s.get Reg.FSW_STAT_ADDR = bits (word 0 0 4095) 20 12 ∧ bits (word 0 0 4095) 15 1 = 0
    ∧ (127 : Nat) < (on.streamRun true 3 7).1 + (on.streamRun true 3 7).2 ∧ (on.streamRun true 3 7).1 < 127 + 1 ∧ on.get (streamEn true 3 0) = 0
    ∧ (∀ o, o < 8 → s.get (streamEn true 3 o) = 0 ∧ s.get (streamEn false 3 o) = 0)
    ∧ took (fun f => !bit (pfield f.payload 0 1) 5) good = true ∧ took (fun f => bit (pfield f.payload 0 1) 5) (stf 0x27 3 0 1 1 0 0 [1, 2, 3]) = true ∧ (s.takeRx 4 (fun _ => true)).isSome = false
    ∧ (∀ x, x < 32 → hits s x = false) ∧ hits (st [] x0) 31 = true ∧ (∀ x, x < 31 → hits (st [] x0) x = false)
    ∧ pfield bad.payload 1 1 % 8 ≠ s.get Reg.TB_CTRL_FS ∧ pfield good.payload 1 1 % 8 = s.get Reg.TB_CTRL_FS
    ∧ (∀ b : Bool, (st [] ⟨none, b, b, 0⟩).rxStream 31 = ⟨none, b, b, 0⟩) ∧ 31 < (st [] x0).sv.streams.length ∧ (pfield good.payload 6 2 + 1) % 65536 = 10
    ∧ run.schState ≠ 0 ∧ (run.stampFrame (pfield good.payload 8 8) + run.inputAlign 0 128 3) / run.blockLen < run.sch.next ∧ ¬ s.schState ≠ 0
    ∧ pfield good.payload 4 2 = 1 ∧ pfield good.payload 3 1 = 2 ∧ pfield good.payload 2 1 + 0 < 128 ∧ (0 : Nat) < 65536 ∧ 0 ≠ pfield good.payload 6 2
    ∧ [q].find? (fun q => q.active && q.pid == 7 && q.node == 7) = some q := by decide +kernel

/-- A spill message. -/
def spf (msg pid num h st fs block sl nret : Nat) (l : List (BitVec 8)) : Frame :=
  frm 3 10 4095 (leBytes 1 msg ++ leBytes 1 pid ++ leBytes 2 num ++ leBytes 4 h ++ leBytes 1 st ++ leBytes 1 fs ++ leBytes 1 block ++ leBytes 1 sl
    ++ leBytes 1 nret ++ leBytes 3 0 ++ l)

theorem test_spill_hyps :
    let z := Port.zero
    let fl : Flight := ⟨0, 15, 0, 0x20, 0, false⟩
    let c : TCmd := ⟨fl, .ring, 0, 0, none, 0, false⟩
    let q : Partner := ⟨7, 7, [1], true, none, 0⟩
    let asked : Partner := ⟨7, 7, [1], false, some (c, 5, 0), 0⟩
    let r : SpillRec := ⟨255, 7, 63, 3, 0, 4, none, none, 0, 0⟩
    let waits : SpillRec := { r with cmd := some (c, 5) }
    let lane : Lane := ⟨7, 7, 3, 1, [], false, 0⟩
    let s := port 5 z [(Reg.AL_SCH_STAT_STATE, 2), (Reg.AL_CTRL_CAST_EN, 1), (Reg.AL_SCH_CTRL_BLOCK, 1)]
    let idle := port 5 z [(Reg.AL_SCH_STAT_STATE, 0), (Reg.AL_SCH_CTRL_BLOCK, 1)]
    let full := withSv s (fun v => { v with lanes := List.replicate 8 { lane with node := 9 } })
    let both := withSv s (fun v => { v with partners := [q], recs := [r], lanes := [lane] })
    let wait := withSv s (fun v => { v with partners := [asked], recs := [waits] })
    let cast := withSv s (fun v => { v with partners := [q], recs := [waits] })
    let late : State := { wait with tb := { wait.tb with now := 10000000 * 2 ^ 32 } }
    let tmo (s : State) := 100000 * max 1 (s.get Reg.FSW_TIMING_REQ_TMO)
    let est (fs block : Nat) := spf 1 7 0 0 0 fs block 1 1 []
    let took (f : Frame) (k : Nat) := ((rx s f).takeRx 4 (fun f => f.kind.toNat == 10 && pfield f.payload 0 1 == k)).isSome
    let part (s : State) (f : Frame) := s.sv.partners.find? (fun q => q.pid == pfield f.payload 1 1 && q.node == f.src.toNat)
    let served (s : State) (f : Frame) := s.sv.lanes.find? (fun l => l.node == f.src.toNat && l.pid == pfield f.payload 1 1)
    let ends (h : Bool) := s.setGroup 63 { s.group 63 with cfg1 := if h then 0x80000000 else 0 }
    ([s, idle, full, both, wait, cast, late, rx s (est 3 1)].all invB) = true
    ∧ (∀ k ∈ [1, 2, 3, 4, 5, 6, 7, 8], took (spf k 7 0 0 0 0 0 0 0 []) k = true ∧ took (spf 9 7 0 0 0 0 0 0 0 []) k = false)
    ∧ pfield (est 3 1).payload 9 1 = s.get Reg.TB_CTRL_FS ∧ pfield (est 3 1).payload 10 1 = s.get Reg.AL_SCH_CTRL_BLOCK ∧ pfield (est 2 1).payload 9 1 ≠ s.get Reg.TB_CTRL_FS
    ∧ s.schState = 2 ∧ s.get Reg.AL_CTRL_CAST_EN = 1 ∧ ¬ idle.schState = 2 ∧ 8 ≤ (full.sv.lanes.filter (fun x => !(x.node == 7 && x.pid == 7))).length
    ∧ ¬ 8 ≤ (both.sv.lanes.filter (fun x => !(x.node == 7 && x.pid == 7))).length
    ∧ part s (spf 2 7 0 0 0 0 0 0 0 []) = none ∧ part both (spf 2 7 0 0 0 0 0 0 0 []) = some q ∧ part wait (spf 2 7 0 0 0 0 0 0 0 []) = some asked
    ∧ served both (spf 4 7 0 0 0 0 0 0 0 []) = some lane ∧ served s (spf 4 7 0 0 0 0 0 0 0 []) = none ∧ (∀ r ∈ s.sv.recs, r.pid ≠ q.pid)
    ∧ pfield (spf 5 7 0 0 0 0 0 0 0 []).payload 4 4 = s.boundUid 0 ∧ pfield (spf 5 7 0 1 0 0 0 0 0 []).payload 4 4 ≠ s.boundUid 0
    ∧ s.recOf (spf 6 7 255 0 0 0 0 0 0 []) = none ∧ both.recOf (spf 6 7 255 0 0 0 0 0 0 []) = some r ∧ cast.recOf (spf 6 7 255 0 0 0 0 0 0 []) = some waits
    ∧ pfield (spf 6 7 255 0 1 0 0 0 0 []).payload 8 1 ≤ 1 ∧ ¬ pfield (spf 6 7 255 0 2 0 0 0 0 []).payload 8 1 ≤ 1
    ∧ (∀ k ∈ [0, 1, 2, 3, 4, 255], pfield (spf 8 7 255 0 k 0 0 0 0 []).payload 8 1 = k) ∧ ((ends true).group 63).endEvt = true ∧ ((ends false).group 63).endEvt = false
    ∧ both.sv.partners.find? (fun q => q.pid == 7) = some q ∧ wait.sv.partners.find? (fun q => q.pid == 7) = some asked ∧ wait.ns < 0 + tmo wait ∧ 0 + tmo late ≤ late.ns
    ∧ both.sv.recs.find? (fun r => r.num == 255 && r.pid == 7) = some r ∧ late.sv.recs.find? (fun r => r.num == 255 && r.pid == 7) = some waits
    ∧ s.sv.recs.find? (fun r => r.num == 255 && r.pid == 7) = none := by decide +kernel

/-- A migration message. -/
def mgm (msg part session srcH dstH flags status ctx : Nat) (l : List (BitVec 8)) : Frame :=
  frm 3 9 4095 (leBytes 1 msg ++ leBytes 1 part ++ leBytes 2 session ++ leBytes 4 srcH ++ leBytes 4 dstH ++ leBytes 8 0 ++ leBytes 8 0 ++ leBytes 1 63
    ++ leBytes 1 flags ++ leBytes 1 status ++ leBytes 1 ctx ++ l)
/-- A session of entry 255 with node 7. -/
def srcS : MigSrc := ⟨9, 3, 255, 1, 7, 63, false, false, 10, false, some 0, none, false, none, false⟩
/-- Its other side. -/
def dstS : MigDst := ⟨9, 7, 255 + 65536, 1000, 0, 63, 0, 0, some [2], some [], none, false⟩

theorem test_migration_hyps :
    let z := Port.zero
    let s := port 5 z []
    let src (x : MigSrc) := withSv (port 5 z []) (fun v => { v with src := [x] })
    let dst (y : MigDst) := withSv (port 5 z []) (fun v => { v with dst := [y] })
    let tx (x : MigSrc) := src { x with dst := some 5 }
    let held (y : MigDst) := dst { y with ent := some (255, 1) }
    let kept (st gen : Nat) := (held dstS).setEnt 255 { Voice.free gen with st := st }
    let later (s : State) : State := { s with tb := { s.tb with now := 5000000000 * 2 ^ 32 } }
    let m (i : Nat) := mgm i 0 9 (255 + 65536) (255 + 65536) 0 0 0 []
    let took (s : State) (f : Frame) (i : Nat) := ((rx s f).takeRx 4 (fun f => f.kind.toNat == 9 && pfield f.payload 0 1 == i)).isSome
    let handle (x : MigSrc) := x.ent + 65536 * x.gen
    let srcOf (u : State) (f : Frame) := u.sv.src.find? (fun x => x.session == pfield f.payload 2 2 && x.peer == f.src.toNat && handle x == pfield f.payload 4 4
      && x.sent.isSome && !x.ended)
    let dstOf (u : State) (f : Frame) := u.sv.dst.find? (fun y => y.session == pfield f.payload 2 2 && y.peer == f.src.toNat && y.src == pfield f.payload 4 4)
    let tmo := 100000 * max 1 (s.get Reg.FSW_TIMING_REQ_TMO)
    ([s, src srcS, dst dstS, tx srcS, held dstS, kept 7 1, later (src srcS), rx (dst dstS) (m 1)].all invB) = true
    ∧ (∀ i ∈ [1, 2, 3, 4, 5, 6, 7], took s (m i) i = true ∧ took s (m 8) i = false)
    ∧ dstOf s (m 1) = none ∧ dstOf (dst dstS) (m 1) = some dstS ∧ srcOf s (m 2) = none ∧ srcOf (src srcS) (m 2) = some srcS ∧ srcS.dst = none
    ∧ srcOf (tx srcS) (m 5) = some { srcS with dst := some 5 } ∧ s.tu < s.opening srcS.jx ∧ (later s).opening srcS.jx ≤ (later s).tu
    ∧ s.tu ≤ s.opening srcS.jx ∧ (later s).opening srcS.jx < (later s).tu
    ∧ srcOf (src { srcS with parked := true }) (m 3) = some { srcS with parked := true } ∧ pfield (mgm 3 0 9 0 0 0 0x11 0x32 []).payload 30 1 = 0x11
    ∧ dstOf (held { dstS with flags := 2 }) (m 4) = some { dstS with flags := 2, ent := some (255, 1) } ∧ 2 / 2 % 2 = 1 ∧ s.sch.next ≤ s.stampBlk dstS.tx
    ∧ ¬ ({ s with sch := { s.sch with next := 9 } } : State).sch.next ≤ ({ s with sch := { s.sch with next := 9 } } : State).stampBlk dstS.tx
    ∧ (held { dstS with committed := true }).sv.dst = [{ dstS with committed := true, ent := some (255, 1) }]
    ∧ 2 ≤ (port 5 z [(Reg.AL_SCH_STAT_STATE, 2)]).schState ∧ ((kept 7 1).ent 255).gen = 1 ∧ ((kept 7 1).ent 255).st = 7 ∧ ¬ (((kept 7 2).ent 255).gen = 1)
    ∧ s.lookup (pfield (m 6).payload 8 4) = none ∧ (∀ st ∈ [0, 2, 3, 5], (kept st 1).lookup (pfield (m 6).payload 8 4) = some 255 ∧ ((kept st 1).ent 255).st = st)
    ∧ (∀ k ∈ [0, 1, 2], pfield (mgm 7 k 9 0 0 0 0 0 []).payload 1 1 = k)
    ∧ (dst { dstS with flags := 2 }).sv.dst.find? (fun y => y.session == 9 && y.peer == 7 && bit y.flags 1 && !y.committed) = some { dstS with flags := 2 }
    ∧ (src srcS).sv.src.find? (fun x => x.session == 9 && x.peer == 7 && !x.ended) = some srcS ∧ srcS.bad = none ∧ srcS.sent = some 0 ∧ 0 + tmo ≤ (later (src srcS)).ns
    ∧ ¬ 0 + tmo ≤ s.ns ∧ ((kept 6 1).ent srcS.ent).st = 6 ∧ ((kept 6 1).ent srcS.ent).gen = srcS.gen
    ∧ (port 5 z [(Reg.FSW_FWD_DIR 7, 6)]).route srcS.peer 4 = some [] ∧ (port 5 z [(Reg.FSW_FWD_DIR 7, 4), (Reg.FP_STAT_ROLE 3, 1)]).route srcS.peer 4 = some [3]
    ∧ (port 5 z []).get (Reg.FP_STAT_VER 3) ≠ 1 := by decide +kernel

theorem test_offer_hyps :
    let s := port 5 Port.zero []
    let full := (List.range 64).foldl (fun s q => s.setPark q { Voice.free 0 with st := 5 }) s
    let lim (n : Nat) := (s.setGroup 63 { s.group 63 with cfg0 := 0x148000 + n }).setSlot 0 { Voice.free 0 with st := 2, group := 63 }
    let two : List (BitVec 8) := [2] ++ []
    ([s, full, lim 0, lim 1].all invB) = true ∧ dstS.part0 = some [2] ∧ dstS.part1 = some [] ∧ dstS.ent = none
    ∧ s.get Reg.ID_IFVER_CTX_MIN ≤ ctxField two 0 1 ∧ ctxField two 0 1 ≤ s.get Reg.ID_IFVER_CTX_MAX ∧ ¬ s.get Reg.ID_IFVER_CTX_MIN ≤ ctxField [1] 0 1
    ∧ ¬ ctxField [4] 0 1 ≤ s.get Reg.ID_IFVER_CTX_MAX ∧ s.ctxMissing two = none ∧ (s.ctxMissing (3 :: List.replicate 63 1)).isSome = true
    ∧ s.stampBlk dstS.tx ≤ 5 ∧ ¬ s.stampBlk 1000000000 ≤ 5 ∧ (∀ q, q < 64 → (full.park q).st ≠ 0) ∧ (∀ q, q < 64 → (s.park q).st = 0)
    ∧ (lim 0).placeArriving 63 (ctxVoice two).key false = .none ∧ s.placeArriving 63 (ctxVoice two).key false = .free 0
    ∧ (lim 1).placeArriving 63 (ctxVoice two).key false = .steal 0 := by decide +kernel

theorem test_host_side_hyps :
    let s := ringUp []
    let ring (st loc : Nat) := ringUp [(Reg.HI_RING_STAT_STATE 15, st), (Reg.HI_RING_CFG_LOC 15, loc)]
    let hif (b d p : Bool) (s : State) : State := { s with hi := { s.hi with bme := b, d3hot := d, perst := p } }
    let c : TCmd := ⟨⟨0, 15, 0, 4, 0, false⟩, .ring, 0, 0, none, 0, false⟩
    let queued : State := { hif false false true s with sch := { s.sch with queue := [c] } }
    let eqs := s.setQueue 7 { s.queue 7 with on := true }
    let link (up : Nat) := ringUp [(Reg.HI_STAT_LINK_UP, up), (Reg.HI_STAT_SPEED, 3), (Reg.HI_STAT_WIDTH, 2)]
    let hold : State := { s with hi := { s.hi with heldDesc := [(15, some 0)] } }
    ([s, ring 2 1, ring 3 0, hif false true true s, queued, eqs, link 1, hold].all invB) = true
    ∧ s.hi.perst = false ∧ (hif false false true s).hi.perst = true ∧ s.get (Reg.HI_RING_CFG_LOC 15) = 0 ∧ (ring 2 1).get (Reg.HI_RING_CFG_LOC 15) = 1
    ∧ (link 1).get Reg.HI_STAT_LINK_UP = 1 ∧ (link 0).get Reg.HI_STAT_LINK_UP = 0 ∧ (link 1).get Reg.HI_STAT_SPEED = 3 ∧ (link 1).get Reg.HI_STAT_WIDTH = 2
    ∧ s.get (Reg.EQ_Q_CFG_LOC 7) = 0 ∧ (up [(Reg.EQ_Q_CFG_LOC 7, 1)]).get (Reg.EQ_Q_CFG_LOC 7) = 1 ∧ (eqs.queue 7).on = true ∧ (s.queue 7).on = false
    ∧ (∀ n, n < 7 → (eqs.queue n).on = false) ∧ eqs.hostBlocked = false ∧ (hif false false false eqs).hostBlocked = true ∧ (hif true true false eqs).hostBlocked = true
    ∧ (ring 2 0).get (Reg.HI_RING_STAT_STATE 15) = 2 ∧ (ring 3 0).get (Reg.HI_RING_STAT_STATE 15) = 3 ∧ (ring 1 0).get (Reg.HI_RING_STAT_STATE 15) = 1
    ∧ (ring 2 0).heldAt 15 = none ∧ (ring 2 0).hi.bme = true ∧ (ring 2 0).hi.d3hot = false ∧ hold.heldAt 15 ≠ none ∧ c.fl.ring < 16 := by decide +kernel

theorem test_power_hyps :
    let p (st : Nat) (l : List (Fld × Nat)) := up ([(Reg.PWR_STAT_STATE, st), (Reg.PWR_STAT_BUSY, 0)] ++ l)
    let s := p 1 []
    let run := p 0 [(Reg.AL_SCH_STAT_STATE, 2)]
    let busy := p 0 [(Reg.PWR_STAT_BUSY, 1)]
    let rg (st : Nat) : State := { ringUp [(Reg.PWR_STAT_STATE, st)] with hi := { HostIf.zero with bme := true } }
    let x (sub a : Nat) := dsc [(0, 0x70), (16, sub), (20, a), (24, if a = 2 then 31 else 0)]
    let md (sub a : Nat) := rejectOf 3 (x sub a).toNat == none && dfield (x sub a).toNat 0 1 == 0x70 && dfield (x sub a).toNat 16 1 == sub && dfield (x sub a).toNat 20 1 == a
    let dma (s : State) : State := { s with ser := { Ser.zero with uarts := Ser.zero.uarts.set 3 { Uart.zero with run := some (⟨⟨0, 15, 0, 0x40, 0, false⟩, 0, 0, [1], false⟩, 0, true) } } }
    let w (st : Nat) (d : Down) (b h : Bool) : State := { p st [] with pw := { Power.zero with booting := b, down := d, hot := h } }
    ([s, run, busy, rg 0, dma s, w 2 .no false false, w 5 .brown true true].all invB) = true
    ∧ s.get Reg.PWR_STAT_STATE = 1 ∧ busy.get Reg.PWR_STAT_BUSY = 1 ∧ s.linkOpen = true ∧ s.get Reg.ID_BOOT_STAT_READY = 1
    ∧ run.schState ≠ 0 ∧ s.schState = 0 ∧ s.upd = none ∧ s.hi.dmas = [] ∧ s.loads = [] ∧ s.sv.src = [] ∧ s.sv.dst = [] ∧ s.ms.test = none
    ∧ (s.ser.uarts.all (fun a => a.run == none && a.txq == [])) = true ∧ ((dma s).ser.uarts.all (fun a => a.run == none)) = false
    ∧ (rg 0).ringState 15 = 2 ∧ (rg 0).queueLen < 4096 ∧ (rg 0).get (Reg.HI_RING_STAT_VER 15) = 3 ∧ md 1 0 = true ∧ md 1 3 = true ∧ md 1 5 = true ∧ md 2 1 = true ∧ md 2 2 = true
    ∧ dfield (x 1 5).toNat 8 8 ≤ (rg 0).ns ∧ s.st.cur = none ∧ run.pw.due = none
    ∧ (∀ p, p < 4 → (up [(Reg.FP_CTRL_EN p, 0)]).get (Reg.FP_CTRL_EN p) = 0)
    ∧ s.get (Reg.TB_WCAP_STAT_PRESENT 0) = 0 ∧ s.get (Reg.TB_WCAP_STAT_PRESENT 1) = 0
    ∧ (∀ n ∈ [0, 1], (p 1 [(Reg.TB_WCAP_STAT_PRESENT n, 1)]).get (Reg.TB_WCAP_STAT_PRESENT n) = 1)
    ∧ (w 2 .no false false).pw.down = .no ∧ (w 2 .no false false).pw.booting = false ∧ (w 2 .no false false).get Reg.PWR_STAT_STATE = 2 ∧ (w 2 .no true false).pw.booting = true
    ∧ (w 4 .brown false true).pw.down ≠ .no ∧ (w 4 .no false true).pw.hot = true ∧ busy.pw.latched = 0
    ∧ (p 2 [(Reg.PWR_WAKE_CFG_WAKE_PIN, 1)]).get Reg.PWR_WAKE_CFG_WAKE_PIN = 1 ∧ (p 2 [(Reg.PWR_WAKE_CFG_ALARM, 1)]).get Reg.PWR_WAKE_CFG_ALARM = 1 ∧ s.pw.alarm ≤ s.ns
    ∧ (p 2 [(Reg.PWR_WAKE_CFG_PCIE, 1)]).get Reg.PWR_WAKE_CFG_PCIE = 1 ∧ (p 2 [(Reg.PWR_WAKE_CFG_UART, 8)]).get Reg.PWR_WAKE_CFG_UART / 2 ^ 3 % 2 = 1 := by decide +kernel

theorem test_domain_hyps :
    let s (l : List (Fld × Nat)) := up ([(Reg.PWR_DOM_EN, 0x1FFFF)] ++ l)
    let bench (c : Nat) (l : List (Fld × Nat)) := s ((List.range 4).map (fun i => (Reg.CH_STAT_STATE (4 * c + i), 5)) ++ l)
    let same (z : State) (w e : Nat) := bit w e == bit (z.get Reg.PWR_DOM_EN) e
    let pw (l : List (Option Flight × List Nat)) : State := { s [] with pw := { Power.zero with booting := false, clusters := l } }
    let fl : Flight := ⟨0, 15, 0, 0x70, 0, false⟩
    ([s [], bench 3 [], pw [(some fl, [3])]].all invB) = true
    ∧ (s []).get Reg.PWR_STAT_STATE < 2 ∧ (∀ e, e < 17 → same (s []) 0x1FFFF e = true) ∧ (∀ e, e < 17 → e ≠ 8 → same (s []) 0x1FEFF e = true) ∧ same (s []) 0x1FEFF 8 = false
    ∧ (s []).domFree 8 = some false ∧ (bench 0 []).domFree 8 = some true ∧ (bench 3 []).domFree 11 = some true ∧ (bench 4 []).domFree 12 = some true ∧ (s []).domFree 16 = some true
    ∧ bit ((s []).get Reg.PWR_DOM_EN) 8 = true ∧ bit ((s [(Reg.PWR_DOM_EN, 0x1EFFF)]).get Reg.PWR_DOM_EN) 12 = false
    ∧ (s []).domFree 12 ≠ none ∧ (s []).domFree 14 = some true ∧ (s [(Reg.MEM_WIN_CTRL_EN 63, 1), (Reg.MEM_WIN_CTRL_SPACE 63, 1)]).domFree 14 = some false
    ∧ (∀ e, e < 17 → e ≠ 12 → same (s [(Reg.PWR_DOM_EN, 0x1EFFF)]) 0x1FFFF e = true)
    ∧ (0x1F00 : Nat) / 2 ^ 8 % 32 = 31 ∧ (0x2000 : Nat) / 2 ^ 8 % 32 = 0
    ∧ ((List.range 5).filter (fun j => bit 31 j && (s []).domOn (8 + j))) ≠ [] ∧ ((List.range 5).filter (fun j => bit 0 j && (s []).domOn (8 + j))) = []
    ∧ (s []).pw.clusters = [] ∧ (pw [(some fl, [3])]).pw.clusters = [(some fl, [3])] ∧ (up [(Reg.CH_STAT_STATE 15, 0)]).chState 15 = 0 := by decide +kernel

theorem test_supply_hyps :
    let p (st : Nat) (d : Down) (l : List (Fld × Nat)) : State := { up ([(Reg.PWR_STAT_STATE, st)] ++ l) with pw := { Power.zero with booting := false, down := d } }
    let s := p 0 .no [(Reg.PWR_CLK_STAT_PLL, 0x3F), (Reg.PWR_CLK_STAT_REF_OK, 1), (Reg.PWR_STAT_VAUX_OK, 1), (Reg.PWR_CFG_TH_WARN, 100), (Reg.TB_STAT_AUDIO_LOCK, 1)]
    let off : State := { s with pw := { s.pw with vauxOff := true } }
    let hot : State := { p 4 .no [(Reg.PWR_CFG_AUTO_RESTART, 1)] with pw := { Power.zero with hot := true } }
    let warm := p 0 .no [(Reg.PWR_CLK_STAT_PLL, 0), (Reg.PWR_STAT_THERM, 1), (Reg.PWR_CFG_TH_WARN, 100)]
    ([s, p 5 .plinth [], p 0 .brown [], off, hot, warm].all invB) = true
    ∧ s.pw.down ≠ .plinth ∧ s.get Reg.PWR_STAT_STATE ≠ 5 ∧ (4399 : BitVec 16).toNat < 4400 ∧ 50000 < (50001 : BitVec 16).toNat
    ∧ (p 0 .no [(Reg.PWR_STAT_VIN_OK, 0)]).get Reg.PWR_STAT_VIN_OK = 0 ∧ (3999 : BitVec 16).toNat < 4000 ∧ 54000 < (54001 : BitVec 16).toNat
    ∧ (p 0 .brown []).pw.down = .brown ∧ (p 0 .overvolt []).pw.down = .overvolt ∧ (p 0 .plinth []).pw.down = .plinth ∧ (p 0 .ref []).pw.down = .ref ∧ (p 0 .held []).pw.down = .held
    ∧ (∀ r, r < 11 → s.railJudged r = decide (r ≠ 0 ∧ r ≠ 8 ∧ r ≠ 9)) ∧ s.get Reg.PWR_STAT_VAUX_OK = 1 ∧ (p 0 .no [(Reg.PWR_STAT_VAUX_OK, 0)]).get Reg.PWR_STAT_VAUX_OK = 0
    ∧ off.pw.vauxOff = true ∧ s.pw.vauxOff = false
    ∧ ¬ s.get Reg.PWR_STAT_THERM = 1 ∧ warm.get Reg.PWR_STAT_THERM = 1 ∧ (10 : Int) * ((max 60 (min 115 (s.get Reg.PWR_CFG_TH_WARN)) : Nat) : Int) = 1000
    ∧ (1000 : Int) ≤ (1000 : BitVec 16).toInt ∧ (950 : BitVec 16).toInt ≤ 1000 - 50 ∧ 1000 - 50 < (951 : BitVec 16).toInt ∧ (999 : BitVec 16).toInt < 1000
    ∧ (1250 : Int) ≤ (1250 : BitVec 16).toInt ∧ ¬ (1250 : Int) ≤ (0xFFFF : BitVec 16).toInt
    ∧ hot.get Reg.PWR_STAT_STATE = 4 ∧ hot.pw.hot = true ∧ hot.get Reg.PWR_CFG_AUTO_RESTART = 1 ∧ (949 : BitVec 16).toInt < 950 ∧ ¬ (950 : BitVec 16).toInt < 950
    ∧ (∀ b, b < 6 → bit (s.get Reg.PWR_CLK_STAT_PLL) b = true ∧ bit (warm.get Reg.PWR_CLK_STAT_PLL) b = false) ∧ s.get Reg.TB_STAT_AUDIO_LOCK = 1
    ∧ (p 0 .no [(Reg.TB_STAT_AUDIO_LOCK, 0)]).get Reg.TB_STAT_AUDIO_LOCK = 0 ∧ s.get Reg.PWR_CLK_STAT_REF_OK = 1 ∧ s.get Reg.PWR_STAT_STATE ≤ 3 ∧ s.pw.down = .no
    ∧ s.pw.booting = false := by decide +kernel

/-- A service key, 64 bytes X, Y, chosen so that the check of `svcSig` takes few steps. -/
def svcKey : List (BitVec 8) := leBytes 64 0x34463c99ee317565eb9e8ca87cf484fcf0e87d09e7a7a678c8bbb79b8826ebec014ec18b84708e22b44c96544212553c45bc9a30d5723d10d93af59b3a4d8d12
/-- Its signature of the nonce 0, 1, …, 31, the UID 9 and the scope 6. -/
def svcSig : List (BitVec 8) := leBytes 64 0xc662a310a8dd2cde52a7f4ba62054e5c626db4144c13f416dd52616837cfeb8ac662a310a8dd2cde52a7f4ba62054e5c626db4144c13f416dd52616837cfeb8a
/-- SHA-256 of 16 bytes of salt 0 and the password 0, 1, …, 15. -/
def pwdHash : List (BitVec 8) := leBytes 32 0x7689adbd32150b230fba493fa11be88efb0dcb3146439510f9fb38db9a6c581d
/-- The bytes 0, 1, …. -/
def count (n : Nat) : List (BitVec 8) := (List.range n).map (BitVec.ofNat 8)
/-- A life cycle in a state, with a service key and a password. -/
def lifeAt (st : Nat) (f : Life → Life) : State :=
  { up [(Reg.LC_STAT_STATE, st), (Reg.ID_UID_LO, 9), (Reg.ID_UID_HI, 0)] with
    life := f { Life.zero with cells := List.replicate 9 (st != 0), svc := leBytes 32 0x5331d0a37d2310950564a4a887460609906b99285453bd544c54729792c0247d, pwd := pwdHash } }

/-- A challenge's answer by the service key's signature, and the password, pass. -/
theorem test_service_passes :
    let s := lifeAt 2 (fun l => { l with nonce := some (count 32, 0) })
    sha256 svcKey = s.life.svc ∧ sha256 (s.life.salt ++ count 16) = s.life.pwd ∧ sha256 (s.life.salt ++ count 15) ≠ s.life.pwd := by decide +kernel
theorem test_service_signature :
    sigOk svcKey (count 32 ++ leBytes 8 (lifeAt 2 id).uid ++ leBytes 4 6) svcSig = true := by
  decide +kernel

theorem test_service_hyps :
    let s := lifeAt 2 id
    let later (s : State) : State := { s with tb := { s.tb with real := 1000000000 * 2 ^ 32 * 61440 } }
    let nonced := lifeAt 2 (fun l => { l with nonce := some (count 32, 0) })
    let opened := lifeAt 3 (fun l => { l with opened := some 0 })
    let debugged : State := { up [(Reg.LC_STAT_STATE, 3), (Reg.LC_STAT_SCOPE, 5)] with pw := { Power.zero with booting := false, halt := true } }
    let lock := lifeAt 2 (fun l => { l with lock := some (0, 61440), fails := 255 })
    let secs (s : State) (t : Nat) := (s.tb.real - t) / (1000000000 * 2 ^ 32)
    let rg := ringUp [(Reg.HI_RING_STAT_VER 15, 3)]
    let x (k : Nat) := dsc ([(0, 0x70), (16, 5), (20, k)] ++ if k = 2 ∨ k = 3 then [(24, 3)] else [])
    let ok (k : Nat) := rejectOf 3 (x k).toNat == none && dfield (x k).toNat 0 1 == 0x70 && dfield (x k).toNat 16 1 == 5 && dfield (x k).toNat 20 1 == k
      && dfield (x k).toNat 21 1 == 0 && dfield (x k).toNat 8 8 == 0
    ([s, later lock, nonced, opened, debugged, lock, rg].all invB) = true
    ∧ s.get Reg.LC_STAT_STATE = 2 ∧ fieldEmpty s.life.svc = false ∧ fieldGone s.life.svc = false ∧ fieldEmpty s.life.pwd = false ∧ fieldGone s.life.pwd = false
    ∧ s.lockLeft = 0 ∧ lock.lockLeft ≠ 0 ∧ s.life.nonce = none ∧ nonced.life.nonce = some (count 32, 0) ∧ 60 ≤ secs (later nonced) 0 ∧ secs nonced 0 < 60
    ∧ opened.life.opened = some 0 ∧ s.life.opened = none ∧ 28800 ≤ secs (later opened) 0 ∧ secs opened 0 < 28800 ∧ lock.life.lock = some (0, 61440) ∧ s.life.lock = none
    ∧ 61440 ≤ secs (later lock) 0 ∧ (later lock).lockLeft = 0 ∧ s.st.cur = none ∧ rg.ringState 15 = 2 ∧ rg.queueLen < 4096 ∧ (∀ k ∈ [1, 2, 3, 4], ok k = true) ∧ rg.hostBlocked = false
    ∧ (State.reset.hostBlocked) = true ∧ debugged.debugOpen = true ∧ s.debugOpen = false ∧ debugged.pw.halt = true ∧ (up [(Reg.LC_STAT_STATE, 0)]).debugOpen = true
    ∧ (up []).pw.halt = false ∧ (up []).pw.down = .no ∧ ¬ 2 ≤ (up []).get Reg.PWR_STAT_STATE := by decide +kernel

theorem test_fuse_hyps :
    let s (st : Nat) (l : List (Fld × Nat)) (f : Life → Life) : State := { up ([(Reg.LC_STAT_STATE, st)] ++ l) with
      life := f { Life.zero with slots := List.replicate 4 (List.replicate 32 0) } }
    let keyed := s 1 [] (fun l => { l with slots := List.replicate 4 (count 32), svc := count 32 })
    let retire := s 0 [(Reg.LC_DATA 0, 0x45524954)] id
    let debugged := s 3 [(Reg.LC_STAT_SCOPE, 4), (Reg.LC_DATA 0, 0x45524954)] id
    ([s 0 [] id, keyed, retire, debugged].all invB) = true ∧ (s 0 [] id).get Reg.LC_STAT_STATE = 0 ∧ keyed.get Reg.LC_STAT_STATE = 1
    ∧ fieldEmpty keyed.life.svc = false ∧ fieldGone keyed.life.svc = false ∧ (∀ k ∈ [1, 2, 3], keyed.slotUsable k = true) ∧ (s 1 [] id).slotUsable 3 = false
    ∧ retire.get (Reg.LC_DATA 0) = 0x45524954 ∧ keyed.get (Reg.LC_DATA 0) ≠ 0x45524954 ∧ debugged.get Reg.LC_STAT_STATE = 3 ∧ bit (debugged.get Reg.LC_STAT_SCOPE) 2 = true
    ∧ (∀ a ∈ [0, 1, 2, 3], fieldEmpty ((s 0 [] id).life.slots.getD a []) = true ∧ fieldEmpty (keyed.life.slots.getD a []) = false)
    ∧ fieldEmpty (s 1 [] id).life.svc = true ∧ fieldEmpty (s 1 [] id).life.pwd = true := by decide +kernel

/-- A firmware image of 128 bytes with a signature of zeros: FORMAT 1, module firmware, both sections empty. -/
def fwImage : List (BitVec 8) :=
  leBytes 4 0x5746555A ++ leBytes 2 1 ++ leBytes 1 1 ++ leBytes 1 0 ++ leBytes 4 128 ++ leBytes 4 7 ++ leBytes 4 0 ++ leBytes 2 0xA0 ++ leBytes 2 0 ++ leBytes 4 0x22322131
    ++ leBytes 4 64 ++ leBytes 4 0 ++ leBytes 4 64 ++ leBytes 4 0 ++ List.replicate 84 0
/-- Which images the boot ROM's key signs is open; an image that meets every other check of R560 is valid if that key signs it. -/
theorem test_boot_image (s : State) (h : s.imageSigned 0 fwImage = true) (hi : s.ifver = State.reset.ifver) : s.imageErr fwImage = 0 := by
  have h2 : ¬ (imgNat fwImage 0 4 ≠ 0x5746555A ∨ imgNat fwImage 4 2 ≠ 1 ∨ imgNat fwImage 6 1 ≠ 1 ∨ imgNat fwImage 7 1 ≠ 0) := by decide
  have h3 : ¬ (imgNat fwImage 8 4 ≠ fwImage.length ∨ 491520 < fwImage.length ∨ (!sectionOk fwImage 28 393216) = true ∨ (!sectionOk fwImage 36 32768) = true
      ∨ imgNat fwImage 40 4 % 4 ≠ 0 ∨ (!imgZero fwImage 22 2) = true ∨ (!imgZero fwImage 44 20) = true) := by decide +kernel
  have h4 : ¬ 0xA0 < imgNat fwImage 20 2 := by decide
  have h5 : ¬ (!rangesContain (imgNat fwImage 24 4) State.reset.ifver) = true := by decide
  unfold State.imageErr
  rw [hi, h, if_neg (by decide), if_neg h2, if_neg h3, if_neg h4, if_neg h5]

theorem test_boot_hyps :
    let due (f : Nat) (b : Boot → Boot) : State := let s := wit []
      { s with pw := { Power.zero with booting := true }, life := { Life.zero with cells := List.replicate (3 * f) true ++ List.replicate (9 - 3 * f) false }, boot := b s.boot }
    let r (a t : Bool) (n : Nat) := due 2 (fun b => { b with plinth := some ⟨a, t, n, 5⟩ })
    let ph (n : Nat) (l : List (Fld × Nat)) (b : Boot → Boot) : State := let s := port 5 Port.zero ([(Reg.ID_BOOT_STAT_PHASE, n)] ++ l); { s with boot := b s.boot }
    let rq (p : Bool) : Boot → Boot := fun b => { b with req := some ⟨3, 7, 9, p, 0⟩ }
    let wants := ph 1 [(Reg.ID_BOOT_STAT_BOOTSEL, 3), (Reg.FSW_STAT_ADDR_VALID, 1), (Reg.FP_STAT_NB_ADDR_VALID 3, 1), (Reg.FP_STAT_ROLE 3, 1)] (rq false)
    let none_ := ph 1 [(Reg.ID_BOOT_STAT_BOOTSEL, 3), (Reg.FSW_STAT_ADDR_VALID, 1), (Reg.FP_STAT_NB_ADDR_VALID 3, 1), (Reg.FP_STAT_ROLE 3, 1)] id
    let later (s : State) : State := { s with tb := { s.tb with real := 1000000000 * 2 ^ 32 * 255 } }
    let img (op : Nat) := frm 3 11 4095 (leBytes 1 op ++ leBytes 1 0 ++ leBytes 2 9 ++ leBytes 4 0 ++ leBytes 4 0 ++ leBytes 4 0 ++ [1, 2])
    let took (s : State) (op : Nat) := ((rx s (img op)).takeRx 4 (fun f => f.kind.toNat == 11 && pfield f.payload 0 1 == op)).isSome
    let trial := ph 4 [(Reg.ID_BOOT_STAT_TRIAL, 1), (Reg.ID_BOOT_STAT_SOURCE, 1)] (fun b => { b with plinth := some ⟨true, true, 1, 5⟩ })
    ([due 2 id, r true true 1, ph 3 [] id, wants, none_, later wants, trial, rx wants (img 2)].all invB) = true
    ∧ (due 2 id).pw.booting = true ∧ (due 2 id).pw.down = .no ∧ (due 3 id).life.fused = 4 ∧ (due 2 id).life.fused = 2
    ∧ (r true false 0).bootRec = ⟨true, false, 0, 5⟩ ∧ (r false true 1).bootRec = ⟨false, true, 1, 5⟩ ∧ 2 ≤ (r true true 2).bootRec.tries ∧ (due 2 id).bootRec = ⟨false, false, 0, 0⟩
    ∧ (ph 3 [] id).get Reg.ID_BOOT_STAT_PHASE = 3 ∧ wants.get Reg.ID_BOOT_STAT_PHASE = 1 ∧ 2 ≤ wants.get Reg.ID_BOOT_STAT_BOOTSEL
    ∧ (ph 1 [(Reg.ID_BOOT_STAT_BOOTSEL, 1)] id).get Reg.ID_BOOT_STAT_BOOTSEL = 1 ∧ (ph 1 [] (fun b => { b with recovery := true })).boot.recovery = true
    ∧ trial.get Reg.ID_BOOT_STAT_TRIAL = 1 ∧ trial.bootRec.trial = true ∧ trial.get Reg.ID_BOOT_STAT_SOURCE = 1 ∧ trial.bootRec.active = true
    ∧ trial.get Reg.ID_BOOT_STAT_READY = 1 ∧ max 1 (trial.get Reg.ID_UPD_CFG_CONFIRM_TIME) ≤ ((later trial).tb.real - trial.boot.readyAt) / (1000000000 * 2 ^ 32)
    ∧ wants.boot.req = some ⟨3, 7, 9, false, 0⟩ ∧ (img 2).src.toNat = 7 ∧ pfield (img 2).payload 2 2 = 9 ∧ (∀ op ∈ [1, 2, 3, 4], took wants op = true) ∧ took wants 5 = true
    ∧ (wants.takeRx 4 (fun _ => true)).isSome = false ∧ none_.boot.req = none ∧ none_.get Reg.FSW_STAT_ADDR_VALID = 1 ∧ wants.isUp 3 = true ∧ wants.get (Reg.FP_STAT_NB_ADDR_VALID 3) = 1
    ∧ wants.get (Reg.FP_STAT_ROLE 3) = 1 ∧ wants.get (Reg.FP_STAT_ROLE 0) ≠ 1
    ∧ 0 + 100000000 * 2 ^ 32 ≤ (later wants).tb.real ∧ ¬ 0 + 100000000 * 2 ^ 32 ≤ wants.tb.real ∧ (ph 1 [] (rq true)).boot.req = some ⟨3, 7, 9, true, 0⟩
    ∧ wants.get Reg.ID_UPD_CFG_SERVE_EN = 1 ∧ none_.serving = false ∧ none_.bootRec.trial = false := by decide +kernel

/-- An image too short for a signature gives ERR 1. -/
theorem test_boot_invalid (s : State) : s.imageErr [] = 1 := by
  simp [State.imageErr, State.imageSigned]

/-- A signer's key, chosen so that the check of the signature of `maq` takes few steps. -/
def maqKey : List (BitVec 8) := leBytes 64 0x816b78f60138fdd745a8359b140fb2243c15a309bf3d30d2f326a01602c4d4da287baba91b4ce58ae2c2c767ae626115ccf0d1c8de05a4bd5b0a79e8b4716ac3
/-- A maquette of 256 bytes, signed with `maqKey`. -/
def maq : List (BitVec 8) :=
  leBytes 192 0x8000000000000000800000000400000080000000010000010000000100000100025451414d
    ++ leBytes 64 0x53415219d5cbca70bbcede7bc35bd9c09cc1baef3fa68bf41dfc24d072a6763b53415219d5cbca70bbcede7bc35bd9c09cc1baef3fa68bf41dfc24d072a6763b
/-- In DEVELOP, with that key in slot 1. -/
def devS (l : List (Fld × Nat)) : State :=
  { up ([(Reg.LC_STAT_STATE, 1), (Reg.ID_ARM_REV, 1)] ++ l) with life := { Life.zero with keys := [maqKey, [], []], slots := List.replicate 4 (count 32) } }
theorem test_maquette_signed : sigOk maqKey (maq.take 192) (maq.drop 192) = true := by decide +kernel
/-- The maquette passes every check of R294; under an older armature, or with no room for its code, it does not. -/
theorem test_maquette_hyps :
    let big : Program := ⟨1, 1, 0, 0, [], List.replicate 24 0 ++ leBytes 4 32768, 0x8000, 0x10000, true, false, none⟩
    let s := devS []
    let full : State := { s with progs := [(15, some big)] }
    let c : TCmd := ⟨⟨0, 15, 0, 0x50, 0, false⟩, .ring, 0, 0, none, 1, false⟩
    let loading : State := { s with loads := [⟨c, maq, none⟩] }
    ([s, full, loading].all invB) = true ∧ s.slotUsable 1 = true ∧ s.life.key (imgNat maq 9 1) = maqKey ∧ maq.length = 256
    ∧ imgNat maq 4 2 = 2 ∧ headerOk maq 0 = true ∧ paramsOk (imgNat maq 6 1) (parseParams maq) = true ∧ imgNat maq 16 4 = s.get Reg.ID_ARM_REV
    ∧ (devS [(Reg.ID_ARM_REV, 0)]).get Reg.ID_ARM_REV < imgNat maq 16 4 ∧ full.placeMaq maq = none ∧ s.placeMaq maq = some (0x8000, 0x10000)
    ∧ s.storeUsed + maq.length ≤ 2 ^ 20 ∧ s.prog 1 = none ∧ s.upd = none ∧ loading.loads.find? (fun l => l.res.isNone) = some ⟨c, maq, none⟩
    ∧ s.loads.find? (fun l => l.res.isNone) = none ∧ headerOk (maq.set 60 1) 0 = false ∧ imgNat (maq.set 4 3) 4 2 ≠ 2
    ∧ s.imageSigned (imgNat [] 9 1) [] = false := by decide +kernel
theorem test_maquette_passes : (devS []).maqStatus 1 0 maq = 0 := by
  have h1 : (devS []).imageSigned (imgNat maq 9 1) maq = true := by
    have a : (devS []).slotUsable (imgNat maq 9 1) = true := by decide +kernel
    have b : (devS []).life.key (imgNat maq 9 1) = maqKey := by decide +kernel
    have l : maq.length = 256 := by decide +kernel
    unfold State.imageSigned
    rw [a, b, l, test_maquette_signed]; rfl
  have h2 : (if imgNat maq 4 2 ≠ 2 then 0x13 else if (!headerOk maq 0) = true then 0x14 else if (!paramsOk (imgNat maq 6 1) (parseParams maq)) = true then 0x04
    else if (devS []).get Reg.ID_ARM_REV < imgNat maq 16 4 then 0x15 else if ((devS []).placeMaq maq).isNone ∨ 2 ^ 20 < (devS []).storeUsed + maq.length then 0x16
    else if 8 * (if imgNat maq 6 1 = 3 then 2000 else 651) < 8 * imgNat maq 56 2 + imgNat maq 58 2 then 0x17
    else if imgNat maq 6 1 = 2 ∧ ((devS []).onKind 2).any (fun p => p.kind == 2 && p.hook == imgNat maq 7 1 && p.hookVal == imgNat maq 8 1) then 0x18
    else if (1 : Nat) = 0 ∨ ((devS []).prog 1).isSome ∨ (devS []).upd.isSome then 0x19 else 0) = 0 := by decide +kernel
  unfold State.maqStatus
  rw [h1, if_neg (by decide)]; exact h2

theorem test_update_hyps :
    let s := ringUp []
    let x := dsc [(0, 0x70), (16, 4)]
    let far := dsc [(0, 0x70), (16, 4), (24, 2 ^ 64 - 11)]
    let u : Update := ⟨none, [], [0, 1, 2, 3], 0, [[16]], [], false, false, [], 0⟩
    let with_ (u : Update) (l : List (Fld × Nat)) : State := { up l with upd := some u }
    let benched := with_ u ((List.range 4).map (fun c => (Reg.CH_STAT_STATE c, 5)))
    let later (s : State) : State := { s with tb := { s.tb with real := 1000000000 * 2 ^ 32 * 16 } }
    ([s, with_ u [], benched, later (with_ u [])].all invB) = true
    ∧ s.ringState 15 = 2 ∧ rejectOf (s.get (Reg.HI_RING_STAT_VER 15)) x.toNat = none ∧ dfield x.toNat 0 1 = 0x70 ∧ dfield x.toNat 16 1 = 4 ∧ dfield x.toNat 8 8 ≤ s.ns
    ∧ dfield x.toNat 21 1 = 0 ∧ s.pwState ≠ 1 ∧ s.queueLen < 4096 ∧ s.upd = none ∧ s.st.shut = none ∧ (with_ u []).upd ≠ none
    ∧ 2 ^ 64 < dfield far.toNat 24 8 + 12 ∧ dfield far.toNat 21 1 = 0 ∧ dfield x.toNat 24 8 + 12 ≤ 2 ^ 64 ∧ 12 ≤ fwImage.length ∧ (fwImage.take 100).length < min (imgNat (fwImage ++ List.replicate 12 0) 8 4) 491520
    ∧ min (imgNat (fwImage ++ List.replicate 12 0) 8 4) 491520 ≤ fwImage.length ∧ (∀ k, k < 16 → s.prog k = none)
    ∧ (up [(Reg.ID_UPD_STAT_STEP, 2)]).get Reg.ID_UPD_STAT_STEP = 2 ∧ u.unit ≠ [] ∧ (∀ c ∈ u.unit, benched.chState c = 5) ∧ ¬ (with_ u []).chState 0 = 5
    ∧ max 1 (s.get Reg.ID_UPD_CFG_DRAIN_MAX) + 1 ≤ ((later (with_ u [])).tb.real - 0) / (1000000000 * 2 ^ 32) ∧ ((with_ u []).tb.real - 0) / (1000000000 * 2 ^ 32) < 10
    ∧ (∀ v, v < 256 → (s.slot v).st = 0) ∧ (∀ c, c < 4 → benched.coreHeld c = false) ∧ s.st.cur = none := by decide +kernel

/-! ### Steps, and commands no sender can form -/

theorem test_step_hyps : State.reset.Inv ∧ State.reset.pending = [] ∧ ∃ t, step State.reset = .next t := ⟨reset_inv, rfl, _, rfl⟩

theorem test_ill_formed_offset : Instr.wf (.registerWrite 6 15 0) = false ∧ Instr.wf (.readClear 5) = false ∧ Instr.wf (.registerWrite 4 15 0) = true := by decide
theorem test_ill_formed_bar2_read : Instr.wf (.exchangeRead (.bar2 0 0)) = false ∧ Instr.wf (.exchangeRead (.bar2 0 4097)) = false
    ∧ Instr.wf (.exchangeRead (.bar2 0xFFFFF 2)) = false ∧ Instr.wf (.exchangeRead (.bar2 0xFF000 4096)) = true := by decide
theorem test_ill_formed_bar2_write (b : BitVec 8) : Instr.wf (.exchangeWrite (.bar2 0 [])) = false ∧ Instr.wf (.exchangeWrite (.bar2 0 (List.replicate 4097 b))) = false
    ∧ Instr.wf (.exchangeWrite (.bar2 0xFFFFF [b, b])) = false := by simp [-List.reduceReplicate, Instr.wf, bar2Wf]
theorem test_ill_formed_frame (b : BitVec 8) (x y z) : Instr.wf (.frameArrival x (frm 1 5 0 (List.replicate 65536 b)) y z false) = false := by
  simp [-List.reduceReplicate, Instr.wf, frameWf, frm]
theorem test_ill_formed_tdm (x y v) : Instr.wf (.tdmInputBlockReady x y [List.replicate 17 v]) = false := by simp [-List.reduceReplicate, Instr.wf]
theorem test_ill_formed_stack (x v) : Instr.wf (.watchdogExpiry x (List.replicate 11 v)) = false := by simp [-List.reduceReplicate, Instr.wf]
theorem test_ill_formed_buffers (n : Fin 16) (x : BitVec 512) (b : BitVec 8) : Instr.wf (.serialTx n x (List.replicate 65536 b)) = false
    ∧ Instr.wf (.loadMaquette n x (List.replicate 131073 b)) = false ∧ Instr.wf (.rollingUpdate n x (List.replicate 491521 b)) = false
    ∧ Instr.wf (.fabricSend n x (List.replicate 2033 b)) = false := by simp [-List.reduceReplicate, Instr.wf]
theorem test_ill_formed_secrets (b : BitVec 8) : Instr.wf (.signed none (List.replicate 129 b)) = false ∧ Instr.wf (.password none (List.replicate 17 b)) = false := by
  simp [-List.reduceReplicate, Instr.wf]

/-! ### Single commands, with results from the spec's text -/

/-- R509: FAULT_N is low once VIN_LOW is set, and released before. -/
theorem test_fault_pad : (up []).padFaultN = .released ∧ (nxt (exec (.vinLow 4399) (up []))).padFaultN = .low := by decide
/-- R595: Fn_LED is low while the port is UP. -/
theorem test_led_pad : (up [(Reg.FP_STAT_LSTATE 3, 5)]).padLed 3 = .low ∧ (up []).padLed 3 = .released := by decide
/-- R4: ID_IFVER holds the four ranges. -/
theorem test_ifver : State.reset.ifver = 0x22322131 := by decide
/-- R368: the CRC-32 of "123456789", its known check value. -/
theorem test_crc : crc32 [0x31, 0x32, 0x33, 0x34, 0x35, 0x36, 0x37, 0x38, 0x39] = 0xCBF43926 := by decide +kernel
/-- FIPS 180-4: SHA-256 of "abc". -/
theorem test_sha256 : beNat (sha256 [0x61, 0x62, 0x63]) = 0xba7816bf8f01cfea414140de5dae2223b00361a396177a9cb410ff61f20015ad := by decide +kernel
/-- R234, R236, R237: a stored value drives its channel through a direct entry, negated by INVERT, 16 frames after frame n + ALIGN. -/
theorem test_direct_invert :
    let on (s : State) (ns : Nat) : State := { s with tb := { s.tb with now := ns * 2 ^ 32 } }
    let s := (((on State.reset 1000000).applyRoute 7 96 ⟨0x4000, 0x2003, 0, 48, 1⟩).aoStore 3 200 5)
    let v (ns : Nat) := (on s ns).aoOwnSignal 3 (on s ns).tu
    v 2749000 = some 0 ∧ v 2751000 = some (-5) ∧ (on s 2749000).aoFed 3 = false ∧ (on s 2751000).aoFed 3 = true := by decide +kernel

end Sys2Proof.Tests
end

section
/-!
SUPPORT. What a write and a read of BAR0 do to a register that has no rule of its own (R14, R15), and what the read of a pair's low half
latches (R16); with them the obligation on register accesses.
-/
namespace Sys2Proof.Machine

/-! ### One field of a written word (R15) -/

theorem State.writeField_rw (s : State) {f : Fld} (v : Nat) (h : f.acc = .rw) : s.writeField f v = s.put f (bits v f.lsb f.w) := by
  simp [State.writeField, h]

theorem State.writeField_w1c (s : State) {f : Fld} (v : Nat) (h : f.acc = .w1c) :
    s.writeField f v = s.put f (s.get f &&& (2 ^ f.w - 1 - bits v f.lsb f.w)) := by
  simp [State.writeField, h]

theorem State.writeField_ro (s : State) {f : Fld} (v : Nat) (h : f.acc = .ro) : s.writeField f v = s := by
  simp [State.writeField, h]

/-- Whatever its access code, a field's write is nothing or a write of that field. -/
theorem State.writeField_cases (s : State) (f : Fld) (v : Nat) : s.writeField f v = s ∨ ∃ x, s.writeField f v = s.put f x := by
  unfold State.writeField
  cases f.acc
  case rw | w1c | w1s => exact .inr ⟨_, rfl⟩
  case ro | wo | rc => exact .inl rfl

theorem State.get_writeField_ne (s : State) {f g : Fld} (v : Nat) (h : f.key ≠ g.key) : (s.writeField f v).get g = s.get g := by
  obtain e | ⟨x, e⟩ := s.writeField_cases f v
  · rw [e]
  · rw [e, State.get_put_ne s x h]

/-- A one-bit W1C field is cleared by a 1 and kept by a 0. -/
theorem State.get_writeField_w1c (s : State) {f : Fld} (v : Nat) (h : f.acc = .w1c) (hw : f.w = 1) :
    (s.writeField f v).get f = if bit v f.lsb then 0 else s.get f := by
  have hf : s.get f % 2 = s.get f := Nat.mod_eq_of_lt (by simpa [hw] using s.get_lt f)
  rw [State.writeField_w1c s v h, State.get_put_self, hw]
  rcases Nat.mod_two_eq_zero_or_one (v / 2 ^ f.lsb) with e | e <;> simp [bits, bit, e, hf]

/-! ### A list of fields, each by its access code -/

theorem Moves.writeField {s t : State} {ps : List Part} {fs : List Fld} (f : Fld) (v : Nat) (h : f ∈ fs) (a : Moves s t ps fs) :
    Moves s (t.writeField f v) ps fs := by
  obtain e | ⟨x, e⟩ := t.writeField_cases f v
  · rwa [e]
  · rw [e]; exact a.put f x h

theorem Moves.foldl_writeField {s t : State} {ps : List Part} {fs : List Fld} (v : Nat) (l : List Fld) (h : ∀ f ∈ l, f ∈ fs)
    (a : Moves s t ps fs) : Moves s (l.foldl (fun s f => s.writeField f v) t) ps fs := by
  induction l generalizing t with
  | nil => exact a
  | cons f l ih =>
    obtain ⟨hf, hl⟩ := List.forall_mem_cons.1 h
    exact ih hl (a.writeField f v hf)

/-- A field that no field of the list shares its place with is left alone. -/
theorem State.get_foldl_writeField_ne (s : State) (v : Nat) (l : List Fld) (g : Fld) (h : g.key ∉ l.map Fld.key) :
    (l.foldl (fun s f => s.writeField f v) s).get g = s.get g :=
  (Moves.foldl_writeField v l (fun _ hf => hf) (Moves.refl s [] l)).regs g h

/-- One-bit W1C fields at different places: each is cleared by its own bit. -/
theorem State.get_foldl_writeField_w1c (s : State) (v : Nat) (l : List Fld) (hl : (l.map Fld.key).Nodup)
    (h : ∀ f ∈ l, f.acc = .w1c ∧ f.w = 1) :
    ∀ f ∈ l, (l.foldl (fun s f => s.writeField f v) s).get f = if bit v f.lsb then 0 else s.get f := by
  induction l generalizing s with
  | nil => intro f hf; cases hf
  | cons g l ih =>
    obtain ⟨hg, hl⟩ := List.nodup_cons.1 hl
    obtain ⟨⟨hacc, hw⟩, hrest⟩ := List.forall_mem_cons.1 h
    intro f hf
    rw [List.foldl_cons]
    rcases List.mem_cons.1 hf with rfl | hf
    · rw [State.get_foldl_writeField_ne _ v l f hg, State.get_writeField_w1c s v hacc hw]
    · have hne : g.key ≠ f.key := fun e => hg (e ▸ List.mem_map_of_mem hf)
      rw [ih _ hl hrest f hf, State.get_writeField_ne s v hne]

theorem Moves.writeFields (s : State) (off v : Nat) : Moves s (s.writeFields off v) [] (Reg.fieldsAt off) :=
  Moves.foldl_writeField v _ (fun _ hf => hf) (Moves.refl s _ _)

/-- A register of RO fields keeps its value. -/
theorem State.writeFields_ro (s : State) (off v : Nat) (h : ∀ f ∈ Reg.fieldsAt off, f.acc = .ro) : s.writeFields off v = s := by
  unfold State.writeFields
  exact List.foldlRecOn (motive := fun t => t = s) _ _ rfl (fun t ht f hf => by rw [ht, State.writeField_ro s v (h f hf)])

/-! ### A host write -/

theorem State.hostWrite_of_open (s : State) {off be v : Nat} (hl : s.linkOpen = true) :
    s.hostWrite off be v = if be = 15 ∧ s.barOpen off then s.busWrite off v none else s := by
  simp [State.hostWrite, hl]

theorem State.busWrite_unaligned (s : State) {off : Nat} (v : Nat) (via : Via) (h : off % 4 ≠ 0) : s.busWrite off v via = s := by
  simp [State.busWrite, h]

/-- A write with fewer than four byte enables, or unaligned, is ignored (R14). -/
theorem State.hostWrite_ignored (s : State) {off be : Nat} (v : Nat) (hl : s.linkOpen = true) (h : be ≠ 15 ∨ off % 4 ≠ 0) :
    s.hostWrite off be v = s := by
  rw [State.hostWrite_of_open s hl]
  rcases h with h | h
  · rw [if_neg (fun e => h e.1)]
  · rw [State.busWrite_unaligned s v none h, ite_self]

/-- The first registers of TB_ lie in the fabric domain. -/
theorem State.regOn_tb (s : State) {off : Nat} (hlo : 0x60000 ≤ off) (hhi : off < 0x60040) : s.regOn off = s.domOn 3 := by
  have hd : regDom off = some 3 := by
    unfold regDom
    repeat rw [if_neg (by omega)]
    rw [if_pos hhi]
  simp [State.regOn, hd]

/-- A host write of a TB_ register without a rule of its own acts on its fields by their access codes. -/
theorem State.hostWrite_tb (s : State) {off : Nat} (v : Nat) (hl : s.linkOpen = true) (hd : s.domOn 3 = true)
    (hlo : 0x60000 ≤ off) (hhi : off < 0x60040) (ha : off % 4 = 0) (hs : s.wrTime off v = none) :
    s.hostWrite off 15 v = if s.barOpen off then s.writeFields off v else s := by
  have hb : s.busWrite off v none = s.writeFields off v := by
    have hr : s.regOn off = true := (s.regOn_tb hlo hhi).trans hd
    have h7 : off < 0x70000 := by omega
    simp [State.busWrite, ha, hr, hlo, h7, hs]
  rw [State.hostWrite_of_open s hl, hb]
  simp

theorem State.barOpen_of_ready (s : State) (off : Nat) (h : s.get Reg.ID_BOOT_STAT_READY = 1) : s.barOpen off = true := by
  simp [State.barOpen, State.on, h]

/-- TB_STAT, TB_FLAGS and TB_WCLK_OFS have no rule of their own. -/
theorem State.wrTime_none (s : State) (v : Nat) {off : Nat} (h : off ∈ [0x60010, 0x60014, 0x60028]) : s.wrTime off v = none := by
  simp only [List.mem_cons, List.not_mem_nil, or_false] at h
  rcases h with rfl | rfl | rfl <;> rfl

/-! ### The registers the obligation speaks of -/

theorem fieldsAt_tbStat : Reg.fieldsAt 0x60010 =
    [Reg.TB_STAT_SERVO, Reg.TB_STAT_ROOT, Reg.TB_STAT_AUDIO_LOCK, Reg.TB_STAT_AUDIO_HOLD, Reg.TB_STAT_XT32_OK] := by decide

theorem fieldsAt_tbFlags : Reg.fieldsAt 0x60014 =
    [Reg.TB_FLAGS_STEPPED, Reg.TB_FLAGS_OFFSET_ALARM, Reg.TB_FLAGS_RATE_CLAMP, Reg.TB_FLAGS_WCLK0_LOSS, Reg.TB_FLAGS_WCLK1_LOSS,
      Reg.TB_FLAGS_SET_REFUSED, Reg.TB_FLAGS_FS_BUSY, Reg.TB_FLAGS_REF_REFUSED, Reg.TB_FLAGS_XT32_FAIL, Reg.TB_FLAGS_RESYNC] := by decide

theorem fieldsAt_tbWclkOfs : Reg.fieldsAt 0x60028 = [Reg.TB_WCLK_OFS] := by decide

theorem fieldsAt_hiCntAccept : Reg.fieldsAt 0x10010 = [Reg.HI_CNT_ACCEPT] := by decide

/-! ### A host read -/

theorem Moves.answer {s t : State} {ps : List Part} {fs : List Fld} (v : Nat) (h : Part.rdata ∈ ps) (a : Moves s t ps fs) :
    Moves s (t.answer v) ps fs := a.rdata _ h

/-- A register of one whole RC field: its value is returned, and the field cleared (R15). -/
theorem State.readFields_rc (s : State) {off : Nat} {f : Fld} (hf : Reg.fieldsAt off = [f]) (hacc : f.acc = .rc) (hlsb : f.lsb = 0) :
    s.readFields off = (s.answer (s.get f)).put f 0 := by
  have hw : s.word off = s.get f := by simp [State.word, hf, hacc, hlsb]
  simp [State.readFields, hf, hacc, hw]

/-- HI_CNT_ACCEPT has no rule of its own. -/
theorem State.hostRead_hiCntAccept (s : State) (hl : s.linkOpen = true) (hr : s.get Reg.ID_BOOT_STAT_READY = 1) (hd : s.domOn 13 = true) :
    s.hostRead 0x10010 = (s.answer (s.get Reg.HI_CNT_ACCEPT)).put Reg.HI_CNT_ACCEPT 0 := by
  have hon : s.regOn 0x10010 = true := hd
  have hs : s.rdBase 0x10010 = none := rfl
  simp [State.hostRead, hl, State.barOpen_of_ready s _ hr, State.busRead, hon, hs, State.readFields_rc s fieldsAt_hiCntAccept rfl rfl]

/-! ### The low half of a pair (R16) -/

theorem State.readLow_rdata (s : State) (o v : Nat) : (s.readLow o v).rdata = v % 2 ^ 32 := rfl

theorem State.readLow_shadow_self (s : State) (o v : Nat) : Tbl.get none (s.readLow o v).shadows o = some (v / 2 ^ 32 % 2 ^ 32) := by
  simp only [State.readLow, State.latch, Tbl.get_put_self]

theorem State.readLow_shadow_ne (s : State) {o o' : Nat} (v : Nat) (h : o' ≠ o) :
    Tbl.get none (s.readLow o v).shadows o' = Tbl.get none s.shadows o' := by
  simp only [State.readLow, State.latch, Tbl.get_put_ne _ _ _ _ h.symm]

theorem Moves.readLow {s t : State} {ps : List Part} {fs : List Fld} (o v : Nat) (hs : Part.shadows ∈ ps) (hr : Part.rdata ∈ ps)
    (a : Moves s t ps fs) : Moves s (t.readLow o v) ps fs := (a.shadows _ hs).rdata _ hr

/-- The low half of every pair but TB_NOW, a compare count's while it is linked, is returned and its high half latched. -/
theorem State.readPair_eq_readLow (s : State) {p : Pair} (hp : p ≠ .now)
    (hc : ∀ m : Fin 4, p = .cmpCount m → s.get (Reg.TB_CMP_CFG_LINK (2 * m)) = 1) :
    s.readPair p = s.readLow (s.pairVal p).2 (s.pairVal p).1 := by
  cases p with
  | now => exact absurd rfl hp
  | cmpCount m => simp [State.readPair, State.on, hc m rfl]
  | frame | cmp | block | cyc | rootUid | nbUid | memErr | alarm => rfl

/-- An unlinked compare count is returned alone (R55). -/
theorem State.readPair_unlinked (s : State) (m : Fin 4) (h : s.get (Reg.TB_CMP_CFG_LINK (2 * m)) = 0) :
    s.readPair (.cmpCount m) = { s with rdata := s.get (Reg.TB_CMP_COUNT (2 * m)) } := by
  have hlt : s.get (Reg.TB_CMP_COUNT (2 * m)) < 2 ^ 32 := s.get_lt _
  simp only [State.readPair, State.pairVal, State.on, h, State.get64, Nat.add_mul_mod_self_left, Nat.mod_eq_of_lt hlt]
  rfl

/-! ### The commands -/

theorem exec_registerWrite (off : BitVec 24) (be : BitVec 4) (v : BitVec 32) (s : State) :
    exec (.registerWrite off be v) s = .next (s.hostWrite off.toNat be.toNat v.toNat) := rfl

theorem exec_readClear (off : BitVec 24) (s : State) : exec (.readClear off) s = .next (s.hostRead off.toNat) := rfl

theorem exec_shadowLowRead (p : Pair) (s : State) : exec (.shadowLowRead p) s = .next (s.readPair p) := rfl

/-- A write with fewer than four byte enables, or unaligned, is ignored (R14). -/
theorem registerWrite_ignored (s : State) (off : BitVec 24) (be : BitVec 4) (v : BitVec 32) (hl : s.linkOpen = true)
    (h : be ≠ 15 ∨ off.toNat % 4 ≠ 0) : exec (.registerWrite off be v) s = .next s := by
  have hn : be.toNat ≠ 15 ∨ off.toNat % 4 ≠ 0 := h.imp_left fun hbe e => hbe (BitVec.eq_of_toNat_eq e)
  rw [exec_registerWrite, State.hostWrite_ignored s _ hl hn]

/-- REGISTER_WRITE of TB_STAT, TB_FLAGS or TB_WCLK_OFS. -/
theorem registerWrite_tb (s : State) (off : BitVec 24) (v : BitVec 32) (hl : s.linkOpen = true) (hd : s.domOn 3 = true) {o : Nat}
    (ho : off.toNat = o) (h : o ∈ [0x60010, 0x60014, 0x60028]) :
    exec (.registerWrite off 15 v) s = .next (if s.barOpen o then s.writeFields o v.toNat else s) := by
  have hrange : 0x60000 ≤ o ∧ o < 0x60040 ∧ o % 4 = 0 := by
    simp only [List.mem_cons, List.not_mem_nil, or_false] at h; omega
  obtain ⟨hlo, hhi, ha⟩ := hrange
  have hbe : (15 : BitVec 4).toNat = 15 := rfl
  rw [exec_registerWrite, ho, hbe, State.hostWrite_tb s v.toNat hl hd hlo hhi ha (s.wrTime_none _ h)]

/-- An RW field takes its bits. -/
theorem registerWrite_wclkOfs (s : State) (v : BitVec 32) (hl : s.linkOpen = true) (hd : s.domOn 3 = true)
    (hr : s.get Reg.ID_BOOT_STAT_READY = 1) : ∃ t, exec (.registerWrite 0x60028 15 v) s = .next t
      ∧ t.get Reg.TB_WCLK_OFS = v.toNat ∧ Moves s t [] [Reg.TB_WCLK_OFS] := by
  refine ⟨s.writeFields 0x60028 v.toNat, ?_, ?_, fieldsAt_tbWclkOfs ▸ Moves.writeFields s 0x60028 v.toNat⟩
  · rw [registerWrite_tb s _ v hl hd (o := 0x60028) rfl (by decide), if_pos (s.barOpen_of_ready _ hr)]
  · have hb : bits v.toNat 0 32 = v.toNat := by simp only [bits]; omega
    have hf : s.writeFields 0x60028 v.toNat = s.put Reg.TB_WCLK_OFS v.toNat := by
      rw [State.writeFields, fieldsAt_tbWclkOfs]
      exact (s.writeField_rw (f := Reg.TB_WCLK_OFS) v.toNat rfl).trans (congrArg (s.put Reg.TB_WCLK_OFS) hb)
    rw [hf, State.get_put_self]
    exact Nat.mod_eq_of_lt v.isLt

/-- W1C flags are cleared by a 1 and kept by a 0. -/
theorem registerWrite_tbFlags (s : State) (v : BitVec 32) (hl : s.linkOpen = true) (hd : s.domOn 3 = true)
    (hr : s.get Reg.ID_BOOT_STAT_READY = 1) : ∃ t, exec (.registerWrite 0x60014 15 v) s = .next t
      ∧ (∀ f ∈ Reg.fieldsAt 0x60014, t.get f = if bit v.toNat f.lsb then 0 else s.get f) ∧ Moves s t [] (Reg.fieldsAt 0x60014) := by
  refine ⟨s.writeFields 0x60014 v.toNat, ?_, ?_, Moves.writeFields s 0x60014 v.toNat⟩
  · rw [registerWrite_tb s _ v hl hd (o := 0x60014) rfl (by decide), if_pos (s.barOpen_of_ready _ hr)]
  · exact State.get_foldl_writeField_w1c s v.toNat _ (by rw [fieldsAt_tbFlags]; decide) (by rw [fieldsAt_tbFlags]; decide)

/-- An RO register keeps its value, whether BAR0 is open or not. -/
theorem registerWrite_tbStat (s : State) (v : BitVec 32) (hl : s.linkOpen = true) (hd : s.domOn 3 = true) :
    exec (.registerWrite 0x60010 15 v) s = .next s := by
  have hf : s.writeFields 0x60010 v.toNat = s := s.writeFields_ro _ _ (by rw [fieldsAt_tbStat]; decide)
  rw [registerWrite_tb s _ v hl hd (o := 0x60010) rfl (by decide), hf, ite_self]

/-- An RC field is returned and cleared. -/
theorem readClear_hiCntAccept (s : State) (hl : s.linkOpen = true) (hr : s.get Reg.ID_BOOT_STAT_READY = 1) (hd : s.domOn 13 = true) :
    ∃ t, exec (.readClear 0x10010) s = .next t
      ∧ t.rdata = s.get Reg.HI_CNT_ACCEPT ∧ t.get Reg.HI_CNT_ACCEPT = 0 ∧ Moves s t [.rdata] [Reg.HI_CNT_ACCEPT] := by
  have ho : (0x10010 : BitVec 24).toNat = 0x10010 := rfl
  refine ⟨(s.answer (s.get Reg.HI_CNT_ACCEPT)).put Reg.HI_CNT_ACCEPT 0, ?_, Nat.mod_eq_of_lt (s.get_lt Reg.HI_CNT_ACCEPT), ?_, ?_⟩
  · rw [exec_readClear, ho, s.hostRead_hiCntAccept hl hr hd]
  · rw [State.get_put_self, Nat.zero_mod]
  · exact ((Moves.refl s _ _).answer _ (by decide)).put _ _ (List.mem_singleton.2 rfl)

/-- TB_NOW's low half is returned; its high half and its fraction are latched (R16, R19). -/
theorem shadowLowRead_now (s : State) : ∃ t, exec (.shadowLowRead .now) s = .next t ∧ t.rdata = s.ns % 2 ^ 32
    ∧ Tbl.get none t.shadows 0x60004 = some (s.ns / 2 ^ 32 % 2 ^ 32)
    ∧ Tbl.get none t.shadows 0x60008 = some (s.tb.now / 2 ^ 16 % 2 ^ 16) ∧ Moves s t [.rdata, .shadows] [] := by
  refine ⟨(s.latch 0x60008 (s.tb.now / 2 ^ 16 % 2 ^ 16)).readLow 0x60004 s.ns, exec_shadowLowRead .now s, rfl,
    State.readLow_shadow_self _ _ _, ?_, ?_⟩
  · have hfrac : s.tb.now / 2 ^ 16 % 2 ^ 16 % 2 ^ 32 = s.tb.now / 2 ^ 16 % 2 ^ 16 := by omega
    rw [State.readLow_shadow_ne _ _ (by decide)]
    simp only [State.latch, Tbl.get_put_self, hfrac]
  · exact ((Moves.refl s _ _).shadows _ (by decide)).readLow _ _ (by decide) (by decide)

/-- Any other pair's low half is returned and its high half latched. -/
theorem shadowLowRead_pair (s : State) (p : Pair) (hp : p ≠ .now)
    (hc : ∀ m : Fin 4, p = .cmpCount m → s.get (Reg.TB_CMP_CFG_LINK (2 * m)) = 1) :
    ∃ t, exec (.shadowLowRead p) s = .next t ∧ t.rdata = (s.pairVal p).1 % 2 ^ 32
      ∧ Tbl.get none t.shadows (s.pairVal p).2 = some ((s.pairVal p).1 / 2 ^ 32 % 2 ^ 32)
      ∧ (∀ o, o ≠ (s.pairVal p).2 → Tbl.get none t.shadows o = Tbl.get none s.shadows o) ∧ Moves s t [.rdata, .shadows] [] := by
  refine ⟨s.readLow (s.pairVal p).2 (s.pairVal p).1, ?_, rfl, s.readLow_shadow_self _ _, fun o h => s.readLow_shadow_ne _ h,
    (Moves.refl s _ _).readLow _ _ (by decide) (by decide)⟩
  rw [exec_shadowLowRead, s.readPair_eq_readLow hp hc]

/-- An unlinked compare count is returned, and nothing latched (R55). -/
theorem shadowLowRead_unlinked (s : State) (m : Fin 4) (h : s.get (Reg.TB_CMP_CFG_LINK (2 * m)) = 0) :
    ∃ t, exec (.shadowLowRead (.cmpCount m)) s = .next t ∧ t.rdata = s.get (Reg.TB_CMP_COUNT (2 * m)) ∧ Moves s t [.rdata] [] := by
  refine ⟨{ s with rdata := s.get (Reg.TB_CMP_COUNT (2 * m)) }, ?_, rfl, (Moves.refl s _ _).rdata _ (by decide)⟩
  rw [exec_shadowLowRead, s.readPair_unlinked m h]

/-- Settles O23: each clause is the write or the read of one register through its fields, or of one pair. -/
theorem registerAccess : Obligations.RegisterAccess := by
  intro s off be v hl hd
  refine ⟨registerWrite_ignored s off be v hl, registerWrite_wclkOfs s v hl hd, fun hr => ?_, registerWrite_tbStat s v hl hd,
    readClear_hiCntAccept s hl, shadowLowRead_now s, shadowLowRead_pair s, shadowLowRead_unlinked s⟩
  exact fieldsAt_tbFlags ▸ registerWrite_tbFlags s v hl hd hr

end Sys2Proof.Machine
end

section
/-!
SUPPORT. The state after a power-on reset, part by part (R3, R4, R250, R252, R520), and the obligation on it.
-/
namespace Sys2Proof.Machine

/-! ### The invariant at reset -/

theorem Bank.zero_shaped : Bank.zero.shaped := ⟨rfl, rfl, rfl, rfl⟩

theorem Core.zero_shaped : Core.zero.shaped :=
  ⟨rfl, fun _ hb => List.eq_of_mem_replicate hb ▸ Bank.zero_shaped, Nat.zero_lt_succ _, rfl⟩

theorem State.reset_inv : State.reset.Inv :=
  ⟨⟨rfl, rfl⟩, { cores := rfl, core := fun _ hk => List.eq_of_mem_replicate hk ▸ Core.zero_shaped, eq := rfl, ports := rfl, groups := rfl
                 dma := rfl, uarts := rfl, buses := rfl, chans := rfl, refs := rfl, trig := rfl }⟩

/-! ### Registers at reset -/

/-- No register is listed at reset, so each reads as its table gives it. -/
theorem State.get_reset (f : Fld) : State.reset.get f = f.reset % 2 ^ f.w := rfl

/-- The value of a list of registers at reset is a matter of their tables. -/
theorem State.get_reset_of_mem (l : List (Fld × Nat)) (h : ∀ e ∈ l, e.1.reset % 2 ^ e.1.w = e.2) :
    ∀ e ∈ l, State.reset.get e.1 = e.2 := h

/-! ### The cores at reset -/

/-- Within a list of copies of `x`, every place holds `x`. -/
theorem getD_replicate_of_lt {α : Type} {n i : Nat} (x d : α) (h : i < n) : (List.replicate n x).getD i d = x := by
  rw [List.getD_eq_getElem?_getD, List.getElem?_replicate, if_pos h, Option.getD_some]

/-- A list of copies of the default reads as the default, past its end too. -/
theorem getD_replicate_self {α : Type} (d : α) (n i : Nat) : (List.replicate n d).getD i d = d := by
  rw [List.getD_eq_getElem?_getD, List.getElem?_replicate]
  by_cases h : i < n
  · rw [if_pos h, Option.getD_some]
  · rw [if_neg h, Option.getD_none]

theorem State.core_reset (c : Nat) : State.reset.core c = Core.zero := getD_replicate_self ..

theorem Core.zero_bankOf (b : Nat) : Core.zero.bankOf b = Bank.zero := getD_replicate_self ..

/-- Every register of every bank of a core is 0 at reset (R252). -/
theorem Core.zero_reg (b i : Nat) : Core.zero.reg b i = 0 := by
  have hg : Bank.zero.g.getD i 0 = 0 := getD_replicate_self ..
  have ha : Bank.zero.a.getD (i - 32) 0 = 0 := getD_replicate_self ..
  have hacc : Bank.zero.acc.getD (i - 40) 0 = 0 := getD_replicate_self ..
  simp only [Core.reg, Core.zero_bankOf, hg, ha, hacc]
  split
  · rfl
  · split <;> rfl

theorem Core.zero_wmap {w : Nat} (h : w < 8) : Core.zero.wmap.getD w 1 = 0 := getD_replicate_of_lt 0 1 h

theorem Bank.zero_bs {n : Nat} (h : n < 7) : Bank.zero.bs.getD n 1 = 0 := getD_replicate_of_lt 0 1 h

/-- Settles O58: no register is listed at reset, every part is empty, and each core is the core of R250 and R252. -/
theorem resetState : Obligations.ResetState := by
  refine ⟨State.reset_inv, State.get_reset, State.get_reset_of_mem _ (by decide), fun _ _ => State.get_reset _,
    fun _ _ => ⟨rfl, rfl, rfl⟩, fun _ _ => ⟨rfl, rfl, rfl⟩, fun _ _ => ⟨rfl, rfl, rfl, rfl⟩, fun _ _ => ⟨rfl, rfl, rfl⟩,
    fun _ _ => ⟨rfl, rfl⟩, fun c _ => ?_, fun _ => ⟨rfl, rfl⟩, rfl, rfl, rfl, fun _ => rfl, fun _ => rfl⟩
  simp only [State.core_reset]
  exact ⟨rfl, rfl, rfl, rfl, rfl, rfl, rfl, rfl, rfl, rfl, rfl, rfl, rfl, rfl, rfl, rfl, rfl, fun _ => rfl, fun _ => Core.zero_wmap,
    fun b i _ => Core.zero_reg b i, fun b _ _ hn => (Core.zero_bankOf b).symm ▸ Bank.zero_bs hn⟩

end Sys2Proof.Machine
end

section
/-!
SUPPORT. The block in render and its play (R204 to R206): what the deadline test, the start of cluster E's part, the end of the render and
the play start do; with them the obligation on them.
-/
namespace Sys2Proof.Machine

/-! ### What a block's sounds leave alone -/

/-- The scheduler's state, the allocator and the cores are as before: sending a block's streams and playing it leave these alone. -/
structure SchedKept (s t : State) : Prop where
  sch : t.sch = s.sch
  al : t.al = s.al
  cores : t.cores = s.cores

theorem SchedKept.refl (s : State) : SchedKept s s := ⟨rfl, rfl, rfl⟩

theorem SchedKept.trans {s t u : State} (a : SchedKept s t) (b : SchedKept t u) : SchedKept s u :=
  ⟨b.sch.trans a.sch, b.al.trans a.al, b.cores.trans a.cores⟩

theorem SchedKept.ite {s t u : State} {c : Prop} [Decidable c] (a : SchedKept s t) (b : SchedKept s u) : SchedKept s (if c then t else u) := by
  split <;> assumption

theorem SchedKept.foldl {α : Type} (g : State → α → State) (h : ∀ s a, SchedKept s (g s a)) (l : List α) (s : State) :
    SchedKept s (l.foldl g s) :=
  List.foldlRecOn (motive := SchedKept s) l g (.refl s) (fun t ht a _ => ht.trans (h t a))

/-- Records and the module's own frames leave the scheduler alone. -/
theorem RecFrame.schedKept {s t : State} (h : RecFrame s t) : SchedKept s t := ⟨h.sch, h.al, h.cores⟩

theorem RecFrame.get {s t : State} (h : RecFrame s t) (f : Fld) (hf : recTouches f.key = false) : t.get f = s.get f := by
  rw [State.get, State.get, h.reg _ _ hf]

theorem SchedKept.setMix (s : State) (f : Mix → Mix) : SchedKept s (s.setMix f) := ⟨rfl, rfl, rfl⟩

theorem SchedKept.setSv (s : State) (f : Services → Services) : SchedKept s (s.setSv f) := ⟨rfl, rfl, rfl⟩

theorem SchedKept.put (s : State) (f : Fld) (v : Nat) : SchedKept s (s.put f v) := ⟨rfl, rfl, rfl⟩

theorem SchedKept.clip (s : State) (dst n : Nat) : SchedKept s (s.clip dst n) := .ite (.refl s) (.setMix s _)

theorem SchedKept.sendStream (s : State) (bcast : Bool) (dst sid j cnt bseq : Nat) (code : Nat → Nat → Int) :
    SchedKept s (s.sendStream bcast dst sid j cnt bseq code) :=
  .foldl _ (fun s _ => .ite (RecFrame.queueFrame s _ _ _ _).schedKept (RecFrame.sendTo s _ _ _ _ _).schedKept) _ s

theorem SchedKept.streamsOut (s : State) (b : Block) : SchedKept s (s.streamsOut b) := by
  unfold State.streamsOut
  refine (SchedKept.foldl _ (fun t x => ?_) _ s).trans (.setSv _ _)
  exact .ite ((SchedKept.foldl _ (fun u _ => .clip u _ _) _ t).trans (.sendStream ..)) (.refl t)

theorem SchedKept.lanesOut (s : State) (j : Nat) : SchedKept s (s.lanesOut j) := by
  unfold State.lanesOut
  refine (SchedKept.foldl _ (fun t l => ?_) _ s).trans (.setSv _ _)
  exact .ite (.sendStream ..) (.refl t)

/-! ### Playing a block (R205) -/

theorem SchedKept.markDead (s : State) (a b : Nat) (all : Bool) : SchedKept s (s.markDead a b all) := .ite (.refl s) (.setMix s _)

theorem SchedKept.deliver (s : State) (dst j : Nat) : SchedKept s (s.deliver dst j) :=
  (SchedKept.setMix s _).trans ((SchedKept.clip _ dst _).trans ⟨rfl, rfl, rfl⟩)

theorem SchedKept.aoHeard (s : State) (dst : Nat) (l : List Int) : SchedKept s (s.aoHeard dst l) := .ite (.put s _ _) (.refl s)

theorem SchedKept.tdmUnder (s : State) (n lost : Nat) : SchedKept s (s.tdmUnder n lost) := .ite ⟨rfl, rfl, rfl⟩ (.refl s)

theorem SchedKept.underrun (s : State) (j k n : Nat) : SchedKept s (s.underrun j k n) :=
  .ite (.refl s) ((((SchedKept.put s _ _).trans (.put _ _ _)).trans (.put _ _ _)).trans (RecFrame.eventAt ..).schedKept)

/-- Replaced frames are an underrun (R205, R217). -/
theorem State.get_underrun_flag (s : State) (j k n : Nat) (h : n ≠ 0) : (s.underrun j k n).get Reg.AL_SCH_FLAGS_UNDERRUN = 1 := by
  rw [State.underrun, if_neg h, State.eventAt_get _ _ _ _ _ _ _ _ (by decide), State.get_set1_self _ _ rfl]

theorem State.blockLen_pos (s : State) : 0 < s.blockLen := Nat.mul_pos (by decide) (Nat.two_pow_pos _)

/-- A block's play leaves the scheduler, the allocator and the cores alone. -/
theorem SchedKept.playBlock (s : State) (j : Nat) (b : Option Block) (undr : Bool) : SchedKept s (s.playBlock j b undr) := by
  have dst : ∀ (t : State) (d : Nat), SchedKept t (match (t.deliver d j).out with
      | .codes _ _ l :: _ => (t.deliver d j).aoHeard d l
      | _ => t.deliver d j) := by
    intro t d
    split
    · exact (SchedKept.deliver t d j).trans (.aoHeard ..)
    · exact .deliver t d j
  exact (((((SchedKept.markDead s _ _ _).trans (.setMix _ _)).trans (.foldl _ dst _ _)).trans (.tdmUnder _ 0 _)).trans (.tdmUnder _ 1 _)).trans
    (.ite (.underrun ..) (.refl _))

/-- Every frame of a block that never completed is replaced: an underrun. -/
theorem State.get_playBlock_none (s : State) (j : Nat) : (s.playBlock j none true).get Reg.AL_SCH_FLAGS_UNDERRUN = 1 := by
  have lost : ((List.range s.blockLen).filter (fun _ => true)).length ≠ 0 := by
    rw [List.filter_eq_self.2 (fun _ _ => rfl), List.length_range]
    exact Nat.ne_of_gt s.blockLen_pos
  exact State.get_underrun_flag _ _ _ _ lost

/-! ### The deadline test (R204) -/

theorem State.lateTest_none (s : State) (h : s.sch.cur = none) : s.lateTest = s := by
  simp only [State.lateTest, h]

theorem State.lateTest_some (s : State) {b : Block} (h : s.sch.cur = some b) :
    s.lateTest = if b.late = false ∧ s.deadline b.j ≤ s.tu then s.markLate b else s := by
  simp only [State.lateTest, h, Bool.not_eq_true']

/-- Before its deadline, and once it is marked, a block passes the test. -/
theorem State.lateTest_in_time (s : State) {b : Block} (h : s.sch.cur = some b) (ht : b.late = true ∨ s.tu < s.deadline b.j) :
    s.lateTest = s := by
  rw [State.lateTest_some s h, if_neg]
  rintro ⟨hl, hd⟩
  rcases ht with ht | ht
  · rw [ht] at hl; cases hl
  · omega

theorem State.deadline_congr {s t : State} (h : ∀ f ∈ [Reg.AL_SCH_CTRL_SLACK, Reg.AL_SCH_CTRL_BLOCK, Reg.TB_CTRL_FS], t.get f = s.get f) (j : Nat) :
    t.deadline j = s.deadline j := by
  simp only [List.forall_mem_cons, List.not_mem_nil, false_imp_iff, implies_true, and_true] at h
  obtain ⟨hs, hb, hf⟩ := h
  simp only [State.deadline, State.slack, State.blockT, State.blockLen, State.fper, State.fs, hs, hb, hf]

/-- What the mark of a late block counts, before its records (R204). -/
def State.lateCounted (s : State) (b : Block) : State :=
  (s.count Reg.AL_SCH_CNT_LATEBLK 1).setSch (fun x => { x with lateEp := x.lateEp + 1, cur := some { b with late := true } })

theorem State.get_lateCounted_ne (s : State) (b : Block) {f : Fld} (h : Reg.AL_SCH_CNT_LATEBLK.key ≠ f.key) :
    (s.lateCounted b).get f = s.get f := State.get_count_ne s 1 h

theorem State.get_lateCounted_self (s : State) (b : Block) :
    (s.lateCounted b).get Reg.AL_SCH_CNT_LATEBLK = (s.get Reg.AL_SCH_CNT_LATEBLK + 1) % 2 ^ 32 := State.get_count_self s _ 1

/-- The same with the record that an episode of late blocks begins with (R204, R217). -/
def State.lateMarked (s : State) (b : Block) : State :=
  if (s.lateCounted b).sch.lateEp = 1 then (s.lateCounted b).eventAt (tuNs (s.playStart b.j)) 0x38 64 0 1 (pay 16 1 + pay 24 b.j)
  else s.lateCounted b

theorem State.lateMarked_frame (s : State) (b : Block) : RecFrame (s.lateCounted b) (s.lateMarked b) := .ite (.eventAt ..) (.refl _)

/-- None of the fields a deadline is made of is a late block's count. -/
theorem State.deadline_lateMarked (s : State) (b : Block) (j : Nat) : (s.lateMarked b).deadline j = s.deadline j :=
  State.deadline_congr (fun f hf => by
    have hk : Reg.AL_SCH_CNT_LATEBLK.key ≠ f.key ∧ recTouches f.key = false := by revert f; decide
    rw [(s.lateMarked_frame b).get f hk.2, State.get_lateCounted_ne s b hk.1]) j

/-- The mark of a late block, and the bus's flag with its record where every BDONE came in time (R204). -/
theorem State.markLate_eq (s : State) (b : Block) : s.markLate b = if b.waiting = [] ∧ b.lastBdone < s.deadline b.j
    then ((s.lateMarked b).set1 Reg.AL_SCH_FLAGS_BUS_LATE).eventAt (tuNs (s.playStart b.j)) 0x3E 70 0 0 (pay 24 b.j)
    else s.lateMarked b := by
  simp only [← List.isEmpty_iff, ← s.deadline_lateMarked b]
  rfl

/-- What the mark of a late block leaves: its record in the scheduler, its count, the bus's flag (R204). -/
theorem State.markLate_spec (s : State) (b : Block) : let t := s.markLate b
    t.sch = { s.sch with lateEp := s.sch.lateEp + 1, cur := some { b with late := true } }
    ∧ t.get Reg.AL_SCH_CNT_LATEBLK = (s.get Reg.AL_SCH_CNT_LATEBLK + 1) % 2 ^ 32
    ∧ (b.waiting = [] → b.lastBdone < s.deadline b.j → t.get Reg.AL_SCH_FLAGS_BUS_LATE = 1)
    ∧ (b.waiting ≠ [] → t.get Reg.AL_SCH_FLAGS_BUS_LATE = s.get Reg.AL_SCH_FLAGS_BUS_LATE)
    ∧ t.al = s.al ∧ t.cores = s.cores ∧ t.tb = s.tb := by
  have hm := s.lateMarked_frame b
  have hcnt : (s.lateMarked b).get Reg.AL_SCH_CNT_LATEBLK = (s.get Reg.AL_SCH_CNT_LATEBLK + 1) % 2 ^ 32 :=
    (hm.get _ (by decide)).trans (s.get_lateCounted_self b)
  rw [State.markLate_eq]
  by_cases h : b.waiting = [] ∧ b.lastBdone < s.deadline b.j
  · rw [if_pos h]
    have hf := RecFrame.eventAt ((s.lateMarked b).set1 Reg.AL_SCH_FLAGS_BUS_LATE) (tuNs (s.playStart b.j)) 0x3E 70 0 0 (pay 24 b.j)
    exact ⟨hf.sch.trans hm.sch, (hf.get _ (by decide)).trans ((State.get_set1_ne _ (by decide)).trans hcnt),
      fun _ _ => (hf.get _ (by decide)).trans (State.get_set1_self _ _ rfl), fun hw => absurd h.1 hw,
      hf.al.trans hm.al, hf.cores.trans hm.cores, hf.tb.trans hm.tb⟩
  · rw [if_neg h]
    exact ⟨hm.sch, hcnt, fun hw hl => absurd ⟨hw, hl⟩ h, fun _ => (hm.get _ (by decide)).trans (s.get_lateCounted_ne b (by decide)),
      hm.al, hm.cores, hm.tb⟩

/-! ### Cluster E's part and the end of the render (R206, R242) -/

theorem State.mixStart_none (s : State) (h : s.sch.cur = none) : s.mixStart = s := by
  simp only [State.mixStart, h]

theorem State.mixStart_waits (s : State) {b : Block} (h : s.sch.cur = some b)
    (hw : b.waiting ≠ [] ∨ b.mixOn = true ∨ s.coresE = [] ∨ s.mix.out = true) : s.mixStart = s := by
  simp only [State.mixStart, h]
  rw [if_neg]
  simp only [List.isEmpty_iff, Bool.not_eq_true', List.isEmpty_eq_false_iff]
  rintro ⟨hwait, hon, hcores, hout⟩
  rcases hw with hw | hw | hw | hw
  · exact hw hwait
  · rw [hon] at hw; cases hw
  · exact hcores hw
  · rw [hout] at hw; cases hw

/-- Once every awaited BDONE has come, cluster E takes the block, for at least nothing from then on. -/
theorem State.mixStart_begins (s : State) {b : Block} (h : s.sch.cur = some b) (hw : b.waiting = []) (hm : b.mixOn = false)
    (he : s.coresE ≠ []) (ho : s.mix.out = false) : ∃ e, s.mixStart.sch.cur = some { b with mixOn := true, mixEnd := e } ∧ b.mixFrom ≤ e
      ∧ s.mixStart.sch.heardJ = b.j ∧ s.mixStart.sch.heard = b.wrote := by
  simp only [State.mixStart, h]
  rw [if_pos (by simp [hw, hm, he, ho])]
  exact ⟨_, rfl, Nat.le_add_right .., rfl, rfl⟩

theorem State.renderDone_none (s : State) (h : s.sch.cur = none) : s.renderDone = s := by
  simp only [State.renderDone, State.lateTest_none s h, h]

theorem State.renderDone_waits (s : State) {b : Block} (h : s.sch.cur = some b) (ht : b.late = true ∨ s.tu < s.deadline b.j)
    (hw : b.mixOn = false ∨ b.waitE ≠ [] ∨ s.tu < b.mixEnd) : s.renderDone = s := by
  simp only [State.renderDone, State.lateTest_in_time s h ht, h]
  rw [if_neg]
  rintro ⟨h1, h2, h3⟩
  rcases hw with hw | hw | hw
  · rw [hw] at h1; cases h1
  · exact hw (List.isEmpty_iff.1 h2)
  · omega

/-- A block complete before its own play is owed becomes ready. -/
theorem State.renderDone_ready (s : State) {b : Block} (h : s.sch.cur = some b) (ht : b.late = true ∨ s.tu < s.deadline b.j)
    (hm : b.mixOn = true) (hw : b.waitE = []) (he : b.mixEnd ≤ s.tu) (hp : s.sch.play ≤ b.j) (ho : s.sch.owe ≠ some b.j) :
    SchedKept (s.setSch (fun x => { x with cur := none, lastDone := s.tu, ready := x.ready ++ [{ b with complete := some s.tu }] }))
      s.renderDone := by
  have sent (t : State) (c : Block) : SchedKept t ((t.streamsOut c).lanesOut b.j) := (SchedKept.streamsOut t c).trans (.lanesOut _ b.j)
  simp only [State.renderDone, State.lateTest_in_time s h ht, h, State.setSch, if_pos hp]
  rw [if_pos ⟨hm, List.isEmpty_iff.2 hw, he⟩, if_neg (by rw [(sent _ _).sch]; exact ho)]
  exact sent _ _

/-! ### Play starts (R205) -/

theorem State.playNext_waits (s : State) (h : s.tu < s.playStart s.sch.play ∨ s.schState < 2) : s.playNext = s := by
  simp only [State.playNext]
  rw [if_neg]
  omega

/-- A play start of a running scheduler with no block ready: what was owed is settled, and this block is owed. -/
theorem State.playNext_owes (s : State) (hs : s.schState = 2) (hp : s.playStart s.sch.play ≤ s.tu) (hr : s.settleOwed.sch.ready = []) :
    s.playNext = s.settleOwed.setSch (fun x => { x with play := s.sch.play + 1, owe := some s.sch.play }) := by
  simp only [State.playNext]
  rw [if_pos ⟨.inl hs, hp, .inr hs⟩]
  simp [State.setSch, hr]

theorem State.settleOwed_none (s : State) (h : s.sch.owe = none) : s.settleOwed = s := by
  simp only [State.settleOwed, h]

theorem State.settleOwed_some (s : State) {j : Nat} (h : s.sch.owe = some j) :
    SchedKept (s.setSch (fun x => { x with owe := none })) s.settleOwed ∧ s.settleOwed.get Reg.AL_SCH_FLAGS_UNDERRUN = 1 := by
  simp only [State.settleOwed, h]
  exact ⟨.playBlock .., State.get_playBlock_none ..⟩

/-! ### The commands -/

theorem exec_blockDeadline (s : State) : exec .blockDeadline s = .next s.lateTest := rfl
theorem exec_mixBlockStart (s : State) : exec .mixBlockStart s = .next s.mixStart := rfl
theorem exec_blockRenderComplete (s : State) : exec .blockRenderComplete s = .next s.renderDone := rfl
theorem exec_playStart (s : State) : exec .playStart s = .next s.playNext := rfl

/-- Settles O28: each command is its test of the block in render or of the play start, and what follows where the test holds. -/
theorem blockProgress : Obligations.BlockProgress := by
  intro s b
  simp only [exec_blockDeadline, exec_mixBlockStart, exec_blockRenderComplete, exec_playStart]
  refine ⟨fun h => ⟨?_, ?_, ?_⟩, fun h ht => ?_, fun h hl hd => ⟨_, rfl, ?_⟩, fun h hw => ?_, fun h hw hm he ho => ?_, fun h ht hw => ?_,
    fun h ht hm hw he hp ho => ⟨_, rfl, ?_⟩, fun h => ?_, fun hs hp hr => ⟨fun ho => ⟨_, rfl, ?_⟩, fun j ho => ⟨_, rfl, ?_⟩⟩⟩
  · rw [State.lateTest_none s h]
  · rw [State.mixStart_none s h]
  · rw [State.renderDone_none s h]
  · rw [State.lateTest_in_time s h ht]
  · rw [State.lateTest_some s h, if_pos ⟨hl, hd⟩]
    exact s.markLate_spec b
  · rw [State.mixStart_waits s h hw]
  · obtain ⟨e, hcur, hend, hj, hh⟩ := s.mixStart_begins h hw hm he ho
    exact ⟨_, e, rfl, hcur, hend, hj, hh⟩
  · rw [State.renderDone_waits s h ht hw]
  · have k := s.renderDone_ready h ht hm hw he hp ho
    exact ⟨congrArg Sched.cur k.sch, congrArg Sched.lastDone k.sch, congrArg Sched.ready k.sch, k.al, k.cores⟩
  · rw [State.playNext_waits s h]
  · have e := s.settleOwed_none ho
    rw [State.playNext_owes s hs hp (by rw [e, hr]), e]
    exact ⟨rfl, (Moves.refl s _ _).sch _ (List.mem_singleton_self _)⟩
  · obtain ⟨k, hu⟩ := s.settleOwed_some ho
    rw [State.playNext_owes s hs hp (by rw [k.sch]; exact hr)]
    refine ⟨?_, hu, k.al, k.cores⟩
    simp only [State.setSch, k.sch]

end Sys2Proof.Machine
end

section
/-!
SUPPORT. The acceptance of a timed descriptor (R198, R212, R319 to R321, R292): what it takes and notes, and the obligation on it.
-/
namespace Sys2Proof.Machine

/-! ### Taking a number (R318, R344) -/

theorem State.newFlight_moves (s : State) (n d : Nat) : Moves s (s.newFlight n d).2 [.hi] [Reg.HI_CNT_ACCEPT] :=
  ((Moves.refl s _ _).hi _ (List.mem_singleton_self _)).put _ _ (List.mem_singleton_self _)

theorem State.newFlight_hi (s : State) (n d : Nat) :
    (s.newFlight n d).2.hi = { s.hi with nextSeq := s.hi.nextSeq + 1, flights := s.hi.flights ++ [(s.newFlight n d).1] } := rfl

theorem State.newFlight_accepted (s : State) (n d : Nat) :
    (s.newFlight n d).2.get Reg.HI_CNT_ACCEPT = (s.get Reg.HI_CNT_ACCEPT + 1) % 2 ^ 32 := State.get_count_self _ _ 1

/-! ### A group's last key (R127) -/

/-- What an accepted command of opcode `op` notes of its group: a CAST its key, a SET_GROUP that there is none. -/
def State.noteKey (s : State) (op g key : Nat) : State :=
  if op = 1 then s.setGroup g { s.group g with lastKey := some (BitVec.ofNat 32 key) }
  else if op = 5 then s.setGroup g { s.group g with lastKey := none }
  else s

theorem State.noteKey_cases (s : State) (op g key : Nat) (P : State → Prop) (h : ∀ x, P (s.setGroup g x)) (h' : P s) : P (s.noteKey op g key) := by
  unfold State.noteKey
  split
  · exact h _
  · split
    · exact h _
    · exact h'

theorem State.noteKey_moves (s : State) (op g key : Nat) : Moves s (s.noteKey op g key) [.al] [] :=
  s.noteKey_cases op g key (Moves s · [.al] []) (fun _ => (Moves.refl s _ _).al _ (List.mem_singleton_self _)) (Moves.refl s _ _)

theorem State.noteKey_of_ne (s : State) {op : Nat} (g key : Nat) (h1 : op ≠ 1) (h5 : op ≠ 5) : s.noteKey op g key = s := by
  rw [State.noteKey, if_neg h1, if_neg h5]

theorem State.group_setGroup_self (s : State) {g : Nat} (x : Group) (h : g < s.al.groups.length) : (s.setGroup g x).group g = x := by
  simp [State.group, State.setGroup, h]

theorem State.group_setGroup_ne (s : State) {g k : Nat} (x : Group) (h : k ≠ g) : (s.setGroup g x).group k = s.group k := by
  simp [State.group, State.setGroup, h.symm]

theorem State.noteKey_ent (s : State) (op g key e : Nat) : (s.noteKey op g key).ent e = s.ent e :=
  s.noteKey_cases op g key (fun t => t.ent e = s.ent e) (fun _ => rfl) rfl

theorem State.noteKey_group_cast (s : State) {op g : Nat} (h : op = 1) (key : Nat) (hg : g < s.al.groups.length) :
    (s.noteKey op g key).group g = { s.group g with lastKey := some (BitVec.ofNat 32 key) } := by
  rw [State.noteKey, if_pos h, State.group_setGroup_self s _ hg]

theorem State.noteKey_group_set (s : State) {op g : Nat} (h : op = 5) (key : Nat) (hg : g < s.al.groups.length) :
    (s.noteKey op g key).group g = { s.group g with lastKey := none } := by
  rw [State.noteKey, if_neg (by omega), if_pos h, State.group_setGroup_self s _ hg]

theorem State.noteKey_group_ne (s : State) (op key : Nat) {g k : Nat} (h : k ≠ g) : (s.noteKey op g key).group k = s.group k :=
  s.noteKey_cases op g key (fun t => t.group k = s.group k) (fun x => s.group_setGroup_ne x h) rfl

/-! ### Entering the timed queue (R198) -/

/-- The queue entry of a descriptor that a ring's command `fl` brings. -/
def State.timedCmd (s : State) (fl : Flight) (d : Nat) : TCmd :=
  ⟨fl, .ring, dfield d 8 8, s.tu, (s.group (dfield d 16 1 % 64)).lastKey, d, false⟩

/-- The state after an accepted timed descriptor took its number and noted its group's key. -/
def State.timedTaken (s : State) (n d : Nat) : State :=
  (s.newFlight n d).2.noteKey (dfield d 0 1) (dfield d 16 1 % 64) (dfield d 24 4)

theorem State.timedTaken_moves (s : State) (n d : Nat) : Moves s (s.timedTaken n d) [.hi, .al] [Reg.HI_CNT_ACCEPT] :=
  ((s.newFlight_moves n d).mono (by simp) (by simp)).trans ((State.noteKey_moves _ _ _ _).mono (by simp) (by simp))

theorem State.timedTaken_accepted (s : State) (n d : Nat) :
    (s.timedTaken n d).get Reg.HI_CNT_ACCEPT = (s.get Reg.HI_CNT_ACCEPT + 1) % 2 ^ 32 :=
  ((State.noteKey_moves _ _ _ _).regs _ (by simp)).trans (s.newFlight_accepted n d)

theorem State.timedTaken_ent (s : State) (n d e : Nat) : (s.timedTaken n d).ent e = s.ent e := State.noteKey_ent _ _ _ _ e

theorem State.timedTaken_hi (s : State) (n d : Nat) :
    (s.timedTaken n d).hi = { s.hi with nextSeq := s.hi.nextSeq + 1, flights := s.hi.flights ++ [(s.newFlight n d).1] } :=
  Eq.trans ((State.noteKey_moves _ _ _ _).parts .hi (by decide)) (s.newFlight_hi n d)

theorem State.timedTaken_sch (s : State) (n d : Nat) : (s.timedTaken n d).sch = s.sch := (s.timedTaken_moves n d).parts .sch (by decide)

theorem State.timedTaken_al (s : State) (n d : Nat) (h1 : dfield d 0 1 ≠ 1) (h5 : dfield d 0 1 ≠ 5) : (s.timedTaken n d).al = s.al := by
  rw [State.timedTaken, State.noteKey_of_ne _ _ _ h1 h5]
  rfl

theorem State.timedTaken_schState (s : State) (n d : Nat) : (s.timedTaken n d).schState = s.schState :=
  (s.timedTaken_moves n d).regs _ (by decide)

theorem State.timedTaken_ns (s : State) (n d : Nat) : (s.timedTaken n d).ns = s.ns :=
  congrArg (fun x : TimeBase => x.now / 2 ^ 32) ((s.timedTaken_moves n d).parts .tb (by decide))

/-- The state after an accepted timed descriptor took its place in the queue as well. -/
def State.timedEntered (s : State) (n d : Nat) : State :=
  (s.timedTaken n d).setSch (fun x => { x with queue := x.queue ++ [s.timedCmd (s.newFlight n d).1 d] })

theorem State.timedEntered_sch (s : State) (n d : Nat) :
    (s.timedEntered n d).sch = { s.sch with queue := s.sch.queue ++ [s.timedCmd (s.newFlight n d).1 d] } := by
  simp only [State.timedEntered, State.setSch, s.timedTaken_sch]

theorem State.timedEntered_queueLen (s : State) (n d : Nat) : (s.timedEntered n d).queueLen = s.queueLen + 1 := by
  simp [State.queueLen, s.timedEntered_sch]

/-- A timed descriptor of a ring enters the queue, or completes STOPPED while STOPPING (R212). -/
theorem State.accept_newFlight (s : State) (n d : Nat) : (s.newFlight n d).2.accept (s.newFlight n d).1 .ring d
    = if s.schState = 3 then (s.timedTaken n d).finish (s.timedCmd (s.newFlight n d).1 d) s.ns 0x0C 0 0 else (s.timedEntered n d).queueFull := by
  rw [← s.timedTaken_schState n d, ← s.timedTaken_ns n d]
  rfl

theorem State.acceptTimed_of_ne (s : State) (n d : Nat) (host : List (BitVec 8)) (h : dfield d 0 1 ≠ 0x10) :
    s.acceptTimed n d host = (s.newFlight n d).2.accept (s.newFlight n d).1 .ring d := if_neg h

theorem State.queueFull_of_lt (s : State) (h : s.queueLen < 4096) : s.queueFull = { s with sch := { s.sch with fullEp := false } } := if_pos h

theorem State.queueFull_of_full (s : State) (h : ¬s.queueLen < 4096) (hf : s.sch.fullEp = false) :
    s.queueFull = (({ s with sch := { s.sch with fullEp := true } } : State).set1 Reg.AL_SCH_FLAGS_QUEUE_FULL).event 0x3F 71 0 0 0 := by
  rw [State.queueFull, if_neg h, if_neg (by simp [hf])]

/-- The state after an accepted timed descriptor entered a queue that has room beyond it. -/
def State.timedQueued (s : State) (n d : Nat) : State :=
  { s.timedTaken n d with sch := { s.sch with queue := s.sch.queue ++ [s.timedCmd (s.newFlight n d).1 d], fullEp := false } }

theorem State.timedQueued_moves (s : State) (n d : Nat) : Moves s (s.timedQueued n d) [.hi, .sch, .al] [Reg.HI_CNT_ACCEPT] :=
  ((s.timedTaken_moves n d).mono (by simp) (by simp)).sch _ (by simp)

theorem State.accept_queued (s : State) (n d : Nat) (hs : s.schState ≠ 3) (hq : s.queueLen + 1 < 4096) :
    (s.newFlight n d).2.accept (s.newFlight n d).1 .ring d = s.timedQueued n d := by
  rw [State.accept_newFlight, if_neg hs, State.queueFull_of_lt _ (by rwa [State.timedEntered_queueLen]), State.timedEntered_sch]
  rfl

/-- The command just queued is found by its number, which no earlier one bears. -/
theorem State.find_timedQueued (s : State) (n d : Nat) (h : ∀ q ∈ s.sch.queue, q.fl.seq < s.hi.nextSeq) :
    (s.timedQueued n d).sch.queue.find? (fun c => c.fl.seq == (s.newFlight n d).1.seq) = some (s.timedCmd (s.newFlight n d).1 d) := by
  have earlier : s.sch.queue.find? (fun c => c.fl.seq == s.hi.nextSeq) = none :=
    List.find?_eq_none.2 (fun q hq e => Nat.ne_of_lt (h q hq) (eq_of_beq e))
  simp [State.timedQueued, State.timedCmd, State.newFlight, List.find?_append, earlier]

theorem State.imageAt_congr {s t : State} (hs : t.sram = s.sram) (hd : t.dram = s.dram) (src a n : Nat) (host : List (BitVec 8)) :
    t.imageAt src a n host = s.imageAt src a n host := by
  simp only [State.imageAt, State.exchRead, hs, hd]

/-- The loads that an accepted timed descriptor adds: a LOAD_MAQUETTE's, with its image copied (R292). -/
def State.timedLoads (s : State) (n d : Nat) (host : List (BitVec 8)) : List Load :=
  if dfield d 0 1 = 0x10 then [⟨s.timedCmd (s.newFlight n d).1 d, s.imageAt (dfield d 17 1) (dfield d 24 8) (dfield d 20 4) host, none⟩] else []

/-- A timed descriptor that is accepted with room to spare. -/
theorem State.acceptTimed_queued (s : State) (n d : Nat) (host : List (BitVec 8)) (hs : s.schState ≠ 3) (hq : s.queueLen + 1 < 4096)
    (h : ∀ q ∈ s.sch.queue, q.fl.seq < s.hi.nextSeq) :
    s.acceptTimed n d host = { s.timedQueued n d with loads := s.loads ++ s.timedLoads n d host } := by
  have hl : (s.timedQueued n d).loads = s.loads := (s.timedQueued_moves n d).parts .loads (by decide)
  by_cases h10 : dfield d 0 1 = 0x10
  · have e : s.acceptTimed n d host = match (s.timedQueued n d).sch.queue.find? (fun c => c.fl.seq == (s.newFlight n d).1.seq) with
        | some c => { s.timedQueued n d with loads := (s.timedQueued n d).loads
            ++ [⟨c, (s.timedQueued n d).imageAt (c.u 17 1) (c.u 24 8) (c.u 20 4) host, none⟩] }
        | none => s.timedQueued n d := by
      rw [← s.accept_queued n d hs hq]; exact if_pos h10
    have hi := State.imageAt_congr ((s.timedQueued_moves n d).parts .sram (by decide)) ((s.timedQueued_moves n d).parts .dram (by decide))
    rw [e, s.find_timedQueued n d h]
    simp only [hl, hi, State.timedLoads, if_pos h10]
    rfl
  · rw [s.acceptTimed_of_ne n d host h10, s.accept_queued n d hs hq, State.timedLoads, if_neg h10, List.append_nil, ← hl]

/-! ### Rejection (R319) -/

theorem rejectOf_status {ver d st : Nat} (h : rejectOf ver d = some st) : st = 2 ∨ st = 3 := by
  unfold rejectOf at h
  split at h
  · exact .inl (Option.some.inj h).symm
  · split at h
    · cases h
    · exact .inr (Option.some.inj h).symm

/-- What a rejected descriptor takes before it completes: a number, and its count (R344). -/
def State.rejectTaken (s : State) : State := (s.setHi (fun h => { h with nextSeq := h.nextSeq + 1 })).count Reg.HI_CNT_REJECT 1

theorem State.rejectTaken_moves (s : State) : Moves s s.rejectTaken [.hi] [Reg.HI_CNT_REJECT] :=
  ((Moves.refl s _ _).hi _ (List.mem_singleton_self _)).put _ _ (List.mem_singleton_self _)

/-- A rejected descriptor other than a STREAM_MAP completes with its status. -/
theorem State.reject_of_ne (s : State) (n d status detail : Nat) (h : dfield d 0 1 ≠ 0x30) : s.reject n d status detail
    = s.rejectTaken.complete ⟨s.hi.nextSeq, n, s.get (Reg.HI_RING_STAT_GEN n), dfield d 0 1, dfield d 2 2, bit d 8⟩ s.ns status detail 0 := by
  simp only [State.reject, h, false_and, if_false]
  rfl

/-! ### A fetched descriptor (R319, R320) -/

theorem State.descOf_accepts (s : State) (n d : Nat) (host : List (BitVec 8)) (hr : s.ringState n = 2) (hq : s.queueLen < 4096) :
    s.descOf n d host true = s.acceptDesc n d host := if_pos ⟨hr, hq, rfl⟩

theorem State.descOf_full (s : State) (n d : Nat) (host : List (BitVec 8)) (p : Bool) (hq : 4096 ≤ s.queueLen) : s.descOf n d host p = s :=
  if_neg (fun h => absurd h.2.1 (by omega))

theorem State.acceptDesc_reject (s : State) (n d st : Nat) (host : List (BitVec 8)) (h : rejectOf (s.get (Reg.HI_RING_STAT_VER n)) d = some st) :
    s.acceptDesc n d host = s.reject n d st (rejectDetail (s.get (Reg.HI_RING_STAT_VER n)) d) := by
  simp only [State.acceptDesc, h]

theorem State.leaveIdle_of_ne (s : State) (h : s.pwState ≠ 1) : s.leaveIdle = s := if_neg h

/-- A timed descriptor in order is queued, where nothing has to leave IDLE for it (R320, R514). -/
theorem State.acceptDesc_timed (s : State) (n d : Nat) (host : List (BitVec 8)) (h : rejectOf (s.get (Reg.HI_RING_STAT_VER n)) d = none)
    (hc : needsCluster d = false ∨ s.pwState ≠ 1) (ht : opTimed (dfield d 0 1) = true) : s.acceptDesc n d host = s.acceptTimed n d host := by
  have idle : (if needsCluster d then s.leaveIdle else s) = s := by
    rcases hc with hc | hc
    · rw [hc]; rfl
    · rw [State.leaveIdle_of_ne s hc, ite_self]
  simp only [State.acceptDesc, h, idle, ht, if_true]

/-! ### The timed instructions -/

/-- Each timed instruction with what tells its descriptor from the others'. -/
def timedRows (n : Fin 16) (d : BitVec 512) (host : List (BitVec 8)) : List (Instr × Bool) :=
  let op := dfield d.toNat 0 1
  let mode := dfield d.toNat 27 1 % 4
  [(.cast n d, op == 0x01), (.release n d, op == 0x02), (.choke n d, op == 0x03), (.setParam n d, op == 0x04),
    (.setGroup n d, op == 0x05), (.rampParam n d, op == 0x06), (.loadMaquette n d host, op == 0x10), (.unloadMaquette n d, op == 0x11),
    (.migrateSend n d, op == 0x20 && mode == 0), (.park n d, op == 0x20 && mode == 1), (.resume n d, op == 0x20 && mode == 2),
    (.spillEstablish n d, op == 0x21 && dfield d.toNat 16 1 == 0), (.spillDissolve n d, op == 0x21 && dfield d.toNat 16 1 == 1),
    (.streamMap n d, op == 0x30), (.outSet n d, op == 0x31)]

/-- A timed instruction accepts the descriptor that is its own; the data of host memory matter to a load alone. -/
def TimedArm (n : Fin 16) (d : BitVec 512) (host : List (BitVec 8)) (s : State) (r : Instr × Bool) : Prop :=
  ∃ h, exec r.1 s = .next (s.descOf n d.toNat h r.2)
    ∧ (r.2 = true → opTimed (dfield d.toNat 0 1) = true ∧ (dfield d.toNat 0 1 = 0x10 → h = host))

theorem TimedArm.of_op {n : Fin 16} {d : BitVec 512} (host : List (BitVec 8)) {s : State} {i : Instr} {b : Bool} (k : Nat)
    (he : exec i s = .next (s.descOf n d.toNat [] b)) (hb : b = true → dfield d.toNat 0 1 = k) (ht : opTimed k = true) (hk : k ≠ 0x10) :
    TimedArm n d host s (i, b) :=
  ⟨[], he, fun h => ⟨hb h ▸ ht, fun e => absurd ((hb h).symm.trans e) hk⟩⟩

theorem timedArm_of_mem (n : Fin 16) (d : BitVec 512) (host : List (BitVec 8)) (s : State) : ∀ r ∈ timedRows n d host, TimedArm n d host s r := by
  have one {k : Nat} (h : (dfield d.toNat 0 1 == k) = true) : dfield d.toNat 0 1 = k := eq_of_beq h
  have two {k : Nat} {b : Bool} (h : (dfield d.toNat 0 1 == k && b) = true) : dfield d.toNat 0 1 = k := one (Bool.and_eq_true_iff.1 h).1
  simp only [timedRows, List.forall_mem_cons, List.not_mem_nil, false_imp_iff, implies_true, and_true]
  exact ⟨.of_op host 0x01 rfl one rfl (by decide), .of_op host 0x02 rfl one rfl (by decide), .of_op host 0x03 rfl one rfl (by decide),
    .of_op host 0x04 rfl one rfl (by decide), .of_op host 0x05 rfl one rfl (by decide), .of_op host 0x06 rfl one rfl (by decide),
    ⟨host, rfl, fun h => ⟨one h ▸ rfl, fun _ => rfl⟩⟩, .of_op host 0x11 rfl one rfl (by decide),
    .of_op host 0x20 rfl two rfl (by decide), .of_op host 0x20 rfl two rfl (by decide), .of_op host 0x20 rfl two rfl (by decide),
    .of_op host 0x21 rfl two rfl (by decide), .of_op host 0x21 rfl two rfl (by decide), .of_op host 0x30 rfl one rfl (by decide),
    .of_op host 0x31 rfl one rfl (by decide)⟩

/-- Settles O32: each timed instruction accepts its own descriptor, which is queued, stopped, or rejected. -/
theorem timedAcceptance : Obligations.TimedAcceptance := by
  intro n d host s hinv hring x op mode rows g fl c i hi
  obtain ⟨h, hexec, hown⟩ := timedArm_of_mem n d host s _ hi
  obtain ⟨htimed, hhost⟩ := hown rfl
  have hg : g < (s.newFlight n x).2.al.groups.length := by
    have : s.al.groups.length = 64 := hinv.2.groups
    exact Nat.lt_of_lt_of_eq (Nat.mod_lt _ (by decide)) this.symm
  have accepts (hq : s.queueLen < 4096) (hr : rejectOf (s.get (Reg.HI_RING_STAT_VER n)) x = none)
      (hc : needsCluster x = false ∨ s.pwState ≠ 1) : exec i s = .next (s.acceptTimed n x h) := by
    rw [hexec, s.descOf_accepts n x h hring hq, s.acceptDesc_timed n x h hr hc htimed]
  refine ⟨fun hr hc hs hq hseq => ?_, fun hr h10 hc hs hq => ?_, fun hr h10 hc hs hq hf => ?_, fun hq => ?_, fun st h30 hq hr => ?_⟩
  · rw [accepts (by omega) hr hc, s.acceptTimed_queued n x h hs hq hseq]
    refine ⟨_, rfl, rfl, rfl, s.timedTaken_hi n x, s.timedTaken_accepted n x, fun h10 => ?_, fun h10 => ?_, fun h1 => ?_, fun h5 => ?_,
      fun h1 h5 => ?_, fun k hk => State.noteKey_group_ne _ _ _ hk, s.timedTaken_ent n x, ?_⟩
    · rw [hhost h10]; exact congrArg (s.loads ++ ·) (if_pos h10)
    · exact (congrArg (s.loads ++ ·) (if_neg h10)).trans (List.append_nil _)
    · exact State.noteKey_group_cast _ h1 _ hg
    · exact State.noteKey_group_set _ h5 _ hg
    · exact s.timedTaken_al n x h1 h5
    · exact ((s.timedQueued_moves n x).mono (by simp) (by simp)).loads _ (by simp)
  · rw [accepts hq hr hc, s.acceptTimed_of_ne n x h h10, s.accept_newFlight, if_pos hs]
    exact ⟨_, rfl, s.timedTaken_sch n x, s.timedTaken_ent n x, s.timedTaken_accepted n x, s.timedTaken_moves n x⟩
  · rw [accepts (by omega) hr hc, s.acceptTimed_of_ne n x h h10, s.accept_newFlight, if_neg hs,
      State.queueFull_of_full _ (by rw [s.timedEntered_queueLen]; omega) (by rw [s.timedEntered_sch]; exact hf)]
    refine ⟨_, rfl, State.get_set1_self _ _ rfl, ?_⟩
    simp only [State.set1_sch, s.timedEntered_sch]
    rfl
  · rw [hexec, s.descOf_full n x h true hq]
  · rw [hexec, s.descOf_accepts n x h hring hq, s.acceptDesc_reject n x st h hr, s.reject_of_ne n x st _ h30]
    exact ⟨_, rfl, rejectOf_status hr, State.get_count_self _ _ 1, rfl, s.rejectTaken_moves⟩

end Sys2Proof.Machine
end
